-- ==== Sys2Proof/Word.lean ====
section
/-!
DEFINITION. The native word of the H3280 and the byte of a Cleanir image (R6, R7, R123).
-/
namespace Sys2Proof

/-- The native word: 24 bits, bit 0 the least significant (R6, R7). -/
abbrev Word := BitVec 24

/-- One byte of an image, a package or a bus transfer (R123). -/
abbrev Byte := BitVec 8

/-- The ring time: 48 bits in units of 2 ns (glossary of 00, R250). -/
abbrev RingTime := BitVec 48

end Sys2Proof
end

