-- ==== Sys2Proof/Syntax.lean ====
section
/-!
DEFINITION. The commands of the block: one constructor for each row of the table of operations and events.
-/
namespace Sys2Proof

/-- An accessor of the native space (R630): a host port, the ring session of one node, the Sluice engine or the MSS. -/
inductive Port where
  | lpb | spi | modbus
  | ring (node : Nat)
  | sluice | mss
deriving DecidableEq, Repr

/-- A cause of a hub reset (R104). -/
inductive ResetCause where
  | powerOn | supply | clock | pin | watchdog | mssMonitor | command | firmware
deriving DecidableEq, Repr

/-- The kinds of a mail (R236). -/
inductive MailKind where
  | read | write | mailbox | bulkOpen | bulkAck | bulkDone | imageReq
deriving DecidableEq, Repr

/-- A mail: its frame's DEST and SRC, its header and its data bytes (R231, R236). -/
structure Mail where
  dest : Nat
  src : Nat
  kind : MailKind
  answer : Bool
  autoinc : Bool
  tag : Nat
  addr : Nat
  count : Nat
  status : Nat
  detail : Nat
  hint : Nat
  role : Nat
  data : List Byte
deriving DecidableEq, Repr

/-- The payload of a CYC frame (R233) as it arrives. -/
structure Cyc where
  cycleNo : Nat
  tTx : RingTime
  accDelay : Nat
  markOff : Nat
  cycleUs : Nat
  changed : Bool
  unwrap : Bool
  census : Bool
  stretched : Bool
deriving DecidableEq, Repr

/-- A slot of a PD frame: node ID, the four status bytes and the data words (R234). -/
structure PdSlot where
  node : Nat
  st0 : Nat
  st1 : Nat
  st2 : Nat
  st3 : Nat
  words : List Word
deriving DecidableEq, Repr

/-- A census entry (R238): a node fills in UNIQUE_ID, REQ_ID, SLOT_SIZE and STATUS in pass A, and pass B brings it back with its
assignment (R240). -/
structure EnumEntry where
  uid : Nat
  reqId : Nat
  nodeId : Nat
  slotSize : Nat
  slotOff : Nat
  status : Nat
deriving DecidableEq, Repr

/-- An event cell: node ID and the four words of the record (R235, R289). -/
structure EvtCell where
  node : Nat
  w0 : Word
  w1 : Word
  w2 : Word
  w3 : Word
deriving DecidableEq, Repr

/-- The payload of a BULK frame (R236). -/
structure Bulk where
  session : Nat
  last : Bool
  ofs : Nat
  ws : List Word
deriving DecidableEq, Repr

/-- The header of a ring frame beside its TYPE and LENGTH, which its payload gives (R231). -/
structure RHdr where
  relayed : Bool
  dest : Nat
  src : Nat
  seq : Nat
  aux : Nat
deriving DecidableEq, Repr

/-- The payload of a ring frame by its TYPE (R232–R238, R252); `raw` is a whole frame kept as bytes. -/
inductive RPay where
  | cyc (c : Cyc)
  /-- CYCLE_LO and the bytes of the slots -/
  | pd (lo : Nat) (slots : List Byte)
  /-- NEXT and the K cells -/
  | evt (next : Nat) (cells : List EvtCell)
  | empty
  | mail (m : Mail)
  | bulk (b : Bulk)
  | sync (mark : RingTime) (edge groups seq : Nat)
  /-- FIRST_POS, NEXT and the entries written so far -/
  | enum (firstPos next : Nat) (es : List EnumEntry)
  | dly (answer : Bool) (exch turn : Nat)
  | raw (bs : List Byte)
deriving DecidableEq, Repr

/-- A ring frame (R231). -/
structure RFrame where
  hdr : RHdr
  pay : RPay
deriving DecidableEq, Repr

/-- How a frame arrives: at the west port or the east port, and not fitting into that port's receive queue (R82, R226). -/
structure Rx where
  west : Bool
  ovf : Bool
deriving DecidableEq, Repr

/-- A word as it arrives on SDI, with the CRC-8 that follows it where CRC is set (R203, R206). -/
structure SpiRx where
  w : Word
  crc : Byte
deriving DecidableEq, Repr

/-- How a Modbus request arrives: as a broadcast, and the item at which it meets an uncorrectable Eddy word, if any (R212,
R213). -/
structure ModRx where
  bcast : Bool
  ue : Option Nat
deriving DecidableEq, Repr

/-- The header of a ring frame as it arrives. -/
structure RingRx where
  hdr : RHdr
  x : Rx
deriving DecidableEq, Repr

/-- The payload of a PD frame: CYCLE_LO and the bytes of the slots (R234). -/
structure PdRaw where
  lo : Nat
  slots : List Byte
deriving DecidableEq, Repr

/-- An EVT frame as it arrives: header, NEXT and the K cells (R235). -/
structure EvtRx where
  hdr : RHdr
  next : Nat
  cells : List EvtCell
  x : Rx
deriving DecidableEq, Repr

/-- The edge at which a SYNC executes: its mark, and the number of edges after it (R237, R258). -/
structure SyncAt where
  mark : RingTime
  edge : Nat
deriving DecidableEq, Repr

/-- A frame whose CRC fails, or that ends in EBAD already (R230). -/
structure BadFrame where
  ebad : Bool
  bs : List Byte
deriving DecidableEq, Repr

/-- How a request arrives, and whether it finds the received queue full (R266). -/
structure MailRx where
  x : Rx
  qfull : Bool
deriving DecidableEq, Repr

/-- SRC_ADDR, DST_ADDR and LEN of a BULK_OPEN (R269). -/
structure BulkSpan where
  src : Nat
  dst : Nat
  len : Nat
deriving DecidableEq, Repr

/-- SESSION and the next offset of a BULK_ACK (R269). -/
structure BulkNext where
  session : Nat
  next : Nat
deriving DecidableEq, Repr

/-- The CRC-32 and the words of a BULK_DONE (R269). -/
structure BulkSum where
  crc : Nat
  words : Nat
deriving DecidableEq, Repr

/-- The tag of an IMAGE_REQ, and how it arrives (R270). -/
structure ImageAsk where
  tag : Nat
  x : Rx
  qfull : Bool
deriving DecidableEq, Repr

/-- An answer as it arrives (R265). -/
structure MailIn where
  m : Mail
  x : Rx
deriving DecidableEq, Repr

/-- How a frame ends at its receiver: in EOF, in EOF with a CRC that fails there, or in EBAD (R230). -/
inductive REnd where
  | eof | crcBad | ebad
deriving DecidableEq, Repr

/-- The filtered states of an island's pulse inputs from one sampling instant on (R345, R348): the instant in periods of
98.304 MHz from the start of the slot, and one bit for each cell's FA and FB. -/
structure Pulse where
  at0 : Nat
  fa : Nat
  fb : Nat
deriving DecidableEq, Repr

/-- What the front end of one cell measured in a slot: the modulator bits of an analogue input in order (R408); bits 0 and 1
of its DIGITAL field (R354, R382), which for an output are FA above 5 V, or at compliance or the current limit, and FB above
VFLDi − 5 V, and for an input in bit 1 the raw state at the end of the slot, or the end of the span; and the load current in
units of 4 mA. -/
structure CellMeas where
  mods : List Bool
  m0 : Bool
  m1 : Bool
  cur : Nat
deriving DecidableEq, Repr

/-- What the island's hardware measured for an uplink frame (R326): cells 0–3, the changes of the pulse inputs in order, and
the value of the rotation item of DIAG, or in a scan the observation of R646. -/
structure UpMeas where
  cells : List CellMeas
  pulses : List Pulse
  item : Word
deriving DecidableEq, Repr

/-- The commands, one constructor for each row of the table, in its order. An operand is what the row's own event brings with
it: what a sender puts on the lands, or what the part measures or meets; the meaning of each says which. -/
inductive Instr where
  /-- POWER_LOSS (R34) -/
  | powerLoss (all : Bool)
  /-- MAIN_RAILS_VALID (R67) -/
  | mainRailsValid
  /-- HUB_RESET_RELEASE (R106) -/
  | hubResetRelease (a b c : Nat)
  /-- RSTN_ASSERT (R104) -/
  | rstnAssert (also : List ResetCause)
  /-- RAIL_BELOW_RESET (R70) -/
  | railBelowReset (all : Bool) (also : List ResetCause)
  /-- RAIL_WARN_ENTER (R69) -/
  | railWarnEnter (rail : Fin 5)
  /-- RAIL_WARN_CLEAR (R69) -/
  | railWarnClear (rail : Fin 5)
  /-- RAIL_SAFE_HIGH (R69) -/
  | railSafeHigh (rail : Fin 5)
  /-- PFW_RAISE (R72) -/
  | pfwRaise
  /-- PFW_CLEAR (R72) -/
  | pfwClear
  /-- TEMP_WARN_RAISE (R71) -/
  | tempWarnRaise
  /-- TEMP_WARN_CLEAR (R71) -/
  | tempWarnClear
  /-- TEMP_SAFE_LIMIT (R71) -/
  | tempSafeLimit
  /-- VFLD_LEVEL_CHANGE (R73) -/
  | vfldLevelChange (i : Fin 8) (low high : Bool)
  /-- TRANSFER_START (R74) -/
  | transferStart
  /-- TRANSFER_LIMIT_SHUTDOWN (R74) -/
  | transferLimitShutdown (i : Fin 8)
  /-- TRANSFER_RETRY (R74) -/
  | transferRetry (i : Fin 8)
  /-- REFERENCE_CLOCK_FAIL (R80) -/
  | referenceClockFail (reference : Bool) (also : List ResetCause)
  /-- PLLB_UNLOCK (R80) -/
  | pllbUnlock
  /-- EMBER_OSC_STOP (R80) -/
  | emberOscStop
  /-- MSS_MONITOR (R104) -/
  | mssMonitor (also : List ResetCause)
  /-- MSS_SRAM_UNCORRECTABLE (R566) -/
  | mssSramUncorrectable
  /-- RING_FORWARD_START (R106) -/
  | ringForwardStart
  /-- FIRMWARE_VERIFIED (R595) -/
  | firmwareVerified (vbat : Nat)
  /-- BOOT_IMAGE_VERIFIED (R108) -/
  | bootImageVerified
  /-- RING_IMAGE_TIMEOUT (R108) -/
  | ringImageTimeout
  /-- MODBUS_SETTINGS_APPLY (R209) -/
  | modbusSettingsApply
  /-- PITCH (R135) -/
  | pitch (p : Port) (outside : Bool)
  /-- PITCH_VERIFIED (R135) -/
  | pitchVerified (outside : Bool)
  /-- PITCH_LOADED (R135) -/
  | pitchLoaded (crcBad : Bool)
  /-- PITCH_STRUCTURED (R135) -/
  | pitchStructured
  /-- PITCH_SAFETY_CHECK (R135) -/
  | pitchSafetyCheck (fault : Nat)
  /-- PITCH_COMMIT (R136) -/
  | pitchCommit (ue : Option Nat)
  /-- REPITCH (R137) -/
  | repitch (p : Port)
  /-- REPITCH_CHECKED (R138) -/
  | repitchChecked
  /-- REPITCH_LOADED (R140) -/
  | repitchLoaded (ue : Option Nat)
  /-- REPITCH_STRUCTURED (R139) -/
  | repitchStructured
  /-- REPITCH_COMMIT (R138) -/
  | repitchCommit
  /-- DOZE (R86) -/
  | doze (p : Port) (asserted : Nat)
  /-- DOZE_WAKE (R88) -/
  | dozeWake (sources : Nat)
  /-- DEEP (R89) -/
  | deep (p : Port) (asserted : Nat)
  /-- DEEP_PREPARED (R92) -/
  | deepPrepared
  /-- DEEP_COMMIT (R40) -/
  | deepCommit (asserted : Nat)
  /-- DEEP_RETAIN (R92) -/
  | deepRetain
  /-- DEEP_WAKE (R93) -/
  | deepWake (sources : Nat)
  /-- WAKE_CORE_RUNNING (R93) -/
  | wakeCoreRunning
  /-- WAKE_SCRUB_DONE (R35) -/
  | wakeScrubDone (ue : Option Nat)
  /-- WAKE_COMPLETE (R93) -/
  | wakeComplete
  /-- MAINTENANCE (R34) -/
  | maintenance (p : Port)
  /-- LPB_CYCLE_START (R157) -/
  | lpbCycleStart (la : Nat) (bhen read both : Bool)
  /-- LPB_CYCLE_ACK (R174) -/
  | lpbCycleAck (wdata : Nat) (ue : Bool)
  /-- LPB_CYCLE_END (R158) -/
  | lpbCycleEnd
  /-- LPB_POSTED_COMMIT (R175) -/
  | lpbPostedCommit
  /-- PERS_ACCUMULATE (R170) -/
  | persAccumulate
  /-- IRQ_PULSE_END (R177) -/
  | irqPulseEnd (j : Fin 4)
  /-- INTERRUPT_ACKNOWLEDGE (R178) -/
  | interruptAcknowledge (j : Fin 4) (abandoned : Bool)
  /-- TENURE_REQUEST (R180) -/
  | tenureRequest
  /-- BUS_GRANT (R180) -/
  | busGrant
  /-- TENURE_START (R180) -/
  | tenureStart
  /-- MASTER_CYCLE_DONE (R180) -/
  | masterCycleDone (data : Word) (ue : Bool)
  /-- TENURE_END (R180) -/
  | tenureEnd
  /-- GRANT_TIMEOUT (R181) -/
  | grantTimeout
  /-- MASTER_ERROR_TIMEOUT (R181) -/
  | masterErrorTimeout
  /-- FOREIGN_BUS_BUSY (R181) -/
  | foreignBusBusy
  /-- SPI_FRAME_START (R202) -/
  | spiFrameStart (mode3 : Bool)
  /-- SPI_COMMAND_WORD (R203) -/
  | spiCommandWord (cmd : Word) (crc0 : Byte) (cnt : Word) (crc1 : Byte)
  /-- SPI_READ_FETCH (R204) -/
  | spiReadFetch (r : SpiRx) (ue : Bool)
  /-- SPI_WRITE_WORD (R204) -/
  | spiWriteWord (w : Word) (crc : Byte) (full : Bool)
  /-- SPI_FRAME_END (R205) -/
  | spiFrameEnd (bits : Nat) (part : Word) (crc : Byte)
  /-- MODBUS_FRAME_ERROR (R210) -/
  | modbusFrameError
  /-- READ_COILS (R213) -/
  | readCoils (bcast : Bool) (a q : Nat) (ue : Option Nat)
  /-- READ_DISCRETE_INPUTS (R213) -/
  | readDiscreteInputs (bcast : Bool) (a q : Nat) (ue : Option Nat)
  /-- READ_HOLDING_REGISTERS (R213) -/
  | readHoldingRegisters (bcast : Bool) (a q : Nat) (ue : Option Nat)
  /-- READ_INPUT_REGISTERS (R213) -/
  | readInputRegisters (bcast : Bool) (a q : Nat) (ue : Option Nat)
  /-- WRITE_SINGLE_COIL (R213) -/
  | writeSingleCoil (r : ModRx) (a v : Nat)
  /-- WRITE_SINGLE_REGISTER (R213) -/
  | writeSingleRegister (r : ModRx) (a v : Nat)
  /-- WRITE_MULTIPLE_COILS (R213) -/
  | writeMultipleCoils (r : ModRx) (a q count : Nat) (d : List Byte)
  /-- WRITE_MULTIPLE_REGISTERS (R213) -/
  | writeMultipleRegisters (r : ModRx) (a q count : Nat) (d : List Byte)
  /-- READ_WRITE_MULTIPLE_REGISTERS (R213) -/
  | readWriteMultipleRegisters (bcast : Bool) (a q wa wq count : Nat) (d : List Byte) (ue : Option Nat)
  /-- UNSUPPORTED_FUNCTION (R211) -/
  | unsupportedFunction (bcast : Bool) (fn : Nat)
  /-- MODBUS_REPLY (R210) -/
  | modbusReply
  /-- ROLE_CLAIM (R199) -/
  | roleClaim (p : Port)
  /-- ROLE_RELEASE (R199) -/
  | roleRelease (p : Port)
  /-- RING_LINK_UP (R228) -/
  | ringLinkUp (w miswired : Bool)
  /-- RING_LINK_DOWN (R260) -/
  | ringLinkDown (w signal : Bool)
  /-- RING_CYCLE_START (R243) -/
  | ringCycleStart
  /-- RING_CYC (R253) -/
  | ringCyc (h : RHdr) (c : Cyc) (x : Rx) (resid : Nat) (foreign : Bool) (phaseErr : Int)
  /-- RING_PD (R246) -/
  | ringPd (f : RingRx) (pd : PdRaw) (fin : REnd)
  /-- RING_EVT (R249) -/
  | ringEvt (f : EvtRx)
  /-- RING_EMPTY (R243) -/
  | ringEmpty (f : RingRx)
  /-- RING_SYNC_FRAME (R258) -/
  | ringSyncFrame (f : RingRx) (m : SyncAt) (groups seq : Nat)
  /-- RING_ENUM (R240) -/
  | ringEnum (f : RingRx) (firstPos next : Nat) (es : List EnumEntry) (foreign : Bool)
  /-- RING_DLY (R252) -/
  | ringDly (w answer : Bool) (exch turn roundTrip : Nat)
  /-- RING_BAD_FRAME (R230) -/
  | ringBadFrame (w : Bool) (f : BadFrame)
  /-- RING_PD_RETURN (R247) -/
  | ringPdReturn (slots : List Byte) (fin : REnd)
  /-- RING_EVT_RETURN (R249) -/
  | ringEvtReturn (cells : List EvtCell)
  /-- RING_ENUM_RETURN (R240) -/
  | ringEnumReturn (next : Nat) (es : List EnumEntry)
  /-- RING_CARRIER_RETURN (R267) -/
  | ringCarrierReturn (h : RHdr) (p : RPay)
  /-- RING_DELAY_MEASURE (R251) -/
  | ringDelayMeasure (w : Bool)
  /-- RING_DLY_TIMEOUT (R252) -/
  | ringDlyTimeout (w : Bool)
  /-- RING_HOLDOVER_LAPSE (R254) -/
  | ringHoldoverLapse
  /-- PD_FRAME_LOSS (R248) -/
  | pdFrameLoss
  /-- RING_HOP_STABLE (R262) -/
  | ringHopStable (w : Bool)
  /-- SYNCN_FALL (R256) -/
  | syncnFall (err : Fin 7)
  /-- SYNC_EDGE (R258) -/
  | syncEdge
  /-- MAIL_READ (R264) -/
  | mailRead (node tag addr count : Nat) (autoinc : Bool) (r : MailRx) (ecc : Option Nat)
  /-- MAIL_WRITE (R264) -/
  | mailWrite (node tag addr : Nat) (ws : List Word) (autoinc : Bool) (r : MailRx)
  /-- MAIL_MAILBOX (R584) -/
  | mailMailbox (node tag : Nat) (ws : List Word) (r : MailRx)
  /-- BULK_OPEN (R269) -/
  | bulkOpen (node tag session dir rsv2 : Nat) (z : BulkSpan) (rsvD : Nat) (r : MailRx)
  /-- BULK_ACK (R268) -/
  | bulkAck (node : Nat) (a : BulkNext) (x : Rx)
  /-- BULK_DONE (R269) -/
  | bulkDone (node tag session : Nat) (z : BulkSum) (r : MailRx)
  /-- IMAGE_REQ (R270) -/
  | imageReq (node : Nat) (q : ImageAsk)
  /-- RING_BULK (R268) -/
  | ringBulk (node : Nat) (b : Bulk) (west ovf : Bool)
  /-- MAIL_ANSWER (R265) -/
  | mailAnswer (r : MailIn)
  /-- RING_MAIL_TIMEOUT (R267) -/
  | ringMailTimeout (tag : Nat) (kind : MailKind)
  /-- BULK_STALL_TIMEOUT (R268) -/
  | bulkStallTimeout (tx : Bool)
  /-- RECORD_RELEASE (R291) -/
  | recordRelease (l : Fin 8)
  /-- WEIR_CHECK (R297) -/
  | weirCheck
  /-- SLC_FLUSH_TIMEOUT (R301) -/
  | slcFlushTimeout (k : Fin 8)
  /-- GUYLINE_SLOT (R324) -/
  | guylineSlot (i : Fin 8) (n : Nat)
  /-- ISLAND_DOWNLINK (R329) -/
  | islandDownlink (i : Fin 8) (err errA errB : List Byte)
  /-- HUB_UPLINK (R330) -/
  | hubUplink (i : Fin 8) (m : UpMeas) (err : List Byte) (full : Bool)
  /-- ISLAND_LOST (R330) -/
  | islandLost (i : Fin 8) (osc : Bool)
  /-- ISLAND_LINK_TIMEOUT (R330) -/
  | islandLinkTimeout (i : Fin 8)
  /-- GL_DEGRADED_CLEAR (R330) -/
  | glDegradedClear (i : Fin 8)
  /-- STRUCTURE_COMMIT (R331) -/
  | structureCommit (i : Fin 8) (raw : List Nat)
  /-- STRUCTURE_RETRY (R331) -/
  | structureRetry (i : Fin 8)
  /-- STRUCTURE_DISCARD (R105) -/
  | structureDiscard (i : Fin 8)
  /-- ISLAND_SUBFRAME_LOSS (R329) -/
  | islandSubframeLoss (i : Fin 8) (isB : Bool)
  /-- KERNEL_SUBFRAME_IN (R516) -/
  | kernelSubframeIn (isB : Bool) (i : Fin 8) (errLife errData errCrc : Nat)
  /-- KERNEL_SUBFRAME_LOSS (R523) -/
  | kernelSubframeLoss (isB : Bool) (i : Fin 8)
  /-- LOOP_STABLE (R333) -/
  | loopStable (i : Fin 8)
  /-- RUNG_CLIMB (R334) -/
  | rungClimb (i : Fin 8)
  /-- RUNG_DESCENT (R334) -/
  | rungDescent (i : Fin 8) (rung : Nat) (reservoir : Bool)
  /-- RUNG_TAKE_EFFECT (R335) -/
  | rungTakeEffect (i : Fin 8)
  /-- BROWN_OUT_STOP (R337) -/
  | brownOutStop (i : Fin 8)
  /-- ISLAND_RESTART (R337) -/
  | islandRestart (i : Fin 8)
  /-- INPUT_FILTER_CHANGE (R345) -/
  | inputFilterChange (c : Fin 32) (st : Nat)
  /-- CHATTER_BIN (R346) -/
  | chatterBin (c : Fin 32)
  /-- DIAG_SET (R355) -/
  | diagSet (c : Fin 32) (d : Nat) (again : Bool)
  /-- DIAG_CLEAR (R355) -/
  | diagClear (c : Fin 32) (d : Nat)
  /-- INRUSH_END (R355) -/
  | inrushEnd (c : Fin 32)
  /-- FAULT_AUTO_RETRY (R357) -/
  | faultAutoRetry (c : Fin 32)
  /-- ISLAND_OVERCURRENT (R358) -/
  | islandOvercurrent (i : Fin 8) (again : Bool)
  /-- SUPPLY_LIMIT_OFF (R351) -/
  | supplyLimitOff (c : Fin 32)
  /-- SUPPLY_RETRY (R351) -/
  | supplyRetry (c : Fin 32) (held : Bool)
  /-- TEST_PULSE_START (R362) -/
  | testPulseStart (c : Fin 32)
  /-- TEST_PULSE_END (R361) -/
  | testPulseEnd (c : Fin 32) (pass again : Bool)
  /-- SUPPLY_TEST_PULSE (R364) -/
  | supplyTestPulse (c : Fin 32) (raw : Bool)
  /-- SUPPLY_TEST_PULSE_END (R364) -/
  | supplyTestPulseEnd (c : Fin 32) (fell : Bool)
  /-- INPUT_SWITCH_OPEN (R377) -/
  | inputSwitchOpen (c : Fin 32)
  /-- INPUT_SWITCH_RETRY (R377) -/
  | inputSwitchRetry (c : Fin 32)
  /-- FINE_OUTPUT (R414) -/
  | fineOutput (c : Fin 32)
  /-- RIFFLE_VALUE (R417) -/
  | riffleValue (c : Fin 32)
  /-- FILTER_RESET (R421) -/
  | filterReset (c : Fin 32)
  /-- CAPTURE_TRIGGER (R432) -/
  | captureTrigger (q : Fin 16) (src : Nat)
  /-- CAPTURE_BLOCK_COMPLETE (R431) -/
  | captureBlockComplete (q : Fin 16)
  /-- HOME_DEBOUNCE (R475) -/
  | homeDebounce (a : Fin 8) (asserted : Bool)
  /-- HOMING_TIMEOUT (R474) -/
  | homingTimeout (a : Fin 8)
  /-- LIMIT_RELEASE (R470) -/
  | limitRelease (a : Fin 8) (pos : Bool)
  /-- STANDSTILL_TIMEOUT (R465) -/
  | standstillTimeout (a : Fin 8)
  /-- SSI_READ (R456) -/
  | ssiRead (a : Fin 8) (idle : Bool) (word : Nat) (after back : Bool)
  /-- AXIS_SNAPSHOT (R480) -/
  | axisSnapshot
  /-- NRG_ESCALATE (R499) -/
  | nrgEscalate (c : Fin 32)
  /-- KERNEL_CYCLE (R509) -/
  | kernelCycle (isB safen : Bool) (fault : Nat)
  /-- INPUT_CONFIRM (R517) -/
  | inputConfirm (isB : Bool) (f : Fin 16) (j : Fin 4)
  /-- DISCREPANCY_TIMEOUT (R518) -/
  | discrepancyTimeout (isB : Bool) (f : Fin 16)
  /-- TWO_HAND_SYNC_TIMEOUT (R519) -/
  | twoHandSyncTimeout (isB : Bool) (f : Fin 16)
  /-- SS1_DELAY_END (R521) -/
  | ss1DelayEnd (isB : Bool) (p : Fin 8)
  /-- PAIR_TEST_REQUEST (R522) -/
  | pairTestRequest (isB : Bool) (p : Fin 8)
  /-- SAFEN_REASSERT (R524) -/
  | safenReassert (isB : Bool)
  /-- WDG_WINDOW_OPEN (R553) -/
  | wdgWindowOpen
  /-- WDG_WINDOW_CLOSE (R553) -/
  | wdgWindowClose
  /-- WDG_CLOCK_TRIP (R557) -/
  | wdgClockTrip (wosc : Bool)
  /-- CFG_SCRUB_WORD (R570) -/
  | cfgScrubWord (addr ecc : Nat)
  /-- CFG_REPAIR_DONE (R571) -/
  | cfgRepairDone (ue : Option Nat)
  /-- SENSOR_UPDATE (R572) -/
  | sensorUpdate (n : Fin 24) (mean low high : Nat)
  /-- LOG_FLUSH (R576) -/
  | logFlush
  /-- POLL (R582) -/
  | poll (p : Port)
  /-- INFO (R582) -/
  | info (p : Port)
  /-- RESET (R582) -/
  | reset (p : Port)
  /-- COMMAND_RESET (R104) -/
  | commandReset (also : List ResetCause)
  /-- IMAGE_STORE (R134) -/
  | imageStore (p : Port)
  /-- IMAGE_STORE_DONE (R134) -/
  | imageStoreDone (fail : Option Nat)
  /-- IMAGE_SELECT (R134) -/
  | imageSelect (p : Port)
  /-- SAFETY_ACCEPT (R144) -/
  | safetyAccept (p : Port)
  /-- RESTART_ACK (R520) -/
  | restartAck (p : Port)
  /-- KEY_ENROL_FIRST (R130) -/
  | keyEnrolFirst (p : Port)
  /-- KEY_ENROL_REPLACE (R130) -/
  | keyEnrolReplace (p : Port)
  /-- KEY_ENROL_REMOVE (R130) -/
  | keyEnrolRemove (p : Port)
  /-- FW_STORE (R596) -/
  | fwStore (p : Port)
  /-- FW_VERIFY_DONE (R596) -/
  | fwVerifyDone
  /-- FW_PROGRAM_DONE (R596) -/
  | fwProgramDone (fail : Option Nat)
  /-- BANK_STORE_DONE (R594) -/
  | bankStoreDone (fail : Option Nat)
  /-- BANK_ERASE_DONE (R594) -/
  | bankEraseDone
  /-- FW_CONFIRM (R601) -/
  | fwConfirm (p : Port)
  /-- FW_CONFIRM_TIMER (R601) -/
  | fwConfirmTimer
  /-- SETTING_READ (R583) -/
  | settingRead (p : Port)
  /-- SETTING_WRITE (R583) -/
  | settingWrite (p : Port)
  /-- SETTINGS_PUSH (R600) -/
  | settingsPush (p : Port)
  /-- CAL_POINT (R395) -/
  | calPoint (p : Port)
  /-- CAL_POINT_DONE (R395) -/
  | calPointDone (p : Port) (c : Fin 32)
  /-- CAL_POINT_TIMEOUT (R404) -/
  | calPointTimeout (p : Port)
  /-- CAL_COMMIT (R395) -/
  | calCommit (p : Port)
  /-- CAL_CLEAR (R395) -/
  | calClear (p : Port)
  /-- LOG_READ (R582) -/
  | logRead (p : Port)
  /-- LOG_WRITE (R582) -/
  | logWrite (p : Port)
  /-- SENSOR_MINMAX (R582) -/
  | sensorMinmax (p : Port)
  /-- RTC_SET (R608) -/
  | rtcSet (p : Port)
  /-- RTC_ALARM (R608) -/
  | rtcAlarm (p : Port)
  /-- MBX_RING_PENDING (R584) -/
  | mbxRingPending (node : Nat)
  /-- MBX_RESULT_SLOT_EXPIRE (R584) -/
  | mbxResultSlotExpire (node : Nat)
  /-- EMBER_TO_VBAT (R606) -/
  | emberToVbat
  /-- EMBER_TO_VDDIO (R606) -/
  | emberToVddio (crcOk low : Bool)
  /-- EMBER_LOW (R606) -/
  | emberLow (lost : Bool)
  /-- RTC_ALARM_MATCH (R608) -/
  | rtcAlarmMatch
  /-- LOAD_CHECK (R625) -/
  | loadCheck
  /-- TAP_RESET (R639) -/
  | tapReset
  /-- EXTEST (R643) -/
  | extest
  /-- SAMPLE_PRELOAD (R648) -/
  | samplePreload
  /-- IDCODE (R641) -/
  | idcode
  /-- CLAMP (R643) -/
  | clamp
  /-- HIGHZ (R643) -/
  | highz
  /-- ISL_SEL (R645) -/
  | islSel
  /-- ISLAND_SCAN (R645) -/
  | islandScan
  /-- BYPASS (R640) -/
  | bypass
  /-- BOUNDARY_CAPTURE (R648) -/
  | boundaryCapture (lands : Nat)
  /-- BOUNDARY_UPDATE (R642) -/
  | boundaryUpdate (w : Nat)
  /-- ISLAND_SCAN_CAPTURE (R646) -/
  | islandScanCapture
  /-- ISLAND_SCAN_UPDATE (R646) -/
  | islandScanUpdate (w : Nat)
  /-- PARTNER_RX_FAULT (R260) -/
  | partnerRxFault (w : Bool)
  /-- ISL_SEL_UPDATE (R645) -/
  | islSelUpdate (w : Nat)
deriving DecidableEq, Repr

end Sys2Proof
end

