-- ==== Sys2Proof/Decode.lean ====
section
/-!
DEFINITION. The words of the table. The table of operations and events gives none of its rows any bits: a command of this block
is what comes about at its lands or inside it, and no word spells one.
-/
namespace Sys2Proof

/-- The command that a word spells by the table's bits: none, since no row of the table has any. -/
def decodeTableWord (_nbits _w : Nat) : Option Instr := none

end Sys2Proof
end

