-- ==== Sys2Proof/Config.lean ====
section
/-!
DEFINITION. The free values: what the manual leaves unspecified, as constants without a body. A statement that holds of
the model holds for every value of each of them.
-/
namespace Sys2Proof.Config

/-- A native word that the manual leaves unspecified, one for each index (R119, R164, R643): log entry 4. -/
opaque freeWord : Nat → Word

/-- A fine output of a ROM coefficient set, whose coefficients the manual does not list (R410, R411), as a function of
the preset, the set and the recent inputs: log entry 5. -/
opaque romOutput : Nat → Nat → List Int → Int

/-- The factory offset (code units) and gain (units of 2^-23) of the modulator or drive path of a channel for a function
and range at an island temperature: the factory data is not in the manual (R394): log entry 7. -/
opaque factory : Nat → Nat → Nat → Nat → Int × Int

/-- The code that a corrected value of exact size n / 2^23 is brought to, whose rounding R394 does not state: log
entry 7. -/
opaque calRound : Int → Int

/-- The mean of 256 outputs with a given sum as the code that CAL_POINT takes, whose rounding R395 does not state: log
entry 20. -/
opaque calMean : Int → Int

/-- O_u and G_u of a field trim from the trim in force and the two points (NOMINAL and measured code of each): R395 gives no
formula: log entry 20. -/
opaque fieldTrim : Int × Int → Int × Int → Int × Int → Int × Int

/-- The bytes that a removal record's signature covers, from the unique ID and the bytes of ARG1–ARG22: R130 gives no layout
of the record: log entry 18. -/
opaque removalRecord : Nat → List (BitVec 8) → List (BitVec 8)

/-- Whether a slot that lost power, or failed, while it was written is rejected with DIGEST (otherwise with SECTION_CRC):
R154 leaves both: log entry 19. -/
opaque cutDigest : Nat → Bool

/-- The code of the log record of a stretched cycle: R244 asks for a record, and R573 gives no code: log entry 60. -/
opaque stretchCode : Nat

/-- Whether settings found in a schema, with their values, migrate to the schema of a firmware of a version: each firmware
decides it (R598, reason 3 of R610): log entry 86. -/
opaque migrates : Nat → Nat → List (Nat × Nat) → Bool

/-- The settings schema version of the factory firmware, which the manual does not give (R591, R600): log entry 19. -/
opaque oxbowSchema : Nat

end Sys2Proof.Config
end

