-- ==== Sys2Proof/Machine/Bits.lean ====
section
/-!
DEFINITION. Bit fields of a native word (R6), saturating counts (R634) and sparse stores in their canonical form.
-/
namespace Sys2Proof.Machine

/-- Bits [hi:lo] of a word as a number (R6). -/
def bitsOf (w : Word) (hi lo : Nat) : Nat := (w.toNat >>> lo) % 2 ^ (hi + 1 - lo)

/-- Bit `b` of a word (R6). -/
def bitOf (w : Word) (b : Nat) : Bool := w.getLsbD b

/-- The word `w` with its bits [hi:lo] replaced by the low bits of `v` (R6). -/
def putBits (w : Word) (hi lo v : Nat) : Word :=
  let m : Word := BitVec.ofNat 24 (2 ^ (hi + 1 - lo) - 1) <<< lo
  (w &&& ~~~m) ||| ((BitVec.ofNat 24 v <<< lo) &&& m)

/-- A Boolean as a field value. -/
def b2n (b : Bool) : Nat := if b then 1 else 0

/-- One count more, sticking at `top` (R634). -/
def stick (top n : Nat) : Nat := if n < top then n + 1 else n

/-- A signed value as a 24-bit word, saturated to the word's signed range. -/
def satWord (x : Int) : Word :=
  if x < -8388608 then 0x800000 else if x > 8388607 then 0x7FFFFF else BitVec.ofInt 24 x

/-- Low 24 bits of a number. -/
def toWord (n : Nat) : Word := BitVec.ofNat 24 n

/-- The low word of a 48-bit value (R8). -/
def lo24 (t : RingTime) : Word := t.extractLsb' 0 24

/-- The high word of a 48-bit value (R8). -/
def hi24 (t : RingTime) : Word := t.extractLsb' 24 24

/-- Set or clear member `k` of a set held as a number. -/
def setBitN (m k : Nat) (b : Bool) : Nat :=
  if m.testBit k then (if b then m else m - 2 ^ k) else (if b then m + 2 ^ k else m)

/-- The value a sparse store lists for a key. -/
def Sparse.find {α : Type} : List (Nat × α) → Nat → Option α
  | [], _ => none
  | (b, v) :: m, a => if a = b then some v else Sparse.find m a

/-- A sparse store without any entry for a key. -/
def Sparse.erase {α : Type} (m : List (Nat × α)) (a : Nat) : List (Nat × α) :=
  m.filter fun c => c.1 ≠ a

/-- A sparse store with an entry for a key, at its place in rising key order. -/
def Sparse.put {α : Type} : List (Nat × α) → Nat → α → List (Nat × α)
  | [], a, v => [(a, v)]
  | (b, w) :: m, a, v =>
    if a < b then (a, v) :: (b, w) :: m
    else if a = b then (a, v) :: m
    else (b, w) :: Sparse.put m a v

/-- Reading a sparse store: an unlisted key reads as `d` says. -/
def Sparse.get {α : Type} (d : Nat → α) (m : List (Nat × α)) (a : Nat) : α :=
  (Sparse.find m a).getD (d a)

/-- Writing a sparse store in canonical form: a value equal to the unlisted one is not listed. -/
def Sparse.set {α : Type} [DecidableEq α] (d : Nat → α) (m : List (Nat × α)) (a : Nat) (v : α) :
    List (Nat × α) :=
  if v = d a then Sparse.erase m a else Sparse.put m a v

/-- The canonical form: keys strictly rising, and no entry equal to what an unlisted key reads as. -/
def Sparse.wf {α : Type} [DecidableEq α] (d : Nat → α) : List (Nat × α) → Bool
  | [] => true
  | [(a, v)] => decide (v ≠ d a)
  | (a, v) :: (b, w) :: m => decide (v ≠ d a) && decide (a < b) && Sparse.wf d ((b, w) :: m)

end Sys2Proof.Machine
end

