-- ==== Sys2Proof/Machine/Crypto.lean ====
section
/-!
DEFINITION. The checksums and signature checks that the manual names: CRC-32 (R123), the frame CRCs, SHA-256 and
ECDSA over P-256 (R123, R128), with the published constants of FIPS 180-4 and FIPS 186-5 (log entry 3).
-/
namespace Sys2Proof.Machine

/-- A byte string. -/
abbrev Bytes := List Byte

/-- One step of a reflected CRC register. -/
def crcStepR (poly c : Nat) : Nat := if c % 2 = 1 then (c / 2) ^^^ poly else c / 2

/-- Eight steps of a reflected CRC register. -/
def crcByteR (poly c : Nat) (b : Byte) : Nat :=
  Nat.repeat (crcStepR poly) 8 (c ^^^ b.toNat)

/-- CRC-32 of a byte string: polynomial 0x04C11DB7, reflected, initial and final XOR 0xFFFFFFFF (R123). -/
def crc32 (bs : Bytes) : Nat := (bs.foldl (crcByteR 0xEDB88320) 0xFFFFFFFF) ^^^ 0xFFFFFFFF

/-- One step of a CRC register of `w` bits that shifts left. -/
def crcStepL (w poly c : Nat) : Nat :=
  if c / 2 ^ (w - 1) % 2 = 1 then (c * 2 % 2 ^ w) ^^^ poly else c * 2 % 2 ^ w

/-- A CRC of `w` bits (at least 8), most significant bit first, over a byte string. -/
def crcL (w poly init : Nat) (bs : Bytes) : Nat :=
  bs.foldl (fun c b => Nat.repeat (crcStepL w poly) 8 (c ^^^ (b.toNat * 2 ^ (w - 8)))) init

/-- Addition of 32-bit words. -/
def add32 (a b : Nat) : Nat := (a + b) % 4294967296
/-- Rotation of a 32-bit word to the right. -/
def rotr32 (x n : Nat) : Nat := (x / 2 ^ n) ||| (x * 2 ^ (32 - n) % 4294967296)

/-- The largest `r` below `x + 2 ^ b` whose `k`-th power does not exceed `n`, settled bit by bit from bit `b` − 1 down; `x` holds
the bits above. -/
def rootDown (k n : Nat) : Nat → Nat → Nat
  | 0, x => x
  | b + 1, x => rootDown k n b (if (x + 2 ^ b) ^ k ≤ n then x + 2 ^ b else x)
/-- The first 32 bits of the fractional part of the `k`-th root of `n`: FIPS 180-4 draws the constants of SHA-256 from these. -/
def rootFrac (k n : Nat) : Nat := rootDown k (n * 2 ^ (32 * k)) 36 0 % 2 ^ 32
/-- The primes below `n`, for n up to 18². -/
def primesBelow (n : Nat) : List Nat :=
  (List.range n).filter fun m => decide (2 ≤ m) && (List.range 16).all fun d => decide (m = d + 2 ∨ m % (d + 2) ≠ 0)
/-- The round constants of SHA-256, from the cube roots of the 64 primes below 312. -/
def sha256K : List Nat := (primesBelow 312).map (rootFrac 3)
/-- The initial hash value of SHA-256, from the square roots of the eight primes below 20. -/
def sha256H : List Nat := (primesBelow 20).map (rootFrac 2)

/-- Big-endian number of a byte string. -/
def beNat (bs : Bytes) : Nat := bs.foldl (fun n b => n * 256 + b.toNat) 0
/-- Little-endian number of a byte string (R123). -/
def leNat : Bytes → Nat
  | [] => 0
  | b :: bs => b.toNat + 256 * leNat bs

/-- The 32-bit words of a block, big-endian. -/
def words32 : Nat → Bytes → List Nat
  | 0, _ => []
  | n + 1, bs => beNat (bs.take 4) :: words32 n (bs.drop 4)

/-- The message schedule of SHA-256, latest word first. -/
def shaSchedule : Nat → List Nat → List Nat
  | 0, w => w
  | n + 1, w =>
    let a := w.getD 14 0
    let b := w.getD 1 0
    let s0 := rotr32 a 7 ^^^ rotr32 a 18 ^^^ (a / 8)
    let s1 := rotr32 b 17 ^^^ rotr32 b 19 ^^^ (b / 1024)
    shaSchedule n (add32 (add32 (w.getD 15 0) s0) (add32 (w.getD 6 0) s1) :: w)

/-- One round of SHA-256 over the eight working variables. -/
def shaRound : List Nat → Nat × Nat → List Nat
  | [a, b, c, d, e, f, g, h], (k, w) =>
    let s1 := rotr32 e 6 ^^^ rotr32 e 11 ^^^ rotr32 e 25
    let ch := (e &&& f) ^^^ ((4294967295 - e) &&& g)
    let t1 := add32 (add32 (add32 h s1) (add32 ch k)) w
    let s0 := rotr32 a 2 ^^^ rotr32 a 13 ^^^ rotr32 a 22
    let maj := (a &&& b) ^^^ (a &&& c) ^^^ (b &&& c)
    [add32 t1 (add32 s0 maj), a, b, c, add32 d t1, e, f, g]
  | st, _ => st

/-- The compression of one 64-byte block. -/
def shaBlock (h : List Nat) (blk : Bytes) : List Nat :=
  let w := (shaSchedule 48 (words32 16 blk).reverse).reverse
  List.zipWith add32 h ((sha256K.zip w).foldl shaRound h)

/-- The compression of all blocks. -/
def shaBlocks : Nat → List Nat → Bytes → List Nat
  | 0, h, _ => h
  | n + 1, h, bs => shaBlocks n (shaBlock h (bs.take 64)) (bs.drop 64)

/-- A number as `n` bytes, most significant first. -/
def beBytes : Nat → Nat → Bytes
  | 0, _ => []
  | n + 1, x => BitVec.ofNat 8 (x / 256 ^ n) :: beBytes n x
/-- A number as `n` bytes, least significant first (R123). -/
def leBytes : Nat → Nat → Bytes
  | 0, _ => []
  | n + 1, x => BitVec.ofNat 8 x :: leBytes n (x / 256)

/-- SHA-256 of a byte string, as FIPS 180-4 defines it (R123). -/
def sha256 (bs : Bytes) : Bytes :=
  let pad := (119 - bs.length % 64) % 64
  let m := bs ++ [0x80] ++ List.replicate pad 0 ++ beBytes 8 (8 * bs.length)
  (shaBlocks (m.length / 64) sha256H m).flatMap (beBytes 4)

/-- The field prime of P-256. -/
def p256P : Nat := 0xFFFFFFFF00000001000000000000000000000000FFFFFFFFFFFFFFFFFFFFFFFF
/-- The group order of P-256. -/
def p256N : Nat := 0xFFFFFFFF00000000FFFFFFFFFFFFFFFFBCE6FAADA7179E84F3B9CAC2FC632551
/-- The curve constant b of P-256. -/
def p256B : Nat := 0x5AC635D8AA3A93E7B3EBBD55769886BC651D06B0CC53B0F63BCE3C3E27D2604B
/-- The base point of P-256. -/
def p256G : Nat × Nat :=
  (0x6B17D1F2E12C4247F8BCE6E563A440F277037D812DEB33A0F4A13945D898C296,
   0x4FE342E2FE1A7F9B8EE7EB4A7C0F9E162BCE33576B315ECECBB6406837BF51F5)

/-- `b` to the power `e` modulo `m`, for exponents below 2 to the power of the fuel. -/
def powMod (m : Nat) : Nat → Nat → Nat → Nat
  | 0, _, _ => 1 % m
  | k + 1, b, e =>
    let r := powMod m k (b * b % m) (e / 2)
    if e % 2 = 1 then r * b % m else r

/-- A point of P-256 in Jacobian coordinates; z = 0 is the point at infinity. -/
structure Jac where
  x : Nat
  y : Nat
  z : Nat
deriving DecidableEq, Repr

/-- Difference modulo the field prime. -/
def subP (a b : Nat) : Nat := (a + (p256P - b % p256P)) % p256P

/-- Doubling of a point. -/
def Jac.dbl (q : Jac) : Jac :=
  let zz := q.z * q.z % p256P
  let m := 3 * (subP q.x zz) * (q.x + zz) % p256P
  let yy := q.y * q.y % p256P
  let s := 4 * q.x * yy % p256P
  let x := subP (m * m) (2 * s)
  ⟨x, subP (m * subP s x) (8 * yy * yy), 2 * q.y * q.z % p256P⟩

/-- Sum of two points. -/
def Jac.add (q r : Jac) : Jac :=
  if q.z % p256P = 0 then r else if r.z % p256P = 0 then q else
  let z1 := q.z * q.z % p256P
  let z2 := r.z * r.z % p256P
  let u1 := q.x * z2 % p256P
  let u2 := r.x * z1 % p256P
  let s1 := q.y * z2 * r.z % p256P
  let s2 := r.y * z1 * q.z % p256P
  let h := subP u2 u1
  let rr := subP s2 s1
  if h = 0 then (if rr = 0 then q.dbl else ⟨1, 1, 0⟩) else
  let hh := h * h % p256P
  let hhh := hh * h % p256P
  let v := u1 * hh % p256P
  let x := subP (subP (rr * rr) hhh) (2 * v)
  ⟨x, subP (rr * subP v x) (s1 * hhh), q.z * r.z * h % p256P⟩

/-- u·G + v·Q, bit by bit from bit `k` − 1 down. -/
def Jac.comb (q gq : Jac) (u v : Nat) : Nat → Jac
  | 0 => ⟨1, 1, 0⟩
  | k + 1 =>
    let a := (Jac.comb q gq (u / 2) (v / 2) k).dbl
    if u % 2 = 1 then
      (if v % 2 = 1 then a.add gq else a.add ⟨p256G.1, p256G.2, 1⟩)
    else if v % 2 = 1 then a.add q else a

/-- A public key of P-256: the coordinates of a point of the curve. -/
structure PubKey where
  x : Nat
  y : Nat
deriving DecidableEq, Repr

/-- Whether a key is a point of the curve. -/
def PubKey.onCurve (k : PubKey) : Bool :=
  decide (k.x < p256P) && decide (k.y < p256P) &&
    decide (k.y * k.y % p256P = (k.x * k.x * k.x + (p256P - 3) * k.x + p256B) % p256P)

/-- ECDSA verification over P-256 of the signature (r, s) for the hash value `e`, as FIPS 186-5 defines it (R123). -/
def ecdsaOk (k : PubKey) (e r s : Nat) : Bool :=
  if r = 0 ∨ s = 0 ∨ p256N ≤ r ∨ p256N ≤ s ∨ k.onCurve = false then false else
  let w := powMod p256N 256 s (p256N - 2)
  let q : Jac := ⟨k.x, k.y, 1⟩
  let x := Jac.comb q (q.add ⟨p256G.1, p256G.2, 1⟩) (e * w % p256N) (r * w % p256N) 256
  let zz := x.z * x.z % p256P
  !(decide (zz = 0)) && (decide (x.x = r * zz % p256P) ||
    (decide (r + p256N < p256P) && decide (x.x = (r + p256N) * zz % p256P)))

end Sys2Proof.Machine
end

