-- ==== Sys2Proof/Machine/State.lean ====
section
/-!
DEFINITION. The state of the H3280 as plain data, and the state after reset.
-/
namespace Sys2Proof.Machine

/-- The device states of R16. -/
inductive Dev where
  | off | boot | unpitched | pitching | pitched | safe | doze | deep | maintenance
deriving DecidableEq, Repr

/-- An entry of an image's section directory (R125). -/
structure DirEntry where
  tag : Nat
  ver : Nat
  flags : Nat
  off : Nat
  len : Nat
  crc : Nat
deriving DecidableEq, Repr

/-- A verified image: its header, directory, sections by tag (each with its section header) and DIGEST (R122–R128). -/
structure Image where
  header : Bytes
  dir : List DirEntry
  secs : List (Nat × Bytes)
  digest : Bytes
deriving DecidableEq, Repr

/-- Configuration SRAM (R569): the loaded image, the source of each of its sections, and its damaged regions. -/
structure CfgSram where
  /-- the image whose loaded sections it holds -/
  img : Option Image
  /-- by tag, the source of each section (1 slot 0, 2 slot 1, 3 ring staging) and the DIGEST of the image it came from;
  tag 0 is the hub's own region -/
  src : List (Nat × Nat × Bytes)
  /-- whether the image is pitched (R122) -/
  pitched : Bool
  /-- regions with an uncorrectable error that is not repaired (R571) -/
  bad : List Nat
  /-- regions whose repair is in progress or queued, first one in progress (R571, R589) -/
  repair : List Nat
  /-- whether the repair in progress has started once more (R589) -/
  again : Bool
  /-- from p1 to p5 of a full pitch, the image that was pitched before it -/
  old : Option Image
  /-- words whose uncorrectable error has been counted and reported, until they are rewritten (R571) -/
  seen : List Nat
deriving DecidableEq, Repr

/-- The instants of a full pitch that have passed (R135). -/
inductive PitchPhase where
  | idle | verifying | entered | loaded | structured | checked
deriving DecidableEq, Repr

/-- A full pitch in progress (R135). -/
structure PitchSt where
  phase : PitchPhase
  /-- started at boot: p2–p5 are t4–t7 of R106 -/
  boot : Bool
  /-- source: 0 retained, 1 slot 0, 2 slot 1, 3 ring staging -/
  src : Nat
  cand : Option Image
  /-- microseconds counted since p0 -/
  us : Nat
deriving DecidableEq, Repr

/-- A re-pitch in progress (R138): the instants q0–q3 are phases 1–4; 0 is none. -/
structure RepitchSt where
  phase : Nat
  isl : Nat
  src : Nat
  cand : Option Image
  retried : Bool
deriving DecidableEq, Repr

/-- A pending event record (R290); its COUNT stands in EVT_SRC of its source. -/
structure PendRec where
  src : Nat
  stamp : RingTime
  data : Word
deriving DecidableEq, Repr

/-- An event record that has left its line: the four words of R289. -/
structure EvtRec where
  w0 : Word
  w1 : Word
  w2 : Word
  w3 : Word
deriving DecidableEq, Repr

/-- The event controller and the Weir (R285–R297); buckets count thousandths of a token. -/
structure EvtSt where
  /-- pending records in the order of their first occurrences -/
  pend : List PendRec
  lineTok : Vector Nat 8
  strTok : Vector Nat 8
  /-- an occurrence coalesced into a pending record of the line in this millisecond (R297) -/
  lineCoal : Vector Bool 8
  /-- the stream had LAG or WAIT_WEIR set at an instant of this millisecond (R297) -/
  strDef : Vector Bool 8
  /-- consecutive checks in deficit, at most 1,000 (R297) -/
  lineRun : Vector Nat 8
  strRun : Vector Nat 8
deriving DecidableEq, Repr

/-- A buffer that a stream is filling (R298–R301). -/
structure SBuf where
  desc : Nat
  addr : Nat
  words : Nat
  used : Nat
  irq : Bool
  /-- completed, waiting for its return (s3 of R300); holds END and ABORTED -/
  done : Bool
  fin : Bool
  aborted : Bool
deriving DecidableEq, Repr

/-- One Sluice stream (R298–R306); its registers stand in the SLC block. -/
structure Stream where
  buf : Option SBuf
  /-- the line served last in the rotation of R291 -/
  turn : Nat
  lostBefore : Bool
  /-- ENABLE was cleared: RUNNING clears once the buffer has returned (R303) -/
  stopping : Bool
  /-- CAPTURE: the number of the block that the buffer holds, the words copied of the first one in `ready`, and the completed
  blocks that are not returned -/
  blk : Nat
  blkPos : Nat
  /-- CAPTURE: completed blocks of the sequence as (BLOCK_NO, Eddy address, words, ABORTED) -/
  ready : List (Nat × Nat × Nat × Bool)
  /-- words put into the Sluice queue for the buffer and not yet in host memory (R82) -/
  q : List Word
  /-- the buffer is to be completed as soon as its descriptor has been read (R301) -/
  due : Bool
deriving DecidableEq, Repr

/-- A log record before and after its storing (R574). -/
structure LogRec where
  seq : Nat
  code : Nat
  sev : Nat
  rep : Nat
  sec : Nat
  ms : Nat
  rtcValid : Bool
  boot : Nat
  dev : Nat
  d0 : Word
  d1 : Word
  d2 : Word
deriving DecidableEq, Repr

/-- The log (R575, R576): buckets in millionths of a token, the buffer, lost records by ring. -/
structure LogSt where
  tokGen : Nat
  tokCrit : Nat
  buf : List LogRec
  /-- what arose before the firmware runs: code and data (R573) -/
  late : List (Nat × Word × Word × Word)
  lostGen : Nat
  lostCrit : Nat
deriving DecidableEq, Repr

/-- A command that a session has submitted and the MSS has not finished (R580). -/
structure Job where
  code : Nat
  args : List Word
  role : Nat
  /-- it has passed t1 and waits for the end of what it started -/
  taken : Bool
  /-- ROLE_CLAIM and ROLE_RELEASE: the status that R199 gave it as it committed; 0 otherwise -/
  claim : Nat
deriving DecidableEq, Repr

/-- The mailbox of one session (R577, R578). -/
structure Mailbox where
  cmd : Word
  status : Nat
  resWords : Nat
  overrun : Bool
  tag : Nat
  args : List (Nat × Word)
  res : List (Nat × Word)
  job : Option Job
  /-- status and result words of the latest finished command other than POLL (R582) -/
  lastStatus : Nat
  lastRes : List Word
deriving DecidableEq, Repr

/-- The long operation that runs (R580). -/
structure LongOp where
  port : Port
  code : Nat
  args : List Word
  /-- instants passed: operation steps of R596, R134 and the store steps -/
  stage : Nat
deriving DecidableEq, Repr

/-- What the MSS runs (R595). -/
inductive FwRun where
  | none | slotA | slotB | oxbow
deriving DecidableEq, Repr

/-- A boot control record (R593). -/
structure BootCtl where
  active : Nat
  stA : Nat
  stB : Nat
  tries : Nat
  imgSlot : Nat
  minSec : Nat
  oxReq : Bool
deriving DecidableEq, Repr

/-- The content of a settings bank (R602). -/
structure Settings where
  schema : Nat
  vals : List (Nat × Nat)
  key4 : Option PubKey
  /-- accepted SPC and its IMAGE_SERIAL -/
  spc : Option (Nat × Nat)
  /-- Headwater ID bindings: unique ID and node ID (R240) -/
  binds : List (Nat × Nat)
  /-- entries with other IDs, kept verbatim (R600, R602) -/
  extra : List (Nat × Bytes)
deriving DecidableEq, Repr

/-- A calibration entry (R604). -/
structure CalEntry where
  ch : Nat
  func : Nat
  range : Nat
  ofs : Word
  gain : Word
deriving DecidableEq, Repr

/-- A pair of banks; an invalid bank is none (R594). -/
structure TwoBank (α : Type) where
  b0 : Option (Nat × α)
  b1 : Option (Nat × α)
deriving DecidableEq, Repr

/-- A store that has started and whose MARK is not written (R594). -/
inductive StoreWhat where
  | bootCtl (c : BootCtl)
  | settings (s : Settings)
  | calib (l : List CalEntry)
deriving DecidableEq, Repr

/-- The on-package flash (R567). -/
structure Flash where
  fwA : Bytes
  fwB : Bytes
  /-- the protected factory firmware's version, as INFO gives it -/
  oxVer : Word
  ctl : TwoBank BootCtl
  settings : TwoBank Settings
  calib : TwoBank (List CalEntry)
  img0 : Bytes
  img1 : Bytes
  logGen : List LogRec
  logCrit : List LogRec
  uid : BitVec 64
  anchors : List (Option PubKey)
  /-- channel, FUNC and RANGE whose factory calibration record fails its check (R394) -/
  facBad : List (Nat × Nat × Nat)
deriving DecidableEq, Repr

/-- The MSS (R566, R580, R598–R601). -/
structure MssSt where
  run : FwRun
  halted : Bool
  op : Option LongOp
  store : Option StoreWhat
  /-- a bank store that follows the one that runs (R601) -/
  storeNext : Option StoreWhat
  /-- bank pairs whose inactive bank is being erased in the background: 1 boot control, 2 settings, 4 calibration (R594) -/
  erase : Nat
  /-- the firmware package that FW_STORE has verified -/
  pkg : Bytes
  /-- PITCHED reached since the firmware's start (R601) -/
  reached : Bool
  /-- microseconds in PITCHED and DOZE since the firmware's start (R601) -/
  conf : Nat
  /-- a reset that the RESET command has scheduled (R582) -/
  resetDue : Bool
  /-- lowest and highest sample of each sensor since the last clear (R572) -/
  sensMin : Vector Word 24
  sensMax : Vector Word 24
  /-- the Modbus settings have taken effect since the last reset (R209) -/
  modUp : Bool
  /-- firmware start latches logged at t3 -/
  strapBad : Bool
deriving DecidableEq, Repr

/-- A snapshot of an axis in Ember (R480). -/
structure AxisSnap where
  ext0 : Word
  ext1 : Word
  ext2 : Word
  tag : Nat
deriving DecidableEq, Repr

/-- The Ember domain (R605–R608). -/
structure EmberSt where
  /-- content valid at the last boot (EMB_STAT.VALID) -/
  valid : Bool
  /-- the CRC checks -/
  crcOk : Bool
  low : Bool
  onVbat : Bool
  oscOk : Bool
  sec : Nat
  ms : Nat
  /-- microseconds of the running millisecond (the model's resolution) -/
  us : Nat
  rtcValid : Bool
  alarm : Nat
  alarmEn : Bool
  alarmHit : Bool
  bootCnt : Word
  logSeq : Word
  prevCause : Nat
  /-- the flag that tells POWER_ON from SUPPLY: every main rail was below its RESET level (R104) -/
  powerOn : Bool
  nodeId : Option Nat
  snaps : Vector (Option AxisSnap) 8
  ret : List (Nat × Word)
  /-- until t3, the snapshots that the boot has invalidated, as a bit set (R610) -/
  lostSnaps : Nat
deriving DecidableEq, Repr

/-- The reset that holds the hub, and what it waits for (R104, R105). -/
structure HoldSt where
  held : Bool
  cause : Nat
  multi : Bool
  railsOk : Bool
  /-- the next island transfer to start, 8 for none (R74) -/
  xferNext : Nat
deriving DecidableEq, Repr

/-- Sleep bookkeeping (R86–R95). -/
structure SleepSt where
  /-- the state that DOZE or DEEP was entered from -/
  origin : Dev
  /-- DEEP: 0 none, 1 t0 passed, 2 t1, 3 t2 (committed), 4 t3 (retained), 5 waking, 6 wake t1, 7 wake t2 -/
  phase : Nat
  /-- the session that requested DEEP -/
  port : Port
  /-- DEEP: the SAFE cause of a SAFE-limit crossing, 0 none (R95) -/
  limit : Nat
deriving DecidableEq, Repr

/-- The roles in force (R194–R196). -/
structure RoleSt where
  holder : Option Port
  lpb : Nat
  spi : Nat
  mod : Nat
  ring : Nat
  nodes : List (Nat × Nat)
deriving DecidableEq, Repr

/-- A bulk session (R268): the partner, the addresses, the next offset and the last acknowledged one. -/
structure BulkSt where
  session : Nat
  node : Nat
  src : Nat
  dst : Nat
  len : Nat
  ofs : Nat
  acked : Nat
  /-- carriers taken since the last BULK_ACK -/
  taken : Nat
  /-- the words sent are an image slot's: 1 slot 0, 2 slot 1, 0 Eddy (R270) -/
  img : Nat
  /-- the addressee has accepted the session -/
  opened : Bool
deriving DecidableEq, Repr

/-- A link delay measurement (R251, R252): exchange, sum of good results in 1/16 ns, how many, second try; and the delay in
force, in 1/16 ns. -/
structure DlySt where
  active : Bool
  exch : Nat
  sum : Nat
  good : Nat
  again : Bool
  delay : Nat
deriving DecidableEq, Repr

/-- A frame as it leaves a port: west or east, ending in EBAD or EOF (R226, R230). -/
structure RingTx where
  west : Bool
  bad : Bool
  f : RFrame
deriving DecidableEq, Repr

/-- The ring controller (R228–R283) beside its registers. -/
structure RingSt where
  /-- forwarding has started (t2 of R106) -/
  forward : Bool
  /-- the frames that left with the latest command that sent any, in order (R229–R243) -/
  tx : List RingTx
  /-- SEQ of the next frame that this node sends (R231) -/
  seqNo : Nat
  /-- the RING configuration and map in force (R271), and those by which the slot is filled (R277) -/
  conf : Bytes
  pdConf : Bytes
  /-- CYCLE_NO of the latest good CYC processed since reset, or of the cycle that the Headwater runs -/
  cycleNo : Option Nat
  /-- Headwater: ring time at which its latest cycle started (R233, R259) -/
  cycAt : RingTime
  /-- the ring time of the millisecond marks modulo 500,000, as MARK_OFF gave it (R254) -/
  markPhase : Nat
  /-- what the latest good CYC gave to the steering of ring time (2 ns) and of PLL-A (0.25 ns), and whether a lapse has frozen
  PLL-A's setting (R253, R254) -/
  rateErr : Int
  pllErr : Int
  frozen : Bool
  /-- consecutive cycles with a phase error within ±20 ns (R254) -/
  lockRun : Nat
  /-- RING_CHANGED waits to be set in the next CYC (R240) -/
  changed : Bool
  /-- Headwater: cycles left until the census that RING_CHANGED asks for, and cycles since the last one -/
  censusDue : Bool
  sinceCensus : Nat
  /-- census pass in progress: 0 none, 1 A, 2 B, and the frame's FIRST_POS -/
  censusPass : Nat
  firstPos : Nat
  /-- entries collected in pass A -/
  entries : List EnumEntry
  /-- Headwater: the entries by position as the assignment in force gave them; those that pass B sends; and whether they take
  effect with the next cycle (R240) -/
  layout : List EnumEntry
  layoutNew : List EnumEntry
  layoutDue : Bool
  /-- Headwater: ID bindings that wait for the settings store (R240) -/
  bindsDue : Option (List (Nat × Nat))
  /-- node: the entry that pass B brought, and whether pass B has ended (R240) -/
  assignDue : Option EnumEntry
  assignLast : Bool
  slotSize : Nat
  slotOff : Nat
  /-- RING_PD_MISS has fired and no good PD frame has come since (R248) -/
  pdLost : Bool
  pdRefused : Bool
  /-- the slot that the node last wrote: status bytes and words (R234) -/
  slotOut : PdSlot
  /-- the node's ring queue of at most 8 records (R249) -/
  evtQ : List EvtRec
  /-- Headwater: write index into the ring buffer in Eddy, and cells not yet read -/
  evtWr : Nat
  evtUnread : List Nat
  /-- requests and answers waiting to be sent, at most 16 (R266) -/
  sendQ : List Mail
  /-- carriers filled in this cycle (R243) -/
  filled : Nat
  /-- Headwater: carriers to be sent out again in the next cycle, with RELAYED set (R267) -/
  relayQ : List RFrame
  bulkTx : Option BulkSt
  bulkRx : Option BulkSt
  /-- MAILBOX mails whose answer is due: node and tag (R584) -/
  mbxWait : List (Nat × Nat)
  /-- an armed SYNC: mark, EDGE and SEQ, and whether ring time has stepped since (R258) -/
  armed : Option (RingTime × Nat × Nat)
  stepped : Bool
  /-- Headwater: T and GROUPS of the pending SYNC (R257) -/
  syncT : RingTime
  syncGroups : Nat
  dlyE : DlySt
  dlyW : DlySt
  /-- the dead hop has been up for 100 ms and its node reports it (R262) -/
  stableE : Bool
  stableW : Bool
  /-- Headwater: SKIP of its next EMPTY carrier (R243, R622) -/
  skip : Nat
  /-- an IMAGE_REQ of this node waits to be sent (R270) -/
  imgReq : Bool
  /-- UNWRAP: asked for at the Headwater, and due at the next CYC (R262) -/
  unwrapReq : Bool
  unwrapDue : Bool
  /-- the node has its entry in the pass A that runs (R240) -/
  placed : Bool
  /-- shortest cycle computed at the last census (R244) -/
  tMin : Nat
  /-- own requests that wait for an answer: tags (R267) -/
  waiting : List Nat
  /-- RING_FIXED_ID and RING_IMG_SLOT as the latest reset took them (R239) -/
  fixedId : Nat
  imgSlot : Nat
deriving DecidableEq, Repr
/-- A Guyline downlink frame as the hub sends it (R325); `fr` cells carry FAULT_RESET. -/
structure DnFrame where
  seq : Nat
  slot : Nat
  rungAck : Nat
  load : Bool
  outs : Vector Word 4
  ena : Vector Bool 4
  appl : Vector Bool 4
  fr : Vector Bool 4
  op : Nat
  word : Nat
  data : Word
  rstMask : Nat
  rstEdge : Nat
  lifeA : Nat
  dataA : Nat
  lifeB : Nat
  dataB : Nat
deriving DecidableEq, Repr

/-- The sinc3 decimator of an analogue input cell: three integrators, the inputs that the three differentiators saw one
decimated sample before, and the modulator bits since the latest output (R408). -/
structure Sinc where
  i1 : Word
  i2 : Word
  i3 : Word
  d1 : Word
  d2 : Word
  d3 : Word
  n : Nat
deriving DecidableEq, Repr

/-- The counter of a pulse input (R348, R449, R464): the count, the times of the latest counted edges in ticks, newest first
and from the latest reversal on, the direction of the latest, QERR in this slot, and for an index cell the count at the
latest index and whether it fell in this slot. -/
structure PulseCnt where
  cnt : Nat
  times : List Nat
  fwd : Bool
  qerr : Bool
  idx : Nat
  idxGot : Bool
deriving DecidableEq, Repr

/-- What the island holds of one cell (R319, R345–R364). -/
structure Cell where
  /-- the filtered state: bit 0, or U, V and W of a HALL cell -/
  filt : Nat
  /-- changes of the filtered state since the last uplink frame, and TIDX of the latest -/
  chg : Nat
  tidx : Nat
  /-- OPEN, SHORT, OVERLOAD, READBACK, TEST_FAIL in bits 0–4 -/
  diag : Nat
  /-- ring times at which each of them set last -/
  diagAt : Vector RingTime 5
  /-- latched by a diagnostic (LOCAL_CAUSE 5), and by the island overcurrent (6), and when each latched -/
  lat5 : Bool
  lat6 : Bool
  lat5At : RingTime
  lat6At : RingTime
  /-- consecutive faults, each within 1 s of the release before it (R357) -/
  runs : Nat
  /-- what the latest good downlink frame gave: OUT, ENERGISE, APPLY_SAFE -/
  out : Word
  ena : Bool
  appl : Bool
  /-- the driver went to high impedance in its safe state (R356) -/
  hiZ : Bool
  /-- INRUSH has not elapsed: detection is off -/
  inrush : Bool
  /-- the command bits of SK-A and SK-B (R329) -/
  cmdA : Bool
  cmdB : Bool
  /-- DO-T pulse in progress: 0 none, 1 high side, 2 low side; the next one; waiting; consecutive fails -/
  tp : Nat
  tpLow : Bool
  tpWait : Bool
  tpFails : Nat
  reqA : Bool
  reqB : Bool
  /-- sensor supply on; supply pulse: 0 none, 1 raw was 0 at its start, 2 raw was 1; waiting; consecutive fails -/
  sup : Bool
  stp : Nat
  stpWait : Bool
  stpFails : Nat
  /-- AI-I input switch open (R377) -/
  sw : Bool
  /-- FAULT_RESET in the previous downlink frame (R354); the latest test pulse's start (R362) -/
  frPrev : Bool
  tpAt : RingTime
  /-- HALL: net steps, illegal state and illegal transition since the last uplink frame (R455) -/
  net : Int
  illS : Bool
  illT : Bool
  /-- the decimator, and the EDGE of an SRESET that it has still to obey in this slot (R325, R408) -/
  sinc : Sinc
  srst : Option Nat
  /-- the counter of a pulse input -/
  pul : PulseCnt
deriving DecidableEq, Repr

/-- One island and its Guyline link: the hub's side, then the island's (R319–R337). -/
structure Isl where
  /-- the link has locked since reset -/
  ever : Bool
  /-- consecutive good uplink frames before lock -/
  upGood : Nat
  /-- a frame that failed CRC_P has come since the last good one -/
  upBad : Bool
  /-- CRC_P errors of this second, both directions -/
  errs : Nat
  /-- declared lost and not structured since (R330, g4) -/
  lost : Bool
  brownSeen : Bool
  /-- a readback mismatch ended the structuring at a relock: it is retried after 100 ms -/
  retry : Bool
  seq : Nat
  /-- starts of the latest slot and of the one before, in ring time and as counts of sample edges that keep the millisecond's
  phase (R324); a good uplink frame has come since (R495) -/
  slotAt : RingTime
  prevAt : RingTime
  tickAt : Nat
  tickPrev : Nat
  got : Bool
  dn : DnFrame
  /-- structuring: 0 idle, 1 writing, 2 reading back, 3 matched, 4 discard due, 5 READBACK failure -/
  sPhase : Nat
  sWord : Nat
  sTry : Nat
  /-- the word asked for by the latest downlink frame -/
  sAsk : Option Nat
  /-- the scan drive fields are to be sent (R645) -/
  scanDue : Bool
  scanData : Word
  /-- the first good uplink since lock has come -/
  seen : Bool
  /-- LIFE that the kernels send, and the DATA of their subframes -/
  ktxA : Nat
  ktxB : Nat
  kdA : Nat
  kdB : Nat
  /-- latest VFLDi in mV, temperature, reservoir voltage in mV as read by the hub -/
  vfld : Nat
  temp : Nat
  vres : Nat
  /-- the island's logic is supplied -/
  up : Bool
  iLock : Bool
  dnGood : Nat
  dnErr : Bool
  useq : Nat
  /-- structure words received, and the structure committed: its own store (R27) -/
  words : List (Nat × Word)
  store : Option Bytes
  /-- the island applies its safe states for want of good downlink frames (g4′) -/
  tmo : Bool
  rung : Nat
  next : Nat
  /-- frames left in which NEXT_RUNG is announced, and whether the reservoir caused the change -/
  ann : Nat
  annRes : Bool
  fpwr : Bool
  /-- uplink frames left that carry BROWN before the island stops (R337) -/
  brown : Option Nat
  vlow : Bool
  vhigh : Bool
  /-- ring time at which one of the two flags changed last -/
  vfldAt : RingTime
  /-- the structure word to be read back with the next uplink frame, and whether a commit has been obeyed (R326, R331) -/
  ask : Option Nat
  commit : Bool
  /-- SCAN has been obeyed since the last lock; its drive fields -/
  scan : Bool
  drv : Word
  /-- last good LIFE of each kernel's downlink subframes, and the LIFE the island sends -/
  lifeA : Option Nat
  lifeB : Option Nat
  ulife : Nat
  cells : Vector Cell 4
  /-- the hub waits for the relock that ends a re-pitch whose island was lost from q2 on (R140, R149) -/
  await : Bool
  /-- a re-pitch left the island unstructured: no relock structures it (R140, R150) -/
  barred : Bool
  /-- DIAG item 9 of the latest uplink frame: OBS, VFLD_PRESENT and CRES_UP (R326, R646) -/
  obs : Option Word
  /-- safety subframes received from the island that SK-A, and SK-B, have not taken yet (R328) -/
  rxA : Option Bytes
  rxB : Option Bytes
deriving DecidableEq, Repr

/-- An average that CAL_POINT has started: its session, the point, NOMINAL, outputs taken and their sum (R395). -/
structure CalAvg where
  port : Port
  point : Nat
  nominal : Int
  n : Nat
  sum : Int
deriving DecidableEq, Repr

/-- What the hub holds of one channel beside its registers (11, 12). -/
structure Chan where
  /-- previous 16-bit count of a CNT cell -/
  prev : Option Nat
  /-- chatter bins, the current one first (R346) -/
  bins : List Nat
  /-- frames that still carry FAULT_RESET (R354) -/
  frLeft : Nat
  /-- NE 43 dwell: the class it runs toward (0 none) and its start (R384) -/
  neTo : Nat
  neAt : RingTime
  /-- limits were written: the next comparison is without hysteresis (R391) -/
  limFresh : Bool
  /-- readback comparisons: runs of failed and passed ones, and the instant they start at (R389) -/
  rbFail : Nat
  rbPass : Nat
  rbFrom : Option RingTime
  /-- Riffle values, and codes sent, of the last millisecond, newest first (R389) -/
  rif : List (RingTime × Word)
  sent : List (RingTime × Word)
  /-- calibration points: NOMINAL and measured code (R395) -/
  pt0 : Option (Int × Int)
  pt1 : Option (Int × Int)
  /-- CAL_POINT averages that run -/
  cal : List CalAvg
deriving DecidableEq, Repr

/-- The fine chain and the Riffle path of one channel (R411–R421). -/
structure Filt where
  /-- calibrated sinc outputs that the fine chain, and the Riffle path, have not taken yet -/
  inq : List Int
  rifq : List Int
  /-- for a ROM set: the inputs that its response reaches back to, newest first -/
  recent : List Int
  /-- for a user set: the histories of stages 1–8, newest first, each sample with its INVALID mark -/
  hist : List (List (Int × Bool))
  /-- ring time of the last reset; fine outputs and sinc outputs since -/
  at0 : RingTime
  outs : Nat
  sincs : Nat
  /-- Riffle window run: 1 below, 2 above, 3 inside, and its length (R418) -/
  runKind : Nat
  run : Nat
  /-- block accumulator (R419) -/
  acc : Int
  /-- a registered reset that waits for its instant: its cause, 0 none (R420) -/
  due : Nat
  /-- the latest output as a 32-bit word for WIDE captures (R413) -/
  wide : Int
deriving DecidableEq, Repr

/-- One stage of a user coefficient set (R423, R425). -/
structure Stage where
  taps : List Int
  unchecked : Bool
deriving DecidableEq, Repr

/-- A user coefficient set in force. -/
structure UserSet where
  nmargin : Nat
  stages : List Stage
deriving DecidableEq, Repr

/-- A completed block that is not released: number, address, words, ABORTED (R433). -/
structure Block where
  no : Nat
  addr : Nat
  words : Nat
  aborted : Bool
deriving DecidableEq, Repr

/-- One sample set: its instant, its words, FLAGGED (R429, R430). -/
structure SampleSet where
  at0 : RingTime
  words : List Word
  flagged : Bool
deriving DecidableEq, Repr

/-- One capture sequence beside its registers (R428–R434). -/
structure Capt where
  /-- the latest sets, oldest first: the pre-trigger history -/
  pre : List SampleSet
  /-- the running block: address, BLOCK_NO, sets stored, sets to store, first instant, TRIG_OFS, QUEUED, FLAGGED -/
  addr : Nat
  no : Nat
  got : Nat
  goal : Nat
  first : RingTime
  ofs : Int
  queued : Bool
  flagged : Bool
  /-- a trigger has come and its set is not taken yet -/
  fired : Bool
  /-- sets since a trigger held pending (QUEUE1) -/
  pendSets : Option Nat
  /-- BLOCK_NO of the next block -/
  nextNo : Nat
  blocks : List Block
  /-- words of the oldest block that its FIFO consumer has popped -/
  popped : Nat
deriving DecidableEq, Repr

/-- One axis beside its registers (14). -/
structure Axis where
  prev : Option Nat
  /-- counts moved against DIR from the furthest point (R467) -/
  back : Nat
  /-- the debounced home input is asserted (R475), and its changes in 1 ms bins, current first -/
  home : Bool
  homeBins : List Nat
  /-- sequencer: stored result, a reversal was made, home was asserted in SEARCH_REV, its reference -/
  stored : Nat
  reversed : Bool
  homeSeen : Bool
  ref : Int
  /-- the frame in which the release was registered is still to come (R490) -/
  skipIndex : Bool
  lost : Bool
  /-- divider (R478): accumulator, target, emitted count -/
  pdAcc : Int
  pdTarget : Int
  pdOut : Int
  /-- SSI: halves waiting to be sent, read number, the half received, number of the read judged last, previous good word,
  consecutive failures -/
  ssiOut : List Word
  ssiNo : Nat
  ssiHalf : Option Word
  ssiDone : Option Nat
  ssiPrev : Option Nat
  ssiFail : Nat
  /-- steps or words for speed: movement and stamp, newest first (R466) -/
  moves : List (Int × RingTime)
  setPos : Word
deriving DecidableEq, Repr

/-- The ledger of one scope, in nJ (R495–R500). -/
structure Led where
  prev : Nat
  /-- increments of the latest 100 frame periods, newest first -/
  inc : List Nat
  /-- completed 1 ms bins, newest first, at most 99, and the current one -/
  bins : List Nat
  cur : Nat
  iRun : Nat
  uRun : Nat
  stRun : Nat
  /-- microseconds at which the active trip began -/
  since : Nat
deriving DecidableEq, Repr



/-- An input of a function in one kernel (R516, R517): confirmed g, diagnostics-good d, and the frame periods over which
every good subframe has carried the other value. -/
structure KIn where
  g : Bool
  d : Bool
  run : Nat
deriving DecidableEq, Repr

/-- A function in one kernel (R518, R519). -/
structure KFn where
  st : Nat
  cause : Nat
  /-- the cause by which it left RUN; a fault has come since the last RUN -/
  leave : Nat
  fsr : Bool
  /-- kernel cycles of the discrepancy timers; TWO_HAND: the first hand and the synchronism timer -/
  d1 : Nat
  d2 : Nat
  first : Nat
  sync : Nat
  ins : Vector KIn 4
deriving DecidableEq, Repr

/-- An output of a pair as one kernel sees it (R522): readback, frame periods since the command changed, of readback 0
without a break, and since the latest readback 0. -/
structure KOut where
  rb : Bool
  since : Nat
  dark : Nat
  light : Nat
deriving DecidableEq, Repr

/-- An output pair in one kernel (R521–R523). -/
structure KPair where
  cmd : Bool
  /-- kernel cycles left of an SS1-t delay -/
  ss1 : Option Nat
  inter : Bool
  pf : Bool
  cause : Nat
  /-- kernel cycles since the last test request, and a request in the subframe buffer -/
  test : Nat
  req : Bool
  a : KOut
  b : KOut
  diff : Nat
  /-- the latest change of the command came from the end of an SS1-t delay -/
  timed : Bool
deriving DecidableEq, Repr

/-- A safety kernel (R508–R526). -/
structure Kern where
  /-- its own copy of the SAFETY body -/
  sec : Option Bytes
  life : Vector (Option Nat) 8
  miss : Vector Bool 8
  fns : Vector KFn 16
  pairs : Vector KPair 8
  /-- SAFEN as the kernel counts it, and consecutive asserted samples -/
  safen : Bool
  run : Nat
  /-- restart input: its state, seen inactive since the conditions hold, cycles of the press, units it waits for (a
  function f, or 16 + p for a pair), and the latest accepted decision with its age in cycles -/
  rst : Bool
  inact : Bool
  press : Option Nat
  units : List Nat
  dec : Option (Nat × List Nat)
  /-- consecutive comparisons in which a function, or a pair, differs from the other kernel (R511) -/
  cmpF : Vector Nat 16
  cmpP : Vector Nat 8
deriving DecidableEq, Repr

/-- Both kernels and what they share with the hub (R30, R112, R527). -/
structure SafSt where
  ka : Kern
  kb : Kern
  armed : Bool
  /-- functions that have been in RUN and have not been reported as left, as a bit set -/
  runs : Nat
  /-- SAFEN as last reported -/
  view : Bool
  /-- an acknowledge has been counted in this SK-A cycle (R532) -/
  acked : Bool
  /-- the SAFEN land (R53) -/
  pin : Bool
  /-- LAST_CAUSE, LAST_UNIT and LAST_IS_PAIR as the kernels hold them, in 9 bits (R527) -/
  last : Nat
deriving DecidableEq, Repr

/-- The watchdog beside its registers (R550–R560). -/
structure Wdg where
  seed : Nat
  /-- ticks until the window opens, and until the boot window closes -/
  openLeft : Nat
  bootLeft : Nat
  /-- the defaults take effect at the next challenge (R550) -/
  defDue : Bool
  /-- the current challenge is the first since the reset -/
  first : Bool
deriving DecidableEq, Repr

/-- A host cycle on the LPB that is in progress (R157–R160, R174). -/
structure LpbCyc where
  read : Bool
  /-- the aperture offset; in the native window, the offset from NATIVE_OFF as decoded at the cycle's start -/
  off : Nat
  /-- the enabled lanes of the access -/
  lo : Bool
  hi : Bool
  /-- where it was decoded: 0 native window, 1 register record, 2 unmapped offset, 3 default personality window -/
  kind : Nat
  /-- the number of the register record -/
  reg : Nat
  acked : Bool
  /-- LD as a read drives it -/
  out : Nat
deriving DecidableEq, Repr

/-- A posted LPB write (R175). -/
structure LpbWrite where
  off : Nat
  lo : Bool
  hi : Bool
  kind : Nat
  reg : Nat
  data : Nat
deriving DecidableEq, Repr

/-- An interrupt line with a personality record (R177). -/
structure LpbIrq where
  on : Bool
  cond : Bool
deriving DecidableEq, Repr

/-- The LPB port and the personality store (R156–R179). -/
structure LpbSt where
  naddr : Word
  /-- staged bytes of NADDR and of NDATA; none is a byte that has not been staged since reset (R119, R164) -/
  nLo : Option Nat
  nHi : Option Nat
  dLo : Option Nat
  dHi : Option Nat
  /-- NADDR has staged lower bits that are not committed -/
  nFull : Bool
  /-- the NADDR with which NDATA bits were staged since the last commit (R165) -/
  dAt : Option Word
  /-- the latch of the latest NDATA read, and whether NADDR has changed since it was taken (R164) -/
  latch : Option Word
  moved : Bool
  q : List LpbWrite
  cyc : Option LpbCyc
  /-- the personality store by record number: stored values, accumulated bits, pointers (R169) -/
  pers : List (Nat × Nat)
  /-- previous source bits of RC and W1C registers (R170) -/
  prev : List (Nat × Nat)
  /-- group snapshots by TARGET (R169) -/
  snaps : List (Nat × Word)
  irq : Vector LpbIrq 4
  /-- the vector that the latest interrupt-acknowledge cycle was given -/
  vec : Option Nat
deriving DecidableEq, Repr

/-- The Sluice engine as bus master (R180, R304). -/
structure TenSt where
  /-- 0 idle, 1 LBREQN asserted, 2 grant seen, 3 tenure held -/
  phase : Nat
  /-- the stream served, and the one served last in the rotation -/
  stream : Fin 8
  /-- words moved in the tenure, and data words that the bucket still allows in it (R296) -/
  moved : Nat
  allow : Nat
  /-- words of a descriptor read so far; word 2 of a return is written, and the LOST_BEFORE that it gave -/
  desc : List Word
  ret : Option Bool
  /-- the latest master cycle: a write, its host byte address and its word (R182) -/
  cyc : Option (Bool × Nat × Word)
  /-- words that streams wrote to host memory as they were last stopped at p1 or DEEP t1: address and word (R301, R306) -/
  burst : List (Nat × Word)
deriving DecidableEq, Repr

/-- What the status byte reports of one frame (R207). -/
structure SpiFlags where
  refused : Bool
  crcErr : Bool
  ovf : Bool
  ferr : Bool
  lost : Bool
deriving DecidableEq, Repr

/-- The SPI port (R202–R208). -/
structure SpiSt where
  active : Bool
  /-- the frame is served, and not NOT_READY -/
  served : Bool
  gotCmd : Bool
  rd : Bool
  inc : Bool
  crc : Bool
  addr : Nat
  /-- an auto-increment has passed 0xFFFFF (R637) -/
  past : Bool
  count : Nat
  fetched : Nat
  /-- positions of a read frame that have ended after position 0 -/
  ends : Nat
  /-- the rest of the frame is ignored or discarded -/
  dead : Bool
  cur : SpiFlags
  prev : SpiFlags
  /-- the words of the frame on SDO by position; 0x000000 past them (R204) -/
  out : List Word
deriving DecidableEq, Repr

/-- The Modbus server (R209–R216). -/
structure ModSt where
  /-- GW_NADDR -/
  gw : Word
  /-- an answer that waits for t3.5, and the one sent last -/
  answer : Option Bytes
  sent : Bytes
deriving DecidableEq, Repr

/-- The resources of R625: what was in deficit in this millisecond, and consecutive checks in deficit. -/
structure LoadSt where
  now : Nat
  runs : Vector Nat 7
deriving DecidableEq, Repr

/-- The test access port (R639–R646). -/
structure TapSt where
  /-- the instruction in force -/
  ir : Nat
  /-- the boundary register's update stage, and what Capture-DR took -/
  bnd : Nat
  bcap : Nat
  /-- the island select register, and the captured island scan register -/
  sel : Nat
  icap : Nat
  /-- the register words as the lands came under test: what differs from them afterwards is undefined (R643) -/
  before : Option (List (Nat × Word))
  /-- what the instruction register's latest Capture-IR took (R640) -/
  irc : Nat
  /-- what Capture-DR takes into the device ID register, or into the bypass register, once its instruction is in force
  (R640, R641) -/
  idr : Nat
deriving DecidableEq, Repr

/-- The machine: every register, queue, store and mode the manual names, and the commands that wait. -/
structure State where
  /-- commands waiting, first in first out (the block's own queue) -/
  pending : List Instr
  /-- the device state (R16) -/
  dev : Dev
  /-- native register words that differ from their reset value, by address (R629) -/
  regs : List (Nat × Word)
  /-- snapshots of higher words: accessor, address, word (R8, R633) -/
  snaps : List (Port × Nat × Word)
  /-- accessors whose EDDY_PAGE is 1 (R426) -/
  eddyPage : List Port
  /-- Eddy words that are not 0x000000, by Eddy word address (R426) -/
  eddy : List (Nat × Word)
  /-- ring time (R250) -/
  time : RingTime
  /-- microseconds counted since t1 of the boot (R108, R110) -/
  upUs : Nat
  /-- the model's own counter of free values (log entry 4) -/
  fresh : Nat
  hold : HoldSt
  sleep : SleepSt
  role : RoleSt
  cfg : CfgSram
  pitch : PitchSt
  repitch : RepitchSt
  /-- length in bytes of the image that the ring has staged in Eddy (R134) -/
  ringImg : Option Nat
  evt : EvtSt
  streams : Vector Stream 8
  log : LogSt
  mbx : List (Port × Mailbox)
  /-- ring nodes that hold a result slot (R584) -/
  slots : List Nat
  mss : MssSt
  flash : Flash
  ember : EmberSt
  ring : RingSt
  isls : Vector Isl 8
  chans : Vector Chan 32
  filts : Vector Filt 32
  capts : Vector Capt 16
  axes : Vector Axis 8
  /-- ledgers of the channels and of the islands -/
  leds : Vector Led 32
  iLeds : Vector Led 8
  /-- user coefficient sets 0–7 in force, and the load buffer -/
  sets : List (Nat × UserSet)
  coefBuf : List (Nat × Nat)
  saf : SafSt
  wdg : Wdg
  lpb : LpbSt
  ten : TenSt
  spi : SpiSt
  mod : ModSt
  load : LoadSt
  tap : TapSt
deriving DecidableEq, Repr

/-- A stream at reset (R306). -/
def Stream.reset : Stream := ⟨none, 7, false, false, 0, 0, [], [], false⟩

/-- The event controller at reset: every bucket full (R295). -/
def EvtSt.reset : EvtSt :=
  ⟨[], .replicate 8 64000, .replicate 8 1024000, .replicate 8 false, .replicate 8 false,
    .replicate 8 0, .replicate 8 0⟩

/-- The RING configuration in force until p5 and without a RING section (R271). -/
def ringDefault : Bytes :=
  [0xFF, 0x03, 0x01, 16, 0xE8, 0x03, 8, 2, 0, 0, 0, 0, 0x00, 0x00, 0x0E, 0x00, 0xF0, 0x0D, 0x00, 0x10, 0x00,
    0, 0, 0, 0, 0, 0, 0, 0, 0, 0, 0]

/-- No delay measured. -/
def DlySt.reset : DlySt := ⟨false, 0, 0, 0, false, 0⟩
/-- The ring controller at reset. -/
def RingSt.reset : RingSt where
  forward := false
  tx := []
  seqNo := 0
  conf := ringDefault
  pdConf := ringDefault
  cycleNo := none
  cycAt := 0
  markPhase := 0
  rateErr := 0
  pllErr := 0
  frozen := false
  lockRun := 0
  changed := false
  censusDue := false
  sinceCensus := 0
  censusPass := 0
  firstPos := 0
  entries := []
  layout := []
  layoutNew := []
  layoutDue := false
  bindsDue := none
  assignDue := none
  assignLast := false
  slotSize := 0
  slotOff := 0
  pdLost := false
  pdRefused := false
  slotOut := ⟨0, 0, 0, 0, 0, []⟩
  evtQ := []
  evtWr := 0
  evtUnread := []
  sendQ := []
  filled := 0
  relayQ := []
  bulkTx := none
  bulkRx := none
  mbxWait := []
  armed := none
  stepped := false
  syncT := 0
  syncGroups := 0
  dlyE := .reset
  dlyW := .reset
  stableE := false
  stableW := false
  skip := 0
  imgReq := false
  unwrapReq := false
  unwrapDue := false
  placed := false
  tMin := 250
  waiting := []
  fixedId := 0
  imgSlot := 0xFF

/-- A boot control record as a module leaves manufacture in this model (log entry 6). -/
def BootCtl.factory : BootCtl := ⟨0, 2, 0, 0, 0, 0, false⟩

/-- Settings that have never been written (R583, R603). -/
def Settings.none : Settings := ⟨0, [], Option.none, Option.none, [], []⟩

/-- A downlink frame that commands nothing. -/
def DnFrame.idle : DnFrame :=
  ⟨0, 0, 0, false, .replicate 4 0, .replicate 4 false, .replicate 4 false, .replicate 4 false, 0, 0, 0, 0, 0, 0, 0, 0, 0⟩
/-- A cell of an island that has just been supplied (R319). -/
def Sinc.reset : Sinc := ⟨0, 0, 0, 0, 0, 0, 0⟩
def PulseCnt.reset : PulseCnt := ⟨0, [], true, false, 0, false⟩
def Cell.reset : Cell :=
  ⟨0, 0, 0xFF, 0, .replicate 5 0, false, false, 0, 0, 0, 0, false, false, false, false, false, false, 0, false, false, 0,
    false, false, false, 0, false, 0, false, false, 0, 0, false, false, .reset, none, .reset⟩
/-- An island without supply, and its link at the hub (R319, R338). -/
def Isl.reset : Isl :=
  ⟨false, 0, false, 0, false, false, false, 0, 0, 0, 0, 0, true, .idle, 0, 0, 0, none, false, 0, false, 0, 0, 0, 0, 0, 0, 0,
    false, false, 0, false, 0, [], none, false, 3, 3, 0, false, false, none, false, false, 0, none, false, false, 0, none,
    none, 0, .replicate 4 .reset, false, false, none, none, none⟩
/-- A channel at reset. -/
def Chan.reset : Chan := ⟨none, [], 0, 0, 0, false, 0, 0, none, [], [], none, none, []⟩
/-- A filter chain at reset. -/
def Filt.reset : Filt := ⟨[], [], [], [], 0, 0, 0, 0, 0, 0, 0, 0⟩
/-- A capture sequence at reset (R434). -/
def Capt.reset : Capt := ⟨[], 0, 0, 0, 0, 0, 0, false, false, false, none, 1, [], 0⟩
/-- An axis at reset (R485). -/
def Axis.reset : Axis :=
  ⟨none, 0, false, [], 0, false, false, 0, false, false, 0, 0, 0, [], 0, none, some 0, none, 0, [], 0⟩
/-- An empty ledger scope (R496). -/
def Led.reset : Led := ⟨0, [], [], 0, 0, 0, 0, 0⟩

/-- A kernel after a reset: nothing armed, every pair off (R105, R112). -/
def KFn.reset : KFn := ⟨7, 0, 0, false, 0, 0, 0, 0, .replicate 4 ⟨false, true, 0⟩⟩
def KOut.reset : KOut := ⟨false, 0, 0, 0⟩
def KPair.reset : KPair := ⟨false, none, false, false, 0, 0, false, .reset, .reset, 0, false⟩
def Kern.reset : Kern :=
  ⟨none, .replicate 8 none, .replicate 8 true, .replicate 16 .reset, .replicate 8 .reset, false, 0, false, false, none, [],
    none, .replicate 16 0, .replicate 8 0⟩
def SafSt.reset : SafSt := ⟨.reset, .reset, false, 0, false, false, false, 0⟩
/-- The watchdog at t1: the boot window of 10 s (R553). -/
def Wdg.reset : Wdg := ⟨0, 0, 10000000, false, true⟩

/-- The LPB port at reset: NADDR 0, which the manual does not give (log entry 71), and the staging bytes unspecified (R119,
R164; log entry 4). -/
def LpbSt.reset : LpbSt :=
  ⟨0, none, none, none, none, false, none, none, false, [], none, [], [], [], .replicate 4 ⟨false, false⟩, none⟩
def TenSt.reset : TenSt := ⟨0, 7, 0, 0, [], none, none, []⟩
def SpiFlags.none : SpiFlags := ⟨false, false, false, false, false⟩
def SpiSt.reset : SpiSt :=
  ⟨false, false, false, false, false, false, 0, false, 0, 0, 0, false, .none, .none, []⟩
/-- The Modbus server at reset; its settings stand in MOD_CFG. -/
def ModSt.reset : ModSt := ⟨0, none, []⟩
def LoadSt.reset : LoadSt := ⟨0, .replicate 7 0⟩
/-- Test-Logic-Reset: IDCODE is selected (R639). -/
def TapSt.reset : TapSt := ⟨2, 0, 0, 0, 0, none, 1, 0x1328074B⟩
/-- The default roles of R195. -/
def RoleSt.reset : RoleSt := ⟨none, 3, 3, 3, 1, [(0, 3)]⟩
def SleepSt.reset : SleepSt := ⟨.unpitched, 0, .lpb, 0⟩
def CfgSram.reset : CfgSram := ⟨none, [], false, [], [], false, none, []⟩
def PitchSt.idle : PitchSt := ⟨.idle, false, 0, none, 0⟩
def RepitchSt.idle : RepitchSt := ⟨0, 0, 0, none, false⟩
/-- The log's buffer and buckets after reset (R576). -/
def LogSt.reset : LogSt := ⟨128000000, 64000000, [], [], 0, 0⟩
/-- The MSS before its firmware starts (R566, R595). -/
def MssSt.reset : MssSt :=
  ⟨.none, false, none, none, none, 0, [], false, 0, false, .replicate 24 0, .replicate 24 0, false, false⟩
/-- The flash of a module whose stores are empty (log entry 6). -/
def Flash.empty : Flash :=
  ⟨[], [], 0, ⟨none, none⟩, ⟨none, none⟩, ⟨none, none⟩, [], [], [], [], 0, [none, none, none, none], []⟩
/-- An Ember domain whose content is not valid, after the boot counter's first increment (R606). -/
def EmberSt.reset : EmberSt :=
  ⟨false, true, false, false, true, 0, 0, 0, false, 0, false, false, 1, 0, 1, false, none, .replicate 8 none, [], 0⟩
/-- No reset cause holds the hub, which was released after POWER_ON; the island transfers start with ISL0 (R74, R105). -/
def HoldSt.released : HoldSt := ⟨false, 1, false, true, 0⟩

/-- The first challenge after a reset, with SEQ 1 (R551). -/
def firstChallenge (boots : Nat) : Word :=
  let x0 := (boots % 65536) ^^^ 0xACE1
  let x := if x0 = 0 then 0xACE1 else x0
  let bit := (x ^^^ (x >>> 2) ^^^ (x >>> 3) ^^^ (x >>> 5)) % 2
  BitVec.ofNat 24 ((x >>> 1) + bit * 32768 + 65536)

/-- The machine right after a POWER_ON reset, at t1 of the boot timeline, with empty stores in flash and no valid Ember
content: every register at its reset value, but SYS_CAUSE (POWER_ON) and WDG_CHAL, which the reset itself determines
(R11, R105, R106, R551). -/
def State.reset : State where
  pending := []
  dev := .boot
  regs := [(0x00002, 0x000001), (0x00400, firstChallenge 1)]
  snaps := []
  eddyPage := []
  eddy := []
  time := 0
  upUs := 0
  fresh := 0
  hold := .released
  sleep := .reset
  role := .reset
  cfg := .reset
  pitch := .idle
  repitch := .idle
  ringImg := none
  evt := .reset
  streams := .replicate 8 .reset
  log := .reset
  mbx := []
  slots := []
  mss := .reset
  flash := .empty
  ember := .reset
  ring := .reset
  isls := .replicate 8 .reset
  chans := .replicate 32 .reset
  filts := .replicate 32 .reset
  capts := .replicate 16 .reset
  axes := .replicate 8 .reset
  leds := .replicate 32 .reset
  iLeds := .replicate 8 .reset
  sets := []
  coefBuf := []
  saf := .reset
  wdg := .reset
  lpb := .reset
  ten := .reset
  spi := .reset
  mod := .reset
  load := .reset
  tap := .reset

/-- Why the machine stops with a fault. -/
inductive Fault where
  /-- A command whose operands no sender can form (WellFormed). No meaning raises it: each takes such an operand cut to its
  field (log entry 57). Safe: the hardware never receives such a command. -/
  | illFormed
deriving DecidableEq, Repr

/-- Why a command has no meaning. -/
inductive Refusal where
  /-- Answered by an arm of exec whose command has no meaning yet; there is none such (log entry 57). Safe: nothing can be
  proved of such a command. -/
  | notModelled (mnemonic : String)
deriving DecidableEq, Repr

/-- What a command answers. -/
abbrev Res := Host.Outcome State Fault Refusal

end Sys2Proof.Machine
end

