-- ==== Sys2Proof/Machine/Image.lean ====
section
/-!
DEFINITION. The byte layout of a Cleanir image and steps 1 to 5 of its verification (R123–R131).
-/
namespace Sys2Proof.Machine

/-- Little-endian number of `n` bytes at an offset (R123). -/
def uAt (bs : Bytes) (off n : Nat) : Nat := leNat ((bs.drop off).take n)
/-- The byte at an offset, 0 beyond the end. -/
def u8 (bs : Bytes) (off : Nat) : Nat := uAt bs off 1
def u16 (bs : Bytes) (off : Nat) : Nat := uAt bs off 2
def u24 (bs : Bytes) (off : Nat) : Nat := uAt bs off 3
def u32 (bs : Bytes) (off : Nat) : Nat := uAt bs off 4
/-- Signed 24-bit number at an offset. -/
def s24 (bs : Bytes) (off : Nat) : Int := (BitVec.ofNat 24 (u24 bs off)).toInt
/-- Part of a byte string. -/
def slice (bs : Bytes) (off n : Nat) : Bytes := (bs.drop off).take n
/-- Whether the bytes [off, off + n) are all 0x00. -/
def zeros (bs : Bytes) (off n : Nat) : Bool := (slice bs off n).all (· == 0)

/-- The rejection codes of R132. -/
abbrev rejMagic : Nat := 0x01
abbrev rejFormat : Nat := 0x02
abbrev rejHeaderCrc : Nat := 0x03
abbrev rejLength : Nat := 0x04
abbrev rejTarget : Nat := 0x05
abbrev rejRange : Nat := 0x06
abbrev rejMinFw : Nat := 0x07
abbrev rejDirectory : Nat := 0x08
abbrev rejMissing : Nat := 0x09
abbrev rejUnknown : Nat := 0x0A
abbrev rejSecCrc : Nat := 0x0B
abbrev rejDigest : Nat := 0x0C
abbrev rejKey : Nat := 0x0D
abbrev rejSignature : Nat := 0x0E
abbrev rejTooLarge : Nat := 0x0F
abbrev rejContent : Nat := 0x10
abbrev rejPower : Nat := 0x11
abbrev rejPlacement : Nat := 0x12
abbrev rejOwner : Nat := 0x13
abbrev rejEnvelope : Nat := 0x14
abbrev rejCoeff : Nat := 0x15
abbrev rejNoSupervisor : Nat := 0x16
abbrev rejSpcDeclared : Nat := 0x17
abbrev rejSafetyCell : Nat := 0x18
abbrev rejScope : Nat := 0x19
abbrev rejRepSafety : Nat := 0x1A
abbrev rejReferenced : Nat := 0x1B
abbrev rejState : Nat := 0x1C
abbrev rejBusy : Nat := 0x1D
abbrev rejReadback : Nat := 0x1E
abbrev rejScrub : Nat := 0x1F
abbrev rejIslandLost : Nat := 0x20
abbrev rejAborted : Nat := 0x21
abbrev rejSpcMismatch : Nat := 0x22
abbrev rejProtected : Nat := 0x23

/-- Section tags of R126. -/
abbrev tagPorts : Nat := 0x0001
def tagIsland (i : Nat) : Nat := 0x0010 + i
abbrev tagCoeff : Nat := 0x0020
abbrev tagAxes : Nat := 0x0030
abbrev tagPers : Nat := 0x0040
abbrev tagModbus : Nat := 0x0041
abbrev tagEvents : Nat := 0x0050
abbrev tagEnergy : Nat := 0x0060
abbrev tagRing : Nat := 0x0070
abbrev tagWdg : Nat := 0x0080
abbrev tagSafety : Nat := 0x00A0
abbrev tagNote : Nat := 0x00F0

/-- The SEC_FLAGS of a known tag (R126). -/
def secFlags (tag : Nat) : Option Nat :=
  if tag = tagNote then some 0
  else if tag = tagSafety then some 7
  else if tag = tagPorts ∨ (0x10 ≤ tag ∧ tag ≤ 0x17) ∨ tag = tagCoeff ∨ tag = tagAxes ∨ tag = tagPers ∨
      tag = tagModbus ∨ tag = tagEvents ∨ tag = tagEnergy ∨ tag = tagRing ∨ tag = tagWdg then some 3
  else none

/-- The directory entries of an image (R125). -/
def readDir (bs : Bytes) : Nat → Nat → List DirEntry
  | 0, _ => []
  | n + 1, o =>
    ⟨u16 bs o, u8 bs (o + 2), u8 bs (o + 3), u32 bs (o + 4), u32 bs (o + 8), u32 bs (o + 12)⟩ ::
      readDir bs n (o + 16)

/-- Step 1 of R131: the header, in the order of its list; the first failing check's code. -/
def checkHeader (bs : Bytes) (islands fwMajor fwMinor : Nat) : Option Nat :=
  let len := u32 bs 0x08
  let sig := u32 bs 0x1C
  if slice bs 0 4 ≠ [0x43, 0x4C, 0x4E, 0x52] then some rejMagic
  else if u8 bs 4 ≠ 1 then some rejFormat
  else if u16 bs 6 ≠ 0x40 then some rejMagic
  else if u32 bs 0x2C ≠ crc32 (bs.take 0x2C) then some rejHeaderCrc
  else if ¬ (zeros bs 0x0F 1 ∧ zeros bs 0x13 1 ∧ zeros bs 0x25 7 ∧ zeros bs 0x30 16) ∨ 4 ≤ u16 bs 0x16 then
    some rejFormat
  else if 0x100000 < len ∨ bs.length < len ∨ sig % 16 ≠ 0 ∨ sig + 128 ≠ len then some rejLength
  else if slice bs sig 4 ≠ [0x53, 0x49, 0x47, 0x31] ∨ ¬ (zeros bs (sig + 5) 3 ∧ zeros bs (sig + 0x68) 24) then
    some rejMagic
  else if u16 bs 0x0C ≠ 0x80 then some rejTarget
  else if u8 bs 0x0E = 0 ∨ 8 < u8 bs 0x0E ∨ islands < u8 bs 0x0E then some rejRange
  else if fwMajor < u16 bs 0x20 ∨ (fwMajor = u16 bs 0x20 ∧ fwMinor < u16 bs 0x22) then some rejMinFw
  else none

/-- Whether sections follow one another without overlap from `o` up to `top` (R125). -/
def dirLaidOut (top : Nat) : List DirEntry → Nat → Bool
  | [], o => decide (o ≤ top)
  | e :: es, o =>
    decide (o ≤ e.off) && decide (e.off % 16 = 0) && decide (e.len % 16 = 0) && decide (16 ≤ e.len) &&
      dirLaidOut top es (e.off + e.len)

/-- Whether a relation holds of neighbours. -/
def chain (r : Nat → Nat → Bool) : List Nat → Bool
  | a :: b :: l => r a b && chain r (b :: l)
  | _ => true

/-- Step 2 of R131: the directory, in the order of its list. -/
def checkDir (bs : Bytes) : Option Nat :=
  let n := u16 bs 0x14
  let es := readDir bs n 0x40
  let tags := es.map (·.tag)
  if u32 bs 0x18 ≠ 0x40 ∨ n = 0 ∨ 32 < n then some rejDirectory
  else if ¬ chain (fun a b => decide (a ≤ b)) tags then some rejDirectory
  else if ¬ dirLaidOut (u32 bs 0x1C) es (0x40 + 16 * n) then some rejDirectory
  else if es.any (fun e => decide (8 ≤ e.flags)) then some rejDirectory
  else if es.any (fun e => match secFlags e.tag with
      | some f => decide (e.flags ≠ f)
      | none => false) then some rejUnknown
  else if ¬ chain (fun a b => decide (a < b)) tags then some rejDirectory
  else if es.any (fun e => decide (secFlags e.tag = none) && e.flags.testBit 1) then some rejUnknown
  else if es.any (fun e => e.flags.testBit 1 && decide (e.ver ≠ 1)) then some rejUnknown
  else if ¬ [tagPorts, tagEvents, tagEnergy, tagWdg].all (fun t => tags.contains t) then some rejMissing
  else none

/-- Step 3 of R131 for one section: its SEC_CRC, then its header against the directory entry (R127). -/
def secOk (bs : Bytes) (e : DirEntry) : Bool :=
  let s := slice bs e.off e.len
  decide (crc32 s = e.crc) && decide (u16 s 0 = e.tag) && decide (u8 s 2 = e.ver) && decide (u8 s 3 = 0) &&
    decide (u32 s 8 + 16 = e.len) && (decide (e.tag = tagSafety) || decide (u32 s 12 = 0))

/-- The parts of an image that passed steps 1 and 2. -/
def readImage (bs : Bytes) : Image :=
  let es := readDir bs (u16 bs 0x14) 0x40
  ⟨bs.take 64, es, es.map fun e => (e.tag, slice bs e.off e.len), slice bs (u32 bs 0x1C + 8) 32⟩

/-- Steps 4 and 5 of R131: DIGEST, key presence, the signature. -/
def checkSig (bs : Bytes) (keys : List (Option PubKey)) : Option Nat :=
  let sig := u32 bs 0x1C
  let d := slice bs (sig + 8) 32
  if d ≠ sha256 (bs.take sig) then some rejDigest
  else if u8 bs 0x24 ≠ u8 bs (sig + 4) then some rejKey
  else match keys.getD (u8 bs 0x24) none with
    | none => some rejKey
    | some k =>
      if ecdsaOk k (beNat d) (beNat (slice bs (sig + 0x28) 32)) (beNat (slice bs (sig + 0x48) 32)) then none
      else some rejSignature

/-- Steps 1 to 5 of R131 over the bytes of a slot or transfer. -/
def checkOuter (bs : Bytes) (islands fwMajor fwMinor : Nat) (keys : List (Option PubKey)) : Option Nat :=
  (checkHeader bs islands fwMajor fwMinor).or <| (checkDir bs).or <|
    (if (readDir bs (u16 bs 0x14) 0x40).all (secOk bs) then none else some rejSecCrc).or <| checkSig bs keys

/-- A section of an image with its section header. -/
def Image.sec (im : Image) (tag : Nat) : Option Bytes := Sparse.find im.secs tag
/-- The body of a section: what follows its 16-byte header (R127). -/
def Image.body (im : Image) (tag : Nat) : Option Bytes := (im.sec tag).map (·.drop 16)
/-- RECORD_COUNT of a section (R127). -/
def secCount (s : Bytes) : Nat := u16 s 4
/-- RECORD_SIZE of a section (R127). -/
def secRecSize (s : Bytes) : Nat := u16 s 6
/-- IMAGE_SERIAL (R124). -/
def Image.serial (im : Image) : Nat := u24 im.header 0x10
/-- KEY_INDEX (R124). -/
def Image.keyIndex (im : Image) : Nat := u8 im.header 0x24
/-- UNCHECKED_COEFF (R124). -/
def Image.unchecked (im : Image) : Bool := (u16 im.header 0x16).testBit 1
/-- HAS_SAFETY (R124). -/
def Image.hasSafety (im : Image) : Bool := (u16 im.header 0x16).testBit 0
/-- MIN_ISLANDS (R124). -/
def Image.minIslands (im : Image) : Nat := u8 im.header 0x0E

/-- A byte string cut into records of `n` bytes, at most `k` of them. -/
def records (n : Nat) : Nat → Bytes → List Bytes
  | 0, _ => []
  | k + 1, bs => if bs.isEmpty then [] else bs.take n :: records n k (bs.drop n)

/-- The bytes of a string staged three per Eddy word, least significant byte first (R667). -/
def wordBytes (w : Word) : Bytes := leBytes 3 w.toNat

end Sys2Proof.Machine
end

