-- ==== Sys2Proof/Machine/Regs.lean ====
section
/-!
DEFINITION. The native register map of R629: every register with its fields, access codes (R10), write roles and
reset values, as the register tables of the chapters give them.
-/
namespace Sys2Proof.Machine

/-- The access codes of R10. -/
inductive Acc where
  | rw | ro | wo | w1c | rc | img
deriving DecidableEq, Repr

/-- Which values a writable field accepts (R21, R634). -/
inductive Chk where
  /-- every value -/
  | any
  /-- a diagnostic counter: 0x000000 clears it, any other value is discarded without report -/
  | counter
  /-- values up to a bound -/
  | atMost (n : Nat)
  /-- every value but one -/
  | not (n : Nat)
deriving DecidableEq, Repr

/-- One field of a register: bits [hi:lo], access code, lowest role rank that may write it (R17), accepted values. -/
structure Fld where
  hi : Nat
  lo : Nat
  acc : Acc
  role : Nat
  chk : Chk
deriving DecidableEq, Repr

/-- One register, or one register of every instance of a block: the addresses base + stride·k for k < count. -/
structure RegDef where
  base : Nat
  stride : Nat
  count : Nat
  flds : List Fld
  reset : Nat
deriving DecidableEq, Repr

/-- Field constructors, one for each access code. -/
def fRO (hi lo : Nat) : Fld := ⟨hi, lo, .ro, 0, .any⟩
def fIMG (hi lo : Nat) : Fld := ⟨hi, lo, .img, 0, .any⟩
def fRC (hi lo : Nat) : Fld := ⟨hi, lo, .rc, 0, .any⟩
def fRW (role hi lo : Nat) : Fld := ⟨hi, lo, .rw, role, .any⟩
def fRWc (role hi lo : Nat) (c : Chk) : Fld := ⟨hi, lo, .rw, role, c⟩
def fWO (role hi lo : Nat) : Fld := ⟨hi, lo, .wo, role, .any⟩
def fW1C (role hi lo : Nat) : Fld := ⟨hi, lo, .w1c, role, .any⟩

/-- A single register. -/
def one (base : Nat) (flds : List Fld) (reset : Nat) : RegDef := ⟨base, 1, 1, flds, reset⟩
/-- A 24-bit diagnostic counter (R634), writable by SUPERVISOR. -/
def counters (base stride count : Nat) : RegDef := ⟨base, stride, count, [fRWc 3 23 0 .counter], 0⟩
/-- A register whose whole word is RO. -/
def roAll (base stride count reset : Nat) : RegDef := ⟨base, stride, count, [fRO 23 0], reset⟩
/-- A register whose whole word is IMG. -/
def imgAll (base stride count reset : Nat) : RegDef := ⟨base, stride, count, [fIMG 23 0], reset⟩

/-- SYS block (R631). -/
def regsSys : List RegDef := [
  one 0x00000 [fRO 23 0] 0x328001,
  one 0x00001 [fRO 7 0] 0x000001,
  one 0x00002 [fRO 7 0, fRO 8 8, fRO 23 16] 0,
  one 0x00003 [fRO 11 0] 0x000001,
  counters 0x00004 1 1,
  one 0x00005 [fRO 23 0] 0,
  one 0x00008 [fRO 4 0, fRO 8 8] 0,
  one 0x00010 [fRO 7 0] 0,
  one 0x00011 [fW1C 3 8 0] 0,
  one 0x00018 [fRW 3 2 0] 0,
  one 0x00019 [fRO 6 0] 0x000073,
  one 0x00020 [fRW 3 14 0] 0x00000F,
  one 0x00021 [fRO 16 0] 0,
  one 0x00022 [fRO 3 0] 0,
  counters 0x00028 1 11,
  one 0x00040 [fRO 10 0] 0,
  one 0x00041 [fRO 23 0] 0,
  one 0x00042 [fRO 10 0, fRO 14 12, fRO 23 16] 0,
  one 0x00043 [fRO 23 0] 0,
  one 0x00044 [fRO 7 0] 0,
  one 0x00045 [fRO 23 0] 0,
  one 0x00046 [fRO 7 0] 0,
  one 0x00060 [fRO 16 0] 0,
  one 0x00061 [fRO 15 0] 0,
  ⟨0x00080, 1, 24, [fRO 16 0], 0⟩,
  one 0x000A0 [fRO 2 0, fRO 23 8] 0,
  counters 0x000A1 1 2,
  one 0x000A3 [fRO 23 0] 0,
  one 0x000A8 [fRO 23 0] 0,
  counters 0x000A9 1 1,
  one 0x000B0 [fRO 6 0] 0,
  one 0x000B1 [fW1C 3 6 0] 0]

/-- EVT block (R307). EVT_STAT21 and EVT_HMASK21 have bits [23:8] reserved. -/
def regsEvt : List RegDef := [
  ⟨0x00100, 1, 21, [fW1C 2 23 0], 0⟩,
  one 0x00115 [fW1C 2 7 0] 0,
  ⟨0x00120, 1, 21, [fRW 2 23 0], 0xFFFFFF⟩,
  one 0x00135 [fRW 2 7 0] 0x0000FF,
  one 0x00140 [fRO 15 0] 0,
  ⟨0x00148, 1, 8, [fIMG 4 0, fIMG 15 8], 0⟩,
  ⟨0x00150, 1, 8, [fIMG 11 0, fIMG 22 12], 0x040010⟩,
  ⟨0x00158, 1, 8, [fRO 10 0], 64⟩,
  counters 0x00160 1 8,
  one 0x00168 [fW1C 3 15 0] 0,
  ⟨0x00180, 1, 512, [fRO 14 0, fIMG 15 15, fIMG 18 16], 0⟩]

/-- WDG block (18). -/
def regsWdg : List RegDef := [
  one 0x00400 [fRO 23 0] 0x010000,
  one 0x00401 [fWO 3 23 0] 0,
  one 0x00402 [fRO 10 0] 0x000018,
  one 0x00403 [fRO 23 0] 10000000,
  one 0x00404 [fIMG 19 0] 0x0603E8,
  counters 0x00408 1 4]

/-- LPB, SPI and MOD blocks (06, 07). -/
def regsPorts : List RegDef := [
  one 0x00500 [fIMG 23 0] 0x001FFF,
  one 0x00501 [fIMG 17 0] 0,
  one 0x00502 [fIMG 21 0] 0x050510,
  one 0x00503 [fIMG 21 0] 0x05000A,
  one 0x00504 [fRO 7 0] 0,
  counters 0x00508 1 7,
  one 0x00510 [fRW 3 8 0] 0,
  one 0x00511 [fRO 23 0] 0,
  one 0x00600 [fW1C 3 4 0, fRO 5 5, fIMG 6 6] 0,
  counters 0x00608 1 4,
  one 0x00640 [fRO 13 0, fIMG 14 14, fIMG 15 15] 0x000101,
  counters 0x00648 1 5]

/-- RNG block (R272). -/
def regsRng : List RegDef := [
  one 0x00700 [fRO 14 0] 0,
  one 0x00701 [fRO 20 0] 0,
  one 0x00702 [fRO 13 0] 0,
  one 0x00703 [fRO 23 0] 0,
  one 0x00704 [fRW 3 1 0] 0,
  one 0x00705 [fRO 9 0] 0,
  ⟨0x00708, 1, 2, [fRO 3 0, fRO 23 8], 0⟩,
  roAll 0x00710 1 2 0,
  roAll 0x00712 1 1 0,
  one 0x00713 [fRO 17 0] 0,
  roAll 0x00714 1 2 0,
  ⟨0x00718, 1, 2, [fRW 3 23 0], 0⟩,
  one 0x0071A [fRW 3 7 0, fWO 3 8 8, fRO 21 9] 0,
  one 0x0071B [fRW 3 7 0] 1,
  one 0x0071C [fRW 3 23 0] 0,
  one 0x0071D [fRW 3 7 0] 0,
  one 0x0071E [fRO 9 0] 0,
  one 0x0071F [fRO 21 0] 0,
  one 0x00720 [fRO 14 0] 0,
  counters 0x00728 1 8]

/-- SLC block (R308), eight streams. -/
def regsSlc : List RegDef := [
  ⟨0x00800, 0x20, 8, [fRW 2 0 0, fWO 2 1 1], 0⟩,
  ⟨0x00801, 0x20, 8, [fRO 7 0], 0⟩,
  ⟨0x00802, 0x20, 8, [fRW 3 23 0], 0⟩,
  ⟨0x00803, 0x20, 8, [fRW 3 12 0], 0⟩,
  ⟨0x00804, 0x20, 8, [fRO 11 0], 0⟩,
  ⟨0x00805, 0x20, 8, [fRW 2 11 0], 0⟩,
  ⟨0x00806, 0x20, 8, [fIMG 9 0], 0⟩,
  ⟨0x00807, 0x20, 8, [fIMG 15 0], 0⟩,
  ⟨0x00808, 0x20, 8, [fIMG 12 0], 512⟩,
  ⟨0x00809, 0x20, 8, [fIMG 15 0], 1024⟩,
  ⟨0x0080A, 0x20, 8, [fRO 15 0], 1024⟩,
  counters 0x0080B 0x20 8,
  counters 0x0080C 0x20 8]

/-- ISLi block (10, R146, R367). -/
def regsIsl : List RegDef := [
  ⟨0x01000, 0x100, 8, [fRO 1 0, fIMG 2 2, fRO 12 3, fRO 23 16], 0x000030⟩,
  ⟨0x01001, 0x100, 8, [fRO 10 0], 0⟩,
  ⟨0x01002, 0x100, 8, [fRO 15 0], 0⟩,
  ⟨0x01003, 0x100, 8, [fRO 13 0], 0⟩,
  ⟨0x01008, 0x100, 8, [fRO 2 0, fIMG 3 3, fRO 23 4], 0⟩,
  counters 0x0100A 0x100 8,
  counters 0x0100B 0x100 8,
  counters 0x0100C 0x100 8,
  counters 0x0100D 0x100 8,
  counters 0x0100E 0x100 8,
  counters 0x0100F 0x100 8,
  ⟨0x01010, 0x100, 8, [fRO 7 0], 0⟩,
  ⟨0x01011, 0x100, 8, [fRW 2 3 0], 0⟩,
  ⟨0x01012, 0x100, 8, [fRO 11 0], 0⟩]

/-- CHnn block (11, 12). -/
def regsCh : List RegDef := [
  roAll 0x02000 0x80 32 0,
  ⟨0x02001, 0x80, 32, [fRO 4 0, fRO 15 8], 0x000001⟩,
  ⟨0x02002, 0x80, 32, [fRW 2 23 0], 0⟩,
  ⟨0x02003, 0x80, 32, [fRO 7 0], 0⟩,
  ⟨0x02004, 0x80, 32, [fRO 11 0], 0⟩,
  ⟨0x02005, 0x80, 32, [fW1C 2 11 0], 0⟩,
  ⟨0x02006, 0x80, 32, [fWO 2 0 0, fRW 2 1 1], 0⟩,
  ⟨0x02007, 0x80, 32, [fIMG 21 0], 0⟩,
  ⟨0x02008, 0x80, 32, [fIMG 2 0], 0⟩,
  imgAll 0x02009 0x80 32 0,
  roAll 0x0200A 0x80 32 0,
  roAll 0x0200B 0x80 32 0,
  counters 0x0200C 0x80 32,
  counters 0x0200D 0x80 32,
  ⟨0x0200E, 0x80, 32, [fRO 11 0], 0⟩,
  ⟨0x0200F, 0x80, 32, [fRO 15 0], 0⟩,
  ⟨0x02010, 0x80, 32, [fWO 2 23 0], 0⟩,
  ⟨0x02011, 0x80, 32, [fRO 7 0], 0⟩,
  roAll 0x02030 0x80 32 0,
  ⟨0x02031, 0x80, 32, [fRW 2 23 0], 0x800000⟩,
  ⟨0x02032, 0x80, 32, [fRW 2 23 0], 0x7FFFFF⟩,
  ⟨0x02033, 0x80, 32, [fRW 2 22 0], 0⟩,
  roAll 0x02034 0x80 32 0,
  roAll 0x02035 0x80 32 0,
  roAll 0x02036 0x80 32 0,
  imgAll 0x02037 0x80 32 0x126E97,
  imgAll 0x02038 0x80 32 0x6B851E,
  imgAll 0x02039 0x80 32 0,
  imgAll 0x0203A 0x80 32 0,
  roAll 0x0203B 0x80 32 0,
  roAll 0x0203C 0x80 32 0,
  ⟨0x0203D, 0x80, 32, [fRO 3 0], 0⟩]

/-- FLTnn block (R437) and the Eddy and coefficient registers (13). -/
def regsFlt : List RegDef := [
  roAll 0x03000 0x40 32 0,
  ⟨0x03001, 0x40, 32, [fRO 4 0, fRO 13 8, fRO 23 16], 0x000001⟩,
  roAll 0x03002 0x40 32 0,
  roAll 0x03003 0x40 32 0,
  roAll 0x03004 0x40 32 0,
  ⟨0x03005, 0x40, 32, [fRO 4 0, fRO 23 16], 0x000010⟩,
  roAll 0x03006 0x40 32 0,
  roAll 0x03007 0x40 32 0,
  ⟨0x03008, 0x40, 32, [fIMG 4 0, fRO 6 5, fIMG 15 8, fRO 21 16], 0⟩,
  ⟨0x03009, 0x40, 32, [fWO 2 0 0, fRW 3 1 1], 0⟩,
  ⟨0x0300A, 0x40, 32, [fRO 2 0, fW1C 3 15 8], 0⟩,
  counters 0x0300B 0x40 32,
  ⟨0x0300C, 0x40, 32, [fRW 2 23 0], 0x800000⟩,
  ⟨0x0300D, 0x40, 32, [fRW 2 23 0], 0x7FFFFF⟩,
  ⟨0x0300E, 0x40, 32, [fRWc 2 7 0 (.not 0)], 1⟩,
  ⟨0x03010, 0x40, 32, [fRWc 2 4 0 (.atMost 16)], 0⟩,
  roAll 0x03011 0x40 32 0,
  roAll 0x03012 0x40 32 0,
  roAll 0x03013 0x40 32 0,
  ⟨0x03014, 0x40, 32, [fRO 16 0], 0⟩,
  one 0x03C00 [fRW 1 0 0] 0,
  counters 0x03C01 1 2,
  one 0x03C03 [fRO 19 0] 0,
  one 0x03C08 [fRW 3 12 0] 0,
  one 0x03C09 [fRW 3 5 0] 0,
  one 0x03C0A [fRW 3 19 0] 0,
  one 0x03C0B [fWO 3 0 0, fRO 7 4] 0,
  one 0x03C0C [fRO 23 0] 0]

/-- CAPs block (R438), sixteen sequences. -/
def regsCap : List RegDef := [
  ⟨0x03800, 0x40, 16, [fWO 2 0 0, fWO 2 1 1, fWO 2 2 2, fRWc 2 4 3 (.not 3), fRW 2 5 5], 0x000008⟩,
  ⟨0x03801, 0x40, 16, [fRW 2 10 0], 0⟩,
  ⟨0x03802, 0x40, 16, [fRW 2 23 0], 0⟩,
  ⟨0x03803, 0x40, 16, [fRW 2 23 0], 0⟩,
  ⟨0x03804, 0x40, 16, [fRW 2 11 0, fRWc 2 23 12 (.not 0)], 0x001000⟩,
  ⟨0x03805, 0x40, 16, [fRO 3 0], 0⟩,
  ⟨0x03806, 0x40, 16, [fRO 19 0], 0⟩,
  ⟨0x03807, 0x40, 16, [fRO 15 0], 0⟩,
  ⟨0x03808, 0x40, 16, [fWO 2 7 0], 0⟩,
  counters 0x03809 0x40 16,
  counters 0x0380A 0x40 16,
  ⟨0x0380B, 0x40, 16, [fIMG 12 0], 0⟩,
  ⟨0x0380C, 0x40, 16, [fIMG 19 0], 0⟩,
  ⟨0x0380D, 0x40, 16, [fIMG 20 0], 0⟩,
  imgAll 0x0380E 0x40 16 0,
  ⟨0x0380F, 0x40, 16, [fIMG 7 0], 0⟩]

/-- POSa block (R485), eight axes. -/
def regsPos : List RegDef := [
  roAll 0x04000 0x100 8 0,
  roAll 0x04001 0x100 8 0,
  ⟨0x04002, 0x100, 8, [fRO 6 0], 0x000021⟩,
  roAll 0x04003 0x100 8 0,
  roAll 0x04004 0x100 8 0,
  ⟨0x04005, 0x100, 8, [fRO 2 0], 0x000002⟩,
  roAll 0x04006 0x100 8 0,
  roAll 0x04007 0x100 8 0xFFFFFF,
  ⟨0x04008, 0x100, 8, [fRO 6 0], 0⟩,
  ⟨0x04009, 0x100, 8, [fRO 5 0], 0⟩,
  roAll 0x0400A 0x100 8 0,
  roAll 0x0400B 0x100 8 0,
  ⟨0x0400C, 0x100, 8, [fRO 7 0], 0⟩,
  ⟨0x0400D, 0x100, 8, [fW1C 2 8 0], 0⟩,
  ⟨0x0400E, 0x100, 8, [fRO 5 0], 0⟩,
  ⟨0x0400F, 0x100, 8, [fRO 15 0], 0⟩,
  ⟨0x04010, 0x100, 8, [fWO 2 0 0, fWO 2 1 1, fRW 2 2 2], 0⟩,
  ⟨0x04011, 0x100, 8, [fRW 2 23 0], 0⟩,
  ⟨0x04012, 0x100, 8, [fWO 3 23 0], 0⟩,
  ⟨0x04013, 0x100, 8, [fWO 3 23 0], 0⟩,
  ⟨0x04014, 0x100, 8, [fRO 15 0], 0⟩,
  counters 0x04018 0x100 8,
  counters 0x04019 0x100 8,
  counters 0x0401A 0x100 8,
  counters 0x0401B 0x100 8,
  counters 0x0401C 0x100 8,
  ⟨0x04020, 0x100, 8, [fIMG 17 0], 0⟩,
  imgAll 0x04021 0x100 8 0,
  imgAll 0x04022 0x100 8 0,
  imgAll 0x04023 0x100 8 0]

/-- NRG block (R504), eight islands with four cells each. -/
def regsNrg : List RegDef := [
  ⟨0x04800, 0x40, 8, [fRO 15 0], 0⟩,
  ⟨0x04801, 0x40, 8, [fWO 3 0 0], 0⟩,
  roAll 0x04802 0x40 8 0,
  roAll 0x04803 0x40 8 0,
  roAll 0x04804 0x40 8 0,
  ⟨0x04805, 0x40, 8, [fRO 11 0], 0⟩,
  ⟨0x04806, 0x40, 8, [fRWc 3 23 0 (.atMost 0)], 0⟩,
  ⟨0x04807, 0x40, 8, [fRWc 3 23 0 (.atMost 0)], 0⟩,
  counters 0x04808 0x40 8,
  ⟨0x04820, 0x40, 8, [fIMG 15 0], 0⟩,
  imgAll 0x04821 0x40 8 0,
  imgAll 0x04822 0x40 8 0,
  imgAll 0x04823 0x40 8 0,
  imgAll 0x04824 0x40 8 0,
  imgAll 0x04825 0x40 8 0]

/-- The registers of cell `k` of the NRG block (R504). -/
def regsNrgCell (k : Nat) : List RegDef := [
  roAll (0x04810 + 4 * k) 0x40 8 0,
  roAll (0x04811 + 4 * k) 0x40 8 0,
  ⟨0x04812 + 4 * k, 0x40, 8, [fRO 5 0], 0⟩,
  ⟨0x04813 + 4 * k, 0x40, 8, [fRO 11 0], 0⟩,
  imgAll (0x04828 + 3 * k) 0x40 8 0,
  imgAll (0x04829 + 3 * k) 0x40 8 0,
  imgAll (0x0482A + 3 * k) 0x40 8 0]

/-- SAF and EMB blocks (R527, R609). -/
def regsSaf : List RegDef := [
  one 0x05000 [fRO 14 0] 0x000008,
  one 0x05001 [fIMG 13 0] 0x00001F,
  ⟨0x05010, 1, 16, [fRO 23 0], 0⟩,
  ⟨0x05020, 1, 8, [fRO 23 0], 0⟩,
  counters 0x05030 1 4,
  one 0x05400 [fRO 3 0, fW1C 3 4 4, fRO 12 5] 0,
  roAll 0x05401 1 1 0,
  one 0x05402 [fRO 17 0] 0,
  roAll 0x05403 1 1 0,
  one 0x05404 [fRO 17 0] 0,
  roAll 0x05405 1 1 0,
  ⟨0x05420, 1, 32, [fRW 3 23 0], 0⟩]

/-- The MBX block (R578), one bank per session (R577). -/
def regsMbx : List RegDef := [
  one 0x00440 [fRW 2 14 0, fRW 2 23 16] 0,
  one 0x00441 [fRO 23 0] 0,
  ⟨0x00448, 1, 64, [fRW 2 23 0], 0⟩,
  ⟨0x00488, 1, 64, [fRO 23 0], 0⟩]

/-- Whether an address is one of a definition's. -/
def RegDef.hit (d : RegDef) (a : Nat) : Bool :=
  decide (d.base ≤ a) && decide ((a - d.base) % d.stride = 0) && decide ((a - d.base) / d.stride < d.count)

/-- The definitions of the block that an address lies in (R629). -/
def blockAt (a : Nat) : List RegDef :=
  if a < 0x00100 then regsSys else if a < 0x00400 then regsEvt else if a < 0x00440 then regsWdg
  else if a < 0x00500 then regsMbx else if a < 0x00700 then regsPorts else if a < 0x00800 then regsRng
  else if a < 0x01000 then regsSlc else if a < 0x02000 then regsIsl else if a < 0x03000 then regsCh
  else if a < 0x03800 then regsFlt else if a < 0x03C00 then regsCap else if a < 0x04000 then regsFlt
  else if a < 0x04800 then regsPos
  else if a < 0x05000 then
    regsNrg ++ regsNrgCell 0 ++ regsNrgCell 1 ++ regsNrgCell 2 ++ regsNrgCell 3
  else if a < 0x05800 then regsSaf
  else if a < 0x05A00 then [⟨0x05800, 1, 512, [fRO 23 0], 0⟩]
  else []

/-- The definition of the register at an address, if the manual assigns one (R13, R629). -/
def regAt (a : Nat) : Option RegDef := (blockAt a).find? (·.hit a)

/-- The reset value of the register at an address: the tables' Reset column (R11); 0 where there is no register. -/
def resetWord (a : Nat) : Word :=
  match regAt a with
  | some d => BitVec.ofNat 24 d.reset
  | none => 0

/-- Registers whose fields are all RO although the opening line of their block does not say "write: none": the RNG block
(R272), the MBX results (R578), and ISLi_LOOP and ISLi_RUNG (10). A write to one is discarded field by field, and silently
(R21). -/
def openLine (a : Nat) : Bool :=
  (decide (0x00700 ≤ a) && decide (a < 0x00780)) || (decide (0x00488 ≤ a) && decide (a < 0x004C8)) ||
    decide (a = 0x01002) || decide (a = 0x01003)
/-- Whether no role may write the register (its opening line says "write: none", R21). -/
def RegDef.noWrite (d : RegDef) : Bool :=
  !openLine d.base && d.flds.all fun f => match f.acc with
    | .rw => false | .wo => false | .w1c => false | .ro => true | .rc => true | .img => true

end Sys2Proof.Machine
end

