-- ==== Sys2Proof/Machine/Names.lean ====
section
/-!
DEFINITION. The native addresses of the registers by the manual's names (R629).
-/
namespace Sys2Proof.Machine

abbrev SYS_CAUSE : Nat := 0x00002
abbrev SYS_BOOT : Nat := 0x00003
abbrev SYS_BOOT_DISC : Nat := 0x00004
abbrev SYS_BOOT_TIME : Nat := 0x00005
abbrev SYS_STRAPS : Nat := 0x00008
abbrev SYS_PWR_STAT : Nat := 0x00010
abbrev SYS_PWR_EVT : Nat := 0x00011
abbrev SYS_CLKCTL : Nat := 0x00018
abbrev SYS_CLKSTAT : Nat := 0x00019
abbrev SYS_WAKE_MASK : Nat := 0x00020
abbrev SYS_WAKE_CAUSE : Nat := 0x00021
abbrev SYS_SLEEP_STAT : Nat := 0x00022
def SYS_QOVF_GL (i : Fin 8) : Nat := 0x00028 + i.val
abbrev SYS_QOVF_RNGE : Nat := 0x00030
abbrev SYS_QOVF_RNGW : Nat := 0x00031
abbrev SYS_QOVF_SPI : Nat := 0x00032
abbrev SYS_IMG_STAT : Nat := 0x00040
abbrev SYS_IMG_SERIAL : Nat := 0x00041
abbrev SYS_IMG_REJECT : Nat := 0x00042
abbrev SYS_SPC_LO : Nat := 0x00043
abbrev SYS_SPC_HI : Nat := 0x00044
abbrev SYS_ROLE_SEQ : Nat := 0x00061
def SYS_SENS (n : Fin 24) : Nat := 0x00080 + n.val
abbrev SYS_CFG_STAT : Nat := 0x000A0
abbrev SYS_CFG_CE : Nat := 0x000A1
abbrev SYS_CFG_UE : Nat := 0x000A2
abbrev SYS_CFG_LAST : Nat := 0x000A3
abbrev SYS_LOG_LOST : Nat := 0x000A9
abbrev SYS_LOAD : Nat := 0x000B0
abbrev SYS_LOAD_SUST : Nat := 0x000B1
abbrev EVT_STAT0 : Nat := 0x00100
abbrev EVT_HMASK0 : Nat := 0x00120
def EVT_LCFG (k : Fin 8) : Nat := 0x00148 + k.val
def WEIR_LCFG (k : Fin 8) : Nat := 0x00150 + k.val
def WEIR_LOST (k : Fin 8) : Nat := 0x00160 + k.val
abbrev EVT_OVL : Nat := 0x00168
abbrev EVT_SRC0 : Nat := 0x00180
abbrev WDG_CHAL : Nat := 0x00400
abbrev WDG_STAT : Nat := 0x00402
abbrev WDG_LEFT : Nat := 0x00403
abbrev WDG_CFG : Nat := 0x00404
abbrev WDG_SERVICES : Nat := 0x00408
abbrev WDG_FAULTS : Nat := 0x00409
abbrev WDG_STALE : Nat := 0x0040A
abbrev WDG_REFUSED : Nat := 0x0040B
def SLC (s : Fin 8) (off : Nat) : Nat := 0x00800 + 0x20 * s.val + off
def ISL (i : Fin 8) (off : Nat) : Nat := 0x01000 + 0x100 * i.val + off
def CH (c : Fin 32) (off : Nat) : Nat := 0x02000 + 0x80 * c.val + off
def FLT (c : Fin 32) (off : Nat) : Nat := 0x03000 + 0x40 * c.val + off
def CAP (q : Fin 16) (off : Nat) : Nat := 0x03800 + 0x40 * q.val + off
def POS (a : Fin 8) (off : Nat) : Nat := 0x04000 + 0x100 * a.val + off
def NRG (i : Fin 8) (off : Nat) : Nat := 0x04800 + 0x40 * i.val + off
abbrev SAF_STAT : Nat := 0x05000

end Sys2Proof.Machine
end

