-- ==== Sys2Proof/Machine/Ops.lean ====
section
/-!
DEFINITION. The named operations over the state that the meanings share: registers and their fields, counters, Eddy,
banks of flash, the device state and the configuration in force.
-/
namespace Sys2Proof.Machine

/-- The state code of R16. -/
def Dev.code : Dev → Nat
  | .off => 0 | .boot => 1 | .unpitched => 2 | .pitching => 3 | .pitched => 4
  | .safe => 5 | .doze => 6 | .deep => 7 | .maintenance => 8

/-- The stored word of the register at an address. -/
def State.reg (s : State) (a : Nat) : Word := Sparse.get resetWord s.regs a
/-- Store a word in the register at an address. -/
def State.setReg (s : State) (a : Nat) (v : Word) : State := { s with regs := Sparse.set resetWord s.regs a v }
/-- Field [hi:lo] of a register as a number. -/
def State.fld (s : State) (a hi lo : Nat) : Nat := bitsOf (s.reg a) hi lo
/-- Store a field of a register. -/
def State.setFld (s : State) (a hi lo v : Nat) : State := s.setReg a (putBits (s.reg a) hi lo v)
/-- Bit `b` of a register. -/
def State.bit (s : State) (a b : Nat) : Bool := bitOf (s.reg a) b
/-- Store bit `b` of a register. -/
def State.setBit (s : State) (a b : Nat) (v : Bool) : State := s.setFld a b b (b2n v)
/-- One count in a 24-bit diagnostic counter, which sticks at 0xFFFFFF (R634). -/
def State.bump (s : State) (a : Nat) : State := s.setReg a (if s.reg a = 0xFFFFFF then 0xFFFFFF else s.reg a + 1)
/-- `n` counts in a 24-bit diagnostic counter. -/
def State.bumpBy (s : State) (a n : Nat) : State := s.setReg a (toWord (min 0xFFFFFF ((s.reg a).toNat + n)))
/-- One count in a field that sticks at its maximum (R634). -/
def State.bumpFld (s : State) (a hi lo : Nat) : State :=
  s.setFld a hi lo (stick (2 ^ (hi + 1 - lo) - 1) (s.fld a hi lo))
/-- The IMG bits of a register take their reset values. -/
def imgReset (a : Nat) (w : Word) : Word :=
  match regAt a with
  | some d => d.flds.foldl (fun w f =>
      if f.acc = .img then putBits w f.hi f.lo (bitsOf (resetWord a) f.hi f.lo) else w) w
  | none => w
/-- Every IMG register but the watchdog's reads as without an image (log entry 13). -/
def State.clearImg (s : State) : State :=
  ((s.regs.map (·.1)).filter fun a => decide (a ≠ WDG_CFG)).foldl (fun s a => s.setReg a (imgReset a (s.reg a))) s
/-- Store 48 bits of ring time in two registers, least significant word first (R8). -/
def State.setTime (s : State) (a : Nat) (t : RingTime) : State := (s.setReg a (lo24 t)).setReg (a + 1) (hi24 t)
/-- Apply an update when a condition holds. -/
def State.when (s : State) (c : Bool) (f : State → State) : State := if c then f s else s

/-- Update the ring controller. -/
def State.setRing (s : State) (f : RingSt → RingSt) : State := { s with ring := f s.ring }
/-- SLOT_SIZE of a RING configuration, in units of 4 bytes (R234). -/
def slotUnits (conf : Bytes) : Nat := (4 + 3 * max (u8 conf 8) (u8 conf 9) + 3) / 4

/-- A RING configuration comes into force: a slot size that changes asks for a census, and until its assignment the slot is
filled by the old map (R240, R271, R277). -/
def RingSt.newConf (r : RingSt) (c : Bytes) : RingSt :=
  if slotUnits c = slotUnits r.conf then { r with conf := c, pdConf := c } else { r with conf := c, changed := true }

/-- A resource of R625 refused, discarded, folded or withheld something in this millisecond. -/
def State.deficit (s : State) (b : Nat) : State := { s with load := { s.load with now := setBitN s.load.now b true } }

/-- The word of Eddy at a word address (R426). -/
def State.eddyAt (s : State) (a : Nat) : Word := Sparse.get (fun _ => 0) s.eddy a
/-- Store a word in Eddy. -/
def State.setEddy (s : State) (a : Nat) (w : Word) : State := { s with eddy := Sparse.set (fun _ => 0) s.eddy a w }
/-- Store words in Eddy from an address upward. -/
def State.setEddyWords (s : State) : Nat → List Word → State
  | _, [] => s
  | a, w :: ws => (s.setEddy a w).setEddyWords (a + 1) ws
/-- `n` words of Eddy from an address upward. -/
def State.eddyWords (s : State) (a n : Nat) : List Word := (List.range n).map fun k => s.eddyAt (a + k)
/-- A byte string of `n` bytes staged in Eddy from a word address (R667). -/
def State.staged (s : State) (a n : Nat) : Bytes := ((s.eddyWords a ((n + 2) / 3)).flatMap wordBytes).take n

/-- Vector update at an index. -/
def updV {α : Type} {n : Nat} (v : Vector α n) (i : Fin n) (f : α → α) : Vector α n := v.set i.val (f v[i.val]) i.isLt

/-- Whether bank 0 of a pair is the active one (R594). -/
def TwoBank.zeroActive {α : Type} (b : TwoBank α) : Bool :=
  match b.b0, b.b1 with
  | some (s0, _), some (s1, _) => decide ((s0 + 16777216 - s1) % 16777216 ≤ 8388608 ∧ s0 ≠ s1)
  | some _, none => true
  | none, _ => false
/-- The content of the active bank, if a bank is valid (R594). -/
def TwoBank.active {α : Type} (b : TwoBank α) : Option α :=
  if b.zeroActive then b.b0.map (·.2) else b.b1.map (·.2)
/-- The SEQ of the active bank. -/
def TwoBank.seq {α : Type} (b : TwoBank α) : Nat :=
  ((if b.zeroActive then b.b0 else b.b1).map (·.1)).getD 0
/-- Start of a store: the inactive bank is being written and is not valid (R594). -/
def TwoBank.begin {α : Type} (b : TwoBank α) : TwoBank α :=
  if b.zeroActive then { b with b1 := none } else { b with b0 := none }
/-- MARK written: the bank that was inactive holds the new content with the next SEQ and is active (R594). -/
def TwoBank.mark {α : Type} (b : TwoBank α) (x : α) : TwoBank α :=
  let n := (b.seq + 1) % 16777216
  if b.zeroActive then { b with b1 := some (n, x) } else { b with b0 := some (n, x) }
/-- Background erase of the bank that is now inactive (R594). -/
def TwoBank.clean {α : Type} (b : TwoBank α) : TwoBank α :=
  if b.zeroActive then { b with b1 := none } else { b with b0 := none }

/-- The settings in force: those of the active bank, or none written (R603). -/
def State.settings (s : State) : Settings := s.flash.settings.active.getD Settings.none
/-- The default of a setting (R583). -/
def settingDefault (id : Nat) : Nat := if id = 1 ∨ id = 2 then 1 else if id = 0x12 then 0xFF else 0
/-- The value of a setting in force (R583). -/
def State.setting (s : State) (id : Nat) : Nat := (Sparse.find s.settings.vals id).getD (settingDefault id)
/-- The calibration entries in force (R604). -/
def State.calTable (s : State) : List CalEntry := s.flash.calib.active.getD []
/-- Boot control in force (R593). -/
def State.bootCtl (s : State) : BootCtl := s.flash.ctl.active.getD BootCtl.factory

/-- The highest role of a port: 1 OBSERVER, 2 OPERATOR, 3 SUPERVISOR, 4 STEWARD (R194, R195). -/
def State.highest (s : State) : Port → Nat
  | .lpb => s.role.lpb
  | .spi => s.role.spi
  | .modbus => s.role.mod
  | .ring n => (Sparse.find s.role.nodes n).getD s.role.ring
  | .sluice => 1
  | .mss => 4
/-- The role that an access of a port carries (R196). -/
def State.roleOf (s : State) (p : Port) : Nat :=
  if p = .mss then 4 else if s.role.holder = some p then 3 else min (s.highest p) 2
/-- The HOLDER code of R200. -/
def holderCode : Option Port → Nat
  | some .lpb => 1
  | some .spi => 2
  | some .modbus => 3
  | some (.ring _) => 4
  | _ => 0
/-- HOLDER_NODE of R200. -/
def holderNode : Option Port → Nat
  | some (.ring n) => n
  | _ => 0
/-- The session number of R579. -/
def sessionNo : Port → Nat
  | .lpb => 0 | .spi => 1 | .modbus => 2 | .ring _ => 3 | .sluice => 3 | .mss => 3

/-- The section of configuration SRAM with a tag, while an image is loaded. -/
def State.section (s : State) (tag : Nat) : Option Bytes := s.cfg.img.bind (·.sec tag)
/-- A channel's island (glossary of 00). -/
def chIsl (c : Fin 32) : Fin 8 := ⟨c.val / 4, by have := c.isLt; omega⟩
/-- A channel's cell in its island. -/
def chCell (c : Fin 32) : Fin 4 := ⟨c.val % 4, by have := c.isLt; omega⟩
/-- The channel of a cell of an island. -/
def chOf (i : Fin 8) (k : Fin 4) : Fin 32 := ⟨4 * i.val + k.val, by have := i.isLt; have := k.isLt; omega⟩

/-- EXTEST, CLAMP or HIGHZ is in force: the functional inputs are inactive (R643). -/
def State.underTest (s : State) : Bool := decide (s.tap.ir = 0 ∨ s.tap.ir = 4 ∨ s.tap.ir = 5)

/-- The states in which R285 lets an event source fire. -/
def Dev.fires : Dev → Bool
  | .pitched => true | .safe => true | .doze => true
  | .off => false | .boot => false | .unpitched => false | .pitching => false | .deep => false
  | .maintenance => false
/-- The states called "Served" in R582. -/
def Dev.served : Dev → Bool
  | .unpitched => true | .pitching => true | .pitched => true | .safe => true | .doze => true
  | .maintenance => true | .off => false | .boot => false | .deep => false

end Sys2Proof.Machine
end

