-- ==== Sys2Proof/Machine/Events.lean ====
section
/-!
DEFINITION. Firing an event source: status bit, line, record and coalescing (R284–R291), and the log (R573–R576).
-/
namespace Sys2Proof.Machine

/-- The line that a source routes to (R294). -/
def State.lineOf (s : State) (src : Nat) : Fin 8 := Fin.ofNat 8 (s.fld (EVT_SRC0 + src) 18 16)
/-- A line's record destination: 0 none, 1 ring, 0x10 + n stream n (R293). -/
def State.recDest (s : State) (k : Fin 8) : Nat := s.fld (EVT_LCFG k) 15 8
/-- Whether a channel's sources are held: by a re-pitch of its island, from q1 to q4 (R285), or while the island is lost (R330,
g4). -/
def State.heldSource (s : State) (src : Nat) : Bool :=
  decide (src < 384) && (decide (2 ≤ s.repitch.phase) && decide (src / 48 = s.repitch.isl) ||
    (s.isls[src / 48]?).any (·.lost))
/-- Whether a source fires now (R285). -/
def State.canFire (s : State) (src : Nat) : Bool :=
  s.dev.fires && s.bit (EVT_SRC0 + src) 15 && !s.heldSource src

/-- Form or extend the source's pending record (R290). -/
def State.record (s : State) (src : Nat) (stamp : RingTime) (data : Word) : State :=
  let k := s.lineOf src
  let n := s.fld (EVT_SRC0 + src) 14 0
  if s.recDest k = 0 then s
  else if n = 0 then
    let r : PendRec := ⟨src, stamp, data⟩
    ({ s with evt := { s.evt with pend := s.evt.pend ++ [r] } } : State).setFld (EVT_SRC0 + src) 14 0 1
  else
    let s : State := { s with evt := { s.evt with
      pend := s.evt.pend.map fun (r : PendRec) => if r.src = src then { r with data := data } else r
      lineCoal := updV s.evt.lineCoal k fun _ => true } }
    if n < 0x7FFF then s.setFld (EVT_SRC0 + src) 14 0 (n + 1) else s.bump (WEIR_LOST k)

/-- One occurrence of a source, stamped with a given ring time: status bit and record (R286–R290). -/
def State.occur (s : State) (src : Nat) (stamp : RingTime) (data : Word) : State :=
  if s.canFire src then (s.setBit (EVT_STAT0 + src / 24) (src % 24) true).record src stamp data else s
/-- The EVENT stream that a source's pending record waits for (R290, R291). -/
def State.feeds (s : State) (src : Nat) : Option (Fin 8) :=
  let d := s.recDest (s.lineOf src)
  let k : Fin 8 := Fin.ofNat 8 (d - 0x10)
  if 0x10 ≤ d ∧ s.bit (SLC k 1) 0 ∧ s.fld (SLC k 6) 1 0 = 1 ∧ s.fld (EVT_SRC0 + src) 14 0 ≠ 0 then some k else none
/-- A stream that a record waits for: WAIT_WEIR counts as its deficit at once (R296, R297), and it needs a buffer where it has
none (R300): whether it has to set LAG. -/
def State.wantsLag (s : State) (k : Fin 8) : Bool :=
  !s.bit (SLC k 1) 1 && (s.streams[k.val]).buf.isNone && decide (s.fld (SLC k 4) 11 0 = s.fld (SLC k 5) 11 0)
def State.markDef (s : State) (k : Fin 8) : State :=
  { s with evt := { s.evt with strDef := updV s.evt.strDef k fun _ => true } }
/-- An occurrence and what follows from its record at once: a stream that needs a buffer while nothing is lent sets LAG and
fires SLUICE_LAG (R300), whose own record may need another stream; each stream sets LAG once. -/
def State.fireN : Nat → State → Nat → RingTime → Word → State
  | 0, s, src, t, w => s.occur src t w
  | n + 1, s, src, t, w =>
    let s := s.occur src t w
    match s.feeds src with
    | none => s
    | some k =>
      let s := if s.evt.strTok[k.val] < 1000 then s.markDef k else s
      if s.wantsLag k then ((s.setBit (SLC k 1) 1 true).markDef k).fireN n 469 s.time (toWord (k.val + 8)) else s
/-- One occurrence of a source, stamped with a given ring time (R286–R290, R300). -/
def State.fireAt (s : State) (src : Nat) (stamp : RingTime) (data : Word) : State :=
  if s.canFire src then s.fireN 8 src stamp data else s
/-- One occurrence of a source, stamped now (R286). -/
def State.fire (s : State) (src : Nat) (data : Word) : State := s.fireAt src s.time data

/-- The sources whose status bit, route and mask make line `k` active (R287), in one status register. -/
def State.lineInWord (s : State) (k : Fin 8) (w : Nat) : Bool :=
  (List.range 24).any fun b =>
    s.bit (EVT_STAT0 + w) b && s.bit (EVT_HMASK0 + w) b && decide (24 * w + b < 512) &&
      s.bit (EVT_SRC0 + 24 * w + b) 15 && decide (s.lineOf (24 * w + b) = k)
/-- Whether line `k` is active (R287). -/
def State.lineActive (s : State) (k : Fin 8) : Bool := (List.range 22).any (s.lineInWord k)
/-- The active lines as bits [7:0] (R203, R307). -/
def State.linesWord (s : State) : Nat :=
  (List.finRange 8).foldl (fun n k => n + b2n (s.lineActive k) * 2 ^ k.val) 0
/-- The lines with a pending record, as bits [7:0] (R307). -/
def State.pendWord (s : State) : Nat :=
  (List.finRange 8).foldl (fun n k => n + b2n (s.evt.pend.any fun r => decide (s.lineOf r.src = k)) * 2 ^ k.val) 0
/-- Whether pin `j` (0–3 LIRQN0–3, 4 SINTN) is driven by event lines (R288). -/
def State.pinByLines (s : State) (j : Nat) : Bool :=
  s.dev.fires && (List.finRange 8).any fun k => s.bit (EVT_LCFG k) j && s.lineActive k

/-- The severity that a log code carries (R573). -/
def logSev (code : Nat) : Nat :=
  if code = 0x201 ∨ code = 0x602 then 3
  else if code = 0x203 ∨ code = 0x302 ∨ code = 0x404 ∨ code = 0x501 ∨ code = 0x504 ∨ code = 0x505 ∨ code = 0x507 ∨
    code = 0x601 then 2
  else if code = 0x101 ∨ code = 0x105 ∨ code = 0x106 ∨ code = 0x301 ∨ code = 0x401 ∨ code = 0x402 ∨ code = 0x403 ∨
    code = 0x502 ∨ code = 0x503 ∨ code = 0x506 then 1
  else 0
/-- Whether a code belongs to the critical ring: classes 2, 3 and 6 (R575). -/
def logCritical (code : Nat) : Bool := decide (code / 256 = 2) || decide (code / 256 = 3) || decide (code / 256 = 6)

/-- The record that is formed now (R574). -/
def State.logForm (s : State) (code : Nat) (d0 d1 d2 : Word) : LogRec :=
  ⟨s.ember.logSeq.toNat, code, logSev code, 0, s.ember.sec, s.ember.ms, s.ember.rtcValid,
    s.ember.bootCnt.toNat % 65536, s.dev.code, d0, d1, d2⟩

/-- Whether a ring has a token and room in its part of the buffer: 96 general and 32 critical entries (R576). -/
def State.logRoom (s : State) (crit : Bool) : Bool :=
  if crit then decide (1000000 ≤ s.log.tokCrit) &&
    decide ((s.log.buf.filter fun r => logCritical r.code).length < 32)
  else decide (1000000 ≤ s.log.tokGen) &&
    decide ((s.log.buf.filter fun r => !logCritical r.code).length < 96)

/-- Put a record into the buffer, spending a token and a SEQ (R574, R576). -/
def State.logPut (s : State) (code : Nat) (d0 d1 d2 : Word) : State :=
  let r := s.logForm code d0 d1 d2
  { s with
    ember := { s.ember with logSeq := s.ember.logSeq + 1 }
    log := { s.log with
      buf := s.log.buf ++ [r]
      tokCrit := if logCritical code then s.log.tokCrit - 1000000 else s.log.tokCrit
      tokGen := if logCritical code then s.log.tokGen else s.log.tokGen - 1000000 } }

/-- Raise REPEAT of the first buffered record with a code and DATA0 (R574, R576). -/
def foldLog (code : Nat) (d0 : Word) : List LogRec → List LogRec
  | [] => []
  | r :: rs =>
    if r.code = code ∧ r.d0 = d0 then { r with rep := stick 63 r.rep } :: rs else r :: foldLog code d0 rs

/-- The MSS writes a log record: buffered, folded into a buffered one, or lost and counted (R576). A halted MSS writes
none (R566), nor does one that DEEP has stopped (R90), and what arises before the firmware runs is written at t3 (R573). -/
def State.logRec (s : State) (code : Nat) (d0 d1 d2 : Word) : State :=
  if s.mss.halted ∨ s.sleep.phase = 4 ∨ s.sleep.phase = 5 then s
  else if s.mss.run = .none then { s with log := { s.log with late := s.log.late ++ [(code, d0, d1, d2)] } }
  else if s.logRoom (logCritical code) then s.logPut code d0 d1 d2
  else if s.log.buf.any (fun r => decide (r.code = code ∧ r.d0 = d0)) then
    ({ s with log := { s.log with buf := foldLog code d0 s.log.buf } } : State).deficit 4
  else (({ s with log := { s.log with
    lostCrit := if logCritical code then s.log.lostCrit + 1 else s.log.lostCrit
    lostGen := if logCritical code then s.log.lostGen else s.log.lostGen + 1 } } : State).deficit 4).bump SYS_LOG_LOST

end Sys2Proof.Machine
end

