-- ==== Sys2Proof/Machine/Frames.lean ====
section
/-!
DEFINITION. The bytes of the ring's frames: header, payloads by type, CRC-32 (R231–R238, R252, R263, R269).
-/
namespace Sys2Proof.Machine

/-- A byte string cut, or padded with zeros, to a length. -/
def padTo (n : Nat) (bs : Bytes) : Bytes := (bs ++ List.replicate n 0).take n
/-- The bytes of words, three each, least significant first (R263). -/
def wordsBytes (ws : List Word) : Bytes := ws.flatMap wordBytes
/-- The words of a byte string, three bytes each (R263). -/
def bytesWords : Nat → Bytes → List Word
  | 0, _ => []
  | n + 1, bs => toWord (leNat (bs.take 3)) :: bytesWords n (bs.drop 3)

/-- The data words that a slot of a size has room for, at most 62 (R234, R271). -/
def slotRoom (size : Nat) : Nat := min 62 ((4 * size - 4) / 3)
/-- A slot as the Headwater reads it from a returned PD frame (R234). -/
def pdSlotOf (node size : Nat) (bs : Bytes) : PdSlot :=
  ⟨node, u8 bs 0, u8 bs 1, u8 bs 2, u8 bs 3, bytesWords (slotRoom size) (bs.drop 4)⟩
/-- KIND of a mail (R236). -/
def mailCode : MailKind → Nat
  | .read => 1 | .write => 2 | .mailbox => 3 | .bulkOpen => 4 | .bulkAck => 5 | .bulkDone => 6 | .imageReq => 7

end Sys2Proof.Machine

namespace Sys2Proof
open Sys2Proof.Machine

/-- The payload of a CYC frame (R233). -/
def Cyc.bytes (c : Cyc) : Bytes :=
  leBytes 4 c.cycleNo ++ leBytes 6 c.tTx.toNat ++ leBytes 4 c.accDelay ++ leBytes 3 c.markOff ++ leBytes 2 c.cycleUs ++
    leBytes 1 (b2n c.changed + 2 * b2n c.unwrap + 4 * b2n c.census + 8 * b2n c.stretched)
/-- A slot of a PD frame in `size` units of 4 bytes (R234). -/
def PdSlot.bytes (p : PdSlot) (size : Nat) : Bytes :=
  padTo (4 * size) (leBytes 1 p.st0 ++ leBytes 1 p.st1 ++ leBytes 1 p.st2 ++ leBytes 1 p.st3 ++ wordsBytes p.words)
/-- An event cell (R235). -/
def EvtCell.bytes (c : EvtCell) : Bytes := leBytes 2 c.node ++ leBytes 2 0 ++ wordsBytes [c.w0, c.w1, c.w2, c.w3]
/-- A census entry (R238). -/
def EnumEntry.bytes (e : EnumEntry) : Bytes :=
  leBytes 8 e.uid ++ leBytes 2 e.reqId ++ leBytes 2 e.nodeId ++ leBytes 1 e.slotSize ++ leBytes 2 e.slotOff ++
    leBytes 1 e.status
/-- An entry that has got a node ID (R240). -/
def EnumEntry.hasId (e : EnumEntry) : Bool := !e.status.testBit 1
/-- A CYC as it is sent on, with ACC_DELAY `acc` and RING_CHANGED set or as it came (R232, R253). -/
def Cyc.onward (c : Cyc) (acc : Nat) (changed : Bool) : Cyc :=
  { c with accDelay := acc % 4294967296, changed := c.changed || changed }
/-- The payload of a MAIL frame: the mail header and 256 data bytes (R236). -/
def Mail.bytes (m : Mail) : Bytes :=
  leBytes 1 (mailCode m.kind) ++ leBytes 1 (b2n m.answer + 2 * b2n m.autoinc) ++ leBytes 2 m.tag ++ leBytes 3 m.addr ++
    leBytes 1 m.count ++ leBytes 1 m.status ++ leBytes 1 m.detail ++ leBytes 2 m.hint ++ leBytes 1 m.role ++ leBytes 3 0 ++
    padTo 256 m.data
/-- The payload of a BULK frame (R236). -/
def Bulk.bytes (b : Bulk) : Bytes :=
  leBytes 1 b.session ++ leBytes 1 (b2n b.last) ++ leBytes 3 b.ofs ++ leBytes 1 b.ws.length ++ leBytes 10 0 ++
    padTo 256 (wordsBytes b.ws)

/-- TYPE of a frame (R232); that of a frame held as raw bytes stands in them. -/
def RPay.typ : RPay → Nat
  | .cyc _ => 0x01 | .pd _ _ => 0x02 | .evt _ _ => 0x03 | .empty => 0x10 | .mail _ => 0x11 | .bulk _ => 0x12
  | .sync _ _ _ _ => 0x20 | .enum _ _ _ => 0x30 | .dly _ _ _ => 0x40 | .raw _ => 0
/-- The payload bytes of a frame (R233–R238, R252). -/
def RPay.bytes : RPay → Bytes
  | .cyc c => c.bytes
  | .pd lo slots => leBytes 2 lo ++ leBytes 2 0 ++ slots
  | .evt next cells => leBytes 2 next ++ leBytes 2 0 ++ cells.flatMap EvtCell.bytes
  | .empty => leBytes 272 0
  | .mail m => m.bytes
  | .bulk b => b.bytes
  | .sync mark edge groups seq =>
    leBytes 6 mark.toNat ++ leBytes 2 edge ++ leBytes 1 groups ++ leBytes 1 seq ++ leBytes 6 0
  | .enum first next es => leBytes 2 first ++ leBytes 2 next ++ padTo 2048 (es.flatMap EnumEntry.bytes)
  | .dly answer exch turn =>
    leBytes 1 (1 + b2n answer) ++ leBytes 1 exch ++ leBytes 2 0 ++ leBytes 4 turn ++ leBytes 8 0
  | .raw bs => bs
/-- The bytes of a frame between its SOF and its EOF or EBAD: header, payload, and the CRC-32 over both (R231). -/
def RFrame.bytes (f : RFrame) : Bytes :=
  match f.pay with
  | .raw bs => bs
  | p =>
    let h := leBytes 1 p.typ ++ leBytes 1 (b2n f.hdr.relayed) ++ leBytes 2 f.hdr.dest ++ leBytes 2 f.hdr.src ++
      leBytes 2 p.bytes.length ++ leBytes 2 f.hdr.seq ++ leBytes 2 f.hdr.aux
    let b := h ++ p.bytes
    b ++ leBytes 4 (crc32 b)

end Sys2Proof

namespace Sys2Proof.Machine

/-- SEQ of the frames that a node sends, one after the other; a frame sent out again keeps its own (R231, R267). -/
def numbered : Nat → List RFrame → List RFrame
  | _, [] => []
  | n, f :: fs =>
    if f.hdr.relayed then f :: numbered n fs
    else { f with hdr := { f.hdr with seq := n % 65536 } } :: numbered (n + 1) fs

end Sys2Proof.Machine
end

