-- ==== Sys2Proof/Machine/Mailbox.lean ====
section
/-!
DEFINITION. The mailbox: submission, the checks of t1, the end of a command (R577–R588), and the ring's answers to it.
-/
namespace Sys2Proof.Machine

/-- A mailbox that has had no command since reset (R581). -/
def Mailbox.idle : Mailbox := ⟨0, 0, 0, false, 0, [], [], none, 0, []⟩
/-- The mailbox of a session (R577). -/
def State.mbxOf (s : State) (p : Port) : Mailbox := ((s.mbx.find? fun m => m.1 = p).map (·.2)).getD Mailbox.idle
/-- Store the mailbox of a session. -/
def State.setMbx (s : State) (p : Port) (m : Mailbox) : State :=
  { s with mbx := (s.mbx.filter fun x => x.1 ≠ p) ++ [(p, m)] }
/-- The MBX_STAT word of a mailbox (R578). -/
def Mailbox.statWord (m : Mailbox) : Word :=
  toWord (m.status + m.resWords * 256 + b2n m.overrun * 32768 + m.tag * 65536)

/-- Status codes of R581. -/
abbrev stOK : Nat := 0x02
abbrev stUnknown : Nat := 0x10
abbrev stMssBusy : Nat := 0x11
abbrev stNotSupervisor : Nat := 0x12
abbrev stBadArgs : Nat := 0x13
abbrev stState : Nat := 0x14
abbrev stClaimBusy : Nat := 0x15
abbrev stClaimDenied : Nat := 0x16
abbrev stNotHolder : Nat := 0x17
abbrev stRejected : Nat := 0x18
abbrev stSleepRefused : Nat := 0x19
abbrev stVerifyFail : Nat := 0x1A
abbrev stFlashError : Nat := 0x1B
abbrev stTimeout : Nat := 0x1C
abbrev stCalLimit : Nat := 0x1D
abbrev stBusyOp : Nat := 0x1E
abbrev stAborted : Nat := 0x1F
abbrev stNoRecord : Nat := 0x20

/-- The command codes of R582. -/
def knownCmd (c : Nat) : Bool :=
  decide (c ≤ 0x07) || (decide (0x10 ≤ c) && decide (c ≤ 0x16)) || (decide (0x20 ≤ c) && decide (c ≤ 0x21)) ||
    (decide (0x30 ≤ c) && decide (c ≤ 0x32)) || (decide (0x40 ≤ c) && decide (c ≤ 0x42)) ||
    (decide (0x50 ≤ c) && decide (c ≤ 0x52)) || (decide (0x60 ≤ c) && decide (c ≤ 0x61))

/-- This node's ID on the ring: 0 for the Headwater (R239). -/
def State.nodeId (s : State) : Nat := s.fld 0x00700 14 5
/-- Queue a mail for sending; with 16 waiting there is no room (R266). -/
def State.sendMail (s : State) (m : Mail) : State :=
  if s.ring.sendQ.length < 16 then { s with ring := { s.ring with sendQ := s.ring.sendQ ++ [m] } } else s.deficit 1
/-- Answer a request of a node: status, DETAIL, HINT and data words (R236, R265). -/
def State.answerMail (s : State) (node tag : Nat) (kind : MailKind) (status detail hint : Nat) (ws : List Word) :
    State :=
  s.sendMail ⟨node, s.nodeId, kind, true, false, tag, 0, ws.length, status, detail, hint, s.roleOf (.ring node),
    wordsBytes ws⟩

/-- Result words stored in MBX_RES from word 0 up. -/
def resList (ws : List Word) : List (Nat × Word) :=
  (List.range ws.length).foldl (fun m k => Sparse.set (fun _ => 0) m k (ws.getD k 0)) []

/-- A ring session's MAILBOX mail is answered with MBX_STAT and the results (R584). -/
def State.ringMbxAnswer (s : State) (p : Port) (ws : List Word) : State :=
  match p with
  | .ring n =>
    match Sparse.find s.ring.mbxWait n with
    | some tag =>
      let s : State := { s with ring := { s.ring with mbxWait := Sparse.erase s.ring.mbxWait n } }
      s.answerMail n tag .mailbox 0 0 0 ((s.mbxOf p).statWord :: ws)
    | none => s
  | _ => s

/-- The data word of MBX_DONE (R585). -/
def mbxDoneWord (p : Port) (tag : Nat) : Word := toWord (sessionNo p + holderNode (some p) * 8 + tag * 8192)

/-- t2 of R580: the results and the final status are written and MBX_DONE fires. -/
def State.finish (s : State) (p : Port) (status : Nat) (ws : List Word) : State :=
  let m := s.mbxOf p
  let keep := match m.job with
    | some j => decide (j.code = 0)
    | none => true
  let m' : Mailbox := { m with
    status := status, resWords := ws.length, res := resList ws, job := none
    lastStatus := if keep then m.lastStatus else status
    lastRes := if keep then m.lastRes else ws }
  ((s.setMbx p m').fire 489 (mbxDoneWord p m.tag)).ringMbxAnswer p ws

/-- The data word of ROLE_CHANGE: the new HOLDER and node, and the HOLDER before (R201). -/
def roleWordOf (new old : Option Port) : Word := toWord (holderCode new + 8 * holderNode new + 8192 * holderCode old)
/-- The holder of SUPERVISOR changes: SYS_ROLE_SEQ, ROLE_CHANGE and the log (R199, R200, R573). -/
def State.setHolder (s : State) (new : Option Port) : State :=
  let w := roleWordOf new s.role.holder
  let s : State := { s with role := { s.role with holder := new } }
  ((s.bumpFld SYS_ROLE_SEQ 15 0).fire 461 w).logRec 0x303 w 0 0

/-- What R199 gives a ROLE_CLAIM or ROLE_RELEASE as it commits, 0 for another command. A claim that meets both rows, another
holder and a highest role below SUPERVISOR, is answered CLAIM_BUSY (log entry 73); one that would be granted but carries
arguments is answered BAD_ARGS (R580). -/
def State.claimStatus (s : State) (p : Port) (code n : Nat) : Nat :=
  if code = 2 then
    if s.role.holder ≠ none ∧ s.role.holder ≠ some p then stClaimBusy
    else if s.role.holder = none ∧ s.highest p ≠ 3 then stClaimDenied
    else if n ≠ 0 then stBadArgs else stOK
  else if code = 3 then
    if s.role.holder ≠ some p then stNotHolder else if n ≠ 0 then stBadArgs else stOK
  else 0
/-- The holder after a ROLE_CLAIM or ROLE_RELEASE that R199 decides so (R199, R217, R218). -/
def State.claimTake (s : State) (p : Port) (code st : Nat) : State :=
  if st ≠ stOK then s
  else if code = 3 then s.setHolder none
  else if s.role.holder = none then s.setHolder (some p) else s

/-- MBX_SUBMIT: a write of MBX_CMD that commits outside BOOT (R580 t0, R586). A code that R582 does not name is answered
UNKNOWN_CMD when the MSS takes it; ROLE_CLAIM and ROLE_RELEASE are decided here, in the order in which they commit (R199,
R217, R218). -/
def State.submit (s : State) (p : Port) (cmd : Word) (role : Nat) : State :=
  let m := s.mbxOf p
  if m.status = 1 then (s.setMbx p { m with overrun := true }).deficit 3
  else
    let code := bitsOf cmd 7 0
    let n := bitsOf cmd 14 8
    let args := (List.range n).map fun k => (Sparse.find m.args k).getD 0
    let st := s.claimStatus p code n
    let s := s.setMbx p { m with
      cmd := cmd, status := 1, resWords := 0, overrun := false, tag := bitsOf cmd 23 16, job := some ⟨code, args, role, false, st⟩ }
    if knownCmd code then s.claimTake p code st else s.finish p stUnknown []

/-- Whether a long operation runs, the background erase of its store included (R580, R594), or a store of the MSS's own
(R601). -/
def State.busyOp (s : State) : Bool := s.mss.op.isSome || decide (s.mss.erase ≠ 0) || s.mss.store.isSome
/-- Whether a pitch, re-pitch, acceptance or image store is in progress (R132, code BUSY). -/
def State.imageBusy (s : State) : Bool :=
  decide (s.pitch.phase ≠ .idle) || decide (s.repitch.phase ≠ 0) ||
    match s.mss.op with
    | some o => decide (o.code = 0x10) || decide (o.code = 0x11) || decide (o.code = 0x12) || decide (o.code = 0x14)
    | none => false
/-- The session's command waits for the end of what it has started. -/
def State.takeJob (s : State) (p : Port) : State :=
  let m := s.mbxOf p
  s.setMbx p { m with job := m.job.map fun j => { j with taken := true } }
/-- Start a long operation for a session. -/
def State.startOp (s : State) (p : Port) (j : Job) : State :=
  { s.takeJob p with mss := { s.mss with op := some ⟨p, j.code, j.args, 0⟩ } }
/-- End the long operation with a status and results. -/
def State.endOp (s : State) (status : Nat) (ws : List Word) : State :=
  match s.mss.op with
  | some o => ({ s with mss := { s.mss with op := none } } : State).finish o.port status ws
  | none => s

/-- An argument word of a job. -/
def Job.arg (j : Job) (k : Nat) : Nat := (j.args.getD k 0).toNat
/-- The index of the first missing or surplus argument, when the count is not `n` (R581). -/
def Job.count (j : Job) (n : Nat) : Option Nat := if j.args.length = n then none else some (min j.args.length n)

/-- Whether the MSS serves mailbox commands: it runs and is not halted (R566), in a state called "Served" (R582). -/
def State.mssServes (s : State) : Bool :=
  decide (s.mss.run ≠ .none) && !s.mss.halted && s.dev.served

/-- t1 of R580 for the pending command of a session, when it has the given code: the role (for all but ROLE_CLAIM and
ROLE_RELEASE), the argument count and values, the state, another long operation; then the command itself. A session
without such a pending command changes nothing. -/
def State.command (s : State) (p : Port) (code : Nat) (long : Bool) (bad : Job → Option Nat) (ok : Bool)
    (body : Job → State → State) : State :=
  match (s.mbxOf p).job with
  | none => s
  | some j =>
    if j.code ≠ code ∨ j.taken ∨ s.mssServes = false then s
    else if j.role < 3 ∧ code ≠ 2 ∧ code ≠ 3 then s.finish p stNotSupervisor []
    else match bad j with
      | some k => s.finish p stBadArgs [toWord k]
      | none =>
        if ok = false then s.finish p stState [toWord s.dev.code]
        else if long && s.busyOp then s.finish p stBusyOp []
        else body j s

/-- States of R582: served without MAINTENANCE. -/
def Dev.servedNotMaint (d : Dev) : Bool := d.served && decide (d ≠ .maintenance)
/-- UNPITCHED, PITCHED and SAFE. -/
def Dev.stable (d : Dev) : Bool := decide (d = .unpitched) || decide (d = .pitched) || decide (d = .safe)

end Sys2Proof.Machine
end

