-- ==== Sys2Proof/Machine/RingOps.lean ====
section
/-!
DEFINITION. Shared operations of the ring controller: links, time and discipline, SYNC requests, census arithmetic
(R228–R262).
-/
namespace Sys2Proof.Machine

abbrev RNG_STAT : Nat := 0x00700
abbrev RNG_POS : Nat := 0x00701
abbrev RNG_CYCLE : Nat := 0x00702
abbrev RNG_CYCNO : Nat := 0x00703
abbrev RNG_BULK : Nat := 0x00705
abbrev RNG_PATH_DLY : Nat := 0x00712
abbrev RNG_DISC : Nat := 0x00713
abbrev RNG_SYNCN_LO : Nat := 0x00714
abbrev RNG_SYNC_CMD : Nat := 0x0071A
abbrev RNG_SYNC_SEL : Nat := 0x0071B
abbrev RNG_SYNC_STAT : Nat := 0x0071E
abbrev RNG_SYNC_TALLY : Nat := 0x0071F
abbrev RNG_SYNC_EDGE : Nat := 0x00720
abbrev RNG_MAIL_BUSY : Nat := 0x0072C
abbrev RNG_PD_MISS : Nat := 0x0072D
abbrev RNG_PD_REFUSED : Nat := 0x0072E
abbrev RNG_EVT_OVF : Nat := 0x0072F
/-- RNG_LINK_E or RNG_LINK_W; `w` is the west port. -/
def RNG_LINK (w : Bool) : Nat := if w then 0x00709 else 0x00708
/-- RNG_CRC_E or RNG_CRC_W. -/
def RNG_CRC (w : Bool) : Nat := if w then 0x00729 else 0x00728
/-- RNG_LDOWN_E or RNG_LDOWN_W. -/
def RNG_LDOWN (w : Bool) : Nat := if w then 0x0072B else 0x0072A

/-- The node is the Headwater (R239). -/
def State.headwater (s : State) : Bool := s.bit RNG_STAT 0
/-- A byte of the RING configuration in force (R271). -/
def State.rcfg (s : State) (o n : Nat) : Nat := uAt s.ring.conf o n

/-- The ring ports work: the hub is not held in reset and PLL-B is locked (R80, R229). -/
def State.portsRun (s : State) : Bool :=
  decide (s.dev ≠ .off) && !s.hold.held && s.bit SYS_CLKSTAT 2
/-- The ports forward (R106, R229). -/
def State.forwards (s : State) : Bool := s.portsRun && s.ring.forward
/-- The status byte of the idle that a port sends: READY, PORT, WRAPPED, and RX_FAULT while its link is neither up nor
miswired (R227, R228, R260; log entry 77). -/
def State.idleByte (s : State) (w : Bool) : Nat :=
  b2n s.forwards + 2 * b2n w + 4 * b2n (s.bit (RNG_LINK w) 1) +
    8 * b2n (!s.bit (RNG_LINK w) 0 && !s.bit (RNG_LINK w) 2)
/-- Downstream traffic arrives at the west port, and on the east port of a node whose west hop is dead (R226, R260). -/
def State.downstream (s : State) (w : Bool) : Bool := w || s.bit (RNG_LINK true) 1
/-- The port that a frame arriving at a port leaves from, west or not: downstream output leaves east, or west where the east
hop is dead; westward traffic leaves west (R226, R260). -/
def State.outWest (s : State) (w : Bool) : Bool := if s.downstream w then s.bit (RNG_LINK false) 1 else true
/-- A frame is sent on. The Headwater takes downstream frames off the ring, as long as no other Headwater's are on it (R241,
R242). -/
def State.sendOn (s : State) (w bad : Bool) (f : RFrame) : State :=
  if s.headwater && s.downstream w && !s.bit RNG_STAT 4 then s
  else s.setRing fun r => { r with tx := [⟨s.outWest w, bad, f⟩] }
/-- Frames that this node itself sends from a port, with its next SEQ numbers (R231). -/
def State.sendFrames (s : State) (west : Bool) (fs : List RFrame) : State :=
  s.setRing fun r => { r with
    tx := (numbered r.seqNo fs).map fun f => ⟨west, false, f⟩
    seqNo := (r.seqNo + (fs.filter fun f => !f.hdr.relayed).length) % 65536 }
/-- The header of a frame that this node sends; DEST is 0xFFFF where it is for every node (R231, R252; log entry 78). -/
def State.hdr (s : State) (dest aux : Nat) : RHdr := ⟨false, dest, s.nodeId, 0, aux⟩
/-- A frame that does not fit into the receive queue of its port is discarded whole and counted (R82, R85). -/
def State.ringOvf (s : State) (w : Bool) : State := (s.bump (if w then 0x00031 else 0x00030)).fire 452 0

/-- RING_LINK with the data word of R273. -/
def State.linkEvent (s : State) (w : Bool) : State :=
  let a := RNG_LINK w
  s.fire 462 (toWord (b2n w + 2 * s.fld a 0 0 + 4 * s.fld a 1 1 + 8 * s.fld a 2 2))

/-- The sample clock's discipline is set or cleared: SYS_CLKSTAT and RNG_DISC show it (R80, R254). -/
def State.setDisc (s : State) (b : Bool) : State := (s.setBit SYS_CLKSTAT 3 b).setBit RNG_DISC 16 b
/-- SAMPLE_DISC (R254). -/
def State.disc (s : State) : Bool := s.bit SYS_CLKSTAT 3

/-- An armed SYNC ends: executed or cancelled (R258). -/
def State.syncEnd (s : State) (cancelled : Bool) : State :=
  match s.ring.armed with
  | none => s
  | some (_, _, seq) =>
    let s := s.setRing fun r => { r with armed := none, stepped := false }
    let s := (s.setFld RNG_SYNC_STAT 1 0 (if cancelled then 3 else 2)).setFld RNG_SYNC_STAT 9 2 seq
    s.fire 465 (toWord (seq + 256 * b2n cancelled))

/-- Lapse: SAMPLE_DISC and TIME_ACQ clear, the PLL-A setting is frozen and CLOCK_WARN fires; a node with both ports down
cancels its armed SYNC (R254, R274). -/
def State.discLapse (s : State) : State :=
  if s.disc || s.bit RNG_STAT 2 then
    let s := ((s.setDisc false).setBit RNG_STAT 2 false).setRing fun r => { r with lockRun := 0, frozen := true }
    let s := s.fire 451 0
    s.when (!s.bit (RNG_LINK false) 0 && !s.bit (RNG_LINK true) 0) fun s => s.syncEnd true
  else s

/-- Ring time is set in one step; an armed SYNC remembers it (R253, R258). -/
def State.stepTime (s : State) (t : RingTime) : State :=
  ({ s with time := t } : State).setRing fun r => { r with stepped := r.stepped || r.armed.isSome }

/-- Signed difference of two ring times (R250). -/
def timeDiff (a b : RingTime) : Int := (a - b).toInt

/-- The phase error of a cycle, in units of 0.25 ns, steers PLL-A while DISCIPLINE is set: lock after 16 cycles within ±20 ns,
lapse beyond ±100 ns (R254). The law by which PLL-A follows the error is not stated: the error itself is what is held. -/
def State.steer (s : State) (e : Int) : State :=
  let s := (s.setFld RNG_DISC 15 0 (BitVec.ofInt 16 e).toNat).setBit RNG_DISC 17 false
  if (s.rcfg 1 1).testBit 0 = false then s
  else if 400 < e.natAbs then s.discLapse
  else
    let n := if e.natAbs ≤ 80 then min 16 (s.ring.lockRun + 1) else 0
    (s.setRing fun r => { r with lockRun := n, pllErr := e, frozen := false }).when (decide (16 ≤ n)) fun s => s.setDisc true

/-- The sample edge at or after T, counted from its millisecond mark: marks lie at multiples of 500,000 (R254, R257). -/
def edgeOf (t : RingTime) : Nat := ((t.toNat % 500000) * 49152 + 999999) / 1000000

/-- SYNC_REQUEST: the checks of R257 in order; the STATUS and, when accepted, SEQ, EDGE and the pending T and GROUPS, which a
refused request leaves as they are (R276). -/
def State.syncRequest (s : State) : State :=
  let groups := s.fld RNG_SYNC_CMD 7 0
  let t : RingTime := (s.reg 0x00719).append (s.reg 0x00718)
  let d := timeDiff t s.time
  let refuse := fun (c : Nat) => s.setFld RNG_SYNC_CMD 12 9 c
  if s.headwater = false then refuse 0x8
  else if s.bit RNG_SYNC_CMD 21 then refuse 0x9
  else if s.disc = false then refuse 0xA
  else if groups = 0 then refuse 0xB
  else if d < (s.fld RNG_CYCLE 13 0 * 2000 + 500000 : Nat) then refuse 0xC
  else if 30000000000 < d then refuse 0xD
  else
    let seq := (s.fld RNG_SYNC_CMD 20 13 + 1) % 256
    let s := (s.setFld RNG_SYNC_CMD 12 9 0x1).setFld RNG_SYNC_CMD 20 13 seq
    let s := (s.setBit RNG_SYNC_CMD 21 true).setFld RNG_SYNC_EDGE 14 0 (edgeOf t % 24576)
    s.setRing fun r => { r with syncT := t, syncGroups := groups }

/-- t_sync of R244 in ns: the bytes of CYC, PD and EVT on the line, from those of the slots and the event cells. -/
def tSyncNs (slotBytes k : Nat) : Nat := (106 + slotBytes + 16 * k) * 20
/-- The shortest cycle of R244 in µs, from the bytes of CYC, PD and EVT and the measured loop delay (in 2 ns). -/
def tMinUs (slotBytes k loop : Nat) : Nat :=
  max 250 ((tSyncNs slotBytes k + max (4 * loop) 23840 + 10000 + 999) / 1000)
/-- The carriers of a cycle: M of R244, none that would start later than 10 µs before the next CYC behind the `extra` ns of
ENUM and SYNC (R243), and none in the last L_P + 10 µs of a cycle that asks for an unwrap (R262). -/
def carriersOf (cycUs tsync extra loop : Nat) (unwrap : Bool) : Nat :=
  let m := min ((cycUs * 1000 - tsync - 10000) / 5960) ((cycUs * 1000 - tsync - extra - 10000) / 5960 + 1)
  if unwrap then min m ((cycUs * 1000 - tsync - extra - 4 * loop - 10000) / 5960) else m

/-- The node ID that the census gives an entry: its binding, its REQ_ID, or the lowest free ID; none for a duplicate
(R240). `taken` are the IDs given so far. The model's choices (log entry 79): a bound unique ID keeps its ID also where another
node requests it, and then the other alone is a DUPLICATE; an ID that any node requests is not free. -/
def censusId (binds : List (Nat × Nat)) (es : List EnumEntry) (taken : List Nat) (e : EnumEntry) : Option Nat :=
  match Sparse.find binds e.uid with
  | some id => some id
  | none =>
    if e.reqId ≠ 0 ∧ 1 < (es.filter fun x => x.reqId = e.reqId).length then none
    else if e.reqId ≠ 0 ∧ ¬ (binds.any fun b => b.2 = e.reqId) ∧ ¬ taken.contains e.reqId then some e.reqId
    else (List.range 1024).find? fun n =>
      decide (n ≠ 0) && !(binds.any fun b => decide (b.2 = n)) && !taken.contains n &&
        !(es.any fun x => decide (x.reqId = n))

/-- The entries with their assignment of R240, in position order. `off` is the end of the slots given so far in units of 4
bytes. -/
def censusAssign (binds : List (Nat × Nat)) (es : List EnumEntry) : List EnumEntry → Nat → List Nat → List EnumEntry
  | [], _, _ => []
  | e :: rest, off, taken =>
    let fits := decide (4 + 4 * (off + e.slotSize) ≤ 65535)
    let size := if fits then e.slotSize else 0
    match censusId binds es taken e with
    | none => { e with nodeId := 0, slotSize := 0, slotOff := off, status := 3 } :: censusAssign binds es rest off taken
    | some id =>
      { e with nodeId := id, slotSize := size, slotOff := off, status := 1 + 4 * b2n (!fits) } ::
        censusAssign binds es rest (off + size) (id :: taken)

/-- The backoff hint of R110 in BOOT: 64 ms before t3, then 800 less the milliseconds since t1, at least 10. -/
def State.bootHint (s : State) : Nat := if s.mss.run = .none then 64 else max 10 (800 - s.upUs / 1000)
/-- The hint of a full receive queue: 4 × CYCLE_US rounded up to whole ms (R266). -/
def State.queueHint (s : State) : Nat := (4 * s.fld RNG_CYCLE 13 0 + 999) / 1000

/-- The first 16 data bytes of a BULK_OPEN (R269). -/
def bulkOpenBytes (session dir src dst len : Nat) : Bytes :=
  leBytes 1 session ++ leBytes 1 dir ++ leBytes 2 0 ++ leBytes 3 src ++ leBytes 3 dst ++ leBytes 3 len ++ leBytes 3 0
/-- The first 16 data bytes of a BULK_ACK (R269). -/
def bulkAckBytes (session next : Nat) : Bytes := leBytes 1 session ++ leBytes 3 0 ++ leBytes 3 next ++ leBytes 9 0
/-- The first 16 data bytes of a BULK_DONE (R269). -/
def bulkDoneBytes (session crc words : Nat) : Bytes :=
  leBytes 1 session ++ leBytes 3 0 ++ leBytes 4 crc ++ leBytes 3 words ++ leBytes 5 0

/-- The bytes of an image slot: 1 slot 0, 2 slot 1. -/
def State.slotBytes (s : State) (k : Nat) : Bytes := if k = 1 then s.flash.img0 else s.flash.img1
/-- Word `k` of what a bulk session sends (R268, R270). -/
def State.bulkWord (s : State) (b : BulkSt) (k : Nat) : Word :=
  if b.img = 0 then s.eddyAt (b.src + k) else toWord (uAt (s.slotBytes b.img) (3 * k) 3)
/-- The words of a bulk session from an offset. -/
def State.bulkWords (s : State) (b : BulkSt) (o n : Nat) : List Word :=
  (List.range n).map fun k => s.bulkWord b (o + k)
/-- A bulk session ends with a status: RNG_BULK shows it (R272). -/
def State.bulkClose (s : State) (tx : Bool) (status : Nat) : State :=
  let s := s.setRing fun r => if tx then { r with bulkTx := none } else { r with bulkRx := none }
  (s.setBit RNG_BULK (if tx then 0 else 1) false).setFld RNG_BULK 9 2 status

end Sys2Proof.Machine
end

