-- ==== Sys2Proof/Machine/Cells.lean ====
section
/-!
DEFINITION. Channels: their records, what the hub sends them (R32), the triggers of their safe states (R360), their
flags and diagnostics (R355, R366), and what an island drives on its own (R329, R359).
-/
namespace Sys2Proof.Machine

/-- Update one island, cell, channel, filter or axis. -/
def State.setIsl (s : State) (i : Fin 8) (f : Isl → Isl) : State := { s with isls := updV s.isls i f }
def Isl.setCell (x : Isl) (k : Fin 4) (f : Cell → Cell) : Isl := { x with cells := updV x.cells k f }
def State.setCell (s : State) (c : Fin 32) (f : Cell → Cell) : State := s.setIsl (chIsl c) fun x => x.setCell (chCell c) f
def State.setChan (s : State) (c : Fin 32) (f : Chan → Chan) : State := { s with chans := updV s.chans c f }
def State.setFilt (s : State) (c : Fin 32) (f : Filt → Filt) : State := { s with filts := updV s.filts c f }
def State.setAxis (s : State) (a : Fin 8) (f : Axis → Axis) : State := { s with axes := updV s.axes a f }
/-- An island, a cell, a channel. -/
def State.isl (s : State) (i : Fin 8) : Isl := s.isls[i.val]
def State.cell (s : State) (c : Fin 32) : Cell := (s.isl (chIsl c)).cells[(chCell c).val]
def State.chan (s : State) (c : Fin 32) : Chan := s.chans[c.val]
def State.filt (s : State) (c : Fin 32) : Filt := s.filts[c.val]
def State.axis (s : State) (a : Fin 8) : Axis := s.axes[a.val]
/-- A diagnostic of a cell sets at an instant (R355, R365). -/
def Cell.setDiag (c : Cell) (d : Nat) (t : RingTime) : Cell :=
  { c with diag := setBitN c.diag d true, diagAt := c.diagAt.setIfInBounds d t }
/-- The channels of an island. -/
def islChans (i : Fin 8) : List (Fin 32) := (List.finRange 4).map (chOf i)

/-- The island record in configuration SRAM (R320). -/
def State.islRec (s : State) (i : Fin 8) : Bytes :=
  match s.section (tagIsland i.val) with
  | some b => slice b 16 48
  | none => []
/-- A channel record in configuration SRAM (R321); a channel without one is unstructured. -/
def State.chRec (s : State) (c : Fin 32) : Bytes :=
  match s.section (tagIsland (chIsl c).val) with
  | some b => slice b (64 + 80 * (chCell c).val) 80
  | none => []
def State.func (s : State) (c : Fin 32) : Nat := u8 (s.chRec c) 0
def State.range (s : State) (c : Fin 32) : Nat := u8 (s.chRec c) 1
def State.owner (s : State) (c : Fin 32) : Nat := u8 (s.chRec c) 2

/-- Classes of functions (R321). -/
def isOutput (f : Nat) : Bool := f = 8 || f = 9 || f = 0xA || f = 0xB || f = 0x18 || f = 0x19
def isInput (f : Nat) : Bool := f = 1 || f = 2 || f = 3 || f = 4 || f = 5 || f = 0x10 || f = 0x11
def isAnalogue (f : Nat) : Bool := f = 0x10 || f = 0x11 || f = 0x18 || f = 0x19
def isAI (f : Nat) : Bool := f = 0x10 || f = 0x11
def isDigitalOut (f : Nat) : Bool := f = 8 || f = 9 || f = 0xA || f = 0xB
/-- Whether a record's input has a sensor supply of SUPPLY (R351). -/
def hasSupply (r : Bytes) : Bool :=
  let f := u8 r 0
  (f = 1 || f = 3 || f = 4) && u8 r 0x15 ≠ 0
/-- Whether detection on a record's output waits after it is energised: INRUSH, or 1 ms of an analogue output (R352, R355,
R386). -/
def hasInrush (r : Bytes) : Bool :=
  let f := u8 r 0
  ((f = 8 || f = 0xA) && u8 r 0x18 ≠ 0) || f = 0x18 || f = 0x19
/-- Whether a record's function needs VFLDi, its supply included (R343, R374). -/
def needsVfld (r : Bytes) : Bool :=
  let f := u8 r 0
  isOutput f || f = 2 || (f = 0x10 && u8 r 1 = 1) || (f = 5 && u8 r 1 = 1) ||
    ((f = 1 || f = 3 || f = 4) && u8 r 0x15 ≠ 0)
/-- Whether a record is a ledger channel's (R492). -/
def isLedger (r : Bytes) : Bool :=
  let f := u8 r 0
  isOutput f || ((f = 1 || f = 3 || f = 4) && u8 r 0x15 ≠ 0) || (f = 0x10 && u8 r 1 = 1)
/-- The value of a record's safe state (R359). -/
def safeValue (r : Bytes) : Word :=
  let m := u8 r 8
  if m = 3 then 0x11EB85 else if m = 4 then 0x6F5C28 else if m = 0 then 0 else toWord (u24 r 9)

/-- The field-powered flag of an island (R320). -/
def State.fieldPowered (s : State) (i : Fin 8) : Bool := u8 (s.islRec i) 1 = 1
/-- An island is between q1 and q4 of its re-pitch (R138). -/
def State.inRepitch (s : State) (i : Fin 8) : Bool := decide (2 ≤ s.repitch.phase) && decide (s.repitch.isl = i.val)
/-- Structured as the hub knows it (R26, R331). -/
def State.structured (s : State) (c : Fin 32) : Bool :=
  s.bit (ISL (chIsl c) 0) 1 && decide (s.func c ≠ 0) && !s.inRepitch (chIsl c)

/-- A ledger trip is active for the channel or its island (R499). -/
def State.tripped (s : State) (c : Fin 32) : Bool :=
  (isLedger (s.chRec c) && s.bit (NRG (chIsl c) 0) 0) || s.bit (NRG (chIsl c) (0x12 + 4 * (chCell c).val)) 0

/-- SUPPLY_MISSING (R73, R386, R499). -/
def State.supplyMissing (s : State) (c : Fin 32) : Bool :=
  s.structured c &&
    ((s.bit (ISL (chIsl c) 0) 8 && needsVfld (s.chRec c)) || (isInput (s.func c) && s.tripped c))
/-- CH_DIAG as it reads: the bits the island reported, with SUPPLY_MISSING (R366). -/
def State.chDiag (s : State) (c : Fin 32) : Nat :=
  setBitN (s.reg (CH c 4)).toNat 6 (s.supplyMissing c)

/-- The process value of a channel is reported: its cell is structured and the state reports inputs (R26, R38). -/
def State.reported (s : State) (c : Fin 32) : Bool := s.structured c && s.dev.fires
/-- A channel is INVALID by itself, whatever state the module is in (R366, R387, R333, R499). -/
def State.chFault (s : State) (c : Fin 32) : Bool :=
  let i := chIsl c
  let f := s.func c
  let d := s.chDiag c
  !s.structured c || (s.isl i).lost || (isInput f && (d.testBit 0 || d.testBit 1)) || d.testBit 6 ||
    (isAI f && (d.testBit 2 || d.testBit 3 || s.bit (CH c 1) 11 || decide (4 ≤ s.fld (CH c 1) 10 8))) ||
    s.bit (ISL i 0) 3 || (s.fieldPowered i && s.bit (NRG i 0) 0)
/-- INVALID of a channel, apart from what one fine output carries: a fault of its own, or a state that reports no input
(R26, R38; log entry 63). -/
def State.chInvalid (s : State) (c : Fin 32) : Bool := s.chFault c || !s.dev.fires

/-- The triggers of R360 active on an output channel, as the hub knows them, in code order. -/
def State.triggers (s : State) (c : Fin 32) : List Nat :=
  let i := chIsl c
  if isOutput (s.func c) && s.structured c then
    let d := (s.reg (CH c 4)).toNat
    (if s.dev = .safe then [1] else []) ++ (if s.tripped c then [2] else []) ++
      (if (s.isl i).lost && decide (s.owner c ≠ 3) then [3] else []) ++
      (if s.bit (ISL i 0) 8 && needsVfld (s.chRec c) then [4] else []) ++
      (if d.testBit 7 && (decide (s.fld (CH c 3) 7 5 = 5) || !d.testBit 8) then [5] else []) ++
      (if d.testBit 7 && d.testBit 8 then [6] else [])
  else []

/-- The record of an axis in configuration SRAM (R447). -/
def State.axisRec (s : State) (a : Fin 8) : Option Bytes :=
  match s.section tagAxes with
  | some b => (records 64 (secCount b) (b.drop 16)).find? fun r => decide (u8 r 0 = a.val)
  | none => none
/-- A byte of the record of an axis, 0 without one. -/
def State.axCfg (s : State) (a : Fin 8) (o n : Nat) : Nat := uAt ((s.axisRec a).getD []) o n
/-- A channel field of an axis record: none for 0xFF and for an axis that does not exist. -/
def State.axCh (s : State) (a : Fin 8) (o : Nat) : Option (Fin 32) :=
  match s.axisRec a with
  | some r => if u8 r o < 32 then some (Fin.ofNat 32 (u8 r o)) else none
  | none => none
/-- The axis that drives an output channel. -/
def State.axisOf (s : State) (c : Fin 32) : Option (Fin 8) :=
  if s.owner c = 2 then (List.finRange 8).find? fun a => decide (u8 (s.chRec c) 3 = a.val) && (s.axisRec a).isSome
  else none
/-- The states in which R32 gives row 1. -/
def Dev.rowOne : Dev → Bool
  | .off => true | .boot => true | .unpitched => true | .pitching => true | .deep => true | .maintenance => true
  | .pitched => false | .safe => false | .doze => false
/-- The row of R32 in force, 0 for an input. -/
def State.row (s : State) (c : Fin 32) : Nat :=
  if isOutput (s.func c) = false then 0
  else if s.dev.rowOne || !s.structured c then 1
  else if s.dev = .safe then 2
  else if s.owner c = 3 then 3
  else if s.tripped c then 4
  else match s.axisOf c with
    | some a =>
      if s.axCh a 0x16 = some c then
        if s.fld (POS a 0xF) 3 0 ≠ 0 ∨ s.bit (POS a 0xE) 4 then 5 else 6
      else 6
    | none => 7

/-- What a cell of an island delivers on its own account: none is the de-energised condition (R30, R329, R359). -/
def Isl.drive (x : Isl) (k : Fin 4) : Option Word :=
  let c := x.cells[k.val]
  match x.store with
  | none => none
  | some b =>
    let r := slice b (48 + 80 * k.val) 80
    let f := u8 r 0
    let trig := c.appl || x.tmo || (x.vlow && needsVfld r) || c.lat5 || c.lat6
    if x.up = false ∨ isOutput f = false then none
    else if u8 r 2 = 3 then (if trig then none else if c.cmdA && c.cmdB then some 1 else none)
    else if trig then
      if c.hiZ || (c.appl && !c.ena) || decide (u8 r 8 = 0) then none else some (safeValue r)
    else if c.ena = false then none
    else if f = 8 ∨ f = 0xA then (if bitOf c.out 0 then some 1 else none)
    else some c.out
/-- ENERGISED (R30). -/
def State.energised (s : State) (c : Fin 32) : Bool := ((s.isl (chIsl c)).drive (chCell c)).isSome
/-- Some output of the module is energised (R89). -/
def State.anyEnergised (s : State) : Bool := (List.finRange 32).any s.energised

/-- CH_FLAGS as it reads (R366, R399). -/
def State.chFlags (s : State) (c : Fin 32) : Word :=
  let st := s.reg (CH c 1)
  let d := s.chDiag c
  let hi := if isAnalogue (s.func c) then bitsOf st 15 8 else 0
  toWord (b2n (s.chInvalid c || s.bit (FLT c 1) 3) + 2 * b2n (s.bit (FLT c 1) 1 && isAI (s.func c)) +
    4 * b2n (!(s.triggers c).isEmpty) + 8 * b2n (d.testBit 5) + 16 * b2n (d.testBit 7) + 256 * hi)
/-- CH_OSTAT as it reads (R366). -/
def State.chOstat (s : State) (c : Fin 32) : Word :=
  toWord (s.row c + 8 * b2n (s.energised c) + 16 * b2n (s.bit (CH c 3) 4) +
    32 * ((s.triggers c).head?.getD 0))

end Sys2Proof.Machine
end

