-- ==== Sys2Proof/Machine/Filter.lean ====
section
/-!
DEFINITION. The filter and decimation chain (R406–R425), NE 43 classes (R383, R384), units and limits (R390, R391).
-/
namespace Sys2Proof.Machine

/-- n / d rounded to the nearest integer, ties to even (R413). -/
def roundEven (n : Int) (d : Nat) : Int :=
  let q := n / (d : Int)
  let r := 2 * (n % (d : Int))
  if r < d then q else if (d : Int) < r then q + 1 else if q % 2 = 0 then q else q + 1
/-- n / d rounded, halves away from zero (R390, R465). -/
def roundAway (n : Int) (d : Nat) : Int :=
  let q : Int := ((2 * n.natAbs + d) / (2 * d) : Nat)
  if n < 0 then -q else q
/-- A number clamped to a range. -/
def clampTo (lo hi n : Int) : Int := max lo (min hi n)
/-- A signed code as a word. -/
def codeWord (n : Int) : Word := BitVec.ofInt 24 n
/-- Ring time of sample edge `e` after an instant: an edge lasts 31250/1536 units of 2 ns. -/
def edgeTime (t : RingTime) (e : Nat) : RingTime := t + BitVec.ofNat 48 (e * 31250 / 1536)

/-- Stages of a preset code (R406). -/
def presetStages (p : Nat) : Nat := if p = 0 then 3 else if p = 1 then 5 else if p = 2 then 7 else 8
/-- The preset in force: PRESET_LOW at rungs 0 and 1 of a field-powered island (R332). -/
def State.presetNow (s : State) (c : Fin 32) : Nat :=
  let r := s.chRec c
  if s.fieldPowered (chIsl c) && decide (s.fld (ISL (chIsl c) 0) 5 4 < 2) && decide (u8 r 6 ≠ 0xFF) then u8 r 6
  else u8 r 4
/-- The user set that a channel names (R410). -/
def State.userSet (s : State) (c : Fin 32) : Option UserSet :=
  let k := u8 (s.chRec c) 5
  if 0x10 ≤ k then Sparse.find s.sets (k - 0x10) else none
/-- Taps of stage k (from 0) of a channel. -/
def State.tapsOf (s : State) (c : Fin 32) (k : Nat) : Nat :=
  match s.userSet c with
  | some u => ((u.stages[k]?).map (·.taps.length)).getD 1
  | none => if u8 (s.chRec c) 5 = 0 then 23 else 16
/-- The cascade's impulse response less one, in sinc samples, without the sinc response (R414). -/
def State.reach (s : State) (c : Fin 32) : Nat :=
  (List.range (presetStages (s.presetNow c))).foldl (fun n k => n + (s.tapsOf c k - 1) * 2 ^ k) 0
/-- N of R414. -/
def State.unsetN (s : State) (c : Fin 32) : Nat :=
  let d := 2 ^ presetStages (s.presetNow c)
  let m := match s.userSet c with
    | some u => u.nmargin
    | none => if u8 (s.chRec c) 5 = 0 then 0 else 2
  (s.reach c + 4 + d - 1) / d + m

/-- A filter reset at its instant (R384, R389, R421): no class, but during LOOP_WAIT the low alarm (R333). -/
def State.channelReset (s : State) (c : Fin 32) (cause : Nat) : State :=
  if isAI (s.func c) = false then s
  else
    let n := s.unsetN c
    let s := (s.setFld (FLT c 1) 13 8 n).setBit (FLT c 1) 1 true
    let s := (s.setFld (FLT c 5) 3 0 0).setFld (FLT c 0xA) 2 0 cause
    let s := (s.setFld (FLT c 8) 6 5 (s.presetNow c)).setFld (FLT c 8) 21 16 n
    let s := (s.setReg (FLT c 0x14) 0).setFld (CH c 1) 10 8 (if s.bit (ISL (chIsl c) 0) 3 then 4 else 0)
    let s := s.setFilt c fun f => { f with
      inq := [], rifq := [], recent := [], hist := [], at0 := s.time, outs := 0, sincs := 0, runKind := 0, run := 0
      acc := 0, due := 0 }
    s.setChan c fun x => { x with neTo := 0, rbFail := 0, rbPass := 0, rbFrom := none, rif := [] }
/-- A reset is registered and takes effect at the next slot; of two causes the lower code stands (R420, R421). -/
def State.requestReset (s : State) (c : Fin 32) (cause : Nat) : State :=
  if isAI (s.func c) && s.structured c then
    s.setFilt c fun f => { f with due := if f.due = 0 then cause else min f.due cause }
  else s
/-- FILTER_RESET (R420, R421): a registered reset takes effect at its instant. -/
def execFilterReset (c : Fin 32) (s : State) : Res :=
  .next (if (s.filt c).due = 0 then s else s.channelReset c (s.filt c).due)

/-- The field trim of a channel for its function and range: O_u and G_u in units of 2^-23 (R394, R395). -/
def State.trim (s : State) (c : Fin 32) : Option (Int × Int) :=
  (s.calTable.find? fun e => decide (e.ch = c.val) && decide (e.func = s.func c) && decide (e.range = s.range c)).map
    fun e => (e.ofs.toInt, e.gain.toInt)
/-- The factory record of the cell fails its check for its function and range (R394). -/
def State.factoryBad (s : State) (c : Fin 32) : Bool := s.flash.facBad.contains (c.val, s.func c, s.range c)
/-- The corrected value of R394. -/
def State.calibrate (s : State) (c : Fin 32) (x : Int) : Int :=
  let (of, gf) := if s.bit (CH c 0x3D) 3 then Config.factory c.val (s.func c) (s.range c) (s.isl (chIsl c)).temp
    else (0, 0)
  let (ou, gu) := (s.trim c).getD (0, 0)
  if gf + gu = 0 then x - of - ou else Config.calRound ((x - of - ou) * (8388608 + gf + gu))

/-- What one run of a stage over new samples gives: outputs oldest first with their INVALID marks, the history, guard
overflows, whether the last output was clamped, and its accumulator. -/
structure StageOut where
  outs : List (Int × Bool)
  hist : List (Int × Bool)
  guards : Nat
  sat : Bool
  acc : Int

/-- The sum of products, and the sign of the partial sum that first left the accumulator (R411, R412). -/
def macSum : List Int → List (Int × Bool) → Int → Option Bool → Int × Option Bool
  | t :: ts, x :: xs, a, o =>
    let a := a + t * x.1
    macSum ts xs a (if o.isSome then o else if 140737488355327 < a then some true
      else if a < -140737488355328 then some false else none)
  | _, _, a, o => (a, o)

/-- One stage over its new inputs, two to an output (R411–R413). -/
def stageRun (st : Stage) : List (Int × Bool) → StageOut → StageOut
  | x1 :: x2 :: xs, z =>
    let h := (x2 :: x1 :: z.hist).take 47
    let (a, o) := macSum st.taps h 0 none
    let q := roundEven a 262144
    let y := match o with
      | some true => 8388607
      | some false => -8388608
      | none => clampTo (-8388608) 8388607 q
    let bad := o.isSome || (h.take st.taps.length).any (·.2)
    stageRun st xs ⟨z.outs ++ [(y, bad)], h, z.guards + b2n o.isSome, o.isNone && decide (y ≠ q), a⟩
  | _, z => z

/-- The stages of a user set in turn: the last stage's result, the histories, and the guard overflows by stage. -/
def stagesRun : List Stage → List (List (Int × Bool)) → List (Int × Bool) →
    StageOut × List (List (Int × Bool)) × List Nat
  | [], hs, xs => (⟨xs, [], 0, false, 0⟩, hs, [])
  | [st], hs, xs =>
    let z := stageRun st xs ⟨[], hs.headD [], 0, false, 0⟩
    (z, [z.hist], [z.guards])
  | st :: st2 :: sts, hs, xs =>
    let z := stageRun st xs ⟨[], hs.headD [], 0, false, 0⟩
    let (z2, hs2, gs) := stagesRun (st2 :: sts) hs.tail z.outs
    (z2, z.hist :: hs2, z.guards :: gs)

/-- Region of a loop current code (R383). -/
def neRegion (lo hi v : Int) : Nat :=
  if v < lo then 4 else if v < 0x1374BC then 2 else if v ≤ 0x68F5C2 then 1 else if v ≤ hi then 3 else 5
/-- Order of the classes along the current. -/
def neRank (k : Nat) : Nat := if k = 4 then 0 else if k = 2 then 1 else if k = 1 then 2 else if k = 3 then 3 else 4
/-- A value lies 0.02 mA or more beyond the boundary of the new class on the side of the current one (R384). -/
def neBeyond (lo hi : Int) (cur new : Nat) (v : Int) : Bool :=
  if neRank cur < neRank new then
    decide ((if new = 2 then lo else if new = 1 then 0x1374BC else if new = 3 then 0x68F5C2 else hi) + 6711 ≤ v)
  else
    decide (v ≤ (if new = 4 then lo else if new = 2 then 0x1374BC else if new = 1 then 0x68F5C2 else hi) - 6711)

/-- The class changes; NE43 fires for a code other than NONE (R384, R398). -/
def State.setClass (s : State) (c : Fin 32) (k : Nat) (t : RingTime) : State :=
  let prev := s.fld (CH c 1) 10 8
  let s := (s.setFld (CH c 1) 10 8 k).setChan c fun x => { x with neTo := 0 }
  if k = 0 ∨ k = prev then s else s.fireAt (12 * c.val + 7) t (toWord (k + 8 * prev))
/-- One classified fine output (R384). -/
def State.classify (s : State) (c : Fin 32) (v : Int) (t : RingTime) : State :=
  let r := s.chRec c
  let lo : Int := u24 r 0x14
  let hi : Int := u24 r 0x17
  let cur := s.fld (CH c 1) 10 8
  let reg := neRegion lo hi v
  if cur ≠ 0 ∧ (reg = cur ∨ neBeyond lo hi cur reg v = false) then s.setChan c fun x => { x with neTo := 0 }
  else
    let x := s.chan c
    let start := if x.neTo = reg then x.neAt else t
    if (u8 r 0x13 * 500000 : Nat) ≤ timeDiff' t start then s.setClass c reg t
    else s.setChan c fun x => { x with neTo := reg, neAt := start }
where
  /-- signed difference of ring times -/
  timeDiff' (a b : RingTime) : Int := (a - b).toInt

/-- CH_ENG (R390). -/
def State.scale (s : State) (c : Fin 32) (v : Int) : State :=
  s.setReg (CH c 0x30) (satWord (roundAway ((v - (s.reg (CH c 0x39)).toInt) * (s.reg (CH c 0x3A)).toInt) 16777216))
/-- LIMIT_LO and LIMIT_HI after a value that carries neither UNSETTLED nor INVALID (R391). -/
def State.limitCheck (s : State) (c : Fin 32) (v : Int) (t : RingTime) : State :=
  let lo := (s.reg (CH c 0x31)).toInt
  let hi := (s.reg (CH c 0x32)).toInt
  let hy : Int := (s.reg (CH c 0x33)).toNat
  let wasLo := s.bit (CH c 1) 12
  let wasHi := s.bit (CH c 1) 13
  let fresh := (s.chan c).limFresh
  let isLo := decide (v < lo) || (!fresh && wasLo && decide (v < lo + hy))
  let isHi := decide (hi < v) || (!fresh && wasHi && decide (hi - hy < v))
  let s := ((s.setBit (CH c 1) 12 isLo).setBit (CH c 1) 13 isHi).setChan c fun x => { x with limFresh := false }
  if (isLo && !wasLo) || (isHi && !wasHi) then s.fireAt (12 * c.val + 8) t (toWord (b2n isLo + 2 * b2n isHi)) else s

/-- The block average takes a fine output; true when it publishes (R419). -/
def State.average (s : State) (c : Fin 32) (v : Int) (good : Bool) (t : RingTime) : State × Bool :=
  let k := s.fld (FLT c 0x10) 4 0
  if good = false then ((s.setReg (FLT c 0x14) 0).setFilt c fun f => { f with acc := 0 }, false)
  else
    let n := s.fld (FLT c 0x14) 16 0 + 1
    let a := (s.filt c).acc + v
    if 2 ^ k ≤ n then
      let s := (s.setReg (FLT c 0x11) (codeWord (roundEven a (2 ^ k)))).setTime (FLT c 0x12) t
      ((s.setReg (FLT c 0x14) 0).setFilt c fun f => { f with acc := 0 }, true)
    else ((s.setFld (FLT c 0x14) 16 0 n).setFilt c fun f => { f with acc := a }, false)

/-- CAL_POINT averages a valid output (R395). -/
def State.calTake (s : State) (c : Fin 32) (v : Int) (good : Bool) : State :=
  if good then s.setChan c fun x => { x with
    cal := x.cal.map fun k => if k.n < 256 then { k with n := k.n + 1, sum := k.sum + v } else k } else s

/-- Ends of the measuring span of an AI function (R375). -/
def spanLo (f : Nat) : Int := if f = 0x10 then -671089 else -8388607

/-- A fine output is published (R384, R390, R391, R412–R414, R419): `bad` marks a guard overflow in its taps. -/
def State.publishFine (s : State) (c : Fin 32) (y : Int) (bad sat : Bool) : State × Bool :=
  let f := s.filt c
  let n := f.outs + 1
  let t := edgeTime f.at0 (128 * 2 ^ presetStages (s.presetNow c) * n)
  let v := max (spanLo (s.func c)) y
  let left := s.fld (FLT c 1) 13 8
  let unset := decide (left ≠ 0)
  let s := s.setFilt c fun f => { f with outs := n }
  let s := (s.setReg (FLT c 0) (codeWord v)).setReg (CH c 0) (codeWord v)
  let s := ((s.setBit (FLT c 1) 1 unset).setFld (FLT c 1) 13 8 (left - 1)).setBit (FLT c 1) 2 bad
  let s := ((s.setBit (FLT c 1) 0 bad).setBit (FLT c 1) 4 sat).setFld (FLT c 1) 23 16 (s.fld (FLT c 1) 23 16 + 1)
  let s := (s.setTime (FLT c 2) t).scale c v
  let inv := fun (s : State) => bad || s.chFault c
  let other := bad || (inv (s.setFld (CH c 1) 10 8 0))
  let classify := decide (s.func c = 0x10) && (u8 (s.chRec c) 0x12).testBit 0 && !unset && !other
  let s := if classify then s.classify c v t else s
  let good := !unset && !(inv s)
  let s := if good then s.limitCheck c v t else s
  let s := s.calTake c v good
  let s := s.setChan c fun x => { x with
    rbFrom := if !unset && x.rbFrom.isNone then some (t + 500000) else x.rbFrom }
  s.average c v good t

/-- Guard overflows of the stages are flagged, counted and fired (R412). -/
def State.guards (s : State) (c : Fin 32) : List Nat → Nat → State
  | [], _ => s
  | g :: gs, k =>
    let s := s.when (decide (g ≠ 0)) fun s =>
      (List.range g).foldl (fun s _ => s.fire (12 * c.val + 9) (toWord (k + 1)))
        ((s.setBit (FLT c 0xA) (8 + k) true).bumpBy (FLT c 0xB) g)
    s.guards c gs (k + 1)

/-- One fine output from the samples that have arrived; none while there are too few, in DOZE or while stopped.
The flags say that a fine output, and that an average, was published. -/
def State.fineOutput (s : State) (c : Fin 32) : State × Bool × Bool :=
  let f := s.filt c
  let p := s.presetNow c
  let n := 2 ^ presetStages p
  if isAI (s.func c) = false ∨ s.structured c = false ∨ s.dev = .doze ∨ f.inq.length < n then (s, false, false)
  else if s.bit (FLT c 9) 1 then (s.setFilt c fun f => { f with inq := f.inq.drop n }, false, false)
  else
    let xs := f.inq.take n
    let s := s.setFilt c fun f => { f with inq := f.inq.drop n }
    match s.userSet c with
    | some u =>
      let (z, hs, gs) := stagesRun (u.stages.take (presetStages p)) f.hist (xs.map fun x => (x, false))
      let y := z.outs.getLastD (0, false)
      let s := s.setFilt c fun f => { f with
        hist := hs, wide := clampTo (-2147483648) 2147483647 (roundEven z.acc 1024) }
      let s := s.guards c gs 0
      let got := s.publishFine c y.1 y.2 z.sat
      let s := got.1
      let a := got.2
      (s, true, a)
    | none =>
      let rec' := (xs.reverse ++ f.recent).take (s.reach c + 1)
      let q := Config.romOutput p (u8 (s.chRec c) 5) rec'
      let y := clampTo (-8388608) 8388607 q
      let s := s.setFilt c fun f => { f with
        recent := rec'
        wide := clampTo (-2147483648) 2147483647 (Config.romOutput p (256 + u8 (s.chRec c) 5) rec') }
      let got := s.publishFine c y false (decide (y ≠ q))
      let s := got.1
      let a := got.2
      (s, true, a)

/-- The window comparator takes a valid Riffle value (R418). -/
def State.riffleWindow (s : State) (c : Fin 32) (v : Int) (t : RingTime) : State :=
  let kind := if v < (s.reg (FLT c 0xC)).toInt then 1 else if (s.reg (FLT c 0xD)).toInt < v then 2 else 3
  let f := s.filt c
  let run := if f.runKind = kind then f.run + 1 else 1
  let s := s.setFilt c fun f => { f with runKind := kind, run := run }
  if run < s.fld (FLT c 0xE) 7 0 then s
  else if kind = 3 then s.setFld (FLT c 5) 3 1 0
  else if s.bit (FLT c 5) 1 then s
  else (s.setFld (FLT c 5) 3 1 (if kind = 1 then 3 else 5)).fireAt (12 * c.val + 10) t (toWord kind)

/-- A sinc output as the Riffle value: not published for the first two after a reset (R417). The flag says that it was. -/
def State.riffleValue (s : State) (c : Fin 32) : State × Bool :=
  match (s.filt c).rifq with
  | [] => (s, false)
  | v :: vs =>
    if s.dev = .doze then (s, false)
    else
      let n := (s.filt c).sincs + 1
      let t := edgeTime (s.filt c).at0 (128 * n)
      let s := s.setFilt c fun f => { f with rifq := vs, sincs := n }
      if n ≤ 2 then (s, false)
      else
        let inv := s.chFault c
        let s := (s.setReg (FLT c 4) (codeWord v)).setBit (FLT c 5) 0 true
        let s := (s.setBit (FLT c 5) 4 inv).setFld (FLT c 5) 23 16 (s.fld (FLT c 5) 23 16 + 1)
        let s := (s.setTime (FLT c 6) t).setChan c fun x => { x with
          rif := (t, codeWord v) :: x.rif.filter fun y => decide ((t - y.1).toNat ≤ 500000) }
        (if inv then s else s.riffleWindow c v t, true)

/-- The sum of the magnitudes of coefficients, in units of 2^-18 (R412). -/
def l1Norm (l : List Int) : Nat := l.foldl (fun n x => n + x.natAbs) 0
/-- A 20-bit coefficient as a number. -/
def coef20 (n : Nat) : Int := (BitVec.ofNat 20 n).toInt
/-- COEF_CMD.COMMIT (R425): the checks in the order of the table, and the stage loaded. -/
def State.coefCommit (s : State) : State :=
  let u := s.fld 0x03C08 2 0
  let k := s.fld 0x03C08 5 3
  let n := s.fld 0x03C08 11 6
  let unck := s.bit 0x03C08 12
  let taps := (List.range n).map fun j => coef20 ((Sparse.find s.coefBuf j).getD 0)
  let s := s.setReg 0x03C0C (toWord (min 0xFFFFFF (l1Norm taps)))
  let used := (List.finRange 32).any fun c =>
    isAI (s.func c) && decide (u8 (s.chRec c) 5 = 0x10 + u) && !s.bit (FLT c 9) 1
  let res := if used then 2 else if 2097152 < l1Norm taps ∧ unck = false then 3
    else if unck && !s.bit 0x00040 6 then 4 else if n = 0 ∨ 47 < n ∨ s.fld 0x03C09 5 0 ≠ n then 5 else 1
  let s := s.setFld 0x03C0B 7 4 res
  if res = 1 then
    let old := (Sparse.find s.sets u).getD ⟨0, List.replicate 8 ⟨[0], false⟩⟩
    { s with sets := Sparse.put s.sets u { old with stages := old.stages.set k ⟨taps, unck⟩ } }
  else s

/-- Length in bytes of the COEFF record at the start of a string (R423, R428). -/
def coeffRecLen (b : Bytes) : Nat :=
  if u8 b 0 = 1 then
    let t := (List.range 8).foldl (fun n k => n + u8 b (4 + k)) 0
    (16 + 3 * t + 15) / 16 * 16
  else 16
/-- The records of a COEFF body. -/
def coeffRecs : Nat → Bytes → List Bytes
  | 0, _ => []
  | n + 1, b => b.take (coeffRecLen b) :: coeffRecs n (b.drop (coeffRecLen b))
/-- The stages of a set record. -/
def recStages (b : Bytes) : List Stage :=
  let go := (List.range 8).foldl (fun (st : List Stage × Nat) k =>
    let t := u8 b (4 + k)
    let taps := (List.range t).map fun j => coef20 (u24 b (16 + 3 * (st.2 + j)))
    (st.1 ++ [⟨taps, (u8 b 2).testBit k⟩], st.2 + t)) ([], 0)
  go.1
/-- The user sets that a COEFF section gives. -/
def imageSets (sec : Bytes) : List (Nat × UserSet) :=
  ((coeffRecs (secCount sec) (sec.drop 16)).filter fun b => decide (u8 b 0 = 1)).foldl
    (fun m b => Sparse.put m (u8 b 1) ⟨u8 b 3, recStages b⟩) []

end Sys2Proof.Machine
end

