-- ==== Sys2Proof/Machine/Streams.lean ====
section
/-!
DEFINITION. The Sluice streams as the other blocks see them: accessors, LAG, and what a stream waits for (R298–R303).
-/
namespace Sys2Proof.Machine

/-- A stream and its update. -/
def State.stream (s : State) (k : Fin 8) : Stream := s.streams[k.val]
def State.setStream (s : State) (k : Fin 8) (f : Stream → Stream) : State := { s with streams := updV s.streams k f }
/-- RUNNING, LAG and STYPE of a stream (R308). -/
def State.slcRuns (s : State) (k : Fin 8) : Bool := s.bit (SLC k 1) 0
def State.slcLagging (s : State) (k : Fin 8) : Bool := s.bit (SLC k 1) 1
def State.slcType (s : State) (k : Fin 8) : Nat := s.fld (SLC k 6) 1 0
/-- A descriptor is lent (R299). -/
def State.slcLent (s : State) (k : Fin 8) : Bool := decide (s.fld (SLC k 4) 11 0 ≠ s.fld (SLC k 5) 11 0)
/-- A record of some line waits for the stream (R291). -/
def State.slcFed (s : State) (k : Fin 8) : Bool :=
  s.evt.pend.any fun r => decide (s.recDest (s.lineOf r.src) = 0x10 + k.val)
/-- The stream has data waiting (R296, R298): words in its queue, records pending for it, or words of completed blocks. -/
def State.slcWaits (s : State) (k : Fin 8) : Bool :=
  let x := s.stream k
  !x.q.isEmpty || (decide (s.slcType k = 1) && s.slcFed k) || match x.ready with
    | b :: rest => decide (x.blkPos < b.2.2.1) || !rest.isEmpty
    | [] => false
/-- The stream needs a buffer (R300). -/
def State.slcNeeds (s : State) (k : Fin 8) : Bool := s.slcRuns k && (s.stream k).buf.isNone && s.slcWaits k
/-- Thousandths of a token in a stream's bucket (R295). -/
def State.slcTok (s : State) (k : Fin 8) : Nat := s.evt.strTok[k.val]
/-- WAIT_WEIR (R296). -/
def State.slcWeir (s : State) (k : Fin 8) : Bool := s.slcRuns k && s.slcWaits k && decide (s.slcTok k < 1000)
/-- A stream with LAG or WAIT_WEIR set at this instant counts as in deficit for this millisecond (R297). -/
def State.slcMark (s : State) (k : Fin 8) : State := if s.slcLagging k || s.slcWeir k then s.markDef k else s
/-- LAG sets or clears, and SLUICE_LAG fires (R300, R309). -/
def State.slcSetLag (s : State) (k : Fin 8) (b : Bool) : State :=
  if s.slcLagging k = b then s else ((s.setBit (SLC k 1) 1 b).markDef k).fire 469 (toWord (k.val + 8 * b2n b))
/-- A stream that needs a buffer while nothing is lent sets LAG; a lent descriptor clears it (R300, R313). -/
def State.slcEval (s : State) (k : Fin 8) : State :=
  (if s.slcLagging k then (if s.slcLent k then s.slcSetLag k false else s)
  else if s.slcNeeds k && !s.slcLent k then s.slcSetLag k true else s).slcMark k
/-- Units lost on a stream (R302, R305): SLC_LOST, and LOST_BEFORE of the next buffer. -/
def State.slcLose (s : State) (k : Fin 8) (n : Nat) : State :=
  if n = 0 then s else (s.bumpBy (SLC k 0xB) n).setStream k fun x => { x with lostBefore := true }

/-- The CAPTURE streams of a sequence. -/
def State.slcOfSeq (s : State) (q : Fin 16) : List (Fin 8) :=
  (List.finRange 8).filter fun k => decide (s.slcType k = 2) && decide (s.fld (SLC k 6) 9 2 = q.val)
/-- A completed block is offered to the streams of its sequence; one in LAG skips it (R302). -/
def State.slcOffer (s : State) (q : Fin 16) (blk : Nat × Nat × Nat × Bool) : State :=
  (s.slcOfSeq q).foldl (fun s k =>
    if s.slcRuns k = false then s
    else if s.slcLagging k then s.slcLose k 1
    else (s.setStream k fun x => { x with ready := x.ready ++ [blk] }).slcEval k) s
/-- The first block of a stream is copied whole and waits only for its return. -/
def Stream.copied (x : Stream) : Bool := match x.ready with
  | b :: _ => decide (b.2.2.1 ≤ x.blkPos)
  | [] => false
/-- Blocks that the sequence overwrites before a stream has finished copying them (R302): each counts in SLC_LOST, and the
buffer that the first one is being copied to ends with ABORTED and END. -/
def State.slcOverrun (s : State) (q : Fin 16) (nos : List Nat) : State :=
  (s.slcOfSeq q).foldl (fun s k =>
    let x := s.stream k
    let keep := fun (b : Nat × Nat × Nat × Bool) => !nos.contains b.1
    if x.copied then
      (s.setStream k fun x => { x with ready := x.ready.take 1 ++ (x.ready.drop 1).filter keep }).slcLose k
        ((x.ready.drop 1).filter fun b => !keep b).length
    else
      let cut := x.ready.head?.any fun b => !keep b
      (s.setStream k fun x => { x with
        buf := if cut then x.buf.map fun b => { b with done := true, fin := true, aborted := true } else x.buf
        blkPos := if cut then 0 else x.blkPos
        ready := x.ready.filter keep }).slcLose k (x.ready.filter fun b => !keep b).length) s

end Sys2Proof.Machine
end

