-- ==== Sys2Proof/Machine/Capture.lean ====
section
/-!
DEFINITION. Capture sequences (R428–R436), Eddy errors (R427), and the commands of the filter chain that publish values.
-/
namespace Sys2Proof.Machine

/-- An uncorrectable Eddy error at an Eddy word address (R427). -/
def State.eddyUncorrectable (s : State) (a : Nat) : State :=
  (((s.bump 0x03C02).setFld 0x03C03 19 0 a).fire 474 (toWord a)).logRec 0x505 (toWord a) 0 0

def State.setCapt (s : State) (q : Fin 16) (f : Capt → Capt) : State := { s with capts := updV s.capts q f }
def State.capt (s : State) (q : Fin 16) : Capt := s.capts[q.val]
/-- The capture record of a sequence (R428). -/
def State.capRec (s : State) (q : Fin 16) : Option Bytes :=
  match s.section tagCoeff with
  | some b => (coeffRecs (secCount b) (b.drop 16)).find? fun r => decide (u8 r 0 = 2) && decide (u8 r 1 = q.val)
  | none => none
/-- A field of the capture record. -/
def State.capCfg (s : State) (q : Fin 16) (o n : Nat) : Nat := uAt ((s.capRec q).getD []) o n
def State.capWide (s : State) (q : Fin 16) : Bool := (s.capCfg q 3 1).testBit 0
def State.capOverwrite (s : State) (q : Fin 16) : Bool := (s.capCfg q 3 1).testBit 1
/-- The channels of a sequence in ascending order. -/
def State.capChans (s : State) (q : Fin 16) : List (Fin 32) :=
  (List.finRange 32).filter fun c => (s.capCfg q 4 4).testBit c.val
/-- W of R429. -/
def State.capW (s : State) (q : Fin 16) : Nat := (s.capChans q).length * (if s.capWide q then 2 else 1)
/-- Words of a block (R431). -/
def State.capSize (s : State) (q : Fin 16) : Nat := 6 + (s.fld (CAP q 4) 11 0 + s.fld (CAP q 4) 23 12) * s.capW q
/-- The state of a sequence: 0 IDLE, 1 ARMED, 2 RUNNING, 3 FULL. -/
def State.capState (s : State) (q : Fin 16) : Nat := s.fld (CAP q 5) 1 0
def State.setCapState (s : State) (q : Fin 16) (n : Nat) : State := s.setFld (CAP q 5) 1 0 n

/-- What one channel contributes to a set, and whether it flags the block (R429, R430, R443, R445). -/
def State.capSample (s : State) (q : Fin 16) (lead c : Fin 32) : List Word × Bool :=
  let pad := fun (w : Word) => if s.capWide q then [w, 0] else [w]
  let src := s.capCfg q 2 1
  let rate := decide (s.presetNow c ≠ s.presetNow lead)
  if isAI (s.func c) = false then (pad 0, true)
  else if src = 0 then
    let inv := s.chInvalid c || s.bit (FLT c 1) 0 || s.bit (FLT c 1) 3
    let un := s.bit (FLT c 1) 1
    let x := BitVec.ofInt 32 (s.filt c).wide
    let w1 := toWord ((x.extractLsb' 24 8).toNat + 256 * b2n inv + 512 * b2n un + 1024 * b2n (s.bit (FLT c 1) 2))
    (if s.capWide q then [x.extractLsb' 0 24, w1] else [s.reg (FLT c 0)], inv || un || rate)
  else if src = 1 then (pad (s.reg (FLT c 4)), s.bit (FLT c 5) 4 || !s.bit (FLT c 5) 0)
  else (pad (s.reg (FLT c 0x11)), rate || decide (s.fld (FLT c 0x10) 4 0 ≠ s.fld (FLT lead 0x10) 4 0))
/-- The sample set of this instant. -/
def State.capSet (s : State) (q : Fin 16) (lead : Fin 32) (t : RingTime) : SampleSet :=
  let l := (s.capChans q).map (s.capSample q lead)
  ⟨t, l.flatMap (·.1), l.any (·.2)⟩

/-- The last `n` elements. -/
def lastN {α : Type} (n : Nat) (l : List α) : List α := l.drop (l.length - n)
/-- Address of the next block: at BASE when it would pass the region's end (R430). -/
def State.capStart (s : State) (q : Fin 16) : Nat :=
  let p := s.fld (CAP q 6) 19 0
  if s.capCfg q 8 3 + s.capCfg q 0xB 3 < p + s.capSize q then s.capCfg q 8 3 else p
/-- Blocks that the next block's area would overlap (R433). -/
def State.capHits (s : State) (q : Fin 16) (b : Block) : Bool :=
  let a := s.capStart q
  decide (b.addr < a + s.capSize q) && decide (a < b.addr + b.words)
/-- ARMED, or FULL when the area is not free (R433). -/
def State.capArm (s : State) (q : Fin 16) : State :=
  let s := s.setFld (CAP q 6) 19 0 (s.capStart q)
  s.setCapState q (if !s.capOverwrite q && (s.capt q).blocks.any (s.capHits q) then 3 else 1)
/-- A trigger counted as missed (R432, R436). -/
def State.capMiss (s : State) (q : Fin 16) (reason : Nat) : State :=
  ((s.bump (CAP q 9)).deficit 5).fire 473 (toWord (q.val + 16 * reason))

/-- One set is stored in the running block. -/
def State.capStore (s : State) (q : Fin 16) (x : SampleSet) : State :=
  let b := s.capt q
  let s := s.setEddyWords (b.addr + 6 + b.got * s.capW q) x.words
  s.setCapt q fun b => { b with
    got := b.got + 1, flagged := b.flagged || x.flagged, first := if b.got = 0 then x.at0 else b.first }
/-- A block opens at its first set: blocks that it overwrites are dropped and counted, and H5 is written (R430, R433). -/
def State.capOpen (s : State) (q : Fin 16) : State :=
  let a := s.capStart q
  let hit := (s.capt q).blocks.filter (s.capHits q)
  let s := (s.bumpBy (CAP q 0xA) hit.length).slcOverrun q (hit.map (·.no))
  let s := s.when (!hit.isEmpty) fun s => s.deficit 5
  let s := (s.setFld (CAP q 6) 19 0 a).setEddy (a + 5) (toWord (s.capW q + 128 * s.capCfg q 2 1))
  s.setCapt q fun b => { b with
    addr := a, no := b.nextNo, got := 0, flagged := false, fired := false
    popped := if hit.isEmpty then b.popped else 0
    blocks := b.blocks.filter fun x => !hit.contains x }

/-- The streams that copy a sequence (R302): CAPTURE streams take the finished block. -/
def State.capOffer (s : State) (q : Fin 16) (b : Block) : State := s.slcOffer q (b.no, b.addr, b.words, b.aborted)

/-- The running block ends: header, SEQ_DONE, reservation (R430, R431, R436). -/
def State.capFinish (s : State) (q : Fin 16) (aborted : Bool) : State :=
  let b := s.capt q
  let w := s.capW q
  let h2 := b.no + 65536 * q.val + 1048576 * b2n (s.capWide q) + 2097152 * b2n b.queued + 4194304 * b2n b.flagged +
    8388608 * b2n aborted
  let s := s.setEddyWords b.addr [lo24 b.first, hi24 b.first, toWord h2, toWord b.got, codeWord b.ofs,
    toWord (w + 128 * s.capCfg q 2 1 + 8388608)]
  let blk : Block := ⟨b.no, b.addr, 6 + b.got * w, aborted⟩
  let s := (s.setFld (CAP q 7) 15 0 b.no).setFld (CAP q 6) 19 0 (b.addr + 6 + b.got * w)
  let s := s.setCapt q fun b => { b with
    blocks := b.blocks ++ [blk], nextNo := (b.no + 1) % 65536, got := 0, goal := 0, queued := false, flagged := false }
  (s.capOffer q blk).fire 472 (toWord (q.val + 16 * b.no))

/-- A block begins to wait for its first set: `hist` says that it takes the pre-trigger history. -/
def State.capBegin (s : State) (q : Fin 16) (queued : Bool) (ofs : Int) : State :=
  let goal := if queued then s.fld (CAP q 4) 11 0 + s.fld (CAP q 4) 23 12 else s.fld (CAP q 4) 23 12
  (s.setCapt q fun b => { b with fired := true, got := 0, goal := goal, queued := queued, ofs := ofs
                                 addr := s.capStart q, no := b.nextNo }).setCapState q 2

/-- A trigger in each state (R431, R432). -/
def State.capTrigger (s : State) (q : Fin 16) : State :=
  match s.capState q with
  | 1 => s.capBegin q false 0
  | 2 =>
    match s.fld (CAP q 0) 4 3 with
    | 0 => s.capMiss q 0
    | 1 =>
      if (s.capt q).pendSets.isSome then s.capMiss q 2
      else (s.setBit (CAP q 5) 2 true).setCapt q fun b => { b with pendSets := some 0 }
    | _ =>
      let s := (s.capFinish q true).capArm q
      if s.capState q = 3 then s.capMiss q 1 else s.capBegin q false 0
  | 3 => s.capMiss q 1
  | _ => s

/-- A sample set of the lead channel reaches its sequence (R429, R431). -/
def State.capTake (s : State) (q : Fin 16) (lead : Fin 32) (t : RingTime) : State :=
  let x := s.capSet q lead t
  let pre := s.fld (CAP q 4) 11 0
  let keep := fun (s : State) => s.setCapt q fun b => { b with
    pre := lastN pre (b.pre ++ [x]), pendSets := b.pendSets.map (· + 1) }
  if s.dev ≠ .pitched ∧ s.dev ≠ .safe then s
  else if s.capState q = 1 then keep s
  else if s.capState q = 2 then
    let b := s.capt q
    if b.fired then
      let hist := if b.queued then [] else lastN pre b.pre
      let s := s.capOpen q
      let s := s.setCapt q fun b => { b with
        goal := b.goal + hist.length, ofs := if b.queued then b.ofs else (hist.length : Int) }
      let s := hist.foldl (fun s y => s.capStore q y) s
      keep (s.capStore q x)
    else if b.got < b.goal then keep (s.capStore q x)
    else keep s
  else s

/-- Every sequence whose lead channel and source have produced a value takes a set (R429). -/
def State.captures (s : State) (c : Fin 32) (src : Nat) (t : RingTime) : State :=
  (List.finRange 16).foldl (fun s q =>
    if (s.capRec q).isSome ∧ s.capCfg q 2 1 = src ∧ (s.capChans q).head? = some c then s.capTake q c t else s) s

/-- ARM (R431). -/
def State.capArmCmd (s : State) (q : Fin 16) : State :=
  if s.capState q ≠ 0 then s
  else if s.capCfg q 0xB 3 < s.capSize q then s.setBit (CAP q 5) 3 true
  else ((s.setBit (CAP q 5) 3 false).setCapt q fun b => { b with pre := [] }).capArm q
/-- DISARM, and every other end of a sequence (R431, R434). -/
def State.capDisarm (s : State) (q : Fin 16) : State :=
  let s := if s.capState q = 2 then s.capFinish q true else s
  let s := s.setCapt q fun b => { b with pendSets := none, fired := false }
  (s.setBit (CAP q 5) 2 false).setCapState q 0
/-- Every sequence ends (R434). -/
def State.capStopAll (s : State) : State := (List.finRange 16).foldl State.capDisarm s
/-- Blocks are released; a full sequence arms when the area is free (R433, R444). -/
def State.capRelease (s : State) (q : Fin 16) (n : Nat) : State :=
  let s := s.setCapt q fun b => { b with blocks := b.blocks.drop n, popped := 0 }
  if s.capState q = 3 then s.capArm q else s
/-- Release of one block by its number (R302, R433). -/
def State.capReleaseNo (s : State) (q : Fin 16) (no : Nat) : State :=
  let s := s.setCapt q fun b => { b with blocks := b.blocks.filter fun x => x.no ≠ no }
  if s.capState q = 3 then s.capArm q else s
/-- The next data word for a FIFO consumer, and the sequence after its pop (R169, R433). -/
def State.capPop (s : State) (q : Fin 16) : Option Word × State :=
  match (s.capt q).blocks.find? fun b => decide (6 < b.words) with
  | none => (none, s)
  | some b =>
    let p := (s.capt q).popped
    let w := s.eddyAt (b.addr + 6 + p)
    if b.words ≤ p + 7 then (some w, ((s.setCapt q fun x => { x with popped := 0 }).capReleaseNo q b.no))
    else (some w, s.setCapt q fun x => { x with popped := p + 1 })

/-- CAPTURE_TRIGGER (R432): the source that CAP_TRIG selects fires: 1 event, 2 SYNC, 3 time. -/
def execCaptureTrigger (q : Fin 16) (src : Nat) (s : State) : Res :=
  .next (if (s.capRec q).isSome && decide (src ≠ 0) && decide (s.fld (CAP q 1) 1 0 = src) then s.capTrigger q else s)

/-- CAPTURE_BLOCK_COMPLETE (R431): the last set has been taken; a pending trigger's block, ARMED or IDLE follows. -/
def execCaptureBlockComplete (q : Fin 16) (s : State) : Res :=
  let b := s.capt q
  if s.capState q ≠ 2 ∨ b.fired ∨ b.got < b.goal ∨ b.goal = 0 then .next s
  else
    let s := s.capFinish q false
    match b.pendSets with
    | some n =>
      let s := (s.setBit (CAP q 5) 2 false).setCapt q fun b => { b with pendSets := none }
      let s := s.capArm q
      .next (if s.capState q = 3 then s.capMiss q 1 else s.capBegin q true (-(n : Int)))
    | none => .next (if s.bit (CAP q 0) 5 then s.capArm q else s.setCapState q 0)

/-- FINE_OUTPUT (R414): the channel's next fine output and its consumers. -/
def execFineOutput (c : Fin 32) (s : State) : Res :=
  let r := s.fineOutput c
  let t : RingTime := (r.1.reg (FLT c 3)).append (r.1.reg (FLT c 2))
  let s := if r.2.1 then r.1.captures c 0 t else r.1
  .next (if r.2.2 then s.captures c 2 t else s)

/-- RIFFLE_VALUE (R417). -/
def execRiffleValue (c : Fin 32) (s : State) : Res :=
  let r := s.riffleValue c
  let t : RingTime := (r.1.reg (FLT c 7)).append (r.1.reg (FLT c 6))
  .next (if r.2 then r.1.captures c 1 t else r.1)

end Sys2Proof.Machine
end

