-- ==== Sys2Proof/Machine/AxisOps.lean ====
section
/-!
DEFINITION. Shared operations of the axes: counting, speed, direction, limits, the reference-run sequencer, the pulse
divider and the snapshots (14); and what every change of the channels' triggers and diagnostics brings about (R360, R365).
-/
namespace Sys2Proof.Machine

/-- An axis exists (R446). -/
def State.axisOn (s : State) (a : Fin 8) : Bool := (s.axisRec a).isSome
/-- POS_MOD. -/
def State.posMod (s : State) (a : Fin 8) : Nat := s.axCfg a 8 3 + 1
/-- An axis event: data bits from [3] upward (R484). -/
def State.axisEvent (s : State) (a : Fin 8) (id d : Nat) : State := s.fire id (toWord (a.val + 8 * d))

/-- Counts are applied to POS and REV (R459): the carries of a frame have one sign. -/
def State.axisCount (s : State) (a : Fin 8) (n : Int) : State :=
  let m : Int := s.posMod a
  let p : Int := (s.reg (POS a 0)).toNat + n
  let s := s.setReg (POS a 0) (codeWord (p % m))
  let r := (s.reg (POS a 1)).toInt + p / m
  if p / m = 0 ∨ s.bit (POS a 2) 3 then s
  else if 8388607 < r then
    ((s.setReg (POS a 1) 0x7FFFFF).setBit (POS a 2) 3 true).axisEvent a 476 0
  else if r < -8388608 then
    ((s.setReg (POS a 1) 0x800000).setBit (POS a 2) 3 true).axisEvent a 476 1
  else s.setReg (POS a 1) (codeWord r)

/-- POS and REV are loaded: REV_SAT and RESTORED clear, HOMED sets (R459, R461, R476). -/
def State.axisLoad (s : State) (a : Fin 8) (pos rev : Int) : State :=
  let s := (s.setReg (POS a 0) (codeWord pos)).setReg (POS a 1) (codeWord rev)
  s.setFld (POS a 2) 3 1 1

/-- POS_EXT as a signed 48-bit value (R460). -/
def State.posExt (s : State) (a : Fin 8) : RingTime :=
  BitVec.ofInt 48 ((s.reg (POS a 1)).toInt * (s.posMod a : Int) + (s.reg (POS a 0)).toNat)
/-- POS_EXT_2 (R460). -/
def State.posExt2 (s : State) (a : Fin 8) : Word :=
  toWord (b2n (s.bit (POS a 2) 3) + 2 * b2n (s.bit (POS a 2) 0) + 4 * b2n (s.bit (POS a 2) 1))

/-- DIR after the net movement of a frame (R467). -/
def State.axisDir (s : State) (a : Fin 8) (n : Int) : State :=
  let back := s.bit (POS a 2) 4
  let off : Int := (if back then -n else n) - (s.axis a).back
  if 0 ≤ off then s.setAxis a fun x => { x with back := 0 }
  else if off.natAbs ≤ s.axCfg a 0xE 1 then s.setAxis a fun x => { x with back := off.natAbs }
  else
    let s := ((s.setBit (POS a 2) 4 (!back)).setBit (POS a 0xD) 0 true).bump (POS a 0x1B)
    (s.setAxis a fun x => { x with back := 0 }).axisEvent a 475 (b2n (!back))

/-- Speed as at standstill (R465). -/
def State.standstill (s : State) (a : Fin 8) : State :=
  (((s.setReg (POS a 6) 0).setReg (POS a 7) 0xFFFFFF).setReg (POS a 8) 0).setBit (POS a 2) 5 true
/-- POS_SPEED of a movement over T ticks (R465, R466). -/
def State.setSpeed (s : State) (a : Fin 8) (d : Int) (k t : Nat) : State :=
  let sc := (BitVec.ofNat 8 (s.axCfg a 0xB 1)).toInt
  let num := d * 24576000 * (2 ^ (-sc).toNat : Nat)
  let v := clampTo (-8388607) 8388607 (roundAway num (t * 2 ^ sc.toNat))
  (((s.setReg (POS a 6) (codeWord v)).setReg (POS a 7) (toWord t)).setFld (POS a 8) 6 0 k).setBit (POS a 2) 5 false
/-- Ring time units as ticks of the sample clock. -/
def ticksOf (d : Nat) : Nat := d * 1536 / 31250

/-- Counts of a frame reach position, direction and divider (R459, R467, R478, R479). -/
def State.axisMove (s : State) (a : Fin 8) (n : Int) : State :=
  let s := (s.axisCount a n).axisDir a n
  if s.bit (POS a 0x10) 2 = false then s
  else
    let den : Int := s.axCfg a 0x33 3
    let tot := (s.axis a).pdAcc + (s.axCfg a 0x30 3 : Int) * n
    let tgt := (s.axis a).pdTarget + tot / den
    let lag := tgt - (s.axis a).pdOut
    let held := (s.axis a).pdOut + clampTo (-32767) 32767 lag
    let s := s.setAxis a fun x => { x with pdAcc := tot % den, pdTarget := held }
    let s := s.setFld (POS a 0x14) 15 0 (BitVec.ofInt 16 (held - (s.axis a).pdOut)).toNat
    s.when (decide (tgt ≠ held)) fun s =>
      ((s.bumpBy (POS a 0x1C) (tgt - held).natAbs).setBit (POS a 0xD) 6 true).axisEvent a 478 4

/-- The sequencer's state (R474). -/
def State.homeState (s : State) (a : Fin 8) : Nat := s.fld (POS a 0xF) 3 0
/-- A run ends in IDLE with a result (R477). -/
def State.homeIdle (s : State) (a : Fin 8) (res : Nat) : State :=
  let s := ((s.setFld (POS a 0xF) 3 0 0).setFld (POS a 0xF) 7 4 res).setReg (POS a 0x11) 0
  (s.setAxis a fun x => { x with ref := 0, reversed := false }).axisEvent a 480 (2 * res)
/-- A run goes to ENDING with a stored result. -/
def State.homeEnding (s : State) (a : Fin 8) (res : Nat) : State :=
  (s.setFld (POS a 0xF) 3 0 9).setAxis a fun x => { x with stored := res }
/-- Enter a state of the run. -/
def State.homeGo (s : State) (a : Fin 8) (st : Nat) : State := s.setFld (POS a 0xF) 3 0 st
/-- The limit in the positive (or negative) direction is latched. -/
def State.limLatched (s : State) (a : Fin 8) (pos : Bool) : Bool := s.bit (POS a 0xE) (if pos then 2 else 3)
/-- HOME_MODE.DIR gives the positive direction. -/
def State.homePos (s : State) (a : Fin 8) : Bool := !(s.axCfg a 0x1F 1).testBit 0

/-- The level conditions of the run's states, in the order of the table; in SAFE the trigger of CH_REF counts before the change
of state (R474, R475, R476; log entry 85). -/
def State.homeEval (s : State) (a : Fin 8) : State :=
  let st := s.homeState a
  let hm := (s.axis a).home
  let fwd := s.homePos a
  let any := s.limLatched a true || s.limLatched a false
  let s := s.when (decide (st = 3) && hm) fun s => s.setAxis a fun x => { x with homeSeen := true }
  let off := match s.axCh a 0x16 with
    | some c => s.bit (CH c 6) 1
    | none => false
  let trig := match s.axCh a 0x16 with
    | some c => !(s.triggers c).isEmpty
    | none => false
  let chat := decide (st ≤ 7) && decide (s.axCfg a 0x1D 1 < s.fld (POS a 0xF) 15 8)
  if st = 0 ∨ st = 9 then s
  else if trig then s.homeIdle a 7
  else if s.dev ≠ .pitched ∧ s.dev ≠ .doze then s.homeIdle a 6
  else if off then s.homeEnding a 6
  else if (s.axis a).lost && decide (s.axCfg a 1 1 ≠ 0) then s.homeEnding a 8
  else if chat then s.homeEnding a 4
  else if st = 1 then (if hm then s.homeGo a 5 else if s.limLatched a fwd then s.homeGo a 2 else s)
  else if st = 3 then
    (if !hm && (s.axis a).homeSeen then s.homeGo a 4 else if s.limLatched a (!fwd) then s.homeEnding a 2 else s)
  else if st = 4 then (if s.limLatched a (!fwd) then s.homeEnding a 2 else s)
  else if st = 5 then (if s.limLatched a fwd then s.homeEnding a 2 else s)
  else if st = 6 then
    (if !hm then
      (if (s.axCfg a 0x1F 1).testBit 2 then (s.homeGo a 7).setAxis a fun x => { x with skipIndex := true }
       else (s.axisLoad a (s.axCfg a 0x27 3) (BitVec.ofNat 24 (s.axCfg a 0x2A 3)).toInt).homeGo a 8)
     else if any then s.homeEnding a 3 else s)
  else if st = 7 ∨ st = 8 then (if any then s.homeEnding a 3 else s)
  else s

/-- One frame period of the run's reference, which is kept in units of 1/(100·T_STOP) code (R473, R474). -/
def State.homeStep (s : State) (a : Fin 8) : State :=
  let st := s.homeState a
  if st = 0 then s
  else
    let cr : Int := s.axCfg a 0x20 3
    let full := cr * 100 * (s.axCfg a 0x23 2 : Int)
    let sg : Int := if s.homePos a then 1 else -1
    let tgt := if st = 1 then sg * full else if st = 3 ∨ st = 6 ∨ st = 7 then -sg * full else 0
    let r := (s.axis a).ref
    let r' := if r < tgt then min tgt (r + cr) else max tgt (r - cr)
    let s := s.setAxis a fun x => { x with ref := r' }
    if r' ≠ 0 then s
    else if st = 2 then
      (if (s.axCfg a 0x1F 1).testBit 1 && !(s.axis a).reversed then
        (s.homeGo a 3).setAxis a fun x => { x with reversed := true, homeSeen := false }
       else s.homeIdle a 2)
    else if st = 4 then s.homeGo a 1
    else if st = 5 then s.homeGo a 6
    else if st = 8 then s.homeIdle a 1
    else if st = 9 then s.homeIdle a (s.axis a).stored
    else s

/-- The feedback cells of an axis. -/
def State.fbCells (s : State) (a : Fin 8) : List (Fin 32) :=
  let src := s.axCfg a 1 1
  (if src = 1 then [s.axCh a 4, s.axCh a 5, s.axCh a 6] else if src = 2 then [s.axCh a 7]
    else if src = 3 then [s.axCh a 4, s.axCh a 5] else []).filterMap id
/-- Feedback is lost (R468). -/
def State.fbLost (s : State) (a : Fin 8) : Bool :=
  decide (s.axCfg a 1 1 ≠ 0) && ((s.fbCells a).any s.chInvalid || decide (3 ≤ (s.axis a).ssiFail))
/-- The start, or the end, of a loss of feedback (R468). -/
def State.fbCheck (s : State) (a : Fin 8) : State :=
  let now := s.fbLost a
  if s.axisOn a = false ∨ now = (s.axis a).lost then s
  else
    let s := (s.setAxis a fun x => { x with lost := now, prev := none, ssiPrev := none, ssiHalf := none, moves := [] })
    let s := s.setBit (POS a 2) 0 now
    if now then
      let s := ((s.setFld (POS a 2) 2 1 0).setBit (POS a 0xD) 5 true).standstill a
      (s.axisEvent a 478 3).homeEval a
    else s

/-- Limit inputs of an axis: assertion and latching (R470). -/
def State.limitEval (s : State) (a : Fin 8) : State :=
  let one := fun (s : State) (pos : Bool) =>
    match s.axCh a (if pos then 0x17 else 0x18) with
    | none => s
    | some c =>
      let lvl := (s.axCfg a 0x1A 1).testBit (if pos then 0 else 1)
      let asserted := s.chInvalid c || decide (s.bit (CH c 0) 0 = lvl)
      let was := s.limLatched a pos
      let s := s.setBit (POS a 0xE) (if pos then 0 else 1) asserted
      if asserted && !was then
        let s := (s.setBit (POS a 0xE) (if pos then 2 else 3) true).setBit (POS a 0xD) (if pos then 7 else 8) true
        s.axisEvent a 479 (b2n (!pos))
      else s
  if s.axisOn a then (one (one s true) false).homeEval a else s

/-- HOME_START (R472). -/
def State.homeStart (s : State) (a : Fin 8) : State :=
  let refOk := match s.axCh a 0x16 with
    | some c => (s.triggers c).isEmpty && !s.bit (CH c 6) 1 && decide (s.reg (CH c 0x36) = 0)
    | none => false
  let devOk := decide (s.dev = .pitched) || decide (s.dev = .doze)
  if s.homeState a ≠ 0 then s
  else if devOk && refOk && (s.axCh a 0x19).isSome && s.bit (POS a 2) 5 &&
      !(decide (s.axCfg a 1 1 ≠ 0) && (s.axis a).lost) then
    let s := (s.setFld (POS a 0xF) 7 4 0).setAxis a fun x => { x with ref := 0, reversed := false, homeSeen := false }
    (s.homeGo a (if (s.axis a).home then 6 else 1)).homeEval a
  else (s.setFld (POS a 0xF) 7 4 9).axisEvent a 480 (2 * 9)
/-- HOME_ABORT (R474). -/
def State.homeAbort (s : State) (a : Fin 8) : State :=
  if s.homeState a = 0 ∨ s.homeState a = 9 then s else s.homeEnding a 6

/-- PD_ENABLE is set: the divider starts at the emitted count (R478). -/
def State.pdEnable (s : State) (a : Fin 8) : State :=
  (s.setAxis a fun x => { x with pdAcc := 0, pdTarget := x.pdOut }).setReg (POS a 0x14) 0

/-- The snapshot of an axis goes to Ember (R480). -/
def State.snapOne (s : State) (a : Fin 8) : State :=
  match s.axisRec a with
  | none => s
  | some r =>
    let x := s.posExt a
    let sn : AxisSnap := ⟨lo24 x, hi24 x, s.posExt2 a, crc32 r % 65536⟩
    { s with ember := { s.ember with snaps := updV s.ember.snaps a fun _ => some sn } }
/-- The snapshots of every axis (R480). -/
def State.snapAll (s : State) : State := (List.finRange 8).foldl State.snapOne s
/-- AXIS_SNAPSHOT (R480). -/
def execAxisSnapshot (s : State) : Res :=
  .next (if s.dev = .pitched ∨ s.dev = .doze then s.snapAll else s)
/-- An axis restores its position from its snapshot when the conditions of R481 hold. -/
def State.axisRestore (s : State) (a : Fin 8) : State :=
  match s.axisRec a, s.ember.snaps[a.val] with
  | some r, some sn =>
    let src := u8 r 1
    let ok := (decide (src = 1) || decide (src = 2)) && (u8 r 0x1F).testBit 3 && s.ember.valid &&
      decide (sn.tag = crc32 r % 65536) && bitOf sn.ext2 2 && !bitOf sn.ext2 0 && !s.fbLost a
    let e : RingTime := sn.ext1.append sn.ext0
    let m : Int := s.posMod a
    if ok then ((s.axisLoad a (e.toInt % m) (e.toInt / m))).setBit (POS a 2) 2 true else s
  | _, _ => s
/-- An axis restarts at p5 (R482). -/
def State.axisRestart (s : State) (a : Fin 8) : State :=
  let base := [0, 1, 0xA, 0xB, 0xC, 0xD, 0xE, 0xF, 0x10, 0x11, 0x14, 0x18, 0x19, 0x1A, 0x1B, 0x1C]
  let s := base.foldl (fun s o => s.setReg (POS a o) 0) s
  let s := (s.setFld (POS a 2) 6 0 0x20).setAxis a fun _ => Axis.reset
  s.standstill a

/-- The stamp of a diagnostic: the instant at which the island set it; CHATTER and an analogue READBACK are the hub's own, and
stamped now (R286, R365). -/
def State.diagStamp (s : State) (c : Fin 32) (d : Nat) : RingTime :=
  if d = 3 ∧ isAnalogue (s.func c) then s.time else ((s.cell c).diagAt[d]?).getD s.time
/-- The stamp of SAFE_APPLIED: the instant at which the island met the trigger, or now for one of the hub's (R286, R360). -/
def State.trigStamp (s : State) (c : Fin 32) (t : Nat) : RingTime :=
  if t = 4 then (s.isl (chIsl c)).vfldAt else if t = 5 then (s.cell c).lat5At else if t = 6 then (s.cell c).lat6At else s.time

/-- What becomes known of a channel when its diagnostics or triggers change: sticky bits, events of newly set
diagnostics, SAFE_APPLIED for newly active triggers other than code 3, and the zeroed reference of an axis (R365, R366,
R469). -/
def State.observeCh (old : State) (s : State) (c : Fin 32) : State :=
  let d0 := old.chDiag c
  let d1 := s.chDiag c
  let new := d1 - (d1 &&& d0)
  let t0 := old.triggers c
  let t1 := s.triggers c
  let ev := fun (s : State) (b : Bool) (e d : Nat) =>
    s.when b fun s => s.fireAt (12 * c.val + e) (s.diagStamp c d) (toWord d1)
  let s := s.when (decide (new ≠ 0)) fun s => s.setReg (CH c 5) (s.reg (CH c 5) ||| toWord new)
  let s := s.when (new.testBit 7) fun s => s.bump (CH c 0xD)
  let s := ev s (new.testBit 0) 1 0
  let s := ev s (new.testBit 1) 2 1
  let s := ev s (new.testBit 2 || new.testBit 8) 3 2
  let s := ev s (new.testBit 3) 5 3
  let s := ev s (new.testBit 4) 5 4
  let s := (t1.filter fun t => decide (t ≠ 3) && !t0.contains t).foldl
    (fun s t => s.fireAt (12 * c.val + 4) (s.trigStamp c t) (toWord t)) s
  if t0.isEmpty && !t1.isEmpty then
    match s.axisOf c with
    | some a =>
      if s.axCh a 0x16 = some c then ((s.setReg (POS a 0x11) 0).setBit (POS a 2) 6 true).homeEval a else s
    | none => s
  else s
/-- The same for every channel, then the feedback and limit inputs of every axis. -/
def State.observe (old s : State) : State :=
  let s := (List.finRange 32).foldl (fun s c => old.observeCh s c) s
  (List.finRange 8).foldl (fun s a => (s.fbCheck a).limitEval a) s

/-- HOME_DEBOUNCE (R475): the home input is stable at a level. -/
def execHomeDebounce (a : Fin 8) (asserted : Bool) (s : State) : Res :=
  .next (if s.axisOn a then
    ((s.setAxis a fun x => { x with home := asserted }).setBit (POS a 0xE) 5 asserted).homeEval a else s)
/-- HOMING_TIMEOUT (R474). -/
def execHomingTimeout (a : Fin 8) (s : State) : Res :=
  .next (if s.homeState a = 0 ∨ s.homeState a = 9 then s else s.homeEnding a 5)
/-- LIMIT_RELEASE (R470). -/
def execLimitRelease (a : Fin 8) (pos : Bool) (s : State) : Res :=
  .next (if s.bit (POS a 0xE) (if pos then 0 else 1) then s else s.setBit (POS a 0xE) (if pos then 2 else 3) false)
/-- STANDSTILL_TIMEOUT (R465). -/
def execStandstillTimeout (a : Fin 8) (s : State) : Res := .next (if s.axisOn a then s.standstill a else s)

/-- SSI_READ (R456): the island clocks out a word: the data line at the start, the word as sent, the line 1 µs after the
last edge, and whether it returned to 1 in time. -/
def execSsiRead (a : Fin 8) (idle : Bool) (word : Nat) (after back : Bool) (s : State) : Res :=
  if s.axCfg a 1 1 ≠ 3 ∨ !((s.axCh a 4).any s.structured) then .next s
  else
    let w := word % 2 ^ s.axCfg a 0x10 1
    let code := if idle = false then 1 else if after ∨ back = false then 2 else 0
    let n := ((s.axis a).ssiNo + 1) % 4
    let err := if code = 0 then 0 else 2097152
    let h0 := w % 1048576 + err + n * 4194304
    let h1 := w / 1048576 + code * 4096 + 1048576 + err + n * 4194304
    .next (s.setAxis a fun x => { x with ssiOut := [toWord h0, toWord h1], ssiNo := n })

end Sys2Proof.Machine
end

