-- ==== Sys2Proof/Machine/Energy.lean ====
section
/-!
DEFINITION. The energy ledger (R492–R500): increments, windows, trips, their release and escalation.
-/
namespace Sys2Proof.Machine

def State.setLed (s : State) (c : Fin 32) (f : Led → Led) : State := { s with leds := updV s.leds c f }
def State.setILed (s : State) (i : Fin 8) (f : Led → Led) : State := { s with iLeds := updV s.iLeds i f }

/-- Microamperes of an AO-I or AI-I code (R375). -/
def codeMicroamp (n : Int) : Nat := n.toNat * 25000 / 8388607

/-- The current in mA and the energy in nJ that the ledger accounts for a channel in one frame (R495). -/
def State.nrgOf (s : State) (c : Fin 32) : Nat × Nat :=
  let f := s.func c
  let v := (s.isl (chIsl c)).vfld
  let on := s.energised c
  let ma := (s.reg (CH c 0xE)).toNat
  let i := ma + 4
  let rb := (s.reg (CH c 0x34)).toInt
  if s.structured c = false ∨ isLedger (s.chRec c) = false then (0, 0)
  else if f = 0xB then (if on then (i, 5500 * i / 100) else (0, 0))
  else if isDigitalOut f then
    (if on then (i, v * i / 100) else if ma ≠ 0 ∧ f ≠ 9 then (i, 53000 * i / 100) else (0, 0))
  else if f = 0x18 then
    let ua := codeMicroamp (max (s.reg (CH c 0x36)).toInt rb)
    (if on then (ua / 1000, v * ua / 100000) else (0, 0))
  else if f = 0x19 then
    (if on then (30, rb.natAbs * 12500 * 30 / (8388607 * 100)) else (0, 0))
  else
    let sup := (s.cell c).sup && (s.cell c).ena && !(s.isl (chIsl c)).vlow
    let ua := if f = 0x10 then codeMicroamp rb else ma * 1000
    (if sup then (ua / 1000, v * ua / 100000) else (0, 0))

/-- The windows of a ledger in nJ (R496). -/
def Led.e1 (l : Led) : Nat := l.inc.foldl (· + ·) 0
def Led.e100 (l : Led) : Nat := l.bins.foldl (· + ·) l.cur
/-- One frame period's increment enters the windows. -/
def Led.add (l : Led) (d : Nat) : Led := { l with prev := d, inc := (d :: l.inc).take 100, cur := l.cur + d }
/-- A 1 ms bin completes at slot 0 (R496). -/
def Led.shift (l : Led) : Led := { l with bins := (l.cur :: l.bins).take 99, cur := 0 }
/-- Structuring clears windows and bins; a trip's start is kept (R496, R507). -/
def Led.clear (l : Led) : Led := { l with prev := 0, inc := [], bins := [], cur := 0, iRun := 0, uRun := 0, stRun := 0 }

/-- A scope of the ledger: an island, or one of its channels. Addresses of its status and limits (R504). -/
def nrgStat (i : Fin 8) : Option (Fin 4) → Nat
  | none => NRG i 0
  | some k => NRG i (0x12 + 4 * k.val)
def nrgLim (i : Fin 8) (j : Nat) : Option (Fin 4) → Nat
  | none => NRG i (0x22 + j)
  | some k => NRG i (0x28 + 3 * k.val + j)
def State.scopeLed (s : State) (i : Fin 8) : Option (Fin 4) → Led
  | none => s.iLeds[i.val]
  | some k => s.leds[(chOf i k).val]
/-- The bit of a cause in the status register of its scope (R504). -/
def causeBit (k : Option (Fin 4)) (c : Nat) : Nat := if k.isNone then c + 1 else c
/-- Bits of NRG_TRIP and NRG_WARN that name the scope (R505). -/
def scopeWord : Option (Fin 4) → Nat
  | none => 0
  | some k => 8 + 16 * k.val
/-- A limit in nJ, none where there is no limit. -/
def State.nrgLimit (s : State) (i : Fin 8) (j : Nat) (k : Option (Fin 4)) : Option Nat :=
  if s.reg (nrgLim i j k) = 0 then none else some ((s.reg (nrgLim i j k)).toNat)
/-- A value exceeds a limit. -/
def exceeds (x : Nat) : Option Nat → Bool
  | some l => decide (l < x)
  | none => false

/-- The latest current of a scope in mA (NRG_I, NRG_Ck_I). -/
def State.nrgI (s : State) (i : Fin 8) : Option (Fin 4) → Nat
  | none => s.fld (NRG i 5) 11 0
  | some k => s.fld (NRG i (0x13 + 4 * k.val)) 11 0
/-- Causes whose conditions hold now (R498). -/
def State.nrgCauses (s : State) (i : Fin 8) (k : Option (Fin 4)) : List Nat :=
  let l := s.scopeLed i k
  (if k.isNone && decide (2 ≤ l.uRun) then [1] else []) ++
    (if decide (3 ≤ l.iRun) then [2] else []) ++
    (if exceeds l.e1 ((s.nrgLimit i 1 k).map (· * 1000)) then [3] else []) ++
    (if exceeds l.e100 ((s.nrgLimit i 2 k).map (· * 1000)) then [4] else []) ++
    (if k.isNone && decide (2 ≤ l.stRun) then [5] else [])

/-- One cause: recorded, reported, and a trip starts with the first (R498, R499). -/
def State.nrgCause (s : State) (i : Fin 8) (k : Option (Fin 4)) (c : Nat) : State :=
  let a := nrgStat i k
  if s.bit a (causeBit k c) then s
  else
    let s := if s.bit a 0 then s
      else
        let s := (s.setBit a 0 true).bump (NRG i 8)
        match k with
        | none => s.setILed i fun l => { l with since := s.upUs }
        | some k => (s.setBit (NRG i 0) (7 + k.val) true).setLed (chOf i k) fun l => { l with since := s.upUs }
    (s.setBit a (causeBit k c) true).fire (384 + 8 * i.val + 6) (toWord (c + scopeWord k))
/-- A warning bit sets or clears (R504). -/
def State.nrgWarn (s : State) (i : Fin 8) (k : Option (Fin 4)) : State :=
  let a := nrgStat i k
  let pct := s.fld (NRG i 0x20) 15 8
  let l := s.scopeLed i k
  let excess := fun (x j p : Nat) => match s.nrgLimit i j k with
    | some m => decide (m * 10 * p ≤ x)
    | none => false
  let w1 := excess l.e1 1 pct
  let w2 := excess l.e100 2 pct
  let put := fun (s : State) (v : Bool) => match k with
    | none => s.setBit a 1 v
    | some k => (s.setBit a 1 v).setBit (NRG i 0) (11 + k.val) v
  if pct = 0 then s
  else if s.bit a 1 then (if excess l.e1 1 (pct - 10) || excess l.e100 2 (pct - 10) then s else put s false)
  else if w1 || w2 then
    (put s true).fire (384 + 8 * i.val + 7) (toWord (b2n w1 + 2 * b2n w2 + scopeWord k))
  else s

/-- The conditions of R500 for a scope. -/
def State.nrgFree (s : State) (i : Fin 8) (k : Option (Fin 4)) : Bool :=
  let l := s.scopeLed i k
  let half := fun (x j : Nat) => match s.nrgLimit i j k with
    | some m => decide (2 * x < m * 1000)
    | none => true
  let below := match s.nrgLimit i 0 k with
    | some m => decide (s.nrgI i k < m)
    | none => true
  let volt := s.reg (NRG i 0x21) = 0 || decide ((s.isl i).vfld + 500 ≤ s.fld (NRG i 0x21) 23 0 * 100)
  let store := s.reg (NRG i 0x25) = 0 || decide (s.reg (NRG i 4) < s.reg (NRG i 0x25))
  half l.e1 1 && half l.e100 2 && below && volt && store && decide (l.since + 100000 ≤ s.upUs)
/-- A trip ends: its bits clear (R500). -/
def State.nrgEnd (s : State) (i : Fin 8) (k : Option (Fin 4)) : State :=
  match k with
  | none => s.setFld (NRG i 0) 6 2 0 |>.setBit (NRG i 0) 0 false
  | some k =>
    ((s.setFld (NRG i (0x12 + 4 * k.val)) 5 2 0).setBit (NRG i (0x12 + 4 * k.val)) 0 false).setBit (NRG i 0) (7 + k.val)
      false
/-- Every scope of an island: the island itself, then its cells. -/
def nrgScopes : List (Option (Fin 4)) := none :: (List.finRange 4).map some
/-- A release of every trip of the island whose conditions hold. -/
def State.nrgRelease (s : State) (i : Fin 8) : State :=
  nrgScopes.foldl (fun s k => if s.bit (nrgStat i k) 0 && s.nrgFree i k then s.nrgEnd i k else s) s
/-- A write of NRG_CTRL.RELEASE (R500, R506). -/
def State.nrgReleaseCmd (s : State) (i : Fin 8) : State :=
  let s := s.nrgRelease i
  s.setBit (NRG i 0) 15 (nrgScopes.any fun k => s.bit (nrgStat i k) 0)

/-- Window registers and peaks of a scope (R504). -/
def State.nrgShow (s : State) (i : Fin 8) (k : Option (Fin 4)) : State :=
  let l := s.scopeLed i k
  let e1 := toWord (min 0xFFFFFF (l.e1 / 1000))
  let e2 := toWord (min 0xFFFFFF (l.e100 / 1000))
  match k with
  | none =>
    let s := (s.setReg (NRG i 2) e1).setReg (NRG i 3) e2
    (s.setReg (NRG i 6) (if s.reg (NRG i 6) < e1 then e1 else s.reg (NRG i 6))).setReg (NRG i 7)
      (if s.reg (NRG i 7) < e2 then e2 else s.reg (NRG i 7))
  | some k => (s.setReg (NRG i (0x10 + 4 * k.val)) e1).setReg (NRG i (0x11 + 4 * k.val)) e2
/-- One scope after the frame's increment: warnings, then causes. -/
def State.nrgEval (s : State) (i : Fin 8) (k : Option (Fin 4)) : State :=
  let s := (s.nrgShow i k).nrgWarn i k
  (s.nrgCauses i k).foldl (fun s c => s.nrgCause i k c) s

/-- The run of frames whose current exceeds I_LIM; during INRUSH of a channel the check is suspended (R498). -/
def State.nrgIRun (s : State) (i : Fin 8) (k : Option (Fin 4)) : Nat :=
  match k with
  | some k' =>
    if (s.cell (chOf i k')).inrush && isDigitalOut (s.func (chOf i k')) && hasInrush (s.chRec (chOf i k')) then 0
    else if exceeds (s.nrgI i k) (s.nrgLimit i 0 k) then (s.scopeLed i k).iRun + 1 else 0
  | none => if exceeds (s.nrgI i k) (s.nrgLimit i 0 k) then (s.scopeLed i k).iRun + 1 else 0

/-- NRG_LEDGER_UPDATE (R495, R496): the increments of one frame period; a missed frame repeats the previous ones, and
during an island loss they are 0. -/
def State.nrgUpdate (s : State) (i : Fin 8) (missed : Bool) : State :=
  if s.fieldPowered i then
    let s5 := (nrgScopes.take 1).foldl (fun s k => s.nrgEval i k) s
    if s5.bit (NRG i 0x20) 0 then s5.nrgRelease i else s5
  else
    let lost := (s.isl i).lost
    let d := fun (c : Fin 32) => if lost then (0, 0) else if missed then (s.fld (NRG i (0x13 + 4 * (c.val % 4))) 11 0,
      s.leds[c.val].prev) else s.nrgOf c
    let cs := (islChans i).map fun c => (c, d c)
    let s1 := cs.foldl (fun s x => (s.setReg (NRG i (0x13 + 4 * (x.1.val % 4))) (toWord (x.2.1 % 4096))).setLed x.1
      fun l => l.add x.2.2) s
    let s2 := (s1.setReg (NRG i 5) (toWord (min 4095 (cs.foldl (fun n x => n + x.2.1) 0)))).setILed i
      fun l => l.add (cs.foldl (fun n x => n + x.2.2) 0)
    let s3 := (List.finRange 4).foldl (fun s k => s.setLed (chOf i k) fun l => { l with iRun := s2.nrgIRun i (some k) }) s2
    let s4 := s3.setILed i fun l => { l with iRun := s2.nrgIRun i none }
    let s5 := nrgScopes.foldl (fun s k => s.nrgEval i k) s4
    if s5.bit (NRG i 0x20) 0 then s5.nrgRelease i else s5
/-- VFLDi was read (DIAG item 4): the U check and stored energy (R497, R498). -/
def State.nrgVolt (s : State) (i : Fin 8) (u st : Bool) : State :=
  let x := s.isl i
  let cres := if s.fieldPowered i then u16 (s.islRec i) 4 else 0
  let n := ((islChans i).filter fun c => isLedger (s.chRec c)).length
  let nj := cres * x.vres * x.vres * 6 / 100000 + 91 * n * x.vfld * x.vfld / 20000000
  let s := s.setReg (NRG i 4) (toWord (min 0xFFFFFF (nj / 1000)))
  let uOver := s.reg (NRG i 0x21) ≠ 0 ∧ s.fld (NRG i 0x21) 23 0 * 100 < x.vfld
  let sOver := s.reg (NRG i 0x25) ≠ 0 ∧ s.fld (NRG i 0x25) 23 0 * 1000 < nj
  s.setILed i fun l => { l with
    uRun := if u then (if uOver then l.uRun + 1 else 0) else l.uRun
    stRun := if st then (if sOver then l.stRun + 1 else 0) else l.stRun }
/-- Structuring of an island clears windows, bins and peaks (R496); with `trips`, its trips end (q3, p3). -/
def State.nrgStructured (s : State) (i : Fin 8) (trips : Bool) : State :=
  let s := (islChans i).foldl (fun s c => s.setLed c Led.clear) (s.setILed i Led.clear)
  let s := ((s.setReg (NRG i 6) 0).setReg (NRG i 7) 0)
  let s := nrgScopes.foldl (fun s k => s.nrgShow i k) s
  s.when trips fun s => (List.finRange 4).foldl (fun s k => s.setReg (NRG i (0x12 + 4 * k.val)) 0) (s.setReg (NRG i 0) 0)

/-- NRG_ESCALATE (R499): 100 ms after its trip began a channel still exceeds a limit, with its safe state LEVEL or
VALUE: the hub clears its ENERGISE. -/
def execNrgEscalate (c : Fin 32) (s : State) : Res :=
  let i := chIsl c
  let k := some (chCell c)
  let m := u8 (s.chRec c) 8
  let l := s.scopeLed i k
  let excess := exceeds (s.nrgI i k) (s.nrgLimit i 0 k) || exceeds l.e1 ((s.nrgLimit i 1 k).map (· * 1000)) ||
    exceeds l.e100 ((s.nrgLimit i 2 k).map (· * 1000))
  .next (if s.bit (nrgStat i k) 0 && excess && (m = 1 || m = 2) && decide (l.since + 100000 ≤ s.upUs) then
    s.setBit (nrgStat i k) 5 true else s)

end Sys2Proof.Machine
end

