-- ==== Sys2Proof/Machine/Link.lean ====
section
/-!
DEFINITION. The Guyline's frames bit by bit: CRCs, safety subframes, downlink and uplink frame (R325–R329).
-/
namespace Sys2Proof.Machine

/-- A byte string with the errors that it met on its way: an error byte is XORed onto each, none beyond the last. -/
def withErr : Bytes → Bytes → Bytes
  | b :: bs, e :: es => (b ^^^ e) :: withErr bs es
  | bs, [] => bs
  | [], _ => []

/-- CRC_P (R327). -/
def crcP (bs : Bytes) : Nat := crcL 16 0x1021 0xFFFF bs
/-- The CRC of SK-A's subframes, and of SK-B's: reflected, so that the register shifts right by 0xA6BC, the reverse of 0x3D65
(R327). -/
def crcSkA (bs : Bytes) : Nat := crcL 16 0x8BB7 0 bs
def crcSkB (bs : Bytes) : Nat := bs.foldl (crcByteR 0xA6BC) 0 ^^^ 0xFFFF

/-- ID of a subframe (R328). -/
def subId (uplink isB : Bool) (i : Nat) : Nat := 128 * b2n uplink + 64 * b2n isB + i
/-- The CRC of a subframe over ID, LIFE and DATA (R328). -/
def subCrc (uplink isB : Bool) (i life data : Nat) : Nat :=
  let bs := beBytes 1 (subId uplink isB i) ++ beBytes 1 life ++ beBytes 2 data
  if isB then crcSkB bs else crcSkA bs
/-- A safety subframe (R328). -/
def subBytes (uplink isB : Bool) (i life data : Nat) : Bytes :=
  beBytes 1 life ++ beBytes 2 data ++ beBytes 2 (subCrc uplink isB i life data)
/-- The errors that LIFE, DATA and the CRC of a subframe met. -/
def subErr (life data crc : Nat) : Bytes := beBytes 1 life ++ beBytes 2 data ++ beBytes 2 crc
/-- LIFE and DATA of a received subframe, if its CRC passes (R329). -/
def subTake (uplink isB : Bool) (i : Nat) (bs : Bytes) : Option (Nat × Nat) :=
  let life := beNat (slice bs 0 1)
  let data := beNat (slice bs 1 2)
  if beNat (slice bs 3 2) = subCrc uplink isB i life data then some (life, data) else none

/-- A frame: SYNC, the part that CRC_P covers, CRC_P, and the subframes (R325, R326). -/
def frameBytes (sync : Nat) (body safA safB : Bytes) : Bytes :=
  beBytes 2 sync ++ body ++ beBytes 2 (crcP body) ++ safA ++ safB
/-- A received frame begins with its SYNC; without it no frame has come. -/
def frameSync (sync : Nat) (bs : Bytes) : Bool := decide (beNat (slice bs 0 2) = sync)
/-- A received frame passes CRC_P. -/
def frameGood (bs : Bytes) : Bool := decide (beNat (slice bs 49 2) = crcP (slice bs 2 47))
/-- The subframes in a received frame. -/
def frameSafA (bs : Bytes) : Bytes := slice bs 51 5
def frameSafB (bs : Bytes) : Bytes := slice bs 56 5

/-- The errors that a downlink frame met: in SYNC, process part and CRC_P, and in each safety subframe (R325). -/
def frameErr (err errA errB : Bytes) : Bytes :=
  (err ++ List.replicate 51 0).take 51 ++ (errA ++ List.replicate 5 0).take 5 ++ errB

/-- SYNC of the two directions. -/
def dnSync : Nat := 0x1DA6
def upSync : Nat := 0x7E5B

/-- The part of a downlink frame that CRC_P covers (R325, R354). -/
def DnFrame.body (d : DnFrame) : Bytes :=
  let octl := (List.finRange 4).foldl (fun n (k : Fin 4) =>
    16 * n + 8 * b2n d.ena[k.val] + 4 * b2n d.appl[k.val] + b2n d.fr[k.val]) 0
  beBytes 3 (d.seq % 256 * 65536 + d.slot % 128 * 512 + d.rungAck % 4 * 128 + b2n d.load * 64) ++
    d.outs.toList.flatMap (fun w => beBytes 3 w.toNat) ++ beBytes 2 octl ++
    beBytes 5 (d.op % 256 * 4294967296 + d.word % 256 * 16777216 + d.data.toNat) ++
    beBytes 2 (d.rstMask % 16 * 4096 + d.rstEdge % 256) ++ List.replicate 23 0
/-- A downlink frame to island `i` (R325). -/
def DnFrame.bytes (d : DnFrame) (i : Nat) : Bytes :=
  frameBytes dnSync d.body (subBytes false false i d.lifeA d.dataA) (subBytes false true i d.lifeB d.dataB)
/-- The process part of a received downlink frame; its subframes are judged apart (R325, R329). -/
def DnFrame.ofBytes (bs : Bytes) : DnFrame :=
  let h := beNat (slice bs 2 3)
  let o := beNat (slice bs 17 2)
  let c := beNat (slice bs 19 5)
  let r := beNat (slice bs 24 2)
  ⟨h / 65536, h / 512 % 128, h / 128 % 4, h.testBit 6, .ofFn fun k => toWord (beNat (slice bs (5 + 3 * k.val) 3)),
    .ofFn fun k => o.testBit (15 - 4 * k.val), .ofFn fun k => o.testBit (14 - 4 * k.val),
    .ofFn fun k => o.testBit (12 - 4 * k.val), c / 4294967296, c / 16777216 % 256, toWord c, r / 4096, r % 256, 0, 0, 0, 0⟩

/-- An uplink frame without its subframes (R326): samples with their cells, the DIGITAL fields, item and value of DIAG, and
its cell bits, three for each cell, cell 0 lowest. -/
structure UpFrame where
  seq : Nat
  firstIdx : Nat
  rung : Nat
  next : Nat
  fpwr : Bool
  structOk : Bool
  dnErr : Bool
  brown : Bool
  samples : List (Nat × Word)
  dig : List Word
  item : Nat
  value : Word
  diag : Nat
deriving DecidableEq, Repr

/-- MAP of the samples: valid and cell of each of the eight slots (R326). -/
def mapOf : List (Nat × Word) → Nat
  | [] => 0
  | x :: xs => 4 + x.1 % 4 + 8 * mapOf xs
/-- The part of an uplink frame that CRC_P covers (R326). -/
def UpFrame.body (f : UpFrame) : Bytes :=
  let xs := f.samples.take 8
  beBytes 3 (f.seq % 256 * 65536 + f.firstIdx % 256 * 256 + f.rung % 4 * 64 + f.next % 4 * 16 + 8 * b2n f.fpwr +
      4 * b2n f.structOk + 2 * b2n f.dnErr + b2n f.brown) ++
    beBytes 3 (mapOf xs) ++ (List.range 8).flatMap (fun j => beBytes 3 (xs.getD j (0, 0)).2.toNat) ++
    (List.range 4).flatMap (fun k => beBytes 3 (f.dig.getD k 0).toNat) ++
    beBytes 5 (f.item % 16 * 68719476736 + f.value.toNat * 4096 + f.diag % 4096)
/-- A received uplink frame (R326). -/
def UpFrame.ofBytes (bs : Bytes) : UpFrame :=
  let h := beNat (slice bs 2 3)
  let m := beNat (slice bs 5 3)
  let d := beNat (slice bs 44 5)
  ⟨h / 65536, h / 256 % 256, h / 64 % 4, h / 16 % 4, h.testBit 3, h.testBit 2, h.testBit 1, h.testBit 0,
    (List.range 8).filterMap fun j =>
      if m.testBit (3 * j + 2) then some (m / 8 ^ j % 4, toWord (beNat (slice bs (8 + 3 * j) 3))) else none,
    (List.range 4).map fun k => toWord (beNat (slice bs (32 + 3 * k) 3)),
    d / 68719476736, toWord (d / 4096), d % 4096⟩

end Sys2Proof.Machine
end

