-- ==== Sys2Proof/Machine/Sense.lean ====
section
/-!
DEFINITION. What an island makes of a slot's measurements and sends in its uplink frame: sinc outputs (R408, R409), pulse
counts, quadrature and edge times (R348, R449–R451, R464), the DIGITAL fields (R354, R382, R451, R455, R457), the DIAG item
and both safety subframes (R326, R328).
-/
namespace Sys2Proof.Machine

/-- R of the sinc decimators, and sample edges to a modulator period: 16 and 8, at rung 0 4 and 32 (R334, R406). -/
def Isl.sincR (x : Isl) : Nat := if x.rung = 0 then 4 else 16
def Isl.modEdges (x : Isl) : Nat := if x.rung = 0 then 32 else 8
/-- One modulator bit through the integrators, and at every R-th through the differentiators (R408). -/
def Sinc.feed (r : Nat) (z : Sinc) (b : Bool) : Sinc × Option Word :=
  let a1 := z.i1 + (if b then 1 else -1)
  let a2 := z.i2 + a1
  let a3 := z.i3 + a2
  if z.n + 1 < r then (⟨a1, a2, a3, z.d1, z.d2, z.d3, z.n + 1⟩, none)
  else
    let e1 := a3 - z.d1
    let e2 := e1 - z.d2
    (⟨a1, a2, a3, a3, e1, e2, 0⟩, some (e2 - z.d3))
/-- The code of a sinc output: s × 2^(23 − 3 log2 R), +1 saturated (R408). -/
def sincCode (r : Nat) (s : Word) : Word := satWord (s.toInt * (8388608 / r ^ 3 : Nat))
/-- The modulator bits of a slot through a cell's decimator: sinc outputs with the number of the bit that completed each; an
SRESET takes effect at its EDGE (R325, R408). -/
def Cell.sincRun (r per : Nat) : Nat → List Bool → Cell → List (Nat × Word) × Cell
  | _, [], c => ([], if c.srst.isSome then { c with sinc := .reset, srst := none } else c)
  | j, b :: bs, c =>
    let c := if c.srst.any fun e => decide (e ≤ j * per) then { c with sinc := .reset, srst := none } else c
    let z := c.sinc.feed r b
    let rest := Cell.sincRun r per (j + 1) bs { c with sinc := z.1 }
    (match z.2 with
      | some s => (j, sincCode r s) :: rest.1
      | none => rest.1, rest.2)

/-- FUNC of a cell in the island's own store. -/
def Isl.func (x : Isl) (k : Fin 4) : Nat :=
  match x.store with
  | some b => u8 b (48 + 80 * k.val)
  | none => 0
/-- The decimators of an island over the modulator bits of a slot: outputs in order of production, each with its cell and
the number of its last bit (R326). -/
def Isl.sincs (x : Isl) (m : UpMeas) : List (Nat × Nat × Word) × Isl :=
  let run := fun (k : Fin 4) =>
    let c := x.cells[k.val]
    if isAI (x.func k) then c.sincRun x.sincR x.modEdges 0 ((m.cells[k.val]?).elim [] (·.mods)) else ([], c)
  let outs := (List.finRange 4).flatMap fun k => (run k).1.map fun y => (y.1, k.val, y.2)
  ((List.range 33).flatMap fun j => outs.filter fun y => decide (y.1 = j), { x with cells := .ofFn fun k => (run k).2 })

/-- The cells of a QUAD axis on an island, with MODE and INVERT (R447, R449). -/
structure QuadUse where
  a : Fin 4
  b : Fin 4
  z : Option (Fin 4)
  mode : Nat
  inv : Bool
  n : Nat
deriving DecidableEq, Repr
/-- The QUAD axes on an island. -/
def State.quadUses (s : State) (i : Fin 8) : List QuadUse :=
  (List.finRange 8).filterMap fun a =>
    let here := fun (o : Nat) => ((s.axCh a o).filter fun c => decide (chIsl c = i)).map chCell
    match here 4, here 5 with
    | some ka, some kb =>
      if s.axCfg a 1 1 = 1 then
        some ⟨ka, kb, here 6, s.axCfg a 2 1 % 4, (s.axCfg a 2 1).testBit 2, s.axCfg a 3 1⟩ else none
    | _, _ => none

/-- The count that a change of A and B makes: none where it is not counted (R449). -/
def quadStep (mode : Nat) (inv a b a' b' : Bool) : Option Int :=
  let fwd := if a ≠ a' then a' != b' else a' == b'
  if (a ≠ a' ∧ b ≠ b') ∨ (a = a' ∧ b = b') then none
  else if (mode = 0 ∧ !(a' && !a)) ∨ (mode = 1 ∧ a = a') then none
  else some (if fwd != inv then 1 else -1)
/-- A and B in ×4 quadrature at a count, as R449 counts them; a pulse divider's outputs at the count that the island has
emitted (R479). -/
def quadLevels (n : Int) : Bool × Bool := (decide (1 ≤ n % 4 ∧ n % 4 ≤ 2), decide (2 ≤ n % 4))
def State.pdLevels (s : State) (a : Fin 8) : Bool × Bool := quadLevels (s.axis a).pdOut
/-- A counted edge: the count modulo 65,536, and its time; a reversal begins the times anew (R451, R464). -/
def PulseCnt.edge (p : PulseCnt) (d : Int) (t : Nat) : PulseCnt :=
  let f := decide (0 < d)
  { p with
    cnt := (((p.cnt : Int) + d) % 65536).toNat, fwd := f
    times := if f = p.fwd then (t :: p.times).take 65 else [t] }
/-- One sampling instant of a QUAD axis's cells; an index at the instant of a count is after it (R449, R453). -/
def Isl.quadPulse (p : Pulse) (x : Isl) (q : QuadUse) : Isl :=
  let a := x.cells[q.a.val]
  let b := x.cells[q.b.val].filt.testBit 0
  let a' := p.fa.testBit q.a.val
  let b' := p.fa.testBit q.b.val
  let t := x.tickPrev + (p.at0 + 2) / 4
  let pul := if a.filt.testBit 0 ≠ a' ∧ b ≠ b' then { a.pul with qerr := true }
    else match quadStep q.mode q.inv (a.filt.testBit 0) b a' b' with
      | some d => a.pul.edge d t
      | none => a.pul
  let x := x.setCell q.a fun c => { c with pul := pul }
  match q.z with
  | some z =>
    if !x.cells[z.val].filt.testBit 0 && p.fa.testBit z.val then
      x.setCell z fun c => { c with pul := { c.pul with idx := pul.cnt, idxGot := true } }
    else x
  | none => x
/-- The count that a change of a CNT cell's FA makes, with FB unused, as direction or as gate (R348). -/
def cntStep (mode : Nat) (old new fb : Bool) : Int :=
  let counted := if mode % 4 = 0 then !old && new else if mode % 4 = 1 then old && !new else old != new
  if !counted then 0
  else if mode / 4 % 4 = 1 then (if fb then -1 else 1)
  else if mode / 4 % 4 = 2 then b2n fb
  else 1
/-- One sampling instant of the pulse inputs of an island (R345, R348, R449). -/
def Isl.pulse (qs : List QuadUse) (x : Isl) (p : Pulse) : Isl :=
  let x := qs.foldl (Isl.quadPulse p) x
  { x with cells := .ofFn fun k =>
      let c := x.cells[k.val]
      let new := p.fa.testBit k.val
      if qs.any fun q => decide (q.a = k ∨ q.b = k ∨ q.z = some k) then { c with filt := b2n new }
      else if x.func k = 3 then
        let d := cntStep (match x.store with
          | some b => u8 b (48 + 80 * k.val + 0x16)
          | none => 0) (c.filt.testBit 0) new (p.fb.testBit k.val)
        { c with
          filt := b2n new
          pul := if d = 0 then c.pul else c.pul.edge d (x.tickPrev + (p.at0 + 2) / 4)
          tidx := if d = 0 then c.tidx else min 122 (p.at0 / 8) }
      else c }

/-- T and k of R464: none without an interval. -/
def PulseCnt.interval (p : PulseCnt) (n : Nat) : Option (Nat × Nat) :=
  let k := min n (p.times.length - 1)
  match p.times, p.times[k]? with
  | t :: _, some t0 => if k = 0 then none else some (t - t0, k)
  | _, _ => none
/-- SPAN, UNIT and k − 1 as the B cell's field carries them (R451, R464). -/
def spanField (v : Option (Nat × Nat)) : Nat :=
  match v with
  | none => 0
  | some (t, k) =>
    if t ≤ 131071 then t + 262144 * (k - 1)
    else if t ≤ 131071 * 64 then (t + 32) / 64 + 131072 + 262144 * (k - 1)
    else 0

/-- The LOCAL_CAUSE that an island reports of a cell: the lowest active cause that it applies itself (R354, R360). -/
def Isl.localCause (x : Isl) (k : Fin 4) (r : Bytes) : Nat :=
  let c := x.cells[k.val]
  if isOutput (u8 r 0) = false then 0
  else if x.tmo then 3 else if x.vlow && needsVfld r then 4 else if c.lat5 then 5 else if c.lat6 then 6 else 0
/-- TIDX of the latest change in the slot, or 0xFF (R354). -/
def Cell.tidxField (c : Cell) : Nat := if c.chg = 0 then 0xFF else c.tidx
/-- The DIGITAL field of a cell by its function (R354, R382, R455). -/
def Isl.digital (x : Isl) (k : Fin 4) (m : CellMeas) : Nat :=
  let c := x.cells[k.val]
  let r := match x.store with
    | some b => slice b (48 + 80 * k.val) 80
    | none => []
  let f := u8 r 0
  let chg := 4096 * min 15 c.chg + 65536 * c.tidxField
  if isDigitalOut f then
    b2n m.m0 + 2 * b2n m.m1 + 4 * b2n (c.diag.testBit 4) + 8 * b2n (decide (c.tp ≠ 0)) + 16 * b2n (c.diag.testBit 3) +
      32 * x.localCause k r + 256 * (m.cur % 256) + 65536 * b2n (c.lat5 || c.lat6)
  else if isOutput f then b2n m.m0 + 32 * x.localCause k r + 65536 * b2n (c.lat5 || c.lat6)
  else if isAI f then b2n c.sw + 2 * b2n m.m1
  else if f = 3 then c.pul.cnt + 65536 * c.tidx
  else if f = 5 then
    c.filt % 8 + 8 * b2n c.illS + 16 * b2n c.illT + 32 * (BitVec.ofInt 7 c.net).toNat + chg
  else if isInput f then c.filt % 2 + 2 * b2n m.m1 + chg
  else 0
/-- The DIGITAL field of a cell that a QUAD axis uses (R451). -/
def Isl.quadField (x : Isl) (k : Fin 4) (q : QuadUse) : Nat :=
  let a := x.cells[q.a.val]
  let st := fun (k : Fin 4) => b2n (x.cells[k.val].filt.testBit 0)
  if k = q.a then
    a.pul.cnt + 65536 * st q.a + 131072 * st q.b + 262144 * (q.z.elim 0 st) + 524288 * b2n a.pul.qerr
  else if k = q.b then spanField (a.pul.interval q.n)
  else x.cells[k.val].pul.idx + 65536 * b2n x.cells[k.val].pul.idxGot
/-- The DIGITAL field of a cell: a QUAD axis's, the half of a word of an SSI axis's data cell, or the function's own. An SSI
field without a half waiting repeats the latest one (log entry 83). -/
def State.digField (s : State) (i : Fin 8) (m : UpMeas) (k : Fin 4) : Word :=
  let x := s.isl i
  match (s.quadUses i).find? fun q => decide (q.a = k ∨ q.b = k ∨ q.z = some k) with
  | some q => if x.store.isNone then 0 else toWord (x.quadField k q)
  | none =>
    match (List.finRange 8).find? fun a => decide (s.axCfg a 1 1 = 3) && decide (s.axCh a 4 = some (chOf i k)) with
    | some a => (s.axis a).ssiOut.headD 0x100000
    | none => toWord (x.digital k (m.cells.getD k.val ⟨[], false, false, 0⟩))

/-- DATA of the island's subframes: input states, diagnostics good, and output readback of cells 0–3; for a two-pole DO-T the
readback is that of both switches (R328, R350, R356, R362; log entry 82). -/
def Isl.upData (x : Isl) (m : UpMeas) : Nat :=
  (List.finRange 4).foldl (fun n (k : Fin 4) =>
    let c := x.cells[k.val]
    let r := match x.store with
      | some b => slice b (48 + 80 * k.val) 80
      | none => []
    let f := u8 r 0
    let v := m.cells.getD k.val ⟨[], false, false, 0⟩
    let inp := isInput f && !isAI f
    n + 2 ^ k.val * (b2n (inp && c.filt.testBit 0) + 16 * b2n (inp && !c.diag.testBit 0 && !c.diag.testBit 1) +
      256 * b2n (isDigitalOut f && v.m0 && !(decide (f = 0xA) && decide (u8 r 1 = 1) && v.m1)))) 0

/-- The island takes a slot's measurements: its decimators and its pulse counters go on. The samples of the slot, each with
its cell, and FIRST_IDX (R326, R408, R449). -/
def State.sense (s : State) (i : Fin 8) (m : UpMeas) : (List (Nat × Word) × Nat) × State :=
  let got := (s.isl i).sincs m
  let qs := s.quadUses i
  let x := m.pulses.foldl (Isl.pulse qs) got.2
  let first := match got.1 with
    | y :: _ => (x.tickPrev % 24576 + x.modEdges * (y.1 + 1)) / 128 % 192
    | [] => 0
  ((got.1.map (·.2), first), s.setIsl i fun _ => x)
/-- The uplink frame that the island sends (R326): item 8 answers a read, item 9 a scan, and otherwise the item of SEQ. -/
def State.upFrame (s : State) (i : Fin 8) (m : UpMeas) (xs : List (Nat × Word)) (first : Nat) : UpFrame :=
  let x := s.isl i
  let dv := match x.ask with
    | some w => (8, (Sparse.find x.words w).getD 0)
    | none => if x.scan then (9, toWord (bitsOf m.item 13 0)) else (x.useq % 8, m.item)
  ⟨x.useq, first, x.rung, x.next, x.fpwr, x.store.isSome, x.dnErr, x.brown.isSome, xs, (List.finRange 4).map (s.digField i m),
    dv.1, dv.2, (List.finRange 4).foldl (fun n (k : Fin 4) => n + x.cells[k.val].diag % 8 * 8 ^ k.val) 0⟩
/-- The bytes of the uplink frame with both subframes (R326, R328). -/
def State.upBytes (s : State) (i : Fin 8) (m : UpMeas) (f : UpFrame) : Bytes :=
  let x := s.isl i
  frameBytes upSync f.body (subBytes true false i.val x.ulife (x.upData m)) (subBytes true true i.val x.ulife (x.upData m))
/-- The island starts its next uplink frame afresh: what it reported is sent (R326, R335, R345). -/
def Isl.sent (x : Isl) : Isl :=
  { x with
    useq := (x.useq + 1) % 256, ann := x.ann - 1
    cells := x.cells.map fun c => { c with
      chg := 0, tidx := 0xFF, net := 0, illS := false, illT := false
      pul := { c.pul with qerr := false, idxGot := false } } }
/-- The halves of SSI words that a frame of the island has carried are sent; the last one stays in the field (R457). -/
def State.ssiSent (s : State) (i : Fin 8) : State :=
  (List.finRange 8).foldl (fun s a =>
    if s.axCfg a 1 1 = 3 ∧ (s.axCh a 4).any (fun c => decide (chIsl c = i)) then
      s.setAxis a fun x => { x with ssiOut := if 2 ≤ x.ssiOut.length then x.ssiOut.drop 1 else x.ssiOut }
    else s) s

end Sys2Proof.Machine
end

