-- ==== Sys2Proof/Machine/Guyline.lean ====
section
/-!
DEFINITION. The Guyline link (R323–R341): the downlink frame of a slot, what the island does with it, and the uplink
frame at the hub.
-/
namespace Sys2Proof.Machine

/-- Start of slot `n` as a sample edge of the millisecond (R324). -/
def slotEdge (n : Nat) : Nat := (24576 * n + 99) / 100
/-- A structure word: 24 bits of the ISLANDi body (R331). -/
def structWord (b : Bytes) (k : Nat) : Word := toWord (leNat (slice b (3 * k) 3))
/-- The ISLANDi body in configuration SRAM. -/
def State.islBody (s : State) (i : Fin 8) : Option Bytes := (s.section (tagIsland i.val)).map (·.drop 16)
/-- Drive span of an AO function as a code (R375). -/
def driveSpan (f : Nat) : Nat := if f = 0x18 then 8053063 else 14092860

/-- The value of rows 6 and 7 through the slew limit (R379): the value to send, and whether the limit acts. -/
def State.slew (s : State) (c : Fin 32) (v : Word) : Word × Bool :=
  let ms := u16 (s.chRec c) 0x1A
  let f := s.func c
  if ms = 0 ∨ (f ≠ 0x18 ∧ f ≠ 0x19) then (v, false)
  else
    let d : Int := (driveSpan f / (100 * ms) : Nat)
    let p := (s.reg (CH c 0x36)).toInt
    let w := clampTo (p - d) (p + d) v.toInt
    (codeWord w, decide (w ≠ v.toInt))

/-- The clamp of R471 acts on an axis. -/
def State.clampActs (s : State) (a : Fin 8) : Bool :=
  let v := (s.reg (POS a 0x11)).toInt
  (s.axCfg a 0x1A 1).testBit 3 && decide (s.homeState a = 0) &&
    ((s.limLatched a true && decide (0 < v)) || (s.limLatched a false && decide (v < 0)))

/-- The reference that the sequencer sends (R473). -/
def State.homeRef (s : State) (a : Fin 8) : Word :=
  let den : Int := 100 * (s.axCfg a 0x23 2 : Int)
  codeWord ((s.axis a).ref.tdiv den)

/-- The value, ENERGISE, APPLY_SAFE, and whether the slew limit acts, for a cell's downlink fields (R32, R325, R330,
R499). -/
def State.dnCell (s : State) (c : Fin 32) : Word × Bool × Bool × Bool :=
  let r := s.chRec c
  let esc := s.bit (NRG (chIsl c) (0x12 + 4 * (chCell c).val)) 5
  let lostSafe := (s.isl (chIsl c)).lost && decide (s.owner c ≠ 3) && isOutput (s.func c)
  let run := !s.bit (CH c 6) 1
  let safe := (safeValue r, !esc, true, false)
  if lostSafe && decide (s.row c ≠ 1) then safe
  else match s.row c with
    | 0 => (0, !(s.tripped c), false, false)
    | 1 => (0, false, false, false)
    | 2 => safe
    | 3 => (0, false, s.tripped c, false)
    | 4 => safe
    | 5 =>
      match s.axisOf c with
      | some a => (if s.homeState a ≠ 0 then s.homeRef a else 0, true, false, false)
      | none => (0, false, false, false)
    | 6 =>
      match s.axisOf c with
      | some a =>
        if s.axCh a 0x16 = some c then
          let (v, sl) := s.slew c (s.reg (POS a 0x11))
          (v, run, false, sl)
        else if s.axCh a 0x2D = some c then
          (toWord (((s.axis a).pdTarget % 65536).toNat + 65536 * b2n (s.bit (POS a 0x10) 2)), run, false, false)
        else (0, run, false, false)
      | none => (0, run, false, false)
    | _ =>
      let (v, sl) := s.slew c (s.reg (CH c 2))
      (v, run, false, sl)

/-- The hub notes what it sends to an analogue output: CH_ADRIVE, SLEWING and the codes of the last millisecond. -/
def State.noteSent (s : State) (c : Fin 32) (v : Word) (sl : Bool) : State :=
  if isAnalogue (s.func c) && isOutput (s.func c) then
    ((s.setReg (CH c 0x36) v).setBit (CH c 1) 15 sl).setChan c fun x => { x with
      sent := (s.time, v) :: x.sent.filter fun y => decide ((s.time - y.1).toNat ≤ 500000) }
  else s

/-- The axis work of a slot for the axes whose reference output, or divider, is on the island (R471, R473, R479); with PD_ENABLE
clear the island takes no step (R491). -/
def State.axisSlot (s : State) (i : Fin 8) (a : Fin 8) : State :=
  let s := s.when ((s.axCh a 0x16).any fun c => chIsl c = i) fun s =>
    let s := if s.homeState a = 0 then s else (s.homeStep a).homeEval a
    s.setBit (POS a 0xE) 4 (s.clampActs a)
  match s.axCh a 0x2D with
  | some c =>
    if chIsl c = i ∧ s.bit (POS a 0x10) 2 then
      let n : Int := if s.func c = 0xB then 80 else 2
      let x := s.axis a
      let y := x.pdOut + clampTo (-n) n (x.pdTarget - x.pdOut)
      (s.setAxis a fun x => { x with pdOut := y }).setFld (POS a 0x14) 15 0 (BitVec.ofInt 16 (x.pdTarget - y)).toNat
    else s
  | none => s

/-- The millisecond work at slot 0: ledger bins (R496), and the home inputs' 1 ms bins (R475). -/
def State.msSlot (s : State) (i : Fin 8) : State :=
  let s := (islChans i).foldl (fun s c => s.setLed c Led.shift) (s.setILed i Led.shift)
  (List.finRange 8).foldl (fun s a =>
    if (s.axCh a 0x19).any fun c => chIsl c = i then
      let s := s.setAxis a fun x => { x with homeBins := (0 :: x.homeBins).take (10 * s.axCfg a 0x1E 1) }
      (s.setFld (POS a 0xF) 15 8 (min 255 ((s.axis a).homeBins.foldl (· + ·) 0))).homeEval a
    else s) s

/-- The CFG operation of the frame, and the structuring machine after it: a commit is sent until it is obeyed (R331, R645). -/
def State.cfgOp (s : State) (i : Fin 8) : (Nat × Nat × Word) × State :=
  let x := s.isl i
  let b := (s.islBody i).getD []
  if x.sPhase = 1 then
    ((1, x.sWord, structWord b x.sWord), s.setIsl i fun x => if x.sWord + 1 < 123 then { x with sWord := x.sWord + 1 }
      else { x with sPhase := 2, sWord := 0, sAsk := none })
  else if x.sPhase = 2 then ((2, x.sWord, 0), s.setIsl i fun x => { x with sAsk := some x.sWord })
  else if x.sPhase = 3 then ((3, 0, 0), s)
  else if x.sPhase = 4 then ((4, 0, 0), s.setIsl i fun x => { x with sPhase := 1, sWord := 0, sTry := 1, sAsk := none })
  else if x.scanDue then ((5, 0, x.scanData), s.setIsl i fun x => { x with scanDue := false })
  else ((0, 0, 0), s)

/-- The cells whose decimators reset in this slot, and the edge within it (R258, R325, R420). -/
def State.sreset (s : State) (i : Fin 8) (n : Nat) : Nat × Nat :=
  let syn := match s.ring.armed with
    | some (mark, e, _) => decide ((s.time - mark).toNat < 500000) && decide (slotEdge n ≤ e) && decide (e < slotEdge (n + 1))
    | none => false
  let e := match s.ring.armed with
    | some (_, e, _) => if syn then e - slotEdge n else 0
    | none => 0
  let m := (List.finRange 4).foldl (fun m k =>
    let c := chOf i k
    let sel := if c.val < 24 then s.bit 0x0071C c.val else s.bit 0x0071D (c.val - 24)
    m + b2n (decide ((s.filt c).due ≠ 0) || (syn && sel)) * 2 ^ (3 - k.val)) 0
  (m, e)

/-- What the hub does for an island at the start of a slot before it sends (R324, R469, R495): the millisecond's work, the
ledger of a slot without an uplink frame, and the axes. -/
def State.slotWork (s : State) (i : Fin 8) (n : Nat) : State :=
  let s0 := s
  let got := (s.isl i).got
  let s := if n = 0 then s.msSlot i else s
  let s := if s.bit (ISL i 0) 1 && !got then s.nrgUpdate i true else s
  let s := (List.finRange 8).foldl (fun s a => if s.axisOn a then s.axisSlot i a else s) s
  s0.observe s
/-- An island without supply (R319). -/
def Isl.powerDown (x : Isl) : Isl :=
  { x with up := false, iLock := false, words := [], store := none, tmo := false, scan := false, commit := false, ask := none, fpwr := false, brown := none
           vlow := false, vhigh := false, cells := .replicate 4 .reset }
/-- A field-powered island that has stopped (R337, b1): without structure, at rung 0. -/
def Isl.stop (x : Isl) : Isl := { x.powerDown with fpwr := true, rung := 0, next := 0 }
/-- The island at the start of a slot: its edge count, the LIFE that it sends, and after its last frame with BROWN the stop
(R324, R328, R337). -/
def Isl.slot (x : Isl) (n : Nat) (now : RingTime) : Isl :=
  let x := { x with
    prevAt := x.slotAt, slotAt := now, tickPrev := x.tickAt
    tickAt := x.tickAt + (slotEdge n + 24576 - x.tickAt % 24576) % 24576, ulife := (x.ulife + 1) % 256, ask := none }
  match x.brown with
  | some 0 => x.stop
  | some (n + 1) => { x with brown := some n }
  | none => x
/-- The downlink frame of a slot (R325, R326, R328): the cells' outputs, the CFG operation, and both kernels' subframes. -/
def State.sendFrame (s : State) (i : Fin 8) (n : Nat) : State :=
  let fs := (List.finRange 4).map fun k => s.dnCell (chOf i k)
  let at' := fun (k : Fin 4) => fs.getD k.val (0, false, false, false)
  let s := (List.finRange 4).foldl (fun s k => s.noteSent (chOf i k) (at' k).1 (at' k).2.2.2) s
  let out := fun (k : Fin 4) =>
    let c := chOf i k
    if isAnalogue (s.func c) then satWord (s.calibrate c (at' k).1.toInt) else (at' k).1
  let sreset := s.sreset i n
  let cfg := s.cfgOp i
  let s := cfg.2
  let fr := fun (k : Fin 4) => decide ((s.chan (chOf i k)).frLeft ≠ 0)
  let s' := (islChans i).foldl (fun s c => s.setChan c fun y => { y with frLeft := y.frLeft - 1 }) s
  s'.setIsl i fun x => { x.slot n s.time with
    seq := (x.seq + 1) % 256, got := false, ktxA := (x.ktxA + 1) % 256, ktxB := (x.ktxB + 1) % 256
    dn := ⟨x.seq, n, s.fld (ISL i 3) 1 0, decide (x.sPhase ≠ 0), .ofFn out, .ofFn fun k => (at' k).2.1, .ofFn fun k => (at' k).2.2.1,
      .ofFn fr, cfg.1.1, cfg.1.2.1, cfg.1.2.2, sreset.1, sreset.2, (x.ktxA + 1) % 256, x.kdA, (x.ktxB + 1) % 256, x.kdB⟩ }
/-- GUYLINE_SLOT (R324, R325): the hub sends the island its downlink frame; at rung 0 only in slots with n mod 4 = 0. -/
def execGuylineSlot (i : Fin 8) (n : Nat) (s : State) : Res :=
  if s.dev = .off ∨ s.hold.held ∨ s.dev = .deep ∨ 100 ≤ n ∨ (s.fld (ISL i 0) 5 4 = 0 ∧ n % 4 ≠ 0) then .next s
  else .next ((s.slotWork i n).sendFrame i n)

/-- A subframe's LIFE exceeds the last good one by 1, 2 or 3 (R329). -/
def lifeOk (last : Option Nat) (l : Nat) : Bool :=
  match last with
  | none => true
  | some p => decide (1 ≤ (l + 256 - p) % 256) && decide ((l + 256 - p) % 256 ≤ 3)

/-- Diagnostics of an output that a release clears: SHORT, OVERLOAD and TEST_FAIL (R357). -/
def clearLatched (d : Nat) : Nat := setBitN (setBitN (setBitN d 1 false) 2 false) 4 false
/-- Release of a latched fault (R357, R371). -/
def Cell.release (c : Cell) (host : Bool) : Cell :=
  if c.lat5 || c.lat6 then
    { c with lat5 := false, lat6 := false, diag := clearLatched c.diag, inrush := true, hiZ := false
             runs := if host then 0 else c.runs, tpFails := 0 }
  else c

/-- A cell takes the outputs of a good downlink frame (R325, R354, R355, R369). -/
def Cell.take (c : Cell) (d : DnFrame) (k : Fin 4) : Cell :=
  let ena := d.ena[k.val]
  let on := ena && (bitOf d.outs[k.val] 0)
  let c := if d.fr[k.val] && !c.frPrev then c.release true else c
  { c with out := d.outs[k.val], ena := ena, appl := d.appl[k.val], frPrev := d.fr[k.val]
           inrush := c.inrush || (on && !(c.ena && bitOf c.out 0)) || (ena && !c.ena)
           hiZ := c.hiZ && (d.appl[k.val] || c.lat5 || c.lat6) }

/-- One kernel's downlink subframe sets or clears a command bit, and requests a test pulse on a rising edge (R328,
R329, R362). -/
def Cell.kernel (c : Cell) (isB good : Bool) (data : Nat) (k : Fin 4) (now : RingTime) : Cell :=
  let cmd := good && data.testBit k.val
  let req := good && data.testBit (4 + k.val)
  let old := if isB then c.reqB else c.reqA
  let ask := req && !old && decide (500000 ≤ (now - c.tpAt).toNat)
  let c := { c with tpWait := c.tpWait || ask }
  if isB then { c with cmdB := cmd, reqB := if good then req else old }
  else { c with cmdA := cmd, reqA := if good then req else old }

/-- The CFG operation at the island (R325, R326, R331): a read is answered with the next uplink frame. -/
def Isl.cfg (x : Isl) (d : DnFrame) : Isl :=
  let x := { x with ask := if d.op = 2 ∧ d.load then some d.word else none }
  if d.op = 1 then { x with words := Sparse.put x.words d.word d.data }
  else if d.op = 3 then { x with commit := true }
  else if d.op = 4 then { x with words := [] }
  else if d.op = 5 ∧ x.store = none then { x with scan := true, drv := d.data }
  else x
/-- The subframes of both kernels at the island, judged apart from the frame's CRC_P and whether or not the link has locked
(R329). -/
def Isl.safety (x : Isl) (i : Fin 8) (bs : Bytes) (now : RingTime) : Isl :=
  let a := (subTake false false i.val (frameSafA bs)).filter fun v => lifeOk x.lifeA v.1
  let b := (subTake false true i.val (frameSafB bs)).filter fun v => lifeOk x.lifeB v.1
  let cells := Vector.ofFn fun (k : Fin 4) =>
    (x.cells[k.val].kernel false a.isSome (a.elim 0 (·.2)) k now).kernel true b.isSome (b.elim 0 (·.2)) k now
  { x with cells := cells, lifeA := (a.map (·.1)).or x.lifeA, lifeB := (b.map (·.1)).or x.lifeB }

/-- A test pulse of an output that is no longer driven ends without a result (R546). -/
def Isl.endPulses (x : Isl) : Isl :=
  { x with cells := Vector.ofFn fun (k : Fin 4) =>
      let c := x.cells[k.val]
      if (x.drive k).isNone then { c with tp := 0 } else c }
/-- A frame that passes CRC_P, or does not, at an island whose link has not locked: it locks at the eighth good one in a row
(g1 of R330). -/
def Isl.lockStep (x : Isl) (good : Bool) : Isl :=
  if good = false then { x with dnGood := 0 }
  else if x.dnGood + 1 < 8 then { x with dnGood := x.dnGood + 1 }
  else { x with iLock := true, dnGood := 0, useq := 0, scan := false, dnErr := false, ask := none }
/-- The outputs, the decimator resets and the CFG operation of a good downlink frame (R325). -/
def Isl.obey (x : Isl) (d : DnFrame) : Isl :=
  let x := { x with cells := Vector.ofFn fun (k : Fin 4) =>
    let c := x.cells[k.val].take d k
    if d.rstMask.testBit (3 - k.val) then { c with srst := some d.rstEdge } else c }
  { (x.cfg d).endPulses with dnErr := false }
/-- What the island does with a received downlink frame (R325, R329, R330). -/
def Isl.receive (x : Isl) (i : Fin 8) (bs : Bytes) (now : RingTime) : Isl :=
  let good := frameGood bs
  let y := x.safety i bs now
  if x.iLock = false then y.lockStep good
  else if good then y.obey (.ofBytes bs)
  else { y.endPulses with dnErr := true, ask := none }
/-- ISLAND_DOWNLINK (R325, R329, R330): the downlink frame of the latest slot reaches the island with the errors `err`, a byte
XORed onto each of the frame's. Without its SYNC, no frame has come. -/
def execIslandDownlink (i : Fin 8) (err errA errB : Bytes) (s : State) : Res :=
  let x := s.isl i
  let bs := withErr (x.dn.bytes i.val) (frameErr err errA errB)
  if x.up = false then .next s
  else if frameSync dnSync bs = false then .next (s.setIsl i fun x => if x.iLock then x else { x with dnGood := 0 })
  else .next (s.setIsl i fun x => x.receive i bs s.time)

/-- CRC errors of an island in this second, and DEGRADED (R330). -/
def State.glError (s : State) (i : Fin 8) : State :=
  let n := (s.isl i).errs + 1
  let lim := if s.islRec i = [] then 10 else u8 (s.islRec i) 6
  let s := s.setIsl i fun x => { x with errs := n }
  if lim ≤ n ∧ s.bit (ISL i 0) 7 = false then (s.setBit (ISL i 0) 7 true).fire (384 + 8 * i.val + 2) (toWord n) else s

/-- Whether the hub structures islands: an image is pitched, or the sections of a full pitch are loaded (R331). -/
def State.structuring (s : State) : Bool :=
  s.cfg.img.isSome && (s.cfg.pitched || decide (s.pitch.phase = .loaded) || decide (s.pitch.phase = .structured) ||
    decide (s.pitch.phase = .checked))
/-- Structuring of an island starts; an island that kept its structure is only read back at a relock (R331). -/
def State.startStructure (s : State) (i : Fin 8) (relock kept : Bool) : State :=
  if (s.islBody i).isNone || (relock && (s.isl i).barred) then s
  else (s.when (relock && !kept) fun s => s.setBit (ISL i 0) 1 false).setIsl i fun x => { x with
    barred := false, commit := false, sPhase := if relock && kept then 2 else 1, sWord := 0, sTry := 0, sAsk := none, retry := false }

/-- The link locks at the hub (g2 of R330): `kept` says that the island reports STRUCT_OK. -/
def State.linkLock (s : State) (i : Fin 8) (kept : Bool) : State :=
  let re := (s.isl i).ever
  let s := (s.setBit (ISL i 0) 0 true).setBit (ISL i 0) 6 false
  let s := (s.setFld (ISL i 0) 9 8 0).setIsl i fun x => { x with
    ever := true, upGood := 0, upBad := false, seen := false, brownSeen := false, obs := none }
  let s := s.fire (384 + 8 * i.val + 1) (toWord (b2n re))
  if s.structuring then s.startStructure i true kept else s

/-- The hub reports an island lost (g4 of R330): cause, count, LINK_LOST and the log (R339, R573). -/
def State.lossMark (s : State) (i : Fin 8) (cause : Nat) : State :=
  let s := (s.setFld (ISL i 0) 12 10 cause).bump (ISL i 0xE)
  let s := s.setIsl i fun x => { x with
    lost := true, sPhase := 0, sAsk := none, upGood := 0, upBad := false }
  (s.fire (384 + 8 * i.val) (toWord cause)).logRec 0x503 (toWord i.val) (toWord cause) 0
/-- A second mismatch of the readback: READBACK during a pitch or re-pitch, a loss with cause READBACK at a relock
(R331). -/
def State.readbackFail (s : State) (i : Fin 8) : State :=
  if s.pitch.phase ≠ .idle ∨ (s.repitch.phase ≠ 0 ∧ s.repitch.isl = i.val) then s.setIsl i fun x => { x with sPhase := 5, sAsk := none }
  else (s.lossMark i 5).setIsl i fun x => { x with retry := true }

/-- An answer of the readback is judged (R331): one of the word that the frame named, in a good frame; equal words go on to the next or to the commit; a difference, or a damaged
region of configuration SRAM (R571), discards once and then ends in READBACK. -/
def State.structAnswer (s : State) (i : Fin 8) (f : UpFrame) : State :=
  let x := s.isl i
  match x.sAsk with
  | none => s
  | some w =>
    if x.sPhase ≠ 2 ∨ f.dnErr ∨ f.item ≠ 8 then s.setIsl i fun x => { x with sAsk := none }
    else if f.value = structWord ((s.islBody i).getD []) w ∧
        !s.cfg.bad.contains (0x10 + i.val) then
      s.setIsl i fun x => if w + 1 < 123 then { x with sWord := w + 1, sAsk := none }
        else { x with sPhase := 3, sAsk := none }
    else if x.sTry = 0 then s.setIsl i fun x => { x with sAsk := none, sPhase := 4 }
    else s.readbackFail i

/-- VFLD flags of an island as the frame shows them; the event's stamp is that of the island's sample, at a flag that was raised
before the lock the slot that the frame reports (R286, R339 e5, R85). -/
def State.vfldFlags (s : State) (i : Fin 8) : State :=
  let x := s.isl i
  let at0 := if x.seen then x.vfldAt else x.prevAt
  let lo := s.bit (ISL i 0) 8
  let hi := s.bit (ISL i 0) 9
  let s := s.setIsl i fun x => { x with seen := true }
  if lo = x.vlow ∧ hi = x.vhigh then s
  else
    (((s.setBit (ISL i 0) 8 x.vlow).setBit (ISL i 0) 9 x.vhigh).fireAt (384 + 8 * i.val + 5) at0
      (toWord (b2n x.vlow + 2 * b2n x.vhigh))).when (x.vhigh && !hi) fun s => s.fire 448 0

/-- Ring time of TIDX in the slot before the latest (R345). -/
def Isl.tidxTime (x : Isl) (t : Nat) : RingTime := x.prevAt + BitVec.ofNat 48 (t * 62500 / 1536)

/-- CH_DIAG bits as a good frame reports them by the cell's DIAG bits `d` and its DIGITAL field: CHATTER and an analogue READBACK
are the hub's own (R354, R366, R382). A supply off by the island total has OVERLOAD until a retry holds, and ISL_OVERCURRENT
and FAULT_LATCHED with it (R358; log entry 81). -/
def State.diagNow (s : State) (c : Fin 32) (d : Nat) (w : Word) : Nat :=
  let old := (s.reg (CH c 4)).toNat
  let f := s.func c
  let out := isOutput f
  let shed := hasSupply (s.chRec c) && d.testBit 2
  let rb := if isAnalogue f then old.testBit 3 else isDigitalOut f && bitOf w 4
  d % 8 + 8 * b2n rb + 16 * b2n (isDigitalOut f && bitOf w 2) + 32 * b2n (old.testBit 5) +
    128 * b2n (out && bitOf w 16 || shed) + 256 * b2n (out && (s.cell c).lat6 || shed)
/-- Diagnostics, LOCAL_CAUSE and a test pulse in progress enter the hub's registers (R354). -/
def State.takeDiag (s : State) (c : Fin 32) (d : Nat) (w : Word) : State :=
  let f := s.func c
  let cause := if isOutput f then bitsOf w 7 5 else if hasSupply (s.chRec c) && d.testBit 2 then 6 else 0
  ((s.setReg (CH c 4) (toWord (s.diagNow c d w))).setFld (CH c 3) 7 5 cause).setBit (CH c 3) 4 (isDigitalOut f && bitOf w 3)

/-- Changes of the last CHAT_W bins (R346). -/
def State.chatterCount (s : State) (c : Fin 32) : Nat := ((s.chan c).bins.take (u8 (s.chRec c) 0x14)).foldl (· + ·) 0
/-- CHATTER sets, or clears, by the changes in the last bins (R346). -/
def State.chatterEval (s : State) (c : Fin 32) : State :=
  let n := s.chatterCount c
  let lim := u8 (s.chRec c) 0x13
  if lim = 0 then s
  else if s.bit (CH c 4) 5 = false ∧ lim < n then
    let s := (s.setBit (CH c 4) 5 true).setBit (CH c 5) 5 true
    s.fire (12 * c.val + 6) (toWord n)
  else if s.bit (CH c 4) 5 = true ∧ n ≤ lim / 2 then s.setBit (CH c 4) 5 false
  else s

/-- Reported changes of a filtered input: count, stamp, CHANGE, chatter and the home window (R345, R346, R365, R475). -/
def State.takeChanges (s : State) (c : Fin 32) (w : Word) (named : Bool) : State :=
  let n := bitsOf w 15 12
  if n = 0 then s
  else
    let t := (s.isl (chIsl c)).tidxTime (bitsOf w 23 16)
    let s := (s.setTime (CH c 0xA) t).bumpBy (CH c 0xC) n
    let s := if named then s else s.fireAt (12 * c.val) t (toWord (if s.func c = 5 then bitsOf w 2 0 else bitsOf w 0 0))
    let s := (s.setChan c fun x => { x with bins := match x.bins with
      | b :: bs => (b + n) :: bs
      | [] => [n] }).chatterEval c
    (List.finRange 8).foldl (fun s a =>
      if s.axCh a 0x19 = some c then
        let s := s.setAxis a fun x => { x with homeBins := match x.homeBins with
          | b :: bs => (b + n) :: bs
          | [] => [n] }
        (s.setFld (POS a 0xF) 15 8 (min 255 ((s.axis a).homeBins.foldl (· + ·) 0))).homeEval a
      else s) s

/-- The axis that uses a cell as QUAD A, B or Z, as SSI data, or as HALL. -/
def State.axisUsing (s : State) (src o : Nat) (c : Fin 32) : Option (Fin 8) :=
  (List.finRange 8).find? fun a => decide (s.axCfg a 1 1 = src) && decide (s.axCh a o = some c)

/-- Signed difference of 16-bit counts (R354). -/
def diff16 (n p : Nat) : Int := (BitVec.ofNat 16 (n + 65536 - p)).toInt

/-- CH_VALUE holds its last value while an input's OPEN or SHORT stands (R356). -/
def State.heldVal (s : State) (c : Fin 32) : Bool :=
  (s.reg (CH c 4)).toNat.testBit 0 || (s.reg (CH c 4)).toNat.testBit 1
/-- CH_VALUE of a digital input takes a value unless it is held. -/
def State.showVal (s : State) (c : Fin 32) (v : Word) : State := if s.heldVal c then s else s.setReg (CH c 0) v

/-- A CNT cell's count; a wrap is stamped with the latest counted edge (R286, R354, R356, R463, R483). -/
def State.takeCnt (s : State) (c : Fin 32) (w : Word) : State :=
  let n := bitsOf w 15 0
  match (s.chan c).prev with
  | none => s.setChan c fun x => { x with prev := some n }
  | some p =>
    let v := ((s.reg (CH c 0)).toNat : Int) + diff16 n p
    let hold := s.heldVal c
    let s := (s.showVal c (codeWord (v % 16777216))).setChan c fun x => { x with prev := some n }
    if hold ∨ (0 ≤ v ∧ v < 16777216) then s
    else
      let s := s.bumpFld (CH c 0x11) 7 0
      s.fireAt (12 * c.val + 11) ((s.isl (chIsl c)).tidxTime (bitsOf w 23 16)) (toWord (b2n (decide (v < 0)) + 2 * s.fld (CH c 0x11) 7 0))

/-- Counts of an axis, none while its feedback is lost (R459, R468). -/
def State.axisTake (s : State) (a : Fin 8) (d : Int) : State :=
  if (s.axis a).lost ∨ d = 0 then s else s.axisMove a d

/-- A QUAD axis takes the fields of its cells (R451–R453, R464, R465, R476, R484). -/
def State.takeQuad (s : State) (a : Fin 8) (wa wb : Word) (wz : Option Word) : State :=
  let n := bitsOf wa 15 0
  let d := match (s.axis a).prev with
    | some p => diff16 n p
    | none => 0
  let s := s.setAxis a fun x => { x with prev := if x.lost then none else some n }
  let s := s.axisTake a d
  let s := s.when (bitOf wa 19) fun s => ((s.bump (POS a 0x18)).setBit (POS a 0xD) 1 true).axisEvent a 478 1
  let t := bitsOf wb 16 0 * (if bitOf wb 17 then 64 else 1)
  let k := bitsOf wb 23 18 + 1
  let s := if (s.axis a).lost then s else if t = 0 then s.standstill a
    else if d = 0 then s else s.setSpeed a (if 0 < d then k else -(k : Int)) k t
  match wz with
  | some z =>
    if bitOf z 16 ∧ (s.axis a).lost = false then
      let since := diff16 n (bitsOf z 15 0)
      let at0 := ((s.reg (POS a 0)).toNat : Int) - since
      let s := s.setReg (POS a 0xA) (codeWord (at0 % (s.posMod a : Int)))
      if s.homeState a ≠ 7 then s
      else if (s.axis a).skipIndex then s
      else
        let s := s.axisLoad a (s.axCfg a 0x27 3) (BitVec.ofNat 24 (s.axCfg a 0x2A 3)).toInt
        (s.axisCount a since).homeGo a 8
    else s
  | none => s
/-- The frame in which a debounced release was registered is past (R476, R490). -/
def State.indexNext (s : State) (a : Fin 8) : State := s.setAxis a fun x => { x with skipIndex := false }

/-- Sector of Hall states with U in bit 2 (R454). -/
def hallSector (f : Nat) : Nat :=
  if f = 1 then 1 else if f = 3 then 2 else if f = 2 then 3 else if f = 6 then 4 else if f = 4 then 5
  else if f = 5 then 6 else 0
/-- The speed of a HALL axis from its latest steps (R466). -/
def hallSpan (n : Nat) (t0 : RingTime) : Nat → List (Int × RingTime) → Option (Nat × Nat)
  | _, [] => none
  | k, (d, t) :: l => if n ≤ k then some (k, ticksOf (t0 - t).toNat) else hallSpan n t0 (k + d.natAbs) l

/-- An axis takes the Hall part of its HALL cell's field (R455, R466). -/
def State.takeHall (s : State) (a : Fin 8) (c : Fin 32) (w : Word) : State :=
  let f := bitsOf w 2 0
  let net := (BitVec.ofNat 7 (bitsOf w 11 5)).toInt
  let s := s.setReg (POS a 9) (toWord (f + 8 * hallSector f))
  let s := s.when (bitOf w 3 || bitOf w 4) fun s =>
    let s := (s.bump (POS a 0x19)).setReg (POS a 0xD) (s.reg (POS a 0xD) ||| toWord (4 * bitsOf w 4 3))
    s.axisEvent a 477 (bitsOf w 4 3 + 4 * f)
  if s.axCfg a 1 1 ≠ 2 ∨ net = 0 ∨ (s.axis a).lost then s
  else
    let t := (s.isl (chIsl c)).tidxTime (bitsOf w 23 16)
    let s := (s.axisTake a net).setAxis a fun x => { x with moves := ((net, t) :: x.moves).take 129 }
    match hallSpan (s.axCfg a 3 1) t net.natAbs ((s.axis a).moves.drop 1) with
    | some (k, T) => if T = 0 then s else s.setSpeed a (if 0 < net then k else -(k : Int)) k T
    | none => s

/-- Gray to binary (R456). -/
def grayToBin : Nat → Nat → Nat → Nat
  | 0, _, b => b
  | n + 1, x, b => if x = 0 then b else grayToBin n (x / 2) (b ^^^ x)
/-- Signed value modulo 2^n. -/
def signedMod (n : Nat) (x : Int) : Int :=
  let m : Int := (2 ^ n : Nat)
  let y := x % m
  if m ≤ 2 * y then y - m else y
/-- A read that is missing: a half of it did not arrive (R457, R468). -/
def State.ssiMiss (s : State) (a : Fin 8) : State :=
  (s.setAxis a fun x => { x with ssiFail := x.ssiFail + 1, ssiHalf := none }).fbCheck a
/-- A failed SSI read: counted, flagged and reported (R457). -/
def State.ssiFail (s : State) (a : Fin 8) : State :=
  (((s.bump (POS a 0x1A)).setBit (POS a 0xD) 4 true).axisEvent a 478 2).ssiMiss a
/-- A good SSI word (R457, R458, R466). -/
def State.ssiWord (s : State) (a : Fin 8) (g : Nat) : State :=
  let w := if s.axCfg a 0x12 1 = 1 then grayToBin 32 (g / 2) g else g
  let n := s.axCfg a 0x10 1
  let st := s.axCfg a 0x11 1
  let s := (s.setReg (POS a 0xB) (toWord (w % 16777216))).setReg (POS a 0xC) (toWord (w / 16777216))
  let s := s.setAxis a fun x => { x with ssiFail := 0, ssiHalf := none }
  let s := s.fbCheck a
  if (s.axis a).lost then s
  else match (s.axis a).ssiPrev with
    | none =>
      (s.axisLoad a ((w % 2 ^ st : Nat) : Int) ((w / 2 ^ st : Nat) : Int)).setAxis a fun x => { x with
        ssiPrev := some w, moves := [(0, s.time)] }
    | some p =>
      let d := signedMod n ((w : Int) - p)
      let s := s.axisTake a d
      let s := s.setAxis a fun x => { x with ssiPrev := some w, moves := ((d, s.time) :: x.moves).take 65 }
      let k := min (s.axCfg a 3 1) ((s.axis a).moves.length - 1)
      let D := ((s.axis a).moves.take k).foldl (fun n m => n + m.1) 0
      match (s.axis a).moves[k]? with
      | some (_, t0) =>
        let T := ticksOf (s.time - t0).toNat
        if k = 0 ∨ T = 0 then s else if D = 0 then s.standstill a else s.setSpeed a D k T
      | none => s
/-- A half of an SSI word in the data cell's field: a word is used, and its read judged, once both halves with one read number
have come; a second half whose first did not come, and a first half whose second did not, are a missing read (R457). -/
def State.takeSsi (s : State) (a : Fin 8) (h : Word) : State :=
  let n := bitsOf h 23 22
  let judged := fun (s : State) => s.setAxis a fun x => { x with ssiDone := some n }
  if (s.axis a).ssiDone = some n then s
  else if bitOf h 20 = false then
    if (s.axis a).ssiHalf.any fun l => decide (bitsOf l 23 22 = n) then s
    else (if (s.axis a).ssiHalf.isSome then s.ssiMiss a else s).setAxis a fun x => { x with ssiHalf := some h }
  else match (s.axis a).ssiHalf with
    | some l =>
      if bitsOf l 23 22 ≠ n then (judged s).ssiMiss a
      else if bitOf h 21 then (judged s).ssiFail a
      else (judged s).ssiWord a (bitsOf l 19 0 + 1048576 * bitsOf h 11 0)
    | none => (judged s).ssiMiss a

/-- A digital input cell's field (R354, R356, R452). -/
def State.takeInput (s : State) (c : Fin 32) (w : Word) : State :=
  let f := s.func c
  if f = 5 then (s.showVal c (toWord (bitsOf w 2 0))).takeChanges c w false
  else if f = 3 then s.takeCnt c w
  else if (s.axisUsing 3 4 c).isSome then s
  else
    let s := s.showVal c (toWord (bitsOf w 1 0 + (if f = 2 then bitsOf (s.reg (CH c 0)) 23 8 * 256 else 0)))
    s.takeChanges c w false

/-- The cell of the frame's rotation item reports its readback, or an island value (R326, R338, R387, R388). -/
def State.takeItem (s : State) (i : Fin 8) (n : Nat) (v : Word) : State :=
  if n < 4 then
    let c := chOf i (Fin.ofNat 4 n)
    let f := s.func c
    let r := s.chRec c
    if s.structured c = false then s
    else if isAnalogue f then
      let s := s.setReg (CH c 0x34) v
      let s := if isOutput f then (s.setReg (CH c 0) v).scale c v.toInt else s
      if f = 0x18 ∨ (f = 0x10 ∧ u8 r 1 = 1) then s.setFld (CH c 0xE) 11 0 (codeMicroamp v.toInt / 1000) else s
    else if f = 2 then (if s.heldVal c then s else s.setFld (CH c 0) 23 8 (bitsOf v 15 0))
    else if isInput f ∧ u8 r 0x15 ≠ 0 then s.setFld (CH c 0xE) 11 0 (bitsOf v 11 0)
    else s.setFld (CH c 0xF) 15 0 (bitsOf v 15 0)
  else if n = 4 then (s.setIsl i fun x => { x with vfld := v.toNat }).nrgVolt i true true
  else if n = 5 then
    ((s.setIsl i fun x => { x with vres := v.toNat }).setFld (ISL i 1) 10 2 (min 0x1FF (v.toNat / 20))).nrgVolt i false true
  else if n = 6 then s.setIsl i fun x => { x with temp := v.toNat }
  else s.setFld (ISL i 2) 15 0 (min 65535 v.toNat)

/-- Span of a function for the readback comparison, in code units (R389). -/
def rbSpan (f : Nat) : Nat := if f = 0x10 then 8388607 else if f = 0x11 then 16777214 else if f = 0x18 then 8053063 else 14092860
/-- The values moved by less than a bound. -/
def movedLess (l : List (RingTime × Word)) (num den : Nat) : Bool :=
  l.all fun a => l.all fun b => decide ((a.2.toInt - b.2.toInt).natAbs * den < num)
/-- One comparison that is made: the runs and READBACK (R389, R398). -/
def State.rbJudge (s : State) (c : Fin 32) (dev : Nat) (fail : Bool) : State :=
  let n := if isInput (s.func c) then 8 else 4
  let s := s.setReg (CH c 0x35) (toWord (min 0xFFFFFF dev))
  let s := s.setChan c fun x => { x with
    rbFail := if fail then x.rbFail + 1 else 0, rbPass := if fail then 0 else x.rbPass + 1 }
  if n ≤ (s.chan c).rbFail then s.setBit (CH c 4) 3 true
  else if n ≤ (s.chan c).rbPass then s.setBit (CH c 4) 3 false else s
/-- READBACK_COMPARE (R389): the readback of a cell against the samples of the frame, or the code sent in its slot. -/
def State.rbCompare (s : State) (c : Fin 32) (xs : List Int) : State :=
  let r := s.chRec c
  let f := s.func c
  let tol := u8 r 0x11 * rbSpan f
  let v := (s.reg (CH c 0x34)).toInt
  if isAnalogue f = false ∨ (u8 r 0x10).testBit 1 = false ∨ s.structured c = false then s
  else if isAI f then
    let n := xs.length
    let sum := xs.foldl (· + ·) 0
    let dev := (v * n - sum).natAbs
    let due := match (s.chan c).rbFrom with
      | some t => decide (0 ≤ (s.time - t).toInt)
      | none => false
    let recent := (s.chan c).rif.filter fun y => decide ((s.time - y.1).toNat ≤ 500000)
    if n = 0 ∨ due = false ∨ movedLess recent tol 1000 = false then s
    else s.rbJudge c (dev / n) (decide (tol * n < dev * 1000))
  else if s.energised c then
    let e := (s.reg (CH c 0x36)).toInt
    let d := (s.reg (CH c 4)).toNat
    if movedLess (s.chan c).sent tol 4000 = false ∨ d.testBit 0 ∨ d.testBit 1 ∨ s.bit (CH c 1) 14 ∨ (s.cell c).inrush then s
    else s.rbJudge c (v - e).natAbs (decide (tol < (v - e).natAbs * 1000))
  else if f = 0x18 then s.rbJudge c v.natAbs (decide (33554 < v.natAbs))
  else s

/-- A digital or analogue output cell's field (R354, R382, R366). -/
def State.takeOutput (s : State) (c : Fin 32) (w : Word) : State :=
  if isAnalogue (s.func c) then s.setBit (CH c 1) 14 (s.func c = 0x18 && bitOf w 0)
  else (s.setReg (CH c 0) (toWord (bitsOf w 1 0))).setFld (CH c 0xE) 11 0 (4 * bitsOf w 15 8)

/-- One cell's part of a good uplink frame. -/
def State.takeCell (f : UpFrame) (s : State) (c : Fin 32) : State :=
  let k := (chCell c).val
  let w := f.dig.getD k 0
  if s.structured c = false ∨ s.dev = .maintenance then s
  else
    let s := s.takeDiag c (f.diag / 8 ^ k % 8) w
    if isOutput (s.func c) then s.takeOutput c w
    else if isAI (s.func c) then
      let s := s.setBit (CH c 1) 11 (bitOf w 1)
      let xs := (f.samples.filter fun x => decide (x.1 = k)).map fun x => s.calibrate c x.2.toInt
      if s.dev = .doze then s else s.setFilt c fun y => { y with inq := y.inq ++ xs, rifq := y.rifq ++ xs }
    else if (s.axisUsing 1 4 c).isSome || (s.axisUsing 1 5 c).isSome || (s.axisUsing 1 6 c).isSome then s
    else s.takeInput c w

/-- The axes that have a cell on the island take their fields (R452–R458). -/
def State.takeAxis (i : Fin 8) (f : UpFrame) (s : State) (a : Fin 8) : State :=
  let w := fun (c : Fin 32) => f.dig.getD (chCell c).val 0
  let here := fun (o : Nat) => (s.axCh a o).filter fun c => decide (chIsl c = i) && s.structured c
  let s := match here 4, here 5 with
    | some ca, some cb =>
      if s.axCfg a 1 1 = 1 then
        let s := (s.showVal ca (toWord (bitsOf (w ca) 16 16))).showVal cb (toWord (bitsOf (w ca) 17 17))
        let s := match here 6 with
          | some cz => s.showVal cz (toWord (bitsOf (w ca) 18 18))
          | none => s
        (s.takeQuad a (w ca) (w cb) ((here 6).map w)).indexNext a
      else s
    | _, _ => s
  let s := match here 4 with
    | some c => if s.axCfg a 1 1 = 3 then s.takeSsi a (w c) else s
    | none => s
  match here 7 with
  | some c => s.takeHall a c (w c)
  | none => s

/-- Total output and supply current of an island in mA (R358, R367). -/
def State.islCurrent (s : State) (i : Fin 8) : Nat :=
  (islChans i).foldl (fun n c =>
    let f := s.func c
    if s.structured c && (decide (f = 8) || decide (f = 0xA) || hasSupply (s.chRec c)) then
      n + s.fld (CH c 0xE) 11 0 else n) 0

/-- The header of a good uplink frame: DN_ERR is counted, and ISLi_STAT takes SEQ and ISLi_RUNG NEXT_RUNG (R330, R338). -/
def State.takeHdr (s : State) (i : Fin 8) (f : UpFrame) : State :=
  ((s.when f.dnErr fun s => (s.bump (ISL i 0xB)).glError i).setFld (ISL i 0) 23 16 f.seq).setFld (ISL i 3) 1 0 f.next
/-- The content of a good uplink frame of a locked link (R330, R354). -/
def State.takeFrame (s : State) (i : Fin 8) (f : UpFrame) : State :=
  let old := s
  let s := (s.takeHdr i f).vfldFlags i
  let s := s.setIsl i fun y => { y with
    brownSeen := y.brownSeen || f.brown, upBad := false, got := true, obs := if f.item = 9 then some f.value else none }
  let s := s.structAnswer i f
  let s := if f.item < 8 then s.takeItem i f.item f.value else s
  let s := (islChans i).foldl (State.takeCell f) s
  let s := if s.dev = .maintenance then s else (List.finRange 8).foldl (State.takeAxis i f) s
  let s := if 4 ≤ f.item then s
    else
      let c := chOf i (Fin.ofNat 4 f.item)
      s.rbCompare c ((f.samples.filter fun y => decide (y.1 = f.item)).map fun y => s.calibrate c y.2.toInt)
  let s := s.setFld (ISL i 0x12) 11 0 (min 4095 (s.islCurrent i))
  let s := s.when (s.bit (ISL i 0) 1) fun s => s.nrgUpdate i false
  old.observe s

/-- The hub receives the bytes of an uplink frame (R329, R330): the kernels take its subframes by themselves, through registers of
their own, whatever CRC_P says and even when a full queue discards the rest (R82, R83, R103). A frame without its SYNC is
missed, and so is what the queue discards. -/
def State.receive (s : State) (i : Fin 8) (bs : Bytes) (full : Bool) : State :=
  if frameSync upSync bs = false then s.setIsl i fun x => { x with upGood := 0 }
  else
    let s := s.setIsl i fun x => { x with rxA := some (frameSafA bs), rxB := some (frameSafB bs) }
    let f := UpFrame.ofBytes bs
    if full then ((s.bump (SYS_QOVF_GL i)).fire 452 0).setIsl i fun x => { x with upGood := 0 }
    else if frameGood bs = false then
      ((s.bump (ISL i 0xA)).setIsl i fun x => { x with upBad := true, upGood := 0 }).glError i
    else if s.bit (ISL i 0) 0 then s.takeFrame i f
    else if (s.isl i).upGood + 1 < 8 then (s.takeHdr i f).setIsl i fun x => { x with upGood := x.upGood + 1 }
    else (s.linkLock i f.structOk).takeFrame i f
/-- The hub's Guyline receivers run. -/
def State.glRuns (s : State) : Bool := decide (s.dev ≠ .off) && !s.hold.held && decide (s.dev ≠ .deep)
/-- HUB_UPLINK (R326, R330): a locked island sends the uplink frame of what it measured in the slot, and the frame reaches the
hub with the errors `err`, a byte XORed onto each of the frame's; `full` says that the Guyline queue discarded it (R82). -/
def execHubUplink (i : Fin 8) (m : UpMeas) (err : Bytes) (full : Bool) (s : State) : Res :=
  if (s.isl i).up = false ∨ (s.isl i).iLock = false then .next s
  else
    let got := s.sense i m
    let s := got.2
    let bs := withErr (s.upBytes i m (s.upFrame i m got.1.1 got.1.2)) err
    let s := (s.setIsl i Isl.sent).ssiSent i
    .next (if s.glRuns then s.receive i bs full else s)

end Sys2Proof.Machine
end

