-- ==== Sys2Proof/Machine/Island.lean ====
section
/-!
DEFINITION. Commands of the islands: loss and structuring (R330, R331), power transfers (R74), field power and the clock
ladder (R332–R337), and the digital and analogue cells' own events (R345–R377).
-/
namespace Sys2Proof.Machine

/-- The structure committed at the island and at the hub (R331, R345, R373, R394): `raw` gives the raw states of the first
sample after the commit. In LOOP_WAIT the loop channel has the low alarm (R333). -/
def State.structCommit (s : State) (i : Fin 8) (raw : List Nat) : State :=
  match s.islBody i with
  | none => s
  | some b =>
    let old := s
    let pitching := decide (s.pitch.phase ≠ .idle) || (decide (s.repitch.phase ≠ 0) && decide (s.repitch.isl = i.val))
    let cell := fun (k : Fin 4) (c : Cell) =>
      let r := slice b (48 + 80 * k.val) 80
      let f := u8 r 0
      { Cell.reset with
        filt := if isInput f then raw.getD k.val 0 else 0, tidx := 0xFF
        sup := (f = 1 || f = 2 || f = 3 || f = 4) && (decide (f = 2) || decide (u8 r 0x15 ≠ 0)) || (f = 0x10 && u8 r 1 = 1)
        cmdA := c.cmdA, cmdB := c.cmdB, reqA := c.reqA, reqB := c.reqB, tpAt := c.tpAt }
    let s := s.setIsl i fun x => { x with
      store := some b, cells := Vector.ofFn fun k => cell k x.cells[k.val]
      tmo := false, scan := false, commit := false, ask := none, lost := false, sPhase := 0, sAsk := none, retry := false }
    let s := (s.setBit (ISL i 0) 1 true).setBit (ISL i 0) 3 (s.fieldPowered i && !(s.isl i).fpwr)
    let one := fun (s : State) (c : Fin 32) =>
      let f := s.func c
      let s := ((s.setReg (CH c 4) 0).setFld (CH c 3) 7 5 0).setReg (CH c 0x11) 0
      let s := ((s.setFld (CH c 1) 15 8 0)).setChan c fun x => { x with prev := none, bins := [0], frLeft := 0, sent := [] }
      let s := if isAI f then s.setFilt c fun y => { y with due := 1 } else s
      if isAnalogue f then
        let bad := s.factoryBad c
        (s.setBit (CH c 0x3D) 3 (!bad)).when bad fun s => s.logRec 0x507 (toWord c.val) (toWord (f + 256 * s.range c)) 0
      else s
    let s := (islChans i).foldl one s
    let s := if s.bit (ISL i 0) 3 then
        (islChans i).foldl (fun s c => if s.func c = 0x10 then s.setClass c 4 s.time else s) s
      else s
    let s := s.nrgStructured i pitching
    let s := (List.finRange 8).foldl (fun s a =>
      if (s.fbCells a).any fun c => chIsl c = i then s.setAxis a fun x => { x with prev := none, ssiPrev := none, ssiHalf := none }
      else s) s
    old.observe s
/-- STRUCTURE_RETRY (R331): 100 ms after a READBACK loss. -/
def execStructureRetry (i : Fin 8) (s : State) : Res :=
  .next (if (s.isl i).retry ∧ s.bit (ISL i 0) 0 then s.startStructure i false false else s)
/-- The island forgets its structure: every land at high impedance (R319). -/
def Isl.unstructure (x : Isl) : Isl := { x with words := [], store := none, tmo := false, cells := .replicate 4 .reset }
/-- STRUCTURE_DISCARD (R105): a field-powered island whose link has been lost for 1 ms. -/
def execStructureDiscard (i : Fin 8) (s : State) : Res :=
  let x := s.isl i
  if x.fpwr ∧ x.iLock = false then .next ((s.setIsl i Isl.unstructure).setBit (ISL i 0) 1 false) else .next s

/-- What a loss at g4 brings at the hub (R28, R330, R337, R384). -/
def State.islandLoss (s : State) (i : Fin 8) (osc : Bool) : State :=
  let old := s
  let x := s.isl i
  let cause := if x.brownSeen then 4 else if s.bit (ISL i 1) 1 then 3 else if osc then 6 else if x.upBad then 2 else 1
  let s := (s.setBit (ISL i 0) 0 false).setIsl i fun x => { x with lost := true }
  let s := if cause = 3 ∨ cause = 4 then s.setBit (ISL i 0) 1 false else s
  let s := if cause = 4 then
      let s := ((s.setBit (ISL i 0) 6 true).bump (ISL i 0xF)).fire (384 + 8 * i.val + 4) (toWord (s.fld (ISL i 2) 15 0))
      (islChans i).foldl (fun s c => if s.func c = 0x10 then s.setClass c 4 s.time else s) s
    else s
  old.observe (s.lossMark i cause)

/-- ISLAND_LINK_TIMEOUT (R330, g4′): the island unlocks and applies its own safe states (R27, R370); the kernels' command bits
stay under the subframes alone (R329). -/
def execIslandLinkTimeout (i : Fin 8) (s : State) : Res :=
  let x := s.isl i
  if x.up = false ∨ x.iLock = false then .next s
  else .next (s.setIsl i fun x => { x with
    iLock := false, dnGood := 0, tmo := x.store.isSome, rung := if x.fpwr then 0 else x.rung
    cells := x.cells.map fun c => { c with tp := 0, tpWait := false, stp := 0, stpWait := false, inrush := false } })
/-- GL_DEGRADED_CLEAR (R330): a whole second without a CRC error; each second's count starts at 0. -/
def execGlDegradedClear (i : Fin 8) (s : State) : Res :=
  let clean := decide ((s.isl i).errs = 0)
  .next ((if clean then s.setBit (ISL i 0) 7 false else s).setIsl i fun x => { x with errs := 0 })
/-- ISLAND_SUBFRAME_LOSS (R329): three frame periods without a good subframe from a kernel. -/
def execIslandSubframeLoss (i : Fin 8) (isB : Bool) (s : State) : Res :=
  .next (s.setIsl i fun x => { x with
    lifeA := if isB then x.lifeA else none
    lifeB := if isB then none else x.lifeB
    cells := x.cells.map fun c => if isB then { c with cmdB := false } else { c with cmdA := false } })

/-- VFLD_LEVEL_CHANGE (R73): the island's filtered flags; its supplies are off, and its outputs safe, while VFLD_LOW. -/
def execVfldLevelChange (i : Fin 8) (low high : Bool) (s : State) : Res :=
  .next (s.setIsl i fun x => if x.up then { x with
    vlow := low, vhigh := high && !low, vfldAt := s.time
    cells := x.cells.map fun c => if low then { c with stp := 0, stpWait := false } else c } else x)

/-- An island's logic is supplied anew: it starts unstructured and unlocked (R319). -/
def Isl.powerUp (x : Isl) (rung : Nat) : Isl :=
  { x with
    up := true, iLock := false, dnGood := 0, dnErr := false, useq := 0, words := [], store := none, tmo := false, scan := false
    rung := rung, next := rung, ann := 0, annRes := false, brown := none, ask := none, commit := false, lifeA := none, lifeB := none
    cells := .replicate 4 .reset }
/-- Transfer of an island on: its island is supplied (R74); one that ran on its loop runs from the transfer again (R333). -/
def State.xferOn (s : State) (i : Fin 8) : State :=
  let s := ((s.setBit (ISL i 1) 0 true).setBit (ISL i 1) 1 false).setFld (ISL i 0) 5 4 3
  s.setIsl i fun x => if x.up then { x with fpwr := false, rung := 3, next := 3, ann := 0 } else x.powerUp 3

/-- TRANSFER_START (R74, R60): the next transfer of the start-up order ISL0 to ISL7, whether or not its island is used. -/
def execTransferStart (s : State) : Res :=
  if h : s.hold.xferNext < 8 then
    if s.hold.held ∨ s.dev = .off ∨ s.dev = .deep then .next s
    else
      let i : Fin 8 := ⟨s.hold.xferNext, h⟩
      .next (({ s with hold := { s.hold with xferNext := s.hold.xferNext + 1 } } : State).xferOn i)
  else .next s
/-- TRANSFER_LIMIT_SHUTDOWN (R74): 5 ms at the current limit; the island loses its supply. -/
def execTransferLimitShutdown (i : Fin 8) (s : State) : Res :=
  if s.bit (ISL i 1) 0 then
    .next (((s.setBit (ISL i 1) 0 false).setBit (ISL i 1) 1 true).setIsl i Isl.powerDown)
  else .next s
/-- TRANSFER_RETRY (R74). -/
def execTransferRetry (i : Fin 8) (s : State) : Res := .next (if s.bit (ISL i 1) 1 then s.xferOn i else s)

/-- A rung change resets the loop channel: the island's decimator and the hub's chain (R335, R421). -/
def State.loopReset (s : State) (i : Fin 8) : State :=
  (islChans i).foldl (fun s c => if isAI (s.func c) then
    (s.channelReset c 3).setCell c fun y => { y with sinc := .reset, srst := none } else s) s
/-- LOOP_STABLE (R333): FPWR; the transfer switches off and the island changes over to the reservoir at rung 0. -/
def execLoopStable (i : Fin 8) (s : State) : Res :=
  if s.bit (ISL i 0) 3 && s.fieldPowered i then
    let s := (s.setBit (ISL i 0) 3 false).setBit (ISL i 1) 0 false
    let s := (s.setFld (ISL i 0) 5 4 0).setIsl i fun x => { x with fpwr := true, rung := 0, next := 0 }
    .next (s.loopReset i)
  else .next s
/-- RUNG_CLIMB (R334): announced in two uplink frames, unless a descent is announced already. -/
def execRungClimb (i : Fin 8) (s : State) : Res :=
  let x := s.isl i
  .next (if x.fpwr ∧ x.next = x.rung ∧ x.rung < min 3 (u8 (s.islRec i) 3) then
    s.setIsl i fun x => { x with next := x.rung + 1, ann := 2, annRes := false } else s)
/-- RUNG_DESCENT (R334): directly to the rung that the current qualifies for, or one rung for a low reservoir. -/
def execRungDescent (i : Fin 8) (rung : Nat) (reservoir : Bool) (s : State) : Res :=
  let x := s.isl i
  let t := if reservoir then x.rung - 1 else rung
  .next (if x.fpwr ∧ t < x.rung then s.setIsl i fun x => { x with next := t, ann := 2, annRes := reservoir } else s)
/-- RUNG_TAKE_EFFECT (R335): an announced change takes effect at island and hub, and resets the loop channel. -/
def execRungTakeEffect (i : Fin 8) (s : State) : Res :=
  let x := s.isl i
  if x.next = x.rung ∨ x.ann ≠ 0 then .next s
  else
    let s := (s.setFld (ISL i 0) 5 4 x.next).setIsl i fun y => { y with rung := y.next }
    let s := s.bumpFld (ISL i 3) 13 2
    let s := s.fire (384 + 8 * i.val + 3) (toWord (x.next + 4 * x.rung + 16 * b2n x.annRes))
    .next (s.loopReset i)
/-- BROWN_OUT_STOP (R337, b1; R342): the island sets BROWN in two uplink frames and then stops, at once where it has no link;
the hub knows of BROWN by the frames that reach it. -/
def execBrownOutStop (i : Fin 8) (s : State) : Res :=
  let x := s.isl i
  if x.fpwr ∧ x.up ∧ x.brown = none then
    .next (s.setIsl i fun x => if x.iLock then { x with brown := some 2 } else x.stop)
  else .next s
/-- ISLAND_RESTART (R337, b3): the island starts at rung 0 with its transfer off. -/
def execIslandRestart (i : Fin 8) (s : State) : Res :=
  let x := s.isl i
  .next (if x.fpwr ∧ x.up = false then (s.setIsl i (·.powerUp 0)).setFld (ISL i 0) 5 4 0 else s)

/-- The record by which an island's cell runs: its own store (R27). -/
def State.cellRec (s : State) (c : Fin 32) : Bytes :=
  match (s.isl (chIsl c)).store with
  | some b => slice b (48 + 80 * (chCell c).val) 80
  | none => []
/-- TIDX of now: units of two sample edges from the start of the slot (R345). -/
def State.tidxNow (s : State) (i : Fin 8) : Nat := min 122 ((s.time - (s.isl i).slotAt).toNat * 1536 / 62500)

/-- A Hall change at one sampling instant (R454). -/
def Cell.hallStep (c : Cell) (new : Nat) (rev : Bool) : Cell :=
  let a := hallSector c.filt
  let b := hallSector new
  if b = 0 then { c with illS := true }
  else if a = 0 then { c with illS := true }
  else if b = a % 6 + 1 then { c with net := c.net + (if rev then -1 else 1) }
  else if a = b % 6 + 1 then { c with net := c.net - (if rev then -1 else 1) }
  else { c with illT := true }
/-- INPUT_FILTER_CHANGE (R345): the filtered state takes the raw state; frozen during a supply test pulse (R364). A DIFF-RX cell
of a QUAD axis changes with the slot's pulses (R449). -/
def execInputFilterChange (c : Fin 32) (st : Nat) (s : State) : Res :=
  let f := u8 (s.cellRec c) 0
  let y := s.cell c
  let v := if f = 5 then st % 8 else st % 2
  let quad := (s.quadUses (chIsl c)).any fun q => decide (q.a = chCell c ∨ q.b = chCell c ∨ q.z = some (chCell c))
  if (f ≠ 1 ∧ f ≠ 2 ∧ f ≠ 4 ∧ f ≠ 5) ∨ y.stp ≠ 0 ∨ v = y.filt ∨ quad then .next s
  else
    let rev := (List.finRange 8).any fun a => decide (s.axCh a 7 = some c) && decide (s.axCfg a 0xF 1 = 1)
    let t := s.tidxNow (chIsl c)
    .next (s.setCell c fun y =>
      let y := if f = 5 then y.hallStep v rev else y
      { y with filt := v, chg := y.chg + 1, tidx := t })
/-- CHATTER_BIN (R346): a 10 ms bin ends. -/
def execChatterBin (c : Fin 32) (s : State) : Res :=
  if s.func c ≠ 1 ∧ s.func c ≠ 2 then .next s
  else
    let s := s.chatterEval c
    .next ((s.setChan c fun x => { x with bins := (0 :: x.bins).take 255 }).chatterEval c)

/-- The diagnostics a function has: 0 OPEN, 1 SHORT, 2 OVERLOAD, 3 READBACK (R355, R386). -/
def hasDiag (r : Bytes) (d : Nat) : Bool :=
  let f := u8 r 0
  if isAnalogue f then
    if d = 0 then (u8 r 0x10).testBit 0 else if d = 1 then f = 0x10 || f = 0x19 else d = 2 && f = 0x10
  else if d = 0 then (u8 r 0x17).testBit 0 || ((f = 8 || f = 0xA) && (u8 r 0x17).testBit 1)
  else if d = 1 then f = 2 || isDigitalOut f || (isInput f && u8 r 0x15 ≠ 0)
  else if d = 2 then f = 8 || f = 0xA
  else d = 3 && (isDigitalOut f)
/-- An output fault latches (R356, R357): `again` says that it came within 1 s of the release before it. -/
def Cell.latch (c : Cell) (again : Bool) (t : RingTime) : Cell :=
  { c with lat5 := true, lat5At := t, tp := 0, runs := if again then c.runs + 1 else 1 }
/-- DIAG_SET (R355, R356, R386): on an output, detection is off during INRUSH and pauses during a test pulse; a repeated
current limit in a driven safe state switches the driver to high impedance. -/
def execDiagSet (c : Fin 32) (d : Nat) (again : Bool) (s : State) : Res :=
  let r := s.cellRec c
  let y := s.cell c
  let out := isOutput (u8 r 0)
  if hasDiag r d = false then .next s
  else if out && (y.inrush && hasInrush r || decide (y.tp ≠ 0)) then .next s
  else if out && decide (d = 1) && y.lat5 then .next (s.setCell c fun y => { y with hiZ := true })
  else
    let t := s.time
    .next (s.setCell c fun y =>
      (if out && (decide (d = 1) || decide (d = 2)) then y.latch again t else y).setDiag d t)
/-- DIAG_CLEAR (R355): latched diagnostics of an output clear on its release only, a supply's OVERLOAD on its retry (R358). -/
def execDiagClear (c : Fin 32) (d : Nat) (s : State) : Res :=
  let r := s.cellRec c
  let latched := isOutput (u8 r 0) && (decide (d = 1) || decide (d = 2) || decide (d = 4)) || hasSupply r && decide (d = 2)
  .next (if latched ∨ 5 ≤ d then s else s.setCell c fun y => { y with diag := setBitN y.diag d false })
/-- INRUSH_END (R355). -/
def execInrushEnd (c : Fin 32) (s : State) : Res := .next (s.setCell c fun y => { y with inrush := false })
/-- FAULT_AUTO_RETRY (R357, R371): with RETRY 1, until eight consecutive faults. -/
def execFaultAutoRetry (c : Fin 32) (s : State) : Res :=
  let r := s.cellRec c
  .next (if isDigitalOut (u8 r 0) ∧ u8 r 0x19 = 1 ∧ (s.cell c).runs < 8 then s.setCell c (·.release false) else s)
/-- ISLAND_OVERCURRENT (R358): the DO and DO-T outputs and the sensor supplies of the island. -/
def execIslandOvercurrent (i : Fin 8) (again : Bool) (s : State) : Res :=
  let t := s.time
  .next ((islChans i).foldl (fun s c =>
    let r := s.cellRec c
    let f := u8 r 0
    if f = 8 ∨ f = 0xA then s.setCell c fun y => { y.setDiag 2 t with
      lat6 := true, lat6At := t, tp := 0, runs := if again then y.runs + 1 else 1 }
    else if hasSupply r && (s.cell c).sup then s.setCell c fun y => { y.setDiag 2 t with sup := false }
    else s) s)
/-- SUPPLY_LIMIT_OFF (R351, R386). -/
def execSupplyLimitOff (c : Fin 32) (s : State) : Res :=
  let t := s.time
  .next (if (s.cell c).sup ∧ isInput (u8 (s.cellRec c) 0) then
    s.setCell c fun y => { y.setDiag 1 t with sup := false } else s)
/-- SUPPLY_RETRY (R351, R386): `held` says that the retry held without reaching the limit. -/
def execSupplyRetry (c : Fin 32) (held : Bool) (s : State) : Res :=
  .next (if (s.cell c).sup = false ∧ held ∧ isInput (u8 (s.cellRec c) 0) then
    s.setCell c fun y => { y with sup := true, diag := setBitN (setBitN y.diag 1 false) 2 false } else s)

/-- TEST_PULSE_START (R361, R362): never two DO-T pulses of an island at once; a request that finds one waits. -/
def execTestPulseStart (c : Fin 32) (s : State) : Res :=
  let r := s.cellRec c
  let y := s.cell c
  let i := chIsl c
  let own := u8 r 2
  let busy := (List.finRange 4).any fun k => decide ((s.isl i).cells[k.val].tp ≠ 0)
  let t := s.time
  if u8 r 0 ≠ 0xA ∨ y.tp ≠ 0 ∨ ((s.isl i).drive (chCell c)).isNone ∨ (own = 3 ∧ y.tpWait = false) then .next s
  else if busy then .next (s.setCell c fun y => { y with tpWait := true })
  else .next (s.setCell c fun y => { y with
    tp := if u8 r 1 = 1 ∧ y.tpLow then 2 else 1, tpLow := u8 r 1 = 1 && !y.tpLow, tpWait := false, tpAt := t })
/-- TEST_PULSE_END (R361): two consecutive failed pulses set TEST_FAIL. -/
def execTestPulseEnd (c : Fin 32) (pass again : Bool) (s : State) : Res :=
  let t := s.time
  if (s.cell c).tp = 0 then .next s
  else if pass then .next (s.setCell c fun y => { y with tp := 0, tpFails := 0 })
  else if (s.cell c).tpFails + 1 < 2 then .next (s.setCell c fun y => { y with tp := 0, tpFails := y.tpFails + 1 })
  else .next (s.setCell c fun y => { (y.latch again t).setDiag 4 t with tpFails := y.tpFails + 1 })
/-- SUPPLY_TEST_PULSE (R364): a due pulse of a DI with SUPPLY 2; pulses of an island never overlap. -/
def execSupplyTestPulse (c : Fin 32) (raw : Bool) (s : State) : Res :=
  let r := s.cellRec c
  let x := s.isl (chIsl c)
  let y := s.cell c
  let busy := (List.finRange 4).any fun k => decide (x.cells[k.val].stp ≠ 0)
  if u8 r 0 ≠ 1 ∨ u8 r 0x15 ≠ 2 ∨ y.sup = false ∨ x.vlow ∨ y.stp ≠ 0 then .next s
  else if busy then .next (s.setCell c fun y => { y with stpWait := true })
  else .next (s.setCell c fun y => { y with stp := 1 + b2n raw, stpWait := false })
/-- SUPPLY_TEST_PULSE_END (R364): `fell` says that the raw state fell to 0 before the end. -/
def execSupplyTestPulseEnd (c : Fin 32) (fell : Bool) (s : State) : Res :=
  let y := s.cell c
  let t := s.time
  if y.stp = 0 then .next s
  else if y.stp = 1 then .next (s.setCell c fun y => { y with stp := 0 })
  else if fell then .next (s.setCell c fun y => { y with stp := 0, stpFails := 0, diag := setBitN y.diag 1 false })
  else if y.stpFails + 1 < 2 then .next (s.setCell c fun y => { y with stp := 0, stpFails := y.stpFails + 1 })
  else .next (s.setCell c fun y => { y.setDiag 1 t with stp := 0, stpFails := y.stpFails + 1 })
/-- INPUT_SWITCH_OPEN (R377, R386). -/
def execInputSwitchOpen (c : Fin 32) (s : State) : Res :=
  let t := s.time
  .next (if u8 (s.cellRec c) 0 = 0x10 then
    s.setCell c fun y => { y.setDiag 2 t with sw := true } else s)
/-- INPUT_SWITCH_RETRY (R377): the switch closes again. -/
def execInputSwitchRetry (c : Fin 32) (s : State) : Res := .next (s.setCell c fun y => { y with sw := false })

end Sys2Proof.Machine
end

