-- ==== Sys2Proof/Machine/Device.lean ====
section
/-!
DEFINITION. The device state (R34), image rejection (R132, R133), the end of a pitch, and SAFE causes (R36–R39).
-/
namespace Sys2Proof.Machine

/-- DEEP is entered only from the state in which it was asked for, and a wake reaches PITCHED only through its own PITCHING
(R34, R89, R93): a change of state before t2 ends an entry, and one after t2 of the wake ends the wake. -/
def SleepSt.leave (x : SleepSt) : SleepSt := if x.phase = 1 ∨ x.phase = 2 ∨ x.phase = 7 then { x with phase := 0 } else x
/-- A state transition and its log record (R34, R573): `trig` is the mailbox code, or 0xFF. -/
def State.setDev (s : State) (d : Dev) (trig : Nat) : State :=
  if s.dev = d then s
  else ({ s with dev := d, sleep := s.sleep.leave } : State).logRec 0x002 (toWord (s.dev.code + 256 * d.code)) (toWord trig) 0
/-- The session of the long operation that runs; 0xFF where no session stands behind an operation (log entry 12). -/
def State.opSession (s : State) : Nat := match s.mss.op with
  | some o => sessionNo o.port
  | none => 0xFF

/-- A rejection: SYS_IMG_REJECT, LAST_REJECT of the island, IMG_REJECT and the log (R132, R133, R146). -/
def State.reject (s : State) (code scope isl serial session : Nat) : State :=
  let n := stick 255 (s.fld SYS_IMG_REJECT 23 16)
  let w := toWord (code + 256 * scope + 4096 * (if scope = 2 then isl else 0) + 65536 * n)
  let s := s.setReg SYS_IMG_REJECT w
  let s := if scope = 2 then s.setFld (ISL (Fin.ofNat 8 isl) 8) 11 4 code else s
  (s.fire 455 w).logRec 0x101 w (toWord serial) (toWord session)
/-- The running image operation ends as REJECTED with SYS_IMG_REJECT in RES0 (R581). -/
def State.endRejected (s : State) : State := s.endOp stRejected [s.reg SYS_IMG_REJECT]

/-- The kernels hold no safety section: nothing armed, every pair off, and the SAF block reads as without a section
(R30, R112, R527). -/
def State.disarm (s : State) : State :=
  let clr := fun (k : Kern) => { Kern.reset with safen := k.safen, run := k.run, life := k.life, miss := k.miss }
  let s : State := { s with saf := { s.saf with
    ka := clr s.saf.ka, kb := clr s.saf.kb, armed := false, runs := 0 } }
  let s := (List.range 16).foldl (fun s k => s.setReg (0x05010 + k) 0) s
  let s := (List.range 8).foldl (fun s k => s.setReg (0x05020 + k) 0) s
  let s := (List.finRange 8).foldl (fun s i => s.setIsl i fun x => { x with kdA := 0, kdB := 0 }) s
  s.setFld SYS_BOOT 11 10 0
/-- No island has a structure in force: the hub stops structuring, and an island that it reaches discards (R133, R134). -/
def State.unstructureAll (s : State) : State :=
  (List.finRange 8).foldl (fun s i =>
    (s.setBit (ISL i 0) 1 false).setIsl i fun x =>
      { (if x.iLock then x.unstructure else x) with sPhase := 0, sAsk := none, retry := false, await := false, barred := false }) s
/-- No RING section is in force: its defaults apply (R271). -/
def State.dropRing (s : State) : State := s.setRing fun r => r.newConf ringDefault
/-- A full pitch ends in UNPITCHED with a code of R132; `keep` says that the loaded image is retained (R134, R155). -/
def State.endPitch (s : State) (code : Nat) (keep : Bool) : State :=
  let p := s.pitch
  let serial := (p.cand.map (·.serial)).getD 0
  let s := s.disarm.unstructureAll.clearImg
  let s : State := { s with role := { RoleSt.reset with holder := s.role.holder } }
  let s := (s.setDev .unpitched 0xFF).when p.boot fun s => s.setFld SYS_BOOT 3 0 0xF
  let s := s.reject code (if p.boot then 0 else 1) 0 serial s.opSession
  let s : State := { s with
    pitch := ⟨.idle, false, 0, none, 0⟩
    cfg := if keep then { s.cfg with pitched := false, old := none } else CfgSram.reset }
  let s := ((s.setReg SYS_IMG_STAT (if keep then toWord (p.src + 32) else 0)).setReg SYS_IMG_SERIAL 0).setReg SYS_SPC_LO 0
  let s := (s.setReg SYS_SPC_HI 0).dropRing
  if p.boot then s else s.endRejected
/-- A re-pitch ends in a rejection: its island is left unstructured if q1 had passed (R139, R149, R150); but for a loss,
it then stays so until a re-pitch or a full pitch (R140). -/
def State.abandonRepitch (s : State) (code serial : Nat) : State :=
  if s.repitch.phase = 0 then s
  else
    let i : Fin 8 := Fin.ofNat 8 s.repitch.isl
    let s := if 2 ≤ s.repitch.phase then (s.setBit (ISL i 0) 1 false).setIsl i fun x =>
        { x with sPhase := 0, sAsk := none, barred := decide (code ≠ rejIslandLost) } else s
    let s : State := { s with repitch := ⟨0, 0, 0, none, false⟩ }
    (s.reject code 2 i.val serial s.opSession).endRejected

/-- The islands' fine chains restart after DOZE (R88). -/
def State.restartFine (s : State) : State :=
  (List.finRange 32).foldl (fun s c => s.requestReset c 5) s

/-- A cause of R36: 1 scrub, 2 kernel, 3 watchdog, 4 supply, 5 temperature. From PITCHED and DOZE it leads to SAFE; it
aborts a full pitch; elsewhere it is recorded (R37, R39, R150, R573). -/
def State.safeCause (s : State) (cause : Nat) (detail : Word) : State :=
  let log := fun (s : State) (stay : Nat) => s.logRec 0x201 (toWord cause) detail (toWord stay)
  match s.dev with
  | .pitched | .doze =>
    let old := s
    let s := s.abandonRepitch rejAborted ((s.repitch.cand.map (·.serial)).getD 0)
    let s := match s.mss.op with
      | some o => if o.code = 0x14 then ({ s with mss := { s.mss with store := none } } : State).endOp stAborted [] else s
      | none => s
    let s := if old.dev = .doze then s.restartFine else s
    let s := log (s.setDev .safe 0xFF) 0
    old.observe s
  | .pitching => (log s 1).endPitch rejAborted false
  | .off | .boot | .unpitched | .safe | .deep | .maintenance => log s 1

/-- A hub reset is due: what the mailbox or the watchdog asks for takes place by the row of its cause (R104). -/
def State.holdReset (s : State) (cause : Nat) : State :=
  { s with hold := { s.hold with held := true, cause := cause, multi := false } }

end Sys2Proof.Machine
end

