-- ==== Sys2Proof/Machine/Kernel.lean ====
section
/-!
DEFINITION. The safety kernels SK-A and SK-B (R508–R533): the SAFETY body, the input stages, the function machines, the
output pairs and their checks, the restart interlock, the cross-comparison, and the SAF block.
-/
namespace Sys2Proof.Machine

/-- Records of `size` bytes with a KIND, from the front of a byte string: at most `n` of them (R514). -/
def kindRecs (kind size : Nat) : Nat → Bytes → List Bytes
  | 0, _ => []
  | n + 1, b => if size ≤ b.length ∧ u8 b 0 = kind then b.take size :: kindRecs kind size n (b.drop size) else []
/-- The cell copy, function and output pair records of a SAFETY body (R514). -/
def safCells (b : Bytes) : List Bytes := kindRecs 1 32 32 (b.drop 16)
def safFns (b : Bytes) : List Bytes := kindRecs 2 48 16 (b.drop (16 + 32 * (safCells b).length))
def safPairs (b : Bytes) : List Bytes :=
  kindRecs 3 48 8 (b.drop (16 + 32 * (safCells b).length + 48 * (safFns b).length))
/-- RESTART_CH (R514). -/
def safRestart (b : Bytes) : Nat := u8 b 1

/-- The record of function `f` in a kernel's own copy. -/
def Kern.fnRec (k : Kern) (f : Fin 16) : Option Bytes := (safFns (k.sec.getD [])).find? fun r => decide (u8 r 1 = f.val)
/-- The record of pair `p` in a kernel's own copy. -/
def Kern.pairRec (k : Kern) (p : Fin 8) : Option Bytes :=
  (safPairs (k.sec.getD [])).find? fun r => decide (u8 r 1 = p.val)
/-- The inputs of a function: input number and channel (R514). -/
def fnInputs (r : Bytes) : List (Fin 4 × Nat) :=
  (List.finRange 4).filterMap fun j => if u8 r (3 + j.val) < 32 then some (j, u8 r (3 + j.val)) else none
/-- The functions that drive a pair (R514). -/
def Kern.drivers (k : Kern) (p : Fin 8) : List (Fin 16) :=
  (List.finRange 16).filter fun f => match k.fnRec f with
    | some r => (u8 r 0xE).testBit p.val
    | none => false
/-- TP_W of a pair's output, from the cell copy, in units of 10 µs (R514, R352). -/
def Kern.pulse (k : Kern) (c : Nat) : Nat :=
  (((safCells (k.sec.getD [])).find? fun r => decide (u8 r 1 = c)).map fun r => u8 r 0x16).getD 0

/-- One of the two kernels. -/
def State.kern (s : State) (isB : Bool) : Kern := if isB then s.saf.kb else s.saf.ka
def State.setSaf (s : State) (f : SafSt → SafSt) : State := { s with saf := f s.saf }
def State.setKern (s : State) (isB : Bool) (f : Kern → Kern) : State :=
  s.setSaf fun x => if isB then { x with kb := f x.kb } else { x with ka := f x.ka }
def Kern.setFn (k : Kern) (f : Fin 16) (g : KFn → KFn) : Kern := { k with fns := updV k.fns f g }
def Kern.setPair (k : Kern) (p : Fin 8) (g : KPair → KPair) : Kern := { k with pairs := updV k.pairs p g }
def Kern.fn (k : Kern) (f : Fin 16) : KFn := k.fns[f.val]
def Kern.pair (k : Kern) (p : Fin 8) : KPair := k.pairs[p.val]

/-- The kernels run: the hub is out of reset and its clocks run (R92, R105). -/
def State.kernelsRun (s : State) : Bool :=
  !s.hold.held && decide (s.dev ≠ .off) && !(decide (s.dev = .deep) && decide (4 ≤ s.sleep.phase))
/-- Condition 1 of R112. -/
def State.r112State (s : State) : Bool :=
  decide (s.dev = .pitched) || (decide (s.dev = .doze) && decide (s.sleep.origin = .pitched))
/-- KST_PASS and RESTART_ACK of SYS_BOOT. -/
def State.kstPass (s : State) : Bool := s.bit SYS_BOOT 10
def State.restartAck (s : State) : Bool := s.bit SYS_BOOT 11
/-- Conditions 1–3 of R112. -/
def State.r112Ready (s : State) : Bool := s.r112State && s.kstPass && s.saf.ka.safen && s.saf.kb.safen

/-- A kernel reports a cause for a function or pair: LAST_CAUSE (R526, R527). -/
def State.noteCause (s : State) (cause unit : Nat) (pair : Bool) : State :=
  s.setSaf fun x => { x with last := cause + 16 * unit + 256 * b2n pair }
/-- A latched fault: SAF_FAULTS, SAF_FAULT and the log (R527, R528, R573). -/
def State.safFault (s : State) (cause unit : Nat) (pair : Bool) : State :=
  let w := toWord (unit + 16 * cause + 256 * b2n pair)
  (((s.noteCause cause unit pair).bump 0x05031).fire 482 w).logRec 0x203 w 0 0
/-- SAF_STAT as the kernels' publications give it (R527). -/
def State.safDetail (s : State) : Word := putBits (s.reg SAF_STAT) 14 6 s.saf.last
/-- A cause of code 10–13: a fault record and a SAFE cause (R36, R526). -/
def State.kernelFault (s : State) (cause unit : Nat) (pair : Bool) : State :=
  let s := s.safFault cause unit pair
  s.safeCause 2 s.safDetail

/-- A function leaves RUN: SAF_TRIPS and SAF_TRIP once for both kernels (R527, R528). -/
def State.safTrip (s : State) (f : Fin 16) (cause : Nat) : State :=
  if s.saf.runs.testBit f.val then
    let w := toWord (f.val + 16 * cause)
    ((((s.setSaf fun x => { x with runs := setBitN x.runs f.val false }).noteCause cause f.val false).bump
      0x05030).fire 481 w).logRec 0x204 w 0 0
  else s
/-- A function enters RUN. -/
def State.safEnter (s : State) (f : Fin 16) : State := s.setSaf fun x => { x with runs := setBitN x.runs f.val true }

/-- A function of one kernel takes a state: what the other kernel has already reported is not reported again (R528). -/
def State.fnGo (s : State) (isB : Bool) (f : Fin 16) (st cause : Nat) : State :=
  let old := (s.kern isB).fn f
  let other := (s.kern !isB).fn f
  if old.st = st then s
  else
    let fault := st = 3 ∨ st = 4
    let s := s.setKern isB fun k => k.setFn f fun x => { x with
      st := st
      cause := if cause = 0 then x.cause else cause
      leave := if x.st = 2 then cause else x.leave
      fsr := if st = 2 then false else x.fsr || decide fault
      d1 := if fault then 0 else x.d1
      d2 := if fault then 0 else x.d2
      sync := 0 }
    let s := if old.st = 2 then s.safTrip f cause else s
    let s := if st = 2 then s.safEnter f else s
    let s := if fault ∧ other.st ≠ st then s.safFault cause f.val false
      else if cause ≠ 0 then s.noteCause cause f.val false else s
    if st = 1 ∧ other.st ≠ 1 then s.fire 483 (toWord f.val) else s

/-- A confirmed input of a function. -/
def KFn.inp (x : KFn) (j : Fin 4) : KIn := x.ins[j.val]
/-- The cause with which a demand is reported: SUBFRAME_IN when an input that shows it has no subframes (R526). -/
def Kern.demandCause (k : Kern) (r : Bytes) (x : KFn) : Nat :=
  if (fnInputs r).any fun q => !(x.inp q.1).g && k.miss[q.2 / 4 % 8]'(Nat.mod_lt _ (by decide)) then 5 else 1

/-- The next state of ESTOP, GUARD and CURTAIN, with its cause, but for the discrepancy timer (R518). -/
def KFn.single (x : KFn) (auto : Bool) (ins : List (Fin 4)) (demand : Nat) : Nat × Nat :=
  let go := ins.all fun j => (x.inp j).g
  let off := ins.all fun j => !(x.inp j).g
  let good := ins.all fun j => (x.inp j).d
  match x.st with
  | 0 => if good = false then (4, 4) else if go then (if auto && !x.fsr then (2, 0) else (1, 0)) else (0, 0)
  | 1 => if good = false then (4, 4) else if go then (1, 0) else (0, 0)
  | 2 => if good = false then (4, 4) else if go then (2, 0) else (0, demand)
  | 3 => if off && good then (0, 0) else (3, 0)
  | 4 => if off && good then (0, 0) else (4, 0)
  | n => (n, 0)

/-- A hand of TWO_HAND is actuated, or released (R519). -/
def KFn.handOn (x : KFn) (a b : Fin 4) : Bool := (x.inp a).g && (x.inp b).g
def KFn.handOff (x : KFn) (a b : Fin 4) : Bool := !(x.inp a).g && !(x.inp b).g

/-- The next state of TWO_HAND, with its cause, but for its timers (R519). -/
def KFn.twoHand (x : KFn) (demand : Nat) : Nat × Nat :=
  let on1 := x.handOn 0 1
  let on2 := x.handOn 2 3
  let off := x.handOff 0 1 && x.handOff 2 3
  let good := (List.finRange 4).all fun j => (x.inp j).d
  match x.st with
  | 0 => if good = false then (4, 4) else if off then (5, 0) else (0, 0)
  | 5 => if good = false then (4, 4) else if on1 && on2 then (2, 0) else if on1 || on2 then (6, 0) else (5, 0)
  | 6 =>
    if good = false then (4, 4)
    else if (if x.first = 1 then on1 else on2) = false then (0, 0)
    else if on1 && on2 then (2, 0) else (6, 0)
  | 2 => if good = false then (4, 4) else if on1 && on2 then (2, 0) else (0, demand)
  | 3 => if off && good then (0, 0) else (3, 0)
  | 4 => if off && good then (0, 0) else (4, 0)
  | n => (n, 0)

/-- The timers of a function advance by one kernel cycle (R518, R519). -/
def KFn.timers (x : KFn) (two : Bool) : KFn :=
  let run := fun (n : Nat) (a b : Fin 4) => if (x.inp a).g ≠ (x.inp b).g then n + 1 else 0
  if x.st = 7 ∨ x.st = 3 ∨ x.st = 4 then x
  else { x with d1 := run x.d1 0 1, d2 := if two then run x.d2 2 3 else 0, sync := if x.st = 6 then x.sync + 1 else 0 }

/-- One function in one kernel cycle (R509, R518, R519). -/
def State.fnCycle (isB : Bool) (s : State) (f : Fin 16) : State :=
  let k := s.kern isB
  match k.fnRec f with
  | none => s
  | some r =>
    if s.saf.armed = false then s
    else if (k.fn f).st = 7 then s.fnGo isB f 0 0
    else
      let two := decide (u8 r 2 = 3)
      let s := s.setKern isB fun k => k.setFn f fun x => x.timers two
      let x := (s.kern isB).fn f
      let dem := k.demandCause r x
      let n := if two then x.twoHand dem else x.single (decide (u8 r 0xC = 1)) ((fnInputs r).map (·.1)) dem
      let s := if n.1 = 6 ∧ x.st = 5 then
          s.setKern isB fun k => k.setFn f fun x => { x with first := if x.handOn 0 1 then 1 else 2 }
        else s
      s.fnGo isB f n.1 n.2

/-- A pair of one kernel goes on or off; SAF_RUN when both command it on (R521, R528). -/
def State.pairGo (s : State) (isB : Bool) (p : Fin 8) (on timed : Bool) (cause : Nat) : State :=
  let old := (s.kern isB).pair p
  let s := s.setKern isB fun k => k.setPair p fun x => { x with
    cmd := on, timed := timed, ss1 := none, test := 0, req := false
    cause := if cause = 0 then x.cause else cause
    diff := 0
    a := if x.cmd = on then x.a else { x.a with since := 0 }
    b := if x.cmd = on then x.b else { x.b with since := 0 } }
  if on && !old.cmd && ((s.kern !isB).pair p).cmd then s.fire 484 (toWord p.val) else s

/-- A latched PAIR_FAULT of one kernel (R522). -/
def State.pairFault (s : State) (isB : Bool) (p : Fin 8) (cause : Nat) : State :=
  if ((s.kern isB).pair p).pf then s
  else
    let s := (s.setKern isB fun k => k.setPair p fun x => { x with pf := true }).pairGo isB p false false cause
    if ((s.kern !isB).pair p).pf then s else s.safFault cause p.val true

/-- A pair becomes INTERLOCKED in one kernel (R523). -/
def State.interlock (s : State) (isB : Bool) (p : Fin 8) : State :=
  if ((s.kern isB).pair p).inter then s
  else
    let s := ((s.setKern isB fun k => k.setPair p fun x => { x with inter := true }).pairGo isB p false false
      9).noteCause 9 p.val true
    if ((s.kern !isB).pair p).inter then s else s.fire 483 (toWord (p.val + 256))

/-- Start of an SS1-t delay in one kernel (R521). -/
def State.ss1Start (s : State) (isB : Bool) (p : Fin 8) (ms cause : Nat) : State :=
  let s := s.setKern isB fun k => k.setPair p fun x => { x with ss1 := some (4 * ms), cause := cause }
  if (((s.kern !isB).pair p).ss1).isSome then s else s.fire 485 (toWord (p.val + 8 * ms))

/-- One output pair in one kernel cycle (R521). -/
def State.pairCycle (isB : Bool) (s : State) (p : Fin 8) : State :=
  let k := s.kern isB
  match k.pairRec p with
  | none => s
  | some r =>
    let x := k.pair p
    let ds := k.drivers p
    let open' := s.r112Ready && s.restartAck && s.saf.armed && k.safen && !x.inter && !x.pf
    let down := ds.filter fun f => decide ((k.fn f).st ≠ 2)
    if x.cmd = false then
      if open' && !ds.isEmpty && down.isEmpty then s.pairGo isB p true false 0 else s
    else if open' = false then s.pairGo isB p false false (if k.safen then 0 else 2)
    else
      let s := s.setKern isB fun k => k.setPair p fun x => { x with test := x.test + 1, ss1 := x.ss1.map (· - 1) }
      match down.find? fun f => decide (u8 ((k.fnRec f).getD []) 0xD = 0) || !([1, 6].contains (k.fn f).leave) with
      | some f => s.pairGo isB p false false (k.fn f).leave
      | none =>
        match down, x.ss1 with
        | f :: _, none =>
          let s := s.ss1Start isB p (u16 r 4) (k.fn f).leave
          if u16 r 4 = 0 then s.pairGo isB p false true (k.fn f).leave else s
        | _, _ => s

/-- The units that wait for a restart acknowledge in one kernel: function `f`, or 16 + `p` for a pair (R520). -/
def Kern.waiting (k : Kern) : List Nat :=
  ((List.finRange 16).filter fun f => decide ((k.fn f).st = 1)).map (·.val) ++
    ((List.finRange 8).filter fun p => (k.pair p).inter || (k.pair p).pf).map (fun p => 16 + p.val)

/-- A fault latch of a cell stands against the release of a pair (R522). -/
def State.cellLatched (s : State) (c : Nat) : Bool :=
  let y := s.cell (Fin.ofNat 32 c)
  y.lat5 || y.lat6
/-- An acknowledge acts on a function or pair of one kernel (R520, R522, R523). -/
def State.ackUnit (isB : Bool) (s : State) (u : Nat) : State :=
  let k := s.kern isB
  if u < 16 then if (k.fn (Fin.ofNat 16 u)).st = 1 then s.fnGo isB (Fin.ofNat 16 u) 2 0 else s
  else
    let p : Fin 8 := Fin.ofNat 8 (u - 16)
    match k.pairRec p with
    | none => s
    | some r =>
      let x := k.pair p
      let free := !x.a.rb && !x.b.rb && !s.cellLatched (u8 r 2) && !s.cellLatched (u8 r 3)
      s.setKern isB fun k => k.setPair p fun x => { x with inter := false, pf := x.pf && !free }
/-- A restart acknowledge that both kernels have accepted (R113, R520, R532). -/
def State.ackAll (s : State) (ua ub : List Nat) : State :=
  let s := ub.foldl (State.ackUnit true) (ua.foldl (State.ackUnit false) s)
  let s := s.setBit SYS_BOOT 11 true
  if s.saf.acked then s else (s.setSaf fun x => { x with acked := true }).bump 0x05032

/-- The restart input in one kernel cycle: the press, its length and the decision at its release (R113, R520). -/
def State.restartCycle (s : State) (isB : Bool) : State :=
  let ready := s.r112Ready
  let s := s.setKern isB fun k =>
    let ch := safRestart (k.sec.getD [])
    let gone := decide (32 ≤ ch) || k.miss[ch / 4 % 8]'(Nat.mod_lt _ (by decide))
    let dec := match k.dec with
      | some (n, u) => if n < 2 then some (n + 1, u) else none
      | none => none
    if ready = false ∨ k.sec = none ∨ gone then { k with press := none, inact := false, units := [], dec := none }
    else if k.rst then
      match k.press with
      | some n => { k with press := some (n + 1), units := k.units.filter k.waiting.contains, dec := dec }
      | none => if k.inact then { k with press := some 1, units := k.waiting, inact := false, dec := dec } else { k with dec := dec }
    else
      match k.press with
      | some n => { k with press := none, inact := true, units := []
                           dec := if 400 ≤ n ∧ n ≤ 20000 then some (0, k.units.filter k.waiting.contains) else dec }
      | none => { k with inact := true, dec := dec }
  match s.saf.ka.dec, s.saf.kb.dec with
  | some (_, ua), some (_, ub) =>
    ((s.setKern false fun k => { k with dec := none }).setKern true fun k => { k with dec := none }).ackAll ua ub
  | _, _ => s

/-- The SAFEN sample of a kernel cycle (R524). -/
def State.safenCycle (s : State) (isB high : Bool) : State :=
  let s := s.setSaf fun x => { x with pin := high }
  if high then s.setKern isB fun k => { k with run := k.run + 1 }
  else
    let s := (s.setKern isB fun k => { k with safen := false, run := 0 }).setBit SYS_BOOT 11 false
    (List.finRange 8).foldl (fun s p => if ((s.kern isB).pair p).cmd then
      (s.pairGo isB p false false 2).noteCause 2 p.val true else s) s
/-- SAFEN_CHANGE on a change as both kernels see it (R524, R528). -/
def State.safenView (s : State) : State :=
  let v := s.saf.ka.safen && s.saf.kb.safen
  if v = s.saf.view then s else (s.setSaf fun x => { x with view := v }).fire 486 (toWord (b2n v))

/-- The tolerance of R511 for a function, in kernel cycles. -/
def State.fnTol (s : State) (f : Fin 16) : Nat :=
  let a := s.saf.ka.fn f
  let b := s.saf.kb.fn f
  let disc := u16 ((s.saf.ka.fnRec f).getD []) 0xA
  if a.st = 3 ∨ b.st = 3 then 8 + 4 * disc / 5
  else if a.st = 6 ∨ b.st = 6 ∨ (a.cause = 6) ≠ (b.cause = 6) then 8 + 400 else 8
/-- The tolerance of R511 for a pair, in kernel cycles. -/
def State.pairTol (s : State) (p : Fin 8) : Nat :=
  let ts := u16 ((s.saf.ka.pairRec p).getD []) 4
  let x := s.saf.ka.pair p
  let y := s.saf.kb.pair p
  let own := if x.timed ∨ y.timed then 8 + 4 * ts / 5 else 8
  (s.saf.ka.drivers p).foldl (fun n f => if (s.saf.ka.fn f).st ≠ (s.saf.kb.fn f).st then max n (s.fnTol f) else n) own
/-- Whether a function, or a pair, differs between the kernels. -/
def State.fnDiffers (s : State) (f : Fin 16) : Bool := decide ((s.saf.ka.fn f).st ≠ (s.saf.kb.fn f).st)
def State.pairDiffers (s : State) (p : Fin 8) : Bool :=
  decide ((s.saf.ka.pair p).cmd ≠ (s.saf.kb.pair p).cmd) || decide ((s.saf.ka.pair p).pf ≠ (s.saf.kb.pair p).pf) ||
    decide ((s.saf.ka.pair p).inter ≠ (s.saf.kb.pair p).inter)
/-- The comparison of a kernel cycle (R511). -/
def State.compareCycle (s : State) (isB : Bool) : State :=
  if s.saf.armed = false then s
  else
    let s := if (List.finRange 16).any s.fnDiffers || (List.finRange 8).any s.pairDiffers then s.bump 0x05033 else s
    let s := (List.finRange 16).foldl (fun (s : State) f =>
      let n : Nat := if s.fnDiffers f then (s.kern isB).cmpF[f.val] + 1 else 0
      let t := s.fnTol f
      let s := s.setKern isB fun k => { k with cmpF := updV k.cmpF f fun _ => n }
      if n = t + 1 then s.kernelFault 10 f.val false else s) s
    (List.finRange 8).foldl (fun (s : State) p =>
      let n : Nat := if s.pairDiffers p then (s.kern isB).cmpP[p.val] + 1 else 0
      let t := s.pairTol p
      let s := s.setKern isB fun k => { k with cmpP := updV k.cmpP p fun _ => n }
      if n = t + 1 then s.kernelFault 10 p.val true else s) s

/-- The logic is powered: main power is valid, or every main rail has become valid and the hub waits for its release. An
open-drain output of an unpowered module floats to its pull-up (R53). -/
def State.powered (s : State) : Bool := decide (s.dev ≠ .off) || s.hold.railsOk
/-- SFLTN as it stands (R525). -/
def State.sfltn (s : State) : Bool :=
  let fault := fun (k : Kern) => k.fns.toList.any (fun x => decide (x.st = 3) || decide (x.st = 4)) ||
    k.pairs.toList.any (·.pf)
  s.powered && (s.hold.held || decide (s.dev = .boot) || decide (s.dev = .safe) || decide (s.dev = .maintenance) ||
    s.bit SYS_IMG_STAT 3 || fault s.saf.ka || fault s.saf.kb)
/-- The word of SAF_FNf (R527). -/
def State.safFnWord (s : State) (f : Fin 16) (r : Bytes) : Word :=
  let a := s.saf.ka.fn f
  let used := (fnInputs r).map (·.1)
  let g := used.foldl (fun n j => n + b2n (a.inp j).g * 2 ^ j.val) 0
  let d := used.foldl (fun n j => n + b2n (a.inp j).d * 2 ^ j.val) 0
  toWord (a.st + 8 * (s.saf.kb.fn f).st + 64 * g + 1024 * d + 16384 * a.cause + 262144 * u8 r 2)
/-- The word of SAF_PAIRp (R527). -/
def State.safPairWord (s : State) (p : Fin 8) : Word :=
  let a := s.saf.ka.pair p
  let b := s.saf.kb.pair p
  toWord (b2n a.cmd + 2 * b2n b.cmd + 4 * b2n a.a.rb + 8 * b2n a.b.rb + 16 * b2n (a.ss1.isSome || b.ss1.isSome) +
    32 * b2n (a.inter || b.inter) + 64 * b2n (a.pf || b.pf) +
    128 * (if a.cause = 0 then b.cause else a.cause) + 2048 * ((a.ss1.getD 0) / 16))
/-- The hub mirrors the kernels' state in the SAF block (R527). -/
def State.safMirror (s : State) : State :=
  let wait := fun (k : Kern) => k.fns.toList.any (fun x => decide (x.st = 1)) || k.pairs.toList.any (·.inter)
  let fault := fun (k : Kern) => k.fns.toList.any (fun x => decide (x.st = 3) || decide (x.st = 4)) ||
    k.pairs.toList.any (·.pf)
  let s := s.setReg SAF_STAT (toWord (b2n s.saf.armed + 2 * b2n (s.saf.ka.safen && s.saf.kb.safen) + 4 * b2n s.restartAck +
    8 * b2n s.sfltn + 16 * b2n (wait s.saf.ka || wait s.saf.kb) + 32 * b2n (fault s.saf.ka || fault s.saf.kb) +
    64 * s.saf.last))
  let s := (List.finRange 16).foldl (fun s f => match s.saf.ka.fnRec f with
    | some r => s.setReg (0x05010 + f.val) (s.safFnWord f r)
    | none => s) s
  (List.finRange 8).foldl (fun s p => match s.saf.ka.pairRec p with
    | some _ => s.setReg (0x05020 + p.val) (s.safPairWord p)
    | none => s) s

/-- The DATA of a kernel's downlink subframe for an island: commands and test-pulse requests of its cells (R328). -/
def Kern.dnData (k : Kern) (isB : Bool) (i : Fin 8) : Nat :=
  (List.finRange 8).foldl (fun n p => match k.pairRec p with
    | none => n
    | some r =>
      let x := k.pair p
      let own := if isB then u8 r 3 else u8 r 2
      let put := fun (n c : Nat) => if c / 4 = i.val then
          n + b2n x.cmd * 2 ^ (c % 4) + (if x.req && decide (own = c) then 2 ^ (4 + c % 4) else 0)
        else n
      put (put n (u8 r 2)) (u8 r 3)) 0
/-- Step 3 of R509: the downlink subframe buffers of every island. -/
def State.publish (s : State) (isB : Bool) : State :=
  let k := s.kern isB
  let s := (List.finRange 8).foldl (fun s i => s.setIsl i fun x =>
    if isB then { x with kdB := k.dnData true i } else { x with kdA := k.dnData false i }) s
  s.setKern isB fun k => { k with pairs := k.pairs.map fun x => { x with req := false } }

/-- What follows an evaluation outside a cycle's own step: the pairs are judged anew and the commands written. -/
def State.pairsNow (s : State) (isB : Bool) : State := ((List.finRange 8).foldl (State.pairCycle isB) s).publish isB

/-- KERNEL_CYCLE (R509–R512, R520–R527) of SK-B or SK-A: the SAFEN sample, and the cause 11–13 of a kernel fault that the
kernel found in this cycle, 0 for none. -/
def execKernelCycle (isB safen : Bool) (fault : Nat) (s : State) : Res :=
  if s.kernelsRun = false then .next s
  else
    let s := if isB then s else s.setSaf fun x => { x with acked := false }
    let s := if isB then s else s.setBit SYS_CLKSTAT 4 (decide (fault ≠ 13))
    let s := (s.safenCycle isB (safen && !s.underTest)).safenView
    let s := s.restartCycle isB
    let s := (List.finRange 16).foldl (State.fnCycle isB) s
    let s := (s.pairsNow isB).compareCycle isB
    let s := if 11 ≤ fault ∧ fault ≤ 13 then s.kernelFault fault 0 false else s
    .next (if isB then s else s.safMirror)

/-- An input of a function takes a good subframe after `n` frame periods (R516, R517). -/
def KIn.take (x : KIn) (g d : Bool) (n : Nat) : KIn :=
  if d = false then ⟨false, false, 0⟩
  else if g = x.g then ⟨x.g, true, 0⟩
  else ⟨x.g, true, x.run + n⟩
/-- The function inputs on an island take what `f` makes of them (R516). -/
def Kern.mapInputs (k : Kern) (i : Fin 8) (f : Nat → Nat → KIn → KIn) : Kern :=
  (List.finRange 16).foldl (fun k q => match k.fnRec q with
    | none => k
    | some r => (fnInputs r).foldl (fun k ch => if ch.2 / 4 = i.val then
        k.setFn q fun x => { x with ins := updV x.ins ch.1 (f ch.1.val (ch.2 % 4)) }
      else k) k) k
/-- POL of a function for input `j` (R514). -/
def Kern.takeInputs (k : Kern) (i : Fin 8) (data n : Nat) : Kern :=
  (List.finRange 16).foldl (fun k q => match k.fnRec q with
    | none => k
    | some r => (fnInputs r).foldl (fun k ch => if ch.2 / 4 = i.val then
        let g := (data.testBit (ch.2 % 4)) != ((u8 r 7).testBit ch.1.val)
        k.setFn q fun x => { x with ins := updV x.ins ch.1 fun y => y.take g (data.testBit (4 + ch.2 % 4)) n }
      else k) k) k

/-- A readback of an output of a pair after `n` frame periods (R522). -/
def KOut.take (x : KOut) (rb : Bool) (n : Nat) : KOut :=
  ⟨rb, x.since + n, if rb then 0 else x.dark + n, if rb then x.light + n else 0⟩
/-- The checks of R522 on one output and on the pair's agreement: the cause of a failure, 0 for none. -/
def KPair.judge (x : KPair) (o : KOut) (tpw ttest : Nat) : Nat :=
  if o.since < 100 then 0
  else if x.cmd = false then (if o.rb then 7 else 0)
  else if tpw + 5 < min o.dark (o.since - 100) then 7
  else if (ttest + 2) * 100 < min o.light (o.since - 100) then 8
  else if tpw + 5 < min x.diff (o.since - 100) then 7
  else 0
/-- The outputs of a pair that lie on an island take their readback, and the checks follow (R522). -/
def State.pairReadback (isB : Bool) (i : Fin 8) (data n : Nat) (s : State) (p : Fin 8) : State :=
  match (s.kern isB).pairRec p with
  | none => s
  | some r =>
    let one := fun (s : State) (c : Nat) (second : Bool) =>
      if c / 4 ≠ i.val then s
      else
        let s := s.setKern isB fun k => k.setPair p fun x =>
          let x := if second then { x with b := x.b.take (data.testBit (8 + c % 4)) n }
            else { x with a := x.a.take (data.testBit (8 + c % 4)) n }
          { x with diff := if x.a.rb = x.b.rb then 0 else if second then x.diff else x.diff + n }
        let k := s.kern isB
        let x := k.pair p
        let cause := x.judge (if second then x.b else x.a) (k.pulse c) (u8 r 6)
        if s.saf.armed && decide (cause ≠ 0) then (s.pairFault isB p cause).publish isB else s
    one (one s (u8 r 2) false) (u8 r 3) true

/-- The counter of bad subframes of an island, as a kernel keeps it (R329). -/
def State.subframeBad (s : State) (isB : Bool) (i : Fin 8) : State := s.bump (ISL i (0xC + b2n isB))
/-- A kernel takes a subframe `n` frames after the last good one: inputs, the restart channel and the readbacks (R329, R516). -/
def State.subframeTake (s : State) (isB : Bool) (i : Fin 8) (life data n : Nat) : State :=
  let s := s.setKern isB fun k =>
    let k := { k with life := updV k.life i fun _ => some (life % 256), miss := updV k.miss i fun _ => false }
    let k := k.takeInputs i data n
    let ch := safRestart (k.sec.getD [])
    if ch / 4 = i.val then { k with rst := data.testBit (ch % 4) } else k
  (List.finRange 8).foldl (fun s p => State.pairReadback isB i data n s p) s

/-- A subframe whose LIFE makes a step that R329 does not accept: bad, and every input of the island confirms g = 0; a press of a
restart input of that island ends (R329, R517, R520). -/
def State.subframeStep (s : State) (isB : Bool) (i : Fin 8) : State :=
  (s.subframeBad isB i).setKern isB fun k =>
    let k := k.mapInputs i fun _ _ x => { x with g := false, run := 0 }
    if safRestart (k.sec.getD []) / 4 = i.val then { k with press := none, inact := false } else k
/-- A kernel receives the five bytes of an uplink subframe of island `i` (R328, R329). -/
def State.subframeIn (s : State) (isB : Bool) (i : Fin 8) (bs : Bytes) : State :=
  match subTake true isB i.val bs with
  | none => s.subframeBad isB i
  | some v =>
    match (s.kern isB).life[i.val] with
    | some p =>
      let n := (v.1 + 256 - p) % 256
      if 1 ≤ n ∧ n ≤ 3 then s.subframeTake isB i v.1 v.2 n else s.subframeStep isB i
    | none => s.subframeTake isB i v.1 v.2 1
/-- KERNEL_SUBFRAME_IN (R329, R516, R517, R520, R522): a kernel takes its subframe of the latest uplink frame that the hub has
received from island `i`, with the errors that LIFE, DATA and the CRC met on the way through its register (R83). -/
def execKernelSubframeIn (isB : Bool) (i : Fin 8) (errLife errData errCrc : Nat) (s : State) : Res :=
  match if isB then (s.isl i).rxB else (s.isl i).rxA with
  | none => .next s
  | some bs =>
    let s := s.setIsl i fun x => if isB then { x with rxB := none } else { x with rxA := none }
    .next (if s.kernelsRun then s.subframeIn isB i (withErr bs (subErr errLife errData errCrc)) else s)

/-- KERNEL_SUBFRAME_LOSS (R329, R516, R523): the uplink subframes of an island count as missing. -/
def execKernelSubframeLoss (isB : Bool) (i : Fin 8) (s : State) : Res :=
  if s.kernelsRun = false then .next s
  else
    let s := s.setKern isB fun k =>
      let k := { k with life := updV k.life i fun _ => none, miss := updV k.miss i fun _ => true }
      let k := k.mapInputs i fun _ _ _ => ⟨false, true, 0⟩
      if safRestart (k.sec.getD []) / 4 = i.val then { k with press := none, inact := false, units := [] } else k
    if s.saf.armed = false then .next s
    else
      let s := (List.finRange 8).foldl (fun s p => match (s.kern isB).pairRec p with
        | some r => if u8 r 2 / 4 = i.val ∨ u8 r 3 / 4 = i.val then s.interlock isB p else s
        | none => s) s
      .next (s.publish isB)

/-- INPUT_CONFIRM (R517): input `j` of a function has carried the other value over T_DB. -/
def execInputConfirm (isB : Bool) (f : Fin 16) (j : Fin 4) (s : State) : Res :=
  match (s.kern isB).fnRec f with
  | none => .next s
  | some r =>
    if 25 * u16 r 8 ≤ (((s.kern isB).fn f).inp j).run then
      .next (s.setKern isB fun k => k.setFn f fun x => { x with ins := updV x.ins j fun y => ⟨!y.g, y.d, 0⟩ })
    else .next s

/-- DISCREPANCY_TIMEOUT (R518, R519): a discrepancy timer has reached T_DISC. -/
def execDiscrepancyTimeout (isB : Bool) (f : Fin 16) (s : State) : Res :=
  match (s.kern isB).fnRec f with
  | none => .next s
  | some r =>
    let x := (s.kern isB).fn f
    if (4 * u16 r 0xA ≤ x.d1 ∨ 4 * u16 r 0xA ≤ x.d2) ∧ x.st ≠ 7 ∧ x.st ≠ 3 ∧ x.st ≠ 4 then
      .next ((s.fnGo isB f 3 3).pairsNow isB)
    else .next s

/-- TWO_HAND_SYNC_TIMEOUT (R519): the synchronism timer ends in SYNC. -/
def execTwoHandSyncTimeout (isB : Bool) (f : Fin 16) (s : State) : Res :=
  let x := (s.kern isB).fn f
  if x.st = 6 ∧ 2000 ≤ x.sync then .next (s.fnGo isB f 0 6) else .next s

/-- SS1_DELAY_END (R521): T_SS1 has expired and the pair goes off. -/
def execSs1DelayEnd (isB : Bool) (p : Fin 8) (s : State) : Res :=
  if ((s.kern isB).pair p).ss1 = some 0 then .next ((s.pairGo isB p false true 0).publish isB) else .next s

/-- PAIR_TEST_REQUEST (R522): T_TEST has passed while the pair is on. -/
def execPairTestRequest (isB : Bool) (p : Fin 8) (s : State) : Res :=
  match (s.kern isB).pairRec p with
  | none => .next s
  | some r =>
    let x := (s.kern isB).pair p
    if x.cmd && decide (4 * u8 r 6 ≤ x.test) then
      .next (s.setKern isB fun k => k.setPair p fun x => { x with test := 0, req := true })
    else .next s

/-- SAFEN_REASSERT (R524): 40 consecutive samples of the kernel have shown SAFEN asserted. -/
def execSafenReassert (isB : Bool) (s : State) : Res :=
  if 40 ≤ (s.kern isB).run ∧ (s.kern isB).safen = false then
    .next ((s.setKern isB fun k => { k with safen := true }).safenView)
  else .next s

/-- RESTART_ACK (R113, R520): the mailbox acknowledge acts on what waits at its arrival; before conditions 1–3 of R112
hold it is discarded. -/
def execRestartAck (p : Port) (s : State) : Res :=
  .next (s.command p 0x15 false (fun j => j.count 0) (decide (s.dev = .pitched)) fun _ s =>
    let s := if s.r112Ready then s.ackAll s.saf.ka.waiting s.saf.kb.waiting else s
    s.finish p stOK [])

end Sys2Proof.Machine
end

