-- ==== Sys2Proof/Machine/Reset.lean ====
section
/-!
DEFINITION. What every hub reset does at its cause (R105), and the state while the hub is held.
-/
namespace Sys2Proof.Machine

/-- The link and island at a hub reset: the hub's side starts anew, a hub-powered island loses its supply, and a
field-powered one keeps its own side (R105). -/
def Isl.hubReset (x : Isl) : Isl :=
  let y := if x.fpwr then x else x.powerDown
  { Isl.reset with
    temp := y.temp, vres := y.vres, up := y.up, iLock := y.iLock, dnGood := y.dnGood, dnErr := y.dnErr, useq := y.useq
    words := y.words, store := y.store, tmo := y.tmo, rung := y.rung, next := y.next, ann := y.ann, annRes := y.annRes
    fpwr := y.fpwr, brown := y.brown, vlow := y.vlow, vhigh := y.vhigh, vfldAt := y.vfldAt, ask := y.ask, commit := y.commit
    scan := y.scan, drv := y.drv, lifeA := y.lifeA, lifeB := y.lifeB, ulife := y.ulife, cells := y.cells }

/-- FW_STORE writes slot B: the slot that is not running, or under Oxbow the one that is not ACTIVE (R596). -/
def State.fwTargetB (s : State) : Bool := match s.mss.run with
  | .slotA => true
  | .slotB => false
  | .oxbow | .none => decide (s.bootCtl.active = 0)
/-- The bytes of a firmware slot. -/
def Flash.setFw (f : Flash) (isB : Bool) (b : Bytes) : Flash := if isB then { f with fwB := b } else { f with fwA := b }
/-- The bytes of an image slot, 0 or 1. -/
def Flash.setImg (f : Flash) (slot : Nat) (b : Bytes) : Flash := if slot = 0 then { f with img0 := b } else { f with img1 := b }
/-- A byte string with the byte at an offset complemented. -/
def flipByte (b : Bytes) (k : Nat) : Bytes := b.take k ++ ((b.drop k).take 1).map (~~~ ·) ++ b.drop (k + 1)
/-- What a slot holds whose write of a byte string did not end: not that string, and rejected at its next check with DIGEST or
with SECTION_CRC (R134, R154; log entry 19). -/
def cutImage (n : Nat) (b : Bytes) : Bytes :=
  flipByte b (if Config.cutDigest n then u32 b 0x1C + 8 else u32 b 0x44)
/-- One free value has been used. -/
def State.takeFree (s : State) : State := { s with fresh := s.fresh + 1 }
/-- A slot whose write is cut off no longer verifies (R134, R154, R594; log entry 19). -/
def State.cutFlash (s : State) : Flash := match s.mss.op with
  | some o =>
    if o.code = 0x12 then
      s.flash.setImg (o.args.getD 0 0).toNat (cutImage s.fresh (s.staged (o.args.getD 1 0).toNat (o.args.getD 2 0).toNat))
    else if o.code = 0x20 ∧ o.stage = 1 then s.flash.setFw s.fwTargetB []
    else s.flash
  | none => s.flash

/-- A hub reset of R104 with its code, to a state: the hub is held; every register, buffer and mode is as after reset; flash,
the Ember domain, the TAP, the straps' latest sample and what the lands and monitors show stay (R105, R639, R85). RSTN ends
what a test left undefined (R643), and a TAP without power starts in Test-Logic-Reset. -/
def State.hubResetTo (s : State) (d : Dev) (cause : Nat) (multi : Bool) : State :=
  { State.reset with
    pending := s.pending
    dev := s.dev
    regs := []
    fresh := s.fresh + 1
    flash := s.cutFlash
    ember := s.ember
    isls := s.isls.map Isl.hubReset
    saf := { SafSt.reset with pin := s.saf.pin }
    tap := if d = Dev.off then TapSt.reset else { s.tap with before := if cause = 4 then none else s.tap.before }
    hold := { s.hold with held := true, cause := cause, multi := multi, xferNext := 8 } }
  |>.setReg SYS_PWR_STAT (s.reg SYS_PWR_STAT)
  |>.setReg SYS_STRAPS (s.reg SYS_STRAPS)
  |>.setReg SYS_CLKSTAT (putBits (s.reg SYS_CLKSTAT) 3 2 0)
  |>.setDev d 0xFF
/-- A hub reset of R104 (R34). -/
def State.hubReset (s : State) (cause : Nat) (multi : Bool) : State := s.hubResetTo .boot cause multi

/-- The hub is held in reset, or has no main power: no port, kernel, ring or MSS acts. -/
def State.down (s : State) : Bool := s.hold.held || decide (s.dev = .off)
/-- DEEP from its commit to the start of the core at the wake (R92, R93): host ports, MSS and ring controller do not
act. -/
def State.asleep (s : State) : Bool := decide (s.dev = .deep)
/-- The hub's functional logic runs. -/
def State.runs (s : State) : Bool := !s.down && !s.asleep

end Sys2Proof.Machine
end

