-- ==== Sys2Proof/Machine/Watchdog.lean ====
section
/-!
DEFINITION. The watchdog (R549–R565): challenges and tokens, windows, escalation, and the clock monitor.
-/
namespace Sys2Proof.Machine

/-- One step of the challenge generator (R551). -/
def lfsrNext (x : Nat) : Nat :=
  let bit := (x ^^^ (x >>> 2) ^^^ (x >>> 3) ^^^ (x >>> 5)) % 2
  (x >>> 1) + bit * 32768
/-- The token of a challenge under a seed (R552). -/
def wdgToken (seed c : Nat) : Nat :=
  let t := c ^^^ (seed % 65536)
  let r := c / 4096
  let u := ((t <<< r) ||| (t >>> (16 - r))) % 65536
  (u + seed / 65536 % 65536) % 65536

/-- WIN_MS, OPEN, WARN_STEPS, RESET_EN and STEP as they stand (R550, R562). -/
def State.wdgWin (s : State) : Nat := 1000 * s.fld WDG_CFG 13 0
def State.wdgOpenAt (s : State) : Nat := s.wdgWin * s.fld WDG_CFG 15 14 / 4
def State.wdgSafeStep (s : State) : Nat := s.fld WDG_CFG 18 17 + 1
def State.wdgResetEn (s : State) : Bool := s.bit WDG_CFG 19
def State.wdgStep (s : State) : Nat := s.fld WDG_STAT 2 0
/-- The watchdog counts and judges (R549, R560). -/
def State.wdgRuns (s : State) : Bool := !s.down && !s.bit WDG_STAT 7

/-- The defaults of R550: SEED 0, WIN_MS 1,000, OPEN 0, WARN_STEPS 3, RESET_EN clear; CLK stays. -/
def State.wdgDefaults (s : State) : State :=
  ({ s with wdg := { s.wdg with seed := 0, defDue := false } } : State).setReg WDG_CFG
    (putBits 0x0603E8 16 16 (s.fld WDG_CFG 16 16))
/-- A new challenge with a window of `left` ticks that opens after `opens` ticks (R551, R553). -/
def State.wdgChallenge (s : State) (left opens : Nat) : State :=
  let seq := (s.fld WDG_CHAL 23 16 + 1) % 256
  let s := s.setReg WDG_CHAL (toWord (lfsrNext (s.fld WDG_CHAL 15 0) + 65536 * seq))
  let s := (s.setReg WDG_LEFT (toWord left)).setBit WDG_STAT 4 (decide (opens = 0))
  { s with wdg := { s.wdg with openLeft := opens, first := false } }
/-- A new challenge with a full service window; defaults that are due take effect with it (R550, R555). BOOT_WIN is
left as it is: a fault within the boot window does not end that window (log entry 52). -/
def State.wdgFresh (s : State) : State :=
  let s := s.when s.wdg.defDue State.wdgDefaults
  s.wdgChallenge s.wdgWin s.wdgOpenAt
/-- BOOT_WIN ends with the close of the boot window, if no valid service came before (R553). -/
def State.wdgBootEnd (s : State) : State := s.when (s.wdg.bootLeft = 0) fun s => s.setBit WDG_STAT 3 false

/-- The effect of the step that STEP has reached: WARN, SAFE or RESET (R555). -/
def State.wdgAct (s : State) (kind step : Nat) : State :=
  let safe := s.wdgSafeStep
  if step ≤ safe then
    let w := toWord (step + 8 * kind)
    let s := (s.fire 487 w).logRec 0x601 w 0 0
    if step = safe then s.safeCause 3 w else s
  else
    let w := toWord (step + 8 * kind)
    ((s.fire 487 w).logRec 0x601 w 0 0).hubReset 5 false
/-- A watchdog fault that takes STEP to `step` (R555, R557). -/
def State.wdgFaultTo (s : State) (kind step : Nat) : State :=
  let s := ((s.bump WDG_FAULTS).setFld WDG_STAT 10 8 kind).setFld WDG_STAT 2 0 step
  (s.wdgFresh).wdgAct kind step
/-- A fault of R554: STEP advances by one, up to the last step present (R555). -/
def State.wdgFault (s : State) (kind : Nat) : State :=
  let last := if s.wdgResetEn then s.wdgSafeStep + 1 else s.wdgSafeStep
  s.wdgFaultTo kind (min (s.wdgStep + 1) last)

/-- A WDG_TOKEN write that carries SUPERVISOR is judged (R554). -/
def State.wdgServe (s : State) (v : Word) : State :=
  if s.wdgRuns = false then s
  else
    let seq := s.fld WDG_CHAL 23 16
    let got := bitsOf v 23 16
    if s.wdg.first = false ∧ got = (seq + 255) % 256 then s.bump WDG_STALE
    else if got ≠ seq then s.wdgFault 4
    else if s.bit WDG_STAT 4 = false then s.wdgFault 3
    else if bitsOf v 15 0 ≠ wdgToken s.wdg.seed (s.fld WDG_CHAL 15 0) then s.wdgFault 2
    else (((s.bump WDG_SERVICES).setFld WDG_STAT 2 0 0).setBit WDG_STAT 3 false).wdgFresh

/-- p5 of a full pitch: the WATCHDOG section is taken (R559). -/
def State.wdgPitch (s : State) (b : Bytes) : State :=
  let cfg := toWord (u16 b 4 + 16384 * u8 b 6 + 65536 * u8 b 7 + 131072 * u8 b 8 + 524288 * (u8 b 9 % 2))
  let s : State := { s.setReg WDG_CFG cfg with wdg := { s.wdg with seed := u32 b 0, defDue := false } }
  let s := if s.bit WDG_STAT 6 then s else s.setBit WDG_STAT 5 (decide (u8 b 7 = 1))
  let s := s.setFld WDG_STAT 2 0 (min s.wdgStep s.wdgSafeStep)
  if s.bit WDG_STAT 3 then s.wdgChallenge s.wdg.bootLeft 0 else s.wdgChallenge s.wdgWin s.wdgOpenAt
/-- Entry to MAINTENANCE from another state: the defaults are due at the next challenge (R550). -/
def State.wdgMaintenance (s : State) : State := { s with wdg := { s.wdg with defDue := true } }
/-- DEEP pauses the watchdog at t3; the wake resumes it with a new challenge (R560). -/
def State.wdgPause (s : State) : State := s.setBit WDG_STAT 7 true
def State.wdgResume (s : State) : State :=
  let s := s.setBit WDG_STAT 7 false
  let s := s.when s.wdg.defDue State.wdgDefaults
  s.wdgChallenge s.wdgWin s.wdgOpenAt

/-- One tick of the selected clock (R553, R556): the windows count down. -/
def State.wdgTick (s : State) : State :=
  if s.wdgRuns = false then s
  else
    let s := s.wdgBootEnd
    let s := s.setReg WDG_LEFT (s.reg WDG_LEFT - (if s.reg WDG_LEFT = 0 then 0 else 1))
    { s with wdg := { s.wdg with openLeft := s.wdg.openLeft - 1, bootLeft := s.wdg.bootLeft - 1 } }

/-- WDG_WINDOW_OPEN (R553): the open-window lower bound has passed. -/
def execWdgWindowOpen (s : State) : Res :=
  if s.wdgRuns ∧ s.wdg.openLeft = 0 then .next (s.setBit WDG_STAT 4 true) else .next s
/-- WDG_WINDOW_CLOSE (R553, R555): the closing tick has ended without a valid service. -/
def execWdgWindowClose (s : State) : Res :=
  if s.wdgRuns ∧ s.reg WDG_LEFT = 0 then .next (s.wdgBootEnd.wdgFault 1) else .next s
/-- WDG_CLOCK_TRIP (R557): one of the two 1 MHz clocks has stopped, WOSC or the core-derived one; the other survives. -/
def execWdgClockTrip (wosc : Bool) (s : State) : Res :=
  if s.wdgRuns = false then .next s
  else
    let s := ((s.setBit WDG_STAT 5 (!wosc)).setBit WDG_STAT 6 true).setBit SYS_CLKSTAT 5 false
    let w := toWord (b2n wosc)
    let s := (s.fire 488 w).logRec 0x602 w 0 0
    let safe := s.wdgSafeStep
    let step := if s.wdgStep < safe then safe
      else if s.wdgResetEn then min (s.wdgStep + 1) (safe + 1) else safe
    .next (s.wdgFaultTo 5 step)

end Sys2Proof.Machine
end

