-- ==== Sys2Proof/Machine/Sluice.lean ====
section
/-!
DEFINITION. Records leaving their lines, the Weir's check, the Sluice streams and the bus tenures (R180, R181, R291–R306).
-/
namespace Sys2Proof.Machine

/-- Streams move data (R306): PITCHED and SAFE. -/
def State.slcMoves (s : State) : Bool := !s.down && (decide (s.dev = .pitched) || decide (s.dev = .safe))
/-- RSIZE, HEAD and the host byte address of the descriptor at HEAD (R298). -/
def State.slcHead (s : State) (k : Fin 8) : Nat := s.fld (SLC k 4) 11 0
def State.slcDesc (s : State) (k : Fin 8) : Nat := (s.reg (SLC k 2)).toNat + 16 * s.slcHead k
/-- Words in the Sluice queue (R82). -/
def State.slcQueue (s : State) : Nat := s.streams.toList.foldl (fun n x => n + x.q.length) 0

def State.setTen (s : State) (f : TenSt → TenSt) : State := { s with ten := f s.ten }
/-- The bus is given back (R180, m4); a descriptor read or return that was cut short is made anew, with its LOST_BEFORE. -/
def State.tenureOver (s : State) : State :=
  let s := if s.ten.ret = some true then s.setStream s.ten.stream fun x => { x with lostBefore := true } else s
  s.setTen fun t => { t with phase := 0, desc := [], ret := none }
/-- The bus cycles that move one native word in host memory at a byte address: address and data (R182). -/
def hostCycles (wide : Bool) (a : Nat) (w : Word) : List (Nat × Nat) :=
  if wide then [(a, bitsOf w 15 0), (a + 2, bitsOf w 23 16)]
  else [(a, bitsOf w 7 0), (a + 1, bitsOf w 15 8), (a + 2, bitsOf w 23 16), (a + 3, 0)]

/-- A stream fault (R305). The words of a CAPTURE block that the lost buffer holds are copied anew. -/
def State.slcFault (s : State) (k : Fin 8) (code : Nat) : State :=
  let x := s.stream k
  let used := (x.buf.map (·.used)).getD 0
  let s := ((s.setReg (SLC k 1) (toWord (8 + 16 * code + 2 * b2n (s.slcLagging k)))).setBit (SLC k 0) 0 false).slcLose k
    (if s.slcType k = 1 then (used + 3) / 4 else 0)
  let s := s.setStream k fun x => { x with
    buf := none, stopping := false, due := false
    q := if s.slcType k = 1 then x.q.drop ((4 - used % 4) % 4) else x.q
    blkPos := x.blkPos - used }
  s.fire 470 (toWord (k.val + 16 * code))

/-- A stream stops: ENABLE, RUNNING, LAG and WAIT_WEIR clear. -/
def State.slcIdle (s : State) (k : Fin 8) : State :=
  (((s.setBit (SLC k 1) 0 false).setBit (SLC k 0) 0 false).slcSetLag k false).setStream k fun x =>
    { x with buf := none, stopping := false, due := false }

/-- Words 2 and 3 of a descriptor as its buffer returns (R298). -/
def SBuf.word2 (b : SBuf) (lost : Bool) : Word :=
  toWord (b.used + 0x200000 * b2n b.fin + 0x400000 * b2n b.aborted + 0x800000 * b2n lost)
def SBuf.word3 (b : SBuf) : Word := toWord (2 * b2n b.irq)
/-- The buffer is returned: HEAD advances, SLC_DONE counts, SLUICE_DONE fires; a CAPTURE block whose last buffer this is
is released (R300, R309, R433). -/
def State.slcReturned (s : State) (k : Fin 8) : State :=
  match (s.stream k).buf with
  | none => s
  | some b =>
    let size := s.fld (SLC k 3) 12 0
    let idx := s.slcHead k
    let s := (s.setFld (SLC k 4) 11 0 (if idx + 1 < size then idx + 1 else 0)).bump (SLC k 0xC)
    let s := if b.irq then s.fire 468 (toWord (k.val + 8 * idx)) else s
    let s := if s.slcType k = 2 ∧ b.fin then s.capReleaseNo (Fin.ofNat 16 (s.fld (SLC k 6) 9 2)) (s.stream k).blk else s
    let s := s.setStream k fun x => { x with
      buf := none
      ready := if b.fin then x.ready.filter fun y => decide (y.1 ≠ x.blk) else x.ready
      blkPos := if b.fin then 0 else x.blkPos }
    if (s.stream k).stopping then s.slcIdle k else s.slcEval k

/-- The open buffer is to be completed (R301). An EVENT buffer ends with the records that wait in the queue for it. A CAPTURE
block that is cut short ends with END and ABORTED, and is not copied again. -/
def State.slcComplete (s : State) (k : Fin 8) (stop : Bool) : State :=
  let cap := decide (s.slcType k = 2)
  s.setStream k fun x =>
    let cut := cap && !x.copied && (x.buf.isSome || decide (x.blkPos ≠ 0))
    { x with
      stopping := x.stopping || stop
      due := x.due || (x.buf.isNone && !cap && !x.q.isEmpty)
      buf := x.buf.map fun b =>
        if cap then (if cut then { b with done := true, fin := true, aborted := true } else b)
        else if b.done then b
        else { b with done := true, fin := true, words := min b.words (b.used + x.q.length) }
      ready := if cut then x.ready.drop 1 else x.ready
      blkPos := if cut then 0 else x.blkPos }

/-- ENABLE 1 clears FAULT and starts a stream (R303, R305); a stream that is still stopping runs on. -/
def State.slcStart (s : State) (k : Fin 8) : State :=
  if s.slcRuns k then s.setStream k fun x => { x with stopping := false }
  else if s.slcType k = 0 ∨ s.dev.fires = false then s.setReg (SLC k 1) 0
  else if s.fld (SLC k 2) 3 0 ≠ 0 ∨ s.fld (SLC k 3) 12 0 < 2 ∨ 4096 < s.fld (SLC k 3) 12 0 then s.slcFault k 4
  else (s.setReg (SLC k 1) 1).slcEval k
/-- ENABLE 0 completes the current buffer; RUNNING clears once it has returned (R303). -/
def State.slcStop (s : State) (k : Fin 8) : State :=
  if s.slcRuns k = false then s
  else
    let s := s.slcComplete k true
    if (s.stream k).buf.isNone ∧ (s.stream k).due = false then s.slcIdle k else s
/-- FLUSH (R301): an EVENT buffer that holds a record completes. -/
def State.slcFlush (s : State) (k : Fin 8) : State :=
  let x := s.stream k
  if s.slcRuns k ∧ s.slcType k = 1 ∧ (x.q ≠ [] ∨ x.buf.any fun b => decide (0 < b.used)) then s.slcComplete k false else s
/-- What a stopped stream still writes to host memory for its open buffer: the records in its queue, then words 2 and 3 of the
descriptor (R298, R301, R304). -/
def State.haltWrites (s : State) (k : Fin 8) (b : SBuf) : List (Nat × Word) :=
  let x := s.stream k
  ((x.q.take (b.words - b.used)).zipIdx.map fun y => (b.addr + 4 * (b.used + y.2), y.1)) ++
    [(s.slcDesc k + 8, ({ b with used := b.used + min x.q.length (b.words - b.used) } : SBuf).word2 x.lostBefore),
      (s.slcDesc k + 12, b.word3)]
/-- p1 of a full pitch and t1 of DEEP entry: a running stream completes its buffer, writes what is left of it, returns it and
is stopped (R301, R306; log entry 72). Records in the queue of a stream without a buffer are lost and counted. -/
def State.slcHalt (s : State) (k : Fin 8) : State :=
  if s.slcRuns k = false then s
  else
    let s := s.slcComplete k true
    let s := match (s.stream k).buf with
      | some b =>
        let l := s.haltWrites k b
        ((s.setTen fun t => { t with burst := t.burst ++ l }).setStream k fun x => { x with
          q := x.q.drop (b.words - b.used), lostBefore := false }).slcReturned k
      | none => s
    let s := s.slcLose k ((s.stream k).q.length / 4)
    (s.slcIdle k).setStream k fun x => { x with q := [], ready := [], blkPos := 0 }
/-- Every stream is stopped and the bus is given back (R109, R306). -/
def State.slcHaltAll (s : State) : State :=
  (List.finRange 8).foldl State.slcHalt ((s.tenureOver).setTen fun t => { t with burst := [] })

/-- The next line in a stream's rotation that has a pending record and a token (R291). -/
def State.slcNextLine (s : State) (k : Fin 8) : Option (Fin 8) :=
  let x := s.stream k
  ((List.range 8).map fun n => Fin.ofNat 8 (x.turn + 1 + n)).find? fun l =>
    decide (s.recDest l = 0x10 + k.val) && decide (1000 ≤ s.evt.lineTok[l.val]) &&
      s.evt.pend.any fun r => decide (s.lineOf r.src = l)
/-- A descriptor beyond the one in use is lent (R299). -/
def State.slcMore (s : State) (k : Fin 8) : Bool :=
  let h := s.slcHead k
  let next := if h + 1 < s.fld (SLC k 3) 12 0 then h + 1 else 0
  s.slcLent k && ((s.stream k).buf.isNone || decide (next ≠ s.fld (SLC k 5) 11 0))
/-- A stream can take a record: it runs, is not in LAG or WAIT_WEIR, has room in its current buffer or a new descriptor to
open (R291), and the Sluice queue has room (R82). -/
def State.slcTakes (s : State) (k : Fin 8) : Bool :=
  let x := s.stream k
  s.slcMoves && s.slcRuns k && !s.slcLagging k && !s.slcWeir k && !x.stopping && decide (s.slcQueue + 4 ≤ 64) &&
    (s.slcMore k || x.buf.any fun b => !b.done && decide (b.used + x.q.length + 4 ≤ b.words))

/-- The record of a source as it leaves: the four words of R289. -/
def State.recordOf (s : State) (r : PendRec) : EvtRec :=
  ⟨lo24 r.stamp, hi24 r.stamp, toWord (r.src * 32768 + s.fld (EVT_SRC0 + r.src) 14 0), r.data⟩
/-- A line's first pending record leaves: a token is spent and the record ends (R291). -/
def State.release (s : State) (l : Fin 8) (r : PendRec) : State :=
  ({ s with evt := { s.evt with
    pend := s.evt.pend.filter fun x => x.src ≠ r.src
    lineTok := updV s.evt.lineTok l fun n => n - 1000 } } : State).setFld (EVT_SRC0 + r.src) 14 0 0

/-- RECORD_RELEASE (R291): the first pending record of line `l` leaves when the line has a token, its destination can
take it and its turn has come. -/
def execRecordRelease (l : Fin 8) (s : State) : Res :=
  match s.evt.pend.find? fun r => decide (s.lineOf r.src = l) with
  | none => .next s
  | some r =>
    let d := s.recDest l
    let e := s.recordOf r
    if s.down ∨ s.dev.fires = false ∨ s.evt.lineTok[l.val] < 1000 then .next s
    else if d = 1 then
      if s.ring.evtQ.length < 8 then
        let s := s.release l r
        .next { s with ring := { s.ring with evtQ := s.ring.evtQ ++ [e] } }
      else .next s
    else if 0x10 ≤ d then
      let k : Fin 8 := Fin.ofNat 8 (d - 0x10)
      let s := s.slcEval k
      if s.slcTakes k ∧ s.slcNextLine k = some l then
        .next (((s.release l r).setStream k fun x => { x with q := x.q ++ [e.w0, e.w1, e.w2, e.w3], turn := l.val }).slcMark k)
      else .next s
    else .next s

/-- One line's, or stream's, deficit check (R297): consecutive checks, and OVERLOAD_SUSTAINED at the 1,000th. -/
def overRun (n : Nat) (deficit : Bool) : Nat := if deficit then min 1000 (n + 1) else 0
/-- WEIR_CHECK (R297): the 1 ms check of every line and stream. -/
def execWeirCheck (s : State) : Res :=
  if s.down ∨ s.asleep then .next s
  else
    let line := fun (s : State) (k : Fin 8) =>
      let old := s.evt.lineRun[k.val]
      let n := overRun old s.evt.lineCoal[k.val]
      let s : State := { s with evt := { s.evt with lineRun := updV s.evt.lineRun k fun _ => n
                                                    lineCoal := updV s.evt.lineCoal k fun _ => false } }
      if n = 1000 ∧ old = 999 then (s.setBit EVT_OVL k.val true).fire 471 (toWord k.val) else s
    let strm := fun (s : State) (k : Fin 8) =>
      let old := s.evt.strRun[k.val]
      let n := overRun old (s.evt.strDef[k.val] || s.slcLagging k || s.slcWeir k)
      let s : State := { s with evt := { s.evt with strRun := updV s.evt.strRun k fun _ => n
                                                    strDef := updV s.evt.strDef k fun _ => false } }
      if n = 1000 ∧ old = 999 then (s.setBit EVT_OVL (8 + k.val) true).fire 471 (toWord (k.val + 8)) else s
    .next ((List.finRange 8).foldl strm ((List.finRange 8).foldl line s))

/-- SLC_FLUSH_TIMEOUT (R301): FLUSH_US has elapsed since the first record entered the buffer. -/
def execSlcFlushTimeout (k : Fin 8) (s : State) : Res :=
  if s.slcMoves ∧ s.fld (SLC k 7) 15 0 ≠ 0 then .next (s.slcFlush k) else .next s

/-- One microsecond of the buckets, and the streams' deficit marks (R295, R297). -/
def State.weirTick (s : State) : State :=
  let gain := fun (reg rhi rlo dhi dlo : Nat) (dreg : Nat) (t : Nat) =>
    min (1000 * s.fld dreg dhi dlo) (t + s.fld reg rhi rlo)
  { s with evt := { s.evt with
    lineTok := .ofFn fun k => gain (WEIR_LCFG k) 11 0 22 12 (WEIR_LCFG k) s.evt.lineTok[k.val]
    strTok := .ofFn fun k => gain (SLC k 8) 12 0 15 0 (SLC k 9) s.evt.strTok[k.val]
    strDef := .ofFn fun k => s.evt.strDef[k.val] || s.slcLagging k || s.slcWeir k } }

/-- What a stream does next on the bus: nothing, read a descriptor word, write a data word, return a buffer. -/
inductive MasterCyc where
  | none | desc | data | ret
deriving DecidableEq, Repr
/-- Data of an open buffer that is still to be written to it. -/
def State.slcData (s : State) (k : Fin 8) : Bool :=
  let x := s.stream k
  match x.buf with
  | none => false
  | some b => if s.slcType k = 1 then !x.q.isEmpty && decide (b.used < b.words) else !b.done && !x.ready.isEmpty
/-- The stream's next master cycle, the bucket apart (R300, R301). -/
def State.slcNext (s : State) (k : Fin 8) : MasterCyc :=
  let x := s.stream k
  if s.slcRuns k = false then .none
  else match x.buf with
    | none => if s.slcNeeds k && s.slcLent k then .desc else .none
    | some b => if s.slcData k then .data else if b.done then .ret else .none
/-- The stream has words to move in a tenure (R180, R296). -/
def State.slcWork (s : State) (k : Fin 8) : Bool :=
  match s.slcNext k with
  | .none => false
  | .desc => true
  | .ret => true
  | .data => decide (1000 ≤ s.slcTok k)
/-- The streams in rotation after the one served last, the first that has work (R304). -/
def State.slcPick (s : State) : Option (Fin 8) :=
  ((List.range 8).map fun n => Fin.ofNat 8 (s.ten.stream.val + 1 + n)).find? s.slcWork

/-- TENURE_REQUEST (R180, m0): the Sluice engine has words to move and GAP has passed since the last tenure. -/
def execTenureRequest (s : State) : Res :=
  if s.slcMoves ∧ s.ten.phase = 0 ∧ s.slcPick.isSome then .next (s.setTen fun t => { t with phase := 1 }) else .next s
/-- BUS_GRANT (R180, m1). -/
def execBusGrant (s : State) : Res :=
  if s.ten.phase = 1 ∧ s.underTest = false then .next (s.setTen fun t => { t with phase := 2 }) else .next s
/-- TENURE_START (R180, m2; R190, R296): the bus is free, with no host cycle on it and the grant held. -/
def execTenureStart (s : State) : Res :=
  if s.ten.phase ≠ 2 ∨ s.lpb.cyc.isSome then .next s
  else match s.slcPick with
    | some k => .next (s.setTen fun t => { t with
        phase := 3, stream := k, moved := 0, allow := s.slcTok k / 1000, desc := [], ret := none })
    | none => .next (s.setTen fun t => { t with phase := 3, moved := 0, allow := 0, desc := [], ret := none })

/-- The check of a descriptor and the opening of its buffer (R298, R300). -/
def State.slcOpen (s : State) (k : Fin 8) (d : List Word) : State :=
  let a := (d.getD 0 0).toNat
  let n := (d.getD 1 0).toNat
  let ev := decide (s.slcType k = 1)
  if bitOf (d.getD 3 0) 0 = false then s.slcFault k 1
  else if a % 4 ≠ 0 ∨ n = 0 ∨ 0x100000 < n ∨ (ev ∧ (n < 4 ∨ n % 4 ≠ 0)) ∨ 0x1000000 < a + 4 * n then s.slcFault k 2
  else s.setStream k fun x => { x with
    buf := some ⟨s.slcHead k, a, if x.due then min n x.q.length else n, 0, bitOf (d.getD 3 0) 1, x.due, x.due, false⟩
    due := false
    blk := match x.ready with
      | b :: _ => b.1
      | [] => x.blk }

/-- One data word enters the buffer (R295, R301). -/
def State.slcWrite (s : State) (k : Fin 8) (ue : Bool) : State :=
  let x := s.stream k
  match x.buf with
  | none => s
  | some b =>
    let at0 := b.addr + 4 * b.used
    let s : State := { s with evt := { s.evt with strTok := updV s.evt.strTok k fun n => n - 1000 } }
    let full := decide (b.used + 1 = b.words)
    if s.slcType k = 1 then
      let s := s.setTen fun t => { t with cyc := some (true, at0, x.q.headD 0) }
      s.setStream k fun x => { x with
        q := x.q.drop 1
        buf := some { b with used := b.used + 1, done := b.done || full, fin := b.fin || full } }
    else match x.ready with
      | [] => s
      | r :: _ =>
        let w := if ue then 0 else s.eddyAt (r.2.1 + x.blkPos)
        let s := (s.when ue fun s => s.eddyUncorrectable (r.2.1 + x.blkPos)).setTen fun t => { t with cyc := some (true, at0, w) }
        let last := decide (x.blkPos + 1 = r.2.2.1)
        s.setStream k fun x => { x with
          blkPos := x.blkPos + 1
          buf := some { b with used := b.used + 1, done := full || last, fin := last, aborted := last && r.2.2.2 } }

/-- The host address of the stream's next master cycle (R182, R298, R300). -/
def State.slcAddr (s : State) (k : Fin 8) : Nat :=
  match s.slcNext k, (s.stream k).buf with
  | .desc, _ => s.slcDesc k + 4 * s.ten.desc.length
  | .ret, _ => s.slcDesc k + (if s.ten.ret.isNone then 8 else 12)
  | _, some b => b.addr + 4 * b.used
  | _, none => 0
/-- The tenure has room for the next cycle: a descriptor's four words, and a return's two, lie in one tenure, which moves at
most TENURE_WORDS words unless it starts with them, in ascending address order (R180, R182, R299, R300). -/
def State.tenRoom (s : State) (k : Fin 8) : Bool :=
  let t := s.ten
  let n := match s.slcNext k with
    | .desc => if t.desc = [] then 4 else 0
    | .ret => if t.ret.isNone then 2 else 0
    | .data => 1
    | .none => 1
  let up := t.cyc.any fun c => decide (c.2.1 < s.slcAddr k)
  decide (t.moved = 0) || (decide (t.moved + n ≤ s.fld 0x00502 6 0 ∨ n = 0) && up)

/-- MASTER_CYCLE_DONE (R180, R182): one native word of the tenure has been read from host memory (`data`) or written to
it; `ue` says that the Eddy word written met an uncorrectable error. -/
def execMasterCycleDone (data : Word) (ue : Bool) (s : State) : Res :=
  let t := s.ten
  let k := t.stream
  if t.phase ≠ 3 ∨ s.slcMoves = false ∨ s.tenRoom k = false then .next s
  else
    let s1 := s.setTen fun t => { t with moved := t.moved + 1 }
    match s.slcNext k, (s.stream k).buf with
    | .none, _ => .next s
    | .desc, _ =>
      let d := t.desc ++ [data]
      let s1 := s1.setTen fun t => { t with cyc := some (false, s.slcAddr k, data), desc := d }
      if d.length < 4 then .next s1 else .next ((s1.setTen fun t => { t with desc := [] }).slcOpen k d)
    | .data, _ =>
      if t.allow = 0 then .next s
      else .next (((s1.setTen fun t => { t with allow := t.allow - 1 }).slcWrite k ue).slcMark k)
    | .ret, some b =>
      let lost := (s.stream k).lostBefore
      if t.ret.isNone then
        .next ((s1.setTen fun t => { t with cyc := some (true, s.slcAddr k, b.word2 lost), ret := some lost }).setStream k
          fun x => { x with lostBefore := false })
      else
        .next ((s1.setTen fun t => { t with cyc := some (true, s.slcAddr k, b.word3), ret := none }).slcReturned k)
    | .ret, none => .next s

/-- TENURE_END (R180, m4): the word count, the time, the grant or the want of words ends the tenure. -/
def execTenureEnd (s : State) : Res := if s.ten.phase = 3 then .next s.tenureOver else .next s
/-- GRANT_TIMEOUT (R181). -/
def execGrantTimeout (s : State) : Res :=
  if s.ten.phase = 1 then .next ((s.tenureOver.bump 0x0050D).fire 460 1) else .next s
/-- A master error ends the tenure and stops its stream (R181, R305, R318). -/
def State.masterError (s : State) (code : Word) : State :=
  ((s.tenureOver.bump 0x0050E).fire 460 code).slcFault s.ten.stream 3
/-- MASTER_ERROR_TIMEOUT (R181): no LACKN within MERR_TO, when MCYCLE is 0. -/
def execMasterErrorTimeout (s : State) : Res :=
  if s.ten.phase = 3 ∧ s.fld 0x00503 14 7 = 0 then .next (s.masterError 2) else .next s
/-- FOREIGN_BUS_BUSY (R181). -/
def execForeignBusBusy (s : State) : Res := if s.ten.phase = 3 then .next (s.masterError 3) else .next s

/-- p5 of a full pitch: buckets full, and nothing counts toward a sustained overload (R136, R295). -/
def State.weirRestart (s : State) : State :=
  { s with evt := { s.evt with
    lineTok := .ofFn fun k => 1000 * s.fld (WEIR_LCFG k) 22 12
    strTok := .ofFn fun k => 1000 * s.fld (SLC k 9) 15 0
    lineCoal := .replicate 8 false, strDef := .replicate 8 false, lineRun := .replicate 8 0, strRun := .replicate 8 0 } }

end Sys2Proof.Machine
end

