-- ==== Sys2Proof/Machine/Peek.lean ====
section
/-!
DEFINITION. What each native register reads as, without any side effect (R10, R629–R633), and what each personality
register reads as (R169, R183, R632).
-/
namespace Sys2Proof.Machine

/-- The image whose values the IMG fields show: the pitched one, and from p1 to p5 the one before it. -/
def State.shown (s : State) : Option Image := if s.cfg.pitched then s.cfg.img else s.cfg.old
/-- Axis `a` exists for a reader of its block (R446). -/
def State.axisShown (s : State) (a : Nat) : Bool :=
  match s.shown.bind (·.sec tagAxes) with
  | some b => (records 64 (secCount b) (b.drop 16)).any fun r => decide (u8 r 0 = a)
  | none => false
/-- The function, owner and AI-function of a channel as CH_CFG shows them. -/
def State.cfgFunc (s : State) (c : Fin 32) : Nat := s.fld (CH c 7) 7 0
def State.cfgOwner (s : State) (c : Fin 32) : Nat := s.fld (CH c 7) 17 16
/-- A capture sequence exists for an accessor (R428). -/
def State.capShown (s : State) (q : Fin 16) : Bool := decide (s.reg (CAP q 0xD) ≠ 0)

/-- The SAFETY section that a reader sees defines a function, or a pair, with a number (R527, R629). -/
def State.safShown (s : State) (pair : Bool) (n : Nat) : Bool :=
  match s.shown.bind (·.sec tagSafety) with
  | some b => (if pair then safPairs (b.drop 16) else safFns (b.drop 16)).any fun r => decide (u8 r 1 = n)
  | none => false
/-- Addresses of an instance block whose instance the
pitched image does not define (R400, R428, R446, R527, R629, 13). -/
def State.undefinedAt (s : State) (a : Nat) : Bool :=
  if 0x02000 ≤ a ∧ a < 0x03000 then
    decide (0x30 ≤ a % 0x80) && !isAnalogue (s.cfgFunc (Fin.ofNat 32 ((a - 0x02000) / 0x80)))
  else if 0x03000 ≤ a ∧ a < 0x03800 then !isAI (s.cfgFunc (Fin.ofNat 32 ((a - 0x03000) / 0x40)))
  else if 0x03800 ≤ a ∧ a < 0x03C00 then !s.capShown (Fin.ofNat 16 ((a - 0x03800) / 0x40))
  else if 0x04000 ≤ a ∧ a < 0x04800 then !s.axisShown ((a - 0x04000) / 0x100)
  else if 0x05010 ≤ a ∧ a < 0x05020 then !s.safShown false (a - 0x05010)
  else if 0x05020 ≤ a ∧ a < 0x05028 then !s.safShown true (a - 0x05020)
  else false

/-- The Eddy word that a native window address reaches for an accessor (R426). -/
def State.eddyOf (s : State) (p : Port) (a : Nat) : Nat :=
  (if s.eddyPage.contains p then 0x80000 else 0) + (a - 0x80000)

/-- SYS_ROLE for a reader (R196, R200). -/
def State.roleWord (s : State) (p : Port) : Word :=
  toWord (s.roleOf p % 4 + 4 * b2n (decide (s.highest p = 3)) + 8 * b2n (decide (s.role.holder = some p)) +
    16 * holderCode s.role.holder + 128 * holderNode s.role.holder)
/-- A digital output that the host owns (R367). -/
def State.hostDigital (s : State) (c : Fin 32) : Bool := decide (s.cfgOwner c = 1) && isDigitalOut (s.cfgFunc c)
/-- ISLi_DIN and ISLi_DOUT (R367). -/
def State.dinWord (s : State) (i : Fin 8) : Word :=
  toWord ((List.finRange 4).foldl (fun n k =>
    let c := chOf i k
    let f := s.cfgFunc c
    let v := if f = 1 ∨ f = 2 ∨ f = 4 then s.bit (CH c 0) 0 else decide (f = 3) && (s.cell c).filt.testBit 0
    n + b2n (s.reported c && v) * 2 ^ k.val + b2n (!s.chInvalid c) * 2 ^ (4 + k.val)) 0)
def State.doutWord (s : State) (i : Fin 8) : Word :=
  toWord ((List.finRange 4).foldl (fun n k => n + b2n (s.hostDigital (chOf i k) && s.bit (CH (chOf i k) 2) 0) * 2 ^ k.val) 0)
/-- Pin LIRQNj is asserted by the H3280 (R177, R179, R288). -/
def State.irqOut (s : State) (j : Fin 4) : Bool :=
  s.dev.fires && (s.lpb.irq[j.val].on || s.pinByLines j.val)
/-- The personality is served as pitched (R161, R179). -/
def State.persActive (s : State) : Bool := s.dev.fires && s.bit 0x00500 15
/-- LPB_STAT (R183). -/
def State.lpbStat (s : State) : Word :=
  toWord ((List.finRange 4).foldl (fun n j => n + b2n (s.irqOut j) * 2 ^ j.val) 0 + 16 * b2n s.persActive +
    32 * b2n (decide (s.ten.phase = 1 ∨ s.ten.phase = 2)) + 64 * b2n (decide (s.ten.phase = 3)) +
    128 * b2n (s.lpb.nFull || s.lpb.dAt.isSome))

/-- A background pass of the scrub runs (R570): every state but BOOT and DEEP, while the hub runs. -/
def State.scrubOn (s : State) : Bool := !s.down && decide (s.dev ≠ .boot) && decide (s.dev ≠ .deep)
/-- The island of a sensor is lost or unpowered (R572). -/
def State.sensLost (s : State) (n : Fin 24) : Bool :=
  decide (8 ≤ n.val) && (let i : Fin 8 := Fin.ofNat 8 n.val
    !s.bit (ISL i 0) 0 || !(s.isl i).up)
/-- Registers of the SYS block that hold live values (R631). -/
def State.peekSys (s : State) (p : Port) (a : Nat) : Word :=
  let acc := (s.settings.spc.map (·.1)).getD 0
  if a = 0x00001 then toWord s.dev.code
  else if a = SYS_CFG_STAT then
    putBits (s.reg a) 2 0 (b2n s.scrubOn + 2 * b2n (!s.cfg.repair.isEmpty) + 4 * b2n (!s.cfg.bad.isEmpty))
  else if a = 0x00040 then putBits (s.reg a) 7 7 (b2n s.imageBusy)
  else if a = 0x00045 then toWord (acc % 16777216)
  else if a = 0x00046 then toWord (acc / 16777216)
  else if a = 0x00060 then s.roleWord p
  else if a = 0x000A8 then s.ember.logSeq
  else if 0x00080 ≤ a ∧ a < 0x00098 ∧ s.sensLost (Fin.ofNat 24 (a - 0x00080)) then putBits (s.reg a) 16 16 0
  else s.reg a
/-- The EVT block (R307). -/
def State.peekEvt (s : State) (a : Nat) : Word :=
  if a = 0x00140 then toWord (s.linesWord + 256 * s.pendWord)
  else if 0x00158 ≤ a ∧ a < 0x00160 then toWord (s.evt.lineTok[(Fin.ofNat 8 (a - 0x00158)).val] / 1000)
  else s.reg a
/-- The bank of MBX registers of a session (R577, R578). -/
def State.peekMbx (s : State) (p : Port) (a : Nat) : Word :=
  let m := s.mbxOf p
  if a = 0x00440 then m.cmd
  else if a = 0x00441 then (if s.dev = .boot then 0x000021 else m.statWord)
  else if 0x00448 ≤ a ∧ a < 0x00488 then (Sparse.find m.args (a - 0x00448)).getD 0
  else if 0x00488 ≤ a ∧ a < 0x004C8 then (Sparse.find m.res (a - 0x00488)).getD 0
  else 0
/-- The SLC block (R308). -/
def State.peekSlc (s : State) (a : Nat) : Word :=
  let k : Fin 8 := Fin.ofNat 8 ((a - 0x00800) / 0x20)
  if a % 0x20 = 1 then putBits (s.reg a) 2 2 (b2n (s.slcWeir k))
  else if a % 0x20 = 0xA then toWord (s.slcTok k / 1000)
  else s.reg a
/-- PHASE of ISLi_PITCH (R135, R138, R146): 4 while structure words are written, 5 while they are read back (log entry
15). -/
def State.pitchPhase (s : State) (i : Fin 8) : Nat :=
  let n := (s.isl i).sPhase
  let writing := if n = 1 ∨ n = 4 then 4 else 5
  if s.repitch.phase ≠ 0 ∧ s.repitch.isl = i.val then
    (if s.repitch.phase ≤ 2 then s.repitch.phase else if s.repitch.phase = 3 then (if n = 1 ∧ (s.isl i).sWord = 0 then 3 else writing)
      else 5)
  else if s.pitch.phase = .loaded ∧ n ≠ 0 then writing
  else 0
/-- The ISLi block (R367). -/
def State.peekIsl (s : State) (a : Nat) : Word :=
  let i : Fin 8 := Fin.ofNat 8 ((a - 0x01000) / 0x100)
  if a % 0x100 = 0x10 then s.dinWord i else if a % 0x100 = 0x11 then s.doutWord i
  else if a % 0x100 = 8 then putBits (s.reg a) 2 0 (s.pitchPhase i)
  else s.reg a
/-- The CHnn block (R366, R399, R400). -/
def State.peekCh (s : State) (a : Nat) : Word :=
  let c : Fin 32 := Fin.ofNat 32 ((a - 0x02000) / 0x80)
  let o := a % 0x80
  let t := s.trim c
  if o = 0 then (if s.reported c then s.reg a else 0)
  else if o = 1 then s.chFlags c
  else if o = 3 then s.chOstat c
  else if o = 4 then toWord (s.chDiag c)
  else if o = 0x3B then codeWord ((t.map (·.1)).getD 0)
  else if o = 0x3C then codeWord ((t.map (·.2)).getD 0)
  else if o = 0x3D then
    toWord (b2n t.isSome + 2 * b2n (s.chan c).pt0.isSome + 4 * b2n (s.chan c).pt1.isSome + 8 * b2n (s.bit a 3))
  else s.reg a
/-- The FLTnn block and the Eddy and coefficient registers (R437, R425, R426). -/
def State.peekFlt (s : State) (p : Port) (a : Nat) : Word :=
  let c : Fin 32 := Fin.ofNat 32 ((a - 0x03000) / 0x40)
  if a < 0x03800 then
    if a % 0x40 = 1 then putBits (s.reg a) 0 0 (b2n (s.bit a 0 || s.bit a 3 || s.chInvalid c)) else s.reg a
  else if a = 0x03C00 then toWord (b2n (s.eddyPage.contains p))
  else if a = 0x03C0A then toWord ((Sparse.find s.coefBuf (s.fld 0x03C09 5 0)).getD 0)
  else s.reg a
/-- The POSa block (R485). -/
def State.peekPos (s : State) (a : Nat) : Word :=
  let x : Fin 8 := Fin.ofNat 8 ((a - 0x04000) / 0x100)
  let o := a % 0x100
  if o = 3 then lo24 (s.posExt x) else if o = 4 then hi24 (s.posExt x) else if o = 5 then s.posExt2 x else s.reg a
/-- The EMB block (R609). -/
def State.peekEmb (s : State) (a : Nat) : Word :=
  let e := s.ember
  let snaps := (List.finRange 8).foldl (fun n k => n + b2n (e.snaps[k.val]).isSome * 2 ^ k.val) 0
  if a = 0x05400 then
    toWord (b2n e.valid + 2 * b2n e.rtcValid + 4 * b2n e.oscOk + 8 * b2n e.alarmEn + 16 * b2n e.alarmHit + 32 * snaps)
  else if a = 0x05401 then toWord (e.sec % 16777216)
  else if a = 0x05402 then toWord (e.sec / 16777216 + 256 * e.ms)
  else if a = 0x05403 then toWord (e.alarm % 16777216)
  else if a = 0x05404 then toWord (e.alarm / 16777216)
  else if a = 0x05405 then e.bootCnt
  else if 0x05420 ≤ a ∧ a < 0x05440 then (Sparse.find e.ret (a - 0x05420)).getD 0
  else s.reg a

/-- The word that a read of any native address but the personality's views returns (R13, R629). -/
def State.plain (s : State) (p : Port) (a : Nat) : Word :=
  if 0x80000 ≤ a then (if a < 0x100000 then s.eddyAt (s.eddyOf p a) else 0)
  else if (regAt a).isNone || s.undefinedAt a then 0
  else if a < 0x00100 then s.peekSys p a
  else if a < 0x00400 then s.peekEvt a
  else if a < 0x00440 then s.reg a
  else if a < 0x00500 then s.peekMbx p a
  else if a = 0x00504 then s.lpbStat
  else if a < 0x00700 then s.reg a
  else if a = 0x00710 then lo24 s.time
  else if a = 0x00711 then hi24 s.time
  else if a < 0x00800 then s.reg a
  else if a < 0x01000 then s.peekSlc a
  else if a < 0x02000 then s.peekIsl a
  else if a < 0x03000 then s.peekCh a
  else if a < 0x03800 then s.peekFlt p a
  else if a < 0x03C00 then s.reg a
  else if a < 0x04000 then s.peekFlt p a
  else if a < 0x04800 then s.peekPos a
  else if a < 0x05400 then s.reg a
  else s.peekEmb a

/-- The records of the pitched personality: registers and interrupt lines (R166, R167, R176). -/
def State.persRecs (s : State) (kind : Nat) : List Bytes :=
  match s.section tagPers with
  | some b => (records 16 (secCount b) (b.drop 16)).filter fun r => decide (u8 r 0 = kind)
  | none => []
/-- CODE, OFFSET, FLAGS, TARGET, SHIFT, MASK and INIT of a register record. -/
def prCode (r : Bytes) : Nat := u8 r 1
def prOffset (r : Bytes) : Nat := u16 r 2
def prFlag (r : Bytes) (k : Nat) : Bool := (u16 r 6).testBit k
def prTarget (r : Bytes) : Nat := u24 r 8
def prShift (r : Bytes) : Nat := u8 r 0xB
def prMask (r : Bytes) : Nat := u16 r 0xC
def prInit (r : Bytes) : Nat := u16 r 0xE
/-- Native bits as register bits, through SHIFT, MASK and INVERT (R168, R169). -/
def prBits (r : Bytes) (w : Word) : Nat :=
  ((w.toNat >>> prShift r) &&& prMask r) ^^^ (if prFlag r 0 then prMask r else 0)
/-- The key of the stored value of a register: SETP and CLRP of equal TARGET, SHIFT and MASK share one (R169). -/
def prKey (rs : List Bytes) (n : Nat) : Nat :=
  let r := rs.getD n []
  if prCode r = 5 ∨ prCode r = 6 then
    rs.findIdx fun q => (decide (prCode q = 5) || decide (prCode q = 6)) && decide (prTarget q = prTarget r) &&
      decide (prShift q = prShift r) && decide (prMask q = prMask r)
  else n
/-- A stored value of the personality store. -/
def State.persGet (s : State) (k : Nat) : Nat := (Sparse.find s.lpb.pers k).getD 0
/-- The pointer of an IDATA register: that of the IPTR at the offset in its INIT (R169). -/
def State.persPtr (s : State) (rs : List Bytes) (r : Bytes) : Nat :=
  s.persGet (rs.findIdx fun q => decide (prCode q = 7) && decide (prOffset q = prInit r))
/-- What register record `n` reads as, without side effect; `rdf` reads a native word (R169, R183). -/
def State.persVal (s : State) (rdf : Nat → Word) (rs : List Bytes) (n : Nat) : Nat :=
  let r := rs.getD n []
  match prCode r with
  | 2 => prBits r (rdf (prTarget r))
  | 8 => prBits r (rdf (prTarget r + s.persPtr rs r))
  | 9 =>
    match (s.capPop (Fin.ofNat 16 (prTarget r))).1 with
    | some w => prBits r w
    | none => prInit r &&& prMask r
  | 0xA => prBits r ((Sparse.find s.lpb.snaps (prTarget r)).getD 0)
  | 0xB => prInit r &&& prMask r
  | _ => s.persGet (prKey rs n)

/-- A read that the role does not permit: LPB_PEEK_VAL and the PERS block need SUPERVISOR (R198, R629). -/
def State.rdRefused (s : State) (p : Port) (a : Nat) : Bool :=
  (decide (a = 0x00511) || (decide (0x05800 ≤ a) && decide (a < 0x05A00))) && decide (s.roleOf p < 3)
/-- What a native address reads as for an accessor: LPB_PEEK_VAL and PERS_n show register records, whose targets are read
with the LPB port's role (R183, R632). The recursion is bounded by the number of register records. -/
def State.peekN (s : State) : Nat → Port → Nat → Word
  | 0, _, _ => 0
  | n + 1, p, a =>
    if s.rdRefused p a then 0
    else
      let show_ := fun (k : Nat) =>
        let rs := s.persRecs 1
        if s.persActive && decide (k < rs.length) then
          toWord (s.persVal (fun x => s.peekN n .lpb x) rs k + 65536 * prCode (rs.getD k []))
        else 0
      if a = 0x00511 then show_ (s.fld 0x00510 8 0)
      else if 0x05800 ≤ a ∧ a < 0x05A00 then show_ (a - 0x05800)
      else s.plain p a
/-- The value of a native word for an accessor, without side effect. -/
def State.peek (s : State) (p : Port) (a : Nat) : Word := s.peekN 513 p a

end Sys2Proof.Machine
end

