-- ==== Sys2Proof/Machine/Access.lean ====
section
/-!
DEFINITION. Native accesses with their side effects: reads and snapshots (R8, R23, R633), writes judged field by field
(R21, R198), the wake from DOZE (R87, R88), and the end of a boot without an image (R108).
-/
namespace Sys2Proof.Machine

/-- Leaving DOZE for the state it was entered from, with the sources that ended it (R88, R94). -/
def State.wakeDoze (s : State) (src : Nat) : State :=
  if s.dev ≠ .doze then s
  else
    let old := s
    let w := toWord src
    let s := ((s.setDev s.sleep.origin 0xFF).setReg SYS_WAKE_CAUSE w).restartFine
    let s := s.logRec 0x004 0 w 0
    old.observe (s.when (decide (s.dev = .pitched)) fun s => s.fire 453 0)
/-- The access of a host port or a ring mail ends DOZE (R87, R94): bits 0–3 of SYS_WAKE_CAUSE. -/
def State.portWake (s : State) (b : Nat) : State := s.wakeDoze (2 ^ b)

/-- Boot ends in UNPITCHED without an image from the ring (R108, R270). -/
def State.bootEnd (s : State) : State :=
  if s.dev = .boot ∧ s.mss.run ≠ .none ∧ s.fld SYS_STRAPS 1 0 = 2 then ((s.setRing fun r => { r with imgReq := false }).setDev .unpitched 0xFF).setFld SYS_BOOT 3 0 0xF
  else s

/-- An uncorrectable Eddy error of a read through the native window (R427). -/
def State.eddyUe (s : State) (p : Port) (a : Nat) : State :=
  if 0x80000 ≤ a ∧ a < 0x100000 then s.eddyUncorrectable (s.eddyOf p a) else s

/-- The registers that every port may read in BOOT (R108). -/
def bootServed (a : Nat) : Bool :=
  decide (a ≤ 0x00005) || decide (a = 0x00008) || decide (a = 0x00441)

/-- The number of further words that a read of the lowest word of a group snapshots (R633); 0 elsewhere. -/
def snapTail (a : Nat) : Nat :=
  if a = 0x00043 ∨ a = 0x00045 ∨ a = 0x00710 ∨ a = 0x00714 ∨ a = 0x05401 ∨ a = 0x05403 then 1
  else if 0x02000 ≤ a ∧ a < 0x03000 then (if a % 0x80 = 0xA then 1 else 0)
  else if 0x03000 ≤ a ∧ a < 0x03800 then
    (if a % 0x40 = 0 ∨ a % 0x40 = 4 then 3 else if a % 0x40 = 0x11 then 2 else 0)
  else if 0x04000 ≤ a ∧ a < 0x04800 then
    (if a % 0x100 = 0 ∨ a % 0x100 = 3 ∨ a % 0x100 = 6 then 2 else if a % 0x100 = 0xB then 1 else 0)
  else 0
/-- The address is a higher word of a group (R633). -/
def inSnap (a : Nat) : Bool :=
  (decide (1 ≤ a) && decide (1 ≤ snapTail (a - 1))) || (decide (2 ≤ a) && decide (2 ≤ snapTail (a - 2))) ||
    (decide (3 ≤ a) && decide (3 ≤ snapTail (a - 3)))
/-- An accessor's snapshot of a higher word (R8, R633). -/
def State.snapGet (s : State) (p : Port) (a : Nat) : Word :=
  ((s.snaps.find? fun x => decide (x.1 = p) && decide (x.2.1 = a)).map (·.2.2)).getD 0
/-- An accessor's snapshot of the words that follow `a` (R8). -/
def State.snapTake (s : State) (p : Port) (a : Nat) : State :=
  let l := (List.range (snapTail a)).map fun k => (p, a + 1 + k, s.peek p (a + 1 + k))
  { s with snaps := l ++ s.snaps.filter fun x => !(decide (x.1 = p) && decide (a < x.2.1) && decide (x.2.1 ≤ a + snapTail a)) }

/-- A read of a word of the Headwater's event buffer: its cell has been read (R249; log entry 80). -/
def State.evtSeen (s : State) (e : Nat) : State :=
  if s.headwater ∧ s.rcfg 0xF 3 ≤ e ∧ e < s.rcfg 0xF 3 + s.rcfg 0x12 3 then
    s.setRing fun r => { r with evtUnread := r.evtUnread.erase ((e - s.rcfg 0xF 3) / 4) }
  else s
/-- A read of a native word: its value and the state after its side effects (R8, R13, R109, R198). -/
def State.rd (s : State) (p : Port) (a : Nat) : Word × State :=
  if s.rdRefused p a ∨ (s.dev = .boot ∧ bootServed a = false) then (0, s)
  else if inSnap a then (if s.undefinedAt a then 0 else s.snapGet p a, s)
  else if 0x80000 ≤ a then (s.peek p a, s.evtSeen (s.eddyOf p a))
  else (s.peek p a, if snapTail a = 0 then s else s.snapTake p a)

/-- The codes that an analogue output accepts (R375, R385). -/
def aoAccepts (f mode : Nat) (v : Word) : Bool :=
  if f = 0x18 then decide ((if mode.testBit 1 then 0x1374BC else 0) ≤ v.toNat) &&
    decide (v.toNat ≤ (if mode.testBit 1 then 0x68F5C2 else 0x7AE147))
  else if f = 0x19 then decide (v.toNat ≤ 0x6B851E) || decide (0x947AE2 ≤ v.toNat)
  else true

/-- The rules of single registers that a written value must meet (R32, R36, R299, R303, R375, R431, R461, R469, R472). -/
def State.valueOk (s : State) (a : Nat) (v : Word) (f : Fld) : Bool :=
  if 0x00800 ≤ a ∧ a < 0x00900 then
    let k : Fin 8 := Fin.ofNat 8 ((a - 0x00800) / 0x20)
    if a % 0x20 = 2 ∨ a % 0x20 = 3 then !s.slcRuns k
    else if a % 0x20 = 5 then decide (bitsOf v 11 0 < s.fld (SLC k 3) 12 0) else true
  else if 0x01000 ≤ a ∧ a < 0x01800 then (if a % 0x100 = 0x11 then decide (s.dev ≠ .safe) else true)
  else if 0x02000 ≤ a ∧ a < 0x03000 then
    let c : Fin 32 := Fin.ofNat 32 ((a - 0x02000) / 0x80)
    if a % 0x80 = 2 then
      decide (s.cfgOwner c = 1) && decide (s.dev ≠ .safe) && aoAccepts (s.cfgFunc c) (u8 (s.chRec c) 0x12) v
    else if a % 0x80 = 6 ∧ f.lo = 1 then decide (s.cfgOwner c ≠ 3) else true
  else if 0x03800 ≤ a ∧ a < 0x03C00 then
    (if a % 0x40 = 1 ∨ a % 0x40 = 4 then decide (s.capState (Fin.ofNat 16 ((a - 0x03800) / 0x40)) = 0) else true)
  else if 0x04000 ≤ a ∧ a < 0x04800 then
    let x : Fin 8 := Fin.ofNat 8 ((a - 0x04000) / 0x100)
    let o := a % 0x100
    if o = 0x11 then decide (s.homeState x = 0) && aoAccepts 0x19 0 v
    else if o = 0x12 then decide (s.homeState x = 0)
    else if o = 0x13 then decide (s.homeState x = 0) && decide ((s.axis x).setPos.toNat < s.posMod x)
    else true
  else true
/-- A field takes what an access writes to it (R21). -/
def State.fieldOk (s : State) (p : Port) (a : Nat) (v : Word) (f : Fld) : Bool :=
  decide (f.role ≤ s.roleOf p) && s.valueOk a v f &&
    match f.acc, f.chk with
    | .ro, _ => false
    | .rc, _ => false
    | .img, _ => false
    | _, .any => true
    | _, .counter => decide (v = 0)
    | _, .atMost n => decide (bitsOf v f.hi f.lo ≤ n)
    | _, .not n => decide (bitsOf v f.hi f.lo ≠ n)
/-- Discards of a field that are never reported: RO and RC fields, and a value that a diagnostic counter does not take from
a role that may write it (R21). -/
def State.fieldSilent (s : State) (p : Port) (f : Fld) : Bool :=
  decide (f.acc = .ro) || decide (f.acc = .rc) || (decide (f.chk = .counter) && decide (f.role ≤ s.roleOf p))
/-- The bits of a write that a view of several outputs compares: HOST-owned digital outputs only (R367). -/
def State.writeBits (s : State) (a : Nat) (v : Word) : Word :=
  if 0x01000 ≤ a ∧ a < 0x01800 ∧ a % 0x100 = 0x11 then
    let i : Fin 8 := Fin.ofNat 8 ((a - 0x01000) / 0x100)
    v &&& toWord ((List.finRange 4).foldl (fun n k => n + b2n (s.hostDigital (chOf i k)) * 2 ^ k.val) 0)
  else v
/-- A capture sequence that is not IDLE holds the Eddy word (R426). -/
def State.eddyHeld (s : State) (e : Nat) : Bool :=
  (List.finRange 16).any fun q => s.capShown q && decide (s.capState q ≠ 0) && decide (s.fld (CAP q 0xC) 19 0 ≤ e) &&
    decide (e < s.fld (CAP q 0xC) 19 0 + s.fld (CAP q 0xD) 20 0)
/-- A write that is reported as a refusal (R21, R198). -/
def State.wrRefused (s : State) (p : Port) (a : Nat) (v : Word) : Bool :=
  if 0x80000 ≤ a then
    decide (a < 0x100000) && (decide (s.roleOf p < 2) || s.eddyHeld (s.eddyOf p a)) && decide (s.peek p a ≠ v)
  else match regAt a with
    | none => false
    | some d =>
      if s.undefinedAt a then false
      else if d.noWrite ∨ (a = 0x00401 ∧ s.roleOf p < 3) then true
      else
        let cur := s.peek p a
        d.flds.any fun f => !s.fieldOk p a v f && !s.fieldSilent p f &&
          decide (bitsOf (s.writeBits a v) f.hi f.lo ≠ bitsOf cur f.hi f.lo)

/-- The register's word after a write to it: accepted fields, and cleared bits (R10, R21). -/
def State.wrWord (s : State) (p : Port) (a : Nat) (v : Word) (fs : List Fld) : Word :=
  fs.foldl (fun w f =>
    if s.fieldOk p a v f = false then w
    else match f.acc with
      | .rw => putBits w f.hi f.lo (bitsOf v f.hi f.lo)
      | .w1c => putBits w f.hi f.lo (bitsOf w f.hi f.lo &&& (bitsOf w f.hi f.lo ^^^ bitsOf v f.hi f.lo))
      | .ro => w | .wo => w | .rc => w | .img => w) (s.reg a)
/-- Some field that starts at bit `lo` takes the write. -/
def State.took (s : State) (p : Port) (a : Nat) (v : Word) (fs : List Fld) (lo : Nat) : Bool :=
  fs.any fun f => decide (f.lo = lo) && s.fieldOk p a v f

/-- What the write of a host output brings: the words of a channel (R366, R372, R391). -/
def State.wrCh (s : State) (a : Nat) (v : Word) (hit : Nat → Bool) : State :=
  let c : Fin 32 := Fin.ofNat 32 ((a - 0x02000) / 0x80)
  let o := a % 0x80
  if o = 2 then (if hit 0 && isDigitalOut (s.cfgFunc c) then s.setReg a (toWord (bitsOf v 0 0)) else s)
  else if o = 6 ∧ hit 0 ∧ bitOf v 0 then s.setChan c fun x => { x with frLeft := 3 }
  else if o = 0x10 ∧ hit 0 then
    (if s.cfgFunc c = 3 then (s.setReg (CH c 0) v).setReg (CH c 0x11) 0 else s)
  else if (o = 0x31 ∨ o = 0x32 ∨ o = 0x33) ∧ hit 0 then s.setChan c fun x => { x with limFresh := true }
  else s
/-- The words of a filter chain (R419, R420, R425). -/
def State.wrFlt (s old : State) (a : Nat) (v : Word) (hit : Nat → Bool) : State :=
  let c : Fin 32 := Fin.ofNat 32 ((a - 0x03000) / 0x40)
  let o := a % 0x40
  if o = 9 then
    let was := old.bit a 1
    let now := s.bit a 1
    let s := if was = now then s else s.setBit (FLT c 1) 3 now
    let s := if was && !now then s.requestReset c 4 else s
    if hit 0 ∧ bitOf v 0 then s.requestReset c 4 else s
  else if o = 0x10 ∧ hit 0 then (s.setReg (FLT c 0x14) 0).setFilt c fun f => { f with acc := 0 }
  else s
/-- The words of a capture sequence (R431–R433). -/
def State.wrCap (s : State) (a : Nat) (v : Word) (hit : Nat → Bool) : State :=
  let q : Fin 16 := Fin.ofNat 16 ((a - 0x03800) / 0x40)
  let o := a % 0x40
  if o = 0 then
    let s := if hit 0 ∧ bitOf v 0 ∧ (s.dev = .pitched ∨ s.dev = .safe) then s.capArmCmd q else s
    let s := if hit 1 ∧ bitOf v 1 then s.capDisarm q else s
    if hit 2 ∧ bitOf v 2 then s.capTrigger q else s
  else if o = 8 ∧ hit 0 then s.capRelease q (bitsOf v 7 0)
  else s
/-- The words of an axis (R461, R472, R474, R478). -/
def State.wrPos (s old : State) (a : Nat) (v : Word) (hit : Nat → Bool) : State :=
  let x : Fin 8 := Fin.ofNat 8 ((a - 0x04000) / 0x100)
  let o := a % 0x100
  if o = 0x10 then
    let s := if hit 2 ∧ s.bit a 2 ∧ old.bit a 2 = false then s.pdEnable x else s
    let s := if hit 0 ∧ bitOf v 0 then s.homeStart x else s
    if hit 1 ∧ bitOf v 1 then s.homeAbort x else s
  else if o = 0x11 ∧ hit 0 then s.setBit (POS x 2) 6 false
  else if o = 0x12 ∧ hit 0 then s.setAxis x fun y => { y with setPos := v }
  else if o = 0x13 ∧ hit 0 then s.axisLoad x (s.axis x).setPos.toNat v.toInt
  else s
/-- The words of a stream (R299, R301, R303). -/
def State.wrSlc (s : State) (a : Nat) (v : Word) (hit : Nat → Bool) : State :=
  let k : Fin 8 := Fin.ofNat 8 ((a - 0x00800) / 0x20)
  if a % 0x20 = 0 then
    let s := if hit 0 then (if bitOf v 0 then s.slcStart k else s.slcStop k) else s
    if hit 1 ∧ bitOf v 1 then s.slcFlush k else s
  else if a % 0x20 = 5 ∧ hit 0 then s.slcEval k
  else s
/-- The coefficient registers (R425). -/
def State.wrCoef (s : State) (a : Nat) (v : Word) (hit : Nat → Bool) : State :=
  if a = 0x03C08 ∧ hit 0 then s.setReg 0x03C09 0
  else if a = 0x03C0A ∧ hit 0 then
    let k := s.fld 0x03C09 5 0
    ({ s.setReg a 0 with coefBuf := Sparse.set (fun _ => 0) s.coefBuf k (bitsOf v 19 0) } : State).setFld 0x03C09 5 0 (k + 1)
  else if a = 0x03C0B ∧ hit 0 ∧ bitOf v 0 then s.coefCommit
  else s
/-- The MBX bank of a session: arguments and submission (R578, R580). -/
def State.wrMbx (s : State) (p : Port) (a : Nat) (v : Word) : State :=
  if a = 0x00440 then s.submit p (v &&& 0xFF7FFF) (s.roleOf p)
  else
    let m := s.mbxOf p
    s.setMbx p { m with args := Sparse.set (fun _ => 0) m.args (a - 0x00448) v }
/-- The EMB block (R609). -/
def State.wrEmb (s : State) (a : Nat) (v : Word) : State :=
  if a = 0x05400 then (if bitOf v 4 then { s with ember := { s.ember with alarmHit := false } } else s)
  else { s with ember := { s.ember with ret := Sparse.set (fun _ => 0) s.ember.ret (a - 0x05420) v } }

/-- A write of a native word: accepted fields take it, with the side effects of its register (R10, R13, R21). -/
def State.wr (s : State) (p : Port) (a : Nat) (v : Word) : State :=
  if 0x80000 ≤ a then
    if a < 0x100000 ∧ 2 ≤ s.roleOf p ∧ s.eddyHeld (s.eddyOf p a) = false then s.setEddy (s.eddyOf p a) v else s
  else match regAt a with
    | none => s
    | some d =>
      if s.undefinedAt a then s
      else
        let hit := s.took p a v d.flds
        let bank := decide (0x00440 ≤ a ∧ a < 0x00500)
        if a = 0x00401 then (if s.roleOf p < 3 then s.bump WDG_REFUSED else s.wdgServe v)
        else if bank || decide (0x05400 ≤ a) then
          if hit 0 && bank then s.wrMbx p a v
          else if (hit 0 || hit 4) && !bank then s.wrEmb a v
          else s
        else if a = 0x03C00 then
          if hit 0 then { s with
            eddyPage := if bitOf v 0 then p :: s.eddyPage.filter (· ≠ p) else s.eddyPage.filter (· ≠ p) }
          else s
        else if 0x01000 ≤ a ∧ a < 0x01800 ∧ a % 0x100 = 0x11 then
          let i : Fin 8 := Fin.ofNat 8 ((a - 0x01000) / 0x100)
          if hit 0 then (List.finRange 4).foldl (fun s k =>
            if s.hostDigital (chOf i k) then s.setReg (CH (chOf i k) 2) (toWord (b2n (bitOf v k.val))) else s) s
          else s
        else
          let n := s.setReg a (s.wrWord p a v d.flds)
          if a = 0x0071A then (if hit 8 ∧ bitOf v 8 then n.syncRequest else n)
          else if 0x00800 ≤ a ∧ a < 0x00900 then n.wrSlc a v hit
          else if 0x02000 ≤ a ∧ a < 0x03000 then n.wrCh a v hit
          else if 0x03000 ≤ a ∧ a < 0x03800 then n.wrFlt s a v hit
          else if 0x03800 ≤ a ∧ a < 0x03C00 then n.wrCap a v hit
          else if 0x03C08 ≤ a ∧ a < 0x04000 then n.wrCoef a v hit
          else if 0x04000 ≤ a ∧ a < 0x04800 then n.wrPos s a v hit
          else if 0x04800 ≤ a ∧ a < 0x05000 ∧ (a - 0x04800) % 0x40 = 1 ∧ hit 0 ∧ bitOf v 0 then
            n.nrgReleaseCmd (Fin.ofNat 8 ((a - 0x04800) / 0x40))
          else n

/-- Bits of a register that a write of 1 clears. -/
def w1cBits (a : Nat) : Nat :=
  match regAt a with
  | some d => d.flds.foldl (fun n f => if f.acc = .w1c then n ||| ((2 ^ (f.hi + 1 - f.lo) - 1) <<< f.lo) else n) 0
  | none => 0
/-- A read-modify-write of the selected bits of a native word: no other bit of the word changes (R171, R214). -/
def State.rmw (s : State) (p : Port) (a sel bits : Nat) : State :=
  let cur := (s.peek p a).toNat
  s.wr p a (toWord ((cur - (cur &&& (w1cBits a ||| sel))) ||| bits))
/-- Whether a read-modify-write is refused (R21, R171). -/
def State.rmwRefused (s : State) (p : Port) (a sel bits : Nat) : Bool :=
  let cur := (s.peek p a).toNat
  s.wrRefused p a (toWord ((cur - (cur &&& sel)) ||| bits))

end Sys2Proof.Machine
end

