-- ==== Sys2Proof/Machine/Pers.lean ====
section
/-!
DEFINITION. The board personality: reads and writes of register records with their side effects, accumulation, and the
interrupt lines (R166–R173, R176–R178, R189).
-/
namespace Sys2Proof.Machine

def State.setLpb (s : State) (f : LpbSt → LpbSt) : State := { s with lpb := f s.lpb }
/-- Store a value of the personality store. -/
def State.persPut (s : State) (k v : Nat) : State := s.setLpb fun l => { l with pers := Sparse.set (fun _ => 0) l.pers k v }
/-- The number of the record at an aperture offset. -/
def State.persAt (s : State) (off : Nat) : Option Nat :=
  let rs := s.persRecs 1
  let n := rs.findIdx fun r => decide (prOffset r = off)
  if n < rs.length then some n else none
/-- Register bits of the enabled byte lanes (R156). -/
def laneMask (lo hi : Bool) : Nat := (if lo then 0x00FF else 0) + (if hi then 0xFF00 else 0)
/-- The access includes the register's most significant implemented lane (R169). -/
def prTop (r : Bytes) (lo hi : Bool) : Bool := if 256 ≤ prMask r then hi else lo

/-- The source word of a record as the LPB port reads it. -/
def State.persSrc (s : State) (r : Bytes) : Word := s.peek .lpb (prTarget r)
/-- The condition of an interrupt record: status bits that are enabled (R177). -/
def State.irqCond (s : State) (r : Bytes) : Nat :=
  let rs := s.persRecs 1
  let val := fun (off : Nat) =>
    match s.persAt off with
    | some n => s.persVal (s.peek .lpb) rs n
    | none => 0
  val (u16 r 2) &&& (if u16 r 4 = 0xFFFF then 0xFFFF else val (u16 r 4))
/-- The interrupt record of a line. -/
def State.irqRec (s : State) (j : Fin 4) : Option Bytes :=
  if s.persActive then (s.persRecs 2).find? fun r => decide (u8 r 1 = j.val) else none
/-- A line follows its condition (R177). -/
def State.irqEval (s : State) (j : Fin 4) : State :=
  match s.irqRec j with
  | none => s
  | some r =>
    let c := decide (s.irqCond r ≠ 0)
    let x := s.lpb.irq[j.val]
    let rise := c && !x.cond
    let on := if u8 r 6 = 0 then c else if u8 r 6 = 1 then x.on || rise else c && (x.on || rise)
    s.setLpb fun l => { l with irq := updV l.irq j fun _ => ⟨on, c⟩ }
def State.irqAll (s : State) : State := (List.finRange 4).foldl State.irqEval s

/-- The register bits `v` of the record that `m` selects are written to a native word by the LPB port (R171, R198). -/
def State.persWriteBits (s : State) (r : Bytes) (a m v : Nat) : State :=
  let sel := (m <<< prShift r) % 16777216
  let bits := ((v ^^^ (if prFlag r 0 then prMask r else 0)) &&& m) <<< prShift r % 16777216
  let s1 := s.rmw .lpb a sel bits
  if s.rmwRefused .lpb a sel bits then s1.bump 0x0050C else s1

/-- The snapshot of a SNAP group is taken (R169). -/
def State.snapGroup (s : State) (r : Bytes) : State :=
  let w := s.persSrc r
  s.setLpb fun l => { l with snaps := Sparse.put l.snaps (prTarget r) w }
/-- The pointer of an IDATA register increments, wrapping past its MASK (R169). -/
def State.ptrNext (s : State) (rs : List Bytes) (r : Bytes) : State :=
  let k := rs.findIdx fun q => decide (prCode q = 7) && decide (prOffset q = prInit r)
  s.persPut k ((s.persGet k + 1) &&& prMask (rs.getD k []))

/-- A read of register record `n`: its value, and the side effects of the access (R169, R170, R198); `ue` says that the
Eddy word read met an uncorrectable error (R427). -/
def State.persRead (s : State) (n : Nat) (lo hi ue : Bool) : Nat × State :=
  let rs := s.persRecs 1
  let r := rs.getD n []
  let c := prCode r
  let top := prTop r lo hi
  let s := if c = 0xA ∧ prFlag r 3 ∧ top then s.snapGroup r else s
  let s := if c = 0xA ∧ prFlag r 3 ∧ top ∧ s.rdRefused .lpb (prTarget r) then s.bump 0x0050C else s
  let tgt := if c = 8 then prTarget r + s.persPtr rs r else prTarget r
  let native := c = 2 ∨ c = 8
  let bad := ue && (decide native && decide (0x80000 ≤ tgt) || decide (c = 9))
  let v := if bad then prBits r 0 else s.persVal (s.peek .lpb) rs n
  let s := if bad ∧ native then s.eddyUe .lpb tgt else s
  let s := if native ∧ s.rdRefused .lpb tgt then s.bump 0x0050C else s
  let s := if top = false then s
    else if c = 3 then s.persPut n (s.persGet n - (v &&& laneMask lo hi))
    else if c = 8 ∧ prFlag r 2 then s.ptrNext rs r
    else if c = 9 then
      let q : Fin 16 := Fin.ofNat 16 (prTarget r)
      let at0 := ((s.capt q).blocks.find? fun b => decide (6 < b.words)).map fun b => b.addr + 6 + (s.capt q).popped
      let s := match at0 with
        | some e => s.when bad fun s => s.eddyUncorrectable e
        | none => s
      (s.capPop q).2
    else s
  (v, s.irqAll)

/-- A write of register record `n` (R169, R171). -/
def State.persWrite (s : State) (n d : Nat) (lo hi : Bool) : State :=
  let rs := s.persRecs 1
  let r := rs.getD n []
  let m := prMask r &&& laneMask lo hi
  let old := s.persGet (prKey rs n)
  if s.roleOf .lpb < 2 then s.bump 0x0050C
  else
    let s1 := match prCode r with
      | 1 =>
        let v := (old - (old &&& m)) ||| (d &&& m)
        (s.persPut n v).when (decide (prTarget r ≠ 0xFFFFFF)) fun s => s.persWriteBits r (prTarget r) (prMask r) v
      | 4 => s.persPut n (s.persGet n - (s.persGet n &&& (d &&& m)))
      | 5 =>
        let v := old ||| (d &&& m)
        (s.persPut (prKey rs n) v).persWriteBits r (prTarget r) (prMask r) v
      | 6 =>
        let v := old - (old &&& (d &&& m))
        (s.persPut (prKey rs n) v).persWriteBits r (prTarget r) (prMask r) v
      | 7 => s.persPut n ((old - (old &&& m)) ||| (d &&& m))
      | 8 =>
        let s := s.persWriteBits r (prTarget r + s.persPtr rs r) m d
        s.when (prFlag r 2 && prTop r lo hi) fun s => s.ptrNext rs r
      | 0xA => s.when (prFlag r 4 && prTop r lo hi) fun s =>
        (s.snapGroup r).when (s.rdRefused .lpb (prTarget r)) fun s => s.bump 0x0050C
      | _ => s
    s1.irqAll

/-- The interrupt state as p5 leaves it: conditions that hold are no changes (R173, R177). -/
def State.irqStart (s : State) : State :=
  (List.finRange 4).foldl (fun s j =>
    match s.irqRec j with
    | none => s.setLpb fun l => { l with irq := updV l.irq j fun _ => ⟨false, false⟩ }
    | some r =>
      let c := decide (s.irqCond r ≠ 0)
      s.setLpb fun l => { l with irq := updV l.irq j fun _ => ⟨c && decide (u8 r 6 = 0), c⟩ }) s
/-- What a register starts with: the source bits, or INIT (R173). -/
def State.persInit (s : State) (n : Nat) (r : Bytes) : State :=
  let c := prCode r
  let src := prBits r (s.persSrc r)
  if c = 5 ∨ c = 6 ∨ (c = 1 ∧ prTarget r ≠ 0xFFFFFF) then s.persPut (prKey (s.persRecs 1) n) src
  else if c = 1 ∨ c = 7 then s.persPut n (prInit r &&& prMask r)
  else if c = 3 ∨ c = 4 then s.setLpb fun l => { l with prev := Sparse.put l.prev n src }
  else s
/-- The personality at p5 of a full pitch (R173). -/
def State.persStart (s : State) : State :=
  let s := s.setLpb fun l => { l with pers := [], prev := [], snaps := [], vec := none }
  let s := (s.persRecs 1).zipIdx.foldl (fun s x => s.persInit x.2 x.1) s
  s.irqStart
/-- The previous source bits of every RC and W1C register are those of now: the cycle in which the personality becomes active
again is no transition (R170). -/
def State.persFresh (s : State) : State :=
  (s.persRecs 1).zipIdx.foldl (fun s x =>
    if prCode x.1 = 3 ∨ prCode x.1 = 4 then
      s.setLpb fun l => { l with prev := Sparse.put l.prev x.2 (prBits x.1 (s.persSrc x.1)) }
    else s) s
/-- A native address lies in the registers of an island, its channels or its ledger. -/
def addrIsland (a : Nat) : Option Nat :=
  if 0x01000 ≤ a ∧ a < 0x01800 then some ((a - 0x01000) / 0x100)
  else if 0x02000 ≤ a ∧ a < 0x03000 then some ((a - 0x02000) / 0x200)
  else if 0x03000 ≤ a ∧ a < 0x03800 then some ((a - 0x03000) / 0x100)
  else if 0x04800 ≤ a ∧ a < 0x04A00 then some ((a - 0x04800) / 0x40)
  else none
/-- The personality at q4 of a re-pitch (R189). -/
def State.persIsland (s : State) (i : Nat) : State :=
  (s.persRecs 1).zipIdx.foldl (fun s x =>
    if addrIsland (prTarget x.1) = some i ∧ prCode x.1 ≠ 7 then s.persInit x.2 x.1 else s) s

/-- PERS_ACCUMULATE (R170, R177): one core-clock cycle of every RC and W1C register, and of the interrupt lines. -/
def execPersAccumulate (s : State) : Res :=
  if s.down ∨ s.persActive = false then .next s
  else
    let one := fun (s : State) (x : Bytes × Nat) =>
      if prCode x.1 = 3 ∨ prCode x.1 = 4 then
        let now := prBits x.1 (s.persSrc x.1)
        let was := (Sparse.find s.lpb.prev x.2).getD 0
        let add := if prFlag x.1 1 then now else now - (now &&& was)
        (s.persPut x.2 (s.persGet x.2 ||| add)).setLpb fun l => { l with prev := Sparse.put l.prev x.2 now }
      else s
    .next ((s.persRecs 1).zipIdx.foldl one s).irqAll
/-- IRQ_PULSE_END (R177): PULSE_W has elapsed. -/
def execIrqPulseEnd (j : Fin 4) (s : State) : Res :=
  match s.irqRec j with
  | some r =>
    .next (if u8 r 6 = 1 then s.setLpb fun l => { l with irq := updV l.irq j fun x => { x with on := false } } else s)
  | none => .next s

/-- The lowest set bit of a number below 2^16. -/
def lowBit (n : Nat) : Nat := ((List.range 16).find? n.testBit).getD 0
/-- INTERRUPT_ACKNOWLEDGE (R158, R177, R178, R188): the cycle's line, and whether it ended before LACKN, which LPB_ABANDON
counts. With VEC_MODE 2 and a condition without a set bit, as a pulse may outlive it, the vector is a free value (log entry
4). -/
def execInterruptAcknowledge (j : Fin 4) (abandoned : Bool) (s : State) : Res :=
  let s := (if s.runs then s.portWake 0 else s).setLpb fun l => { l with vec := none }
  match s.irqRec j with
  | none => .next s
  | some r =>
    if s.down ∨ s.underTest ∨ s.ten.phase = 3 ∨ (s.lpb.irq[j.val]).on = false then .next s
    else
      let c := s.irqCond r
      let release := fun (s : State) =>
        if u8 r 6 = 2 then s.setLpb fun l => { l with irq := updV l.irq j fun x => { x with on := false } } else s
      if u8 r 7 = 0 then .next (release s)
      else if abandoned then .next (s.bump 0x00509)
      else
        let free := Config.freeWord s.fresh
        let v := if u8 r 7 = 2 ∧ c = 0 then bitsOf free 7 0 else u8 r 8 + (if u8 r 7 = 2 then lowBit c else 0)
        .next ({ (release s).setLpb (fun l => { l with vec := some v }) with fresh := s.fresh + 1 })

end Sys2Proof.Machine
end

