-- ==== Sys2Proof/Machine/Lpb.lean ====
section
/-!
DEFINITION. Host cycles on the legacy parallel bus (R156–R165, R174, R175, R179): decode, the native window, posting.
-/
namespace Sys2Proof.Machine

/-- The port is strapped 16 bits wide (R56). -/
def State.lpbWide (s : State) : Bool := !s.bit SYS_STRAPS 3
/-- NATIVE_OFF in force: the default decode without an active personality (R161). -/
def State.nativeOff (s : State) : Nat := if s.persActive then 8 * s.fld 0x00500 12 0 else 0xFFF8
/-- TEAR_GUARD and UNMAPPED_NOACK in force. -/
def State.tearGuard (s : State) : Bool := s.persActive && s.bit 0x00500 14
def State.unmappedNoack (s : State) : Bool := s.persActive && s.bit 0x00500 13
/-- A cycle with LCSN asserted is in the aperture (R160). -/
def State.inAperture (s : State) (la : Nat) : Bool :=
  !s.persActive || decide (((la / 65536 % 256) ^^^ s.fld 0x00500 23 16) &&& s.fld 0x00501 7 0 = 0)
/-- The host's cycles reach the port: it runs, no tenure holds the bus, the lands are not under test (R180, R643). -/
def State.lpbListens (s : State) : Bool := s.runs && !s.underTest && decide (s.ten.phase ≠ 3)

/-- A write to the personality window that the default decode discards is counted until PITCHED (R108, R109, R161). -/
def State.persDiscard (s : State) : State :=
  s.when (decide (s.dev = .boot ∨ s.dev = .unpitched ∨ s.dev = .pitching)) fun s => s.bump SYS_BOOT_DISC

/-- LPB_CYCLE_START (R156, R157, R159, R160, R162): LA, LBHEN, the direction, and whether both strobes are asserted. The
decode of the start holds for the whole cycle (log entry 69). A cycle that is never answered is no abandoned one (log entry
68). -/
def execLpbCycleStart (la : Nat) (bhen read both : Bool) (s : State) : Res :=
  if s.lpbListens = false ∨ s.lpb.cyc.isSome then .next s
  else
    let s := s.portWake 0
    if both ∧ s.bit SYS_STRAPS 2 = false then .next (s.bump 0x0050A)
    else if s.inAperture la = false then .next s
    else
      let wide := s.lpbWide
      let off := if wide then la % 65536 / 2 * 2 else la % 65536
      let lo := if wide then decide (la % 2 = 0) else true
      let hi := wide && bhen
      let start := fun (kind reg : Nat) =>
        s.setLpb fun l => { l with cyc := some ⟨read, off, lo, hi, kind, reg, false, 0⟩ }
      if s.nativeOff ≤ off ∧ off < s.nativeOff + 8 then
        .next (s.setLpb fun l => { l with cyc := some ⟨read, off - s.nativeOff, lo, hi, 0, 0, false, 0⟩ })
      else if s.persActive = false then .next (start 3 0)
      else match s.persAt off with
        | some n => .next (start 1 n)
        | none => if s.unmappedNoack then .next (s.bump 0x0050B) else .next (start 2 0)

/-- NADDR after an access with AUTOINC: at 0xFFFFF it stays and AUTOINC clears (R164, R637). -/
def naddrNext (a : Word) : Word :=
  if bitOf a 20 = false then a else if bitsOf a 19 0 = 0xFFFFF then 0x0FFFFF else a + 1
/-- A word that the manual leaves unspecified: the free value of this index (R119, R164; log entry 4). -/
def State.freeWord (s : State) : Word × State := (Config.freeWord s.fresh, { s with fresh := s.fresh + 1 })
/-- A staged byte, or its unspecified content after a reset. -/
def stagedByte (o : Option Nat) (w : Word) (k : Nat) : Nat := o.getD (bitsOf w (8 * k + 7) (8 * k))

/-- The native word at an address as the LPB reads it, refusals counted (R164, R198, R427). -/
def State.lpbRd (s : State) (a : Nat) (ue : Bool) : Word × State :=
  if ue ∧ 0x80000 ≤ a ∧ s.dev ≠ .boot then (0, s.eddyUe .lpb a)
  else
    let r := s.rd .lpb a
    (r.1, if s.rdRefused .lpb a && decide (s.dev ≠ .boot) then r.2.bump 0x0050C else r.2)
/-- The lowest part of NDATA is read: the native word is read and latched (R164). -/
def State.ndataRead (s : State) (ue : Bool) : Word × State :=
  let got := s.lpbRd (bitsOf s.lpb.naddr 19 0) ue
  let w := got.1
  let s := got.2
  (w, s.setLpb fun l => { l with latch := some w, moved := false })
/-- The latched word; before the first latch it is unspecified. -/
def State.latchWord (s : State) : Word × State :=
  match s.lpb.latch with
  | some w => (w, s)
  | none => s.freeWord
/-- TORN: NADDR has changed since the latch was taken, or no latch has been taken since reset (R164). -/
def State.tornBit (s : State) : Bool := s.lpb.latch.isNone || s.lpb.moved
/-- NADDR takes a value. -/
def LpbSt.setNaddr (l : LpbSt) (a : Word) : LpbSt := { l with naddr := a, moved := l.moved || decide (a ≠ l.naddr) }
/-- The read of NDATA bits 23:16: AUTOINC moves NADDR, and the latch keeps its word (R164). -/
def State.ndataTop (s : State) : State := s.setLpb fun l => l.setNaddr (naddrNext l.naddr)

/-- A read in the native window at an offset from NATIVE_OFF (R163, R164). A 16-bit read of the even word of NDATA performs
the read and the latch whichever lanes it enables, also with none (log entry 70). -/
def State.nativeRead (s : State) (rel : Nat) (lo ue : Bool) : Nat × State :=
  let a := s.lpb.naddr.toNat
  if s.lpbWide then
    if rel = 0 then (a % 65536, s)
    else if rel = 2 then (a / 65536, s)
    else if rel = 4 then
      let got := s.ndataRead ue
      let w := got.1
      let s := got.2
      (w.toNat % 65536, s)
    else
      let got := s.latchWord
      let w := got.1
      let s := got.2
      (w.toNat / 65536 + 32768 * b2n s.tornBit, if lo then s.ndataTop else s)
  else
    if rel < 3 then (a / 256 ^ rel % 256, s)
    else if rel = 3 then (0, s)
    else if rel = 4 then
      let got := s.ndataRead ue
      let w := got.1
      let s := got.2
      (w.toNat % 256, s)
    else if rel = 7 then (128 * b2n s.tornBit, s)
    else
      let got := s.latchWord
      let w := got.1
      let s := got.2
      (w.toNat / 256 ^ (rel - 4) % 256, if rel = 6 then s.ndataTop else s)

/-- The commit of NDATA (R164, R165): torn commits are counted, and discarded with TEAR_GUARD. -/
def State.ndataCommit (s : State) (top : Nat) : State :=
  let a := bitsOf s.lpb.naddr 19 0
  let torn := decide (s.lpb.dAt ≠ some s.lpb.naddr)
  let got := if s.lpb.dLo.isNone ∨ s.lpb.dHi.isNone then s.freeWord else (0, s)
  let f := got.1
  let s := got.2
  let w := toWord (stagedByte s.lpb.dLo f 0 + 256 * stagedByte s.lpb.dHi f 1 + 65536 * top)
  let s := s.setLpb fun l => { l with dAt := none }
  let s := s.when torn fun s => (s.bump 0x00508).fire 459 (toWord a)
  if torn && s.tearGuard then s
  else
    let s := if s.dev = .boot then s.bump SYS_BOOT_DISC
      else (s.when (s.wrRefused .lpb a w) fun s => s.bump 0x0050C).wr .lpb a w
    s.setLpb fun l => l.setNaddr (naddrNext l.naddr)
/-- The commit of NADDR (R164). -/
def State.naddrCommit (s : State) (top : Nat) : State :=
  let got := if s.lpb.nLo.isNone ∨ s.lpb.nHi.isNone then s.freeWord else (0, s)
  let f := got.1
  let s := got.2
  let w := toWord (stagedByte s.lpb.nLo f 0 + 256 * stagedByte s.lpb.nHi f 1 + 65536 * (top % 32))
  s.setLpb fun l => { l.setNaddr w with nFull := false }
/-- A write in the native window (R163, R164). -/
def State.nativeWrite (s : State) (rel d : Nat) (lo hi : Bool) : State :=
  let b0 := d % 256
  let b1 := d / 256 % 256
  let addr := fun (s : State) (l h : Option Nat) => s.setLpb fun x => { x with
    nLo := l.or x.nLo, nHi := h.or x.nHi, nFull := true }
  let data := fun (s : State) (l h : Option Nat) => s.setLpb fun x => { x with
    dLo := l.or x.dLo, dHi := h.or x.dHi, dAt := some x.naddr }
  if s.lpbWide then
    let l := if lo then some b0 else none
    let h := if hi then some b1 else none
    if lo = false ∧ hi = false then s
    else if rel = 0 then addr s l h
    else if rel = 4 then data s l h
    else if lo = false then s
    else if rel = 2 then s.naddrCommit b0 else s.ndataCommit b0
  else if rel = 0 then addr s (some b0) none
  else if rel = 1 then addr s none (some b0)
  else if rel = 2 then s.naddrCommit b0
  else if rel = 4 then data s (some b0) none
  else if rel = 5 then data s none (some b0)
  else if rel = 6 then s.ndataCommit b0
  else s

/-- LPB_CYCLE_ACK (R158, R174, R175): LACKN asserts, and every side effect of the cycle takes place. A read waits for the
posted writes; a write finding 8 of them waits. -/
def execLpbCycleAck (wdata : Nat) (ue : Bool) (s : State) : Res :=
  match s.lpb.cyc with
  | none => .next s
  | some c =>
    if s.lpbListens = false ∨ c.acked then .next s
    else if c.read then
      if s.lpb.q ≠ [] then .next s
      else
        let got := if c.kind = 0 then s.nativeRead c.off c.lo ue
          else if c.kind = 1 ∧ s.persActive then s.persRead c.reg c.lo c.hi ue
          else (0, s.when (decide (c.kind = 2)) fun s => s.bump 0x0050B)
        let v := got.1
        let s := got.2
        .next (s.setLpb fun l => { l with cyc := some { c with acked := true, out := v &&& laneMask c.lo c.hi } })
    else if 8 ≤ s.lpb.q.length then .next (s.deficit 2)
    else
      let s := if c.kind = 2 then s.bump 0x0050B
        else if c.kind = 3 then s.persDiscard
        else s.setLpb fun l => { l with q := l.q ++ [⟨c.off, c.lo, c.hi, c.kind, c.reg, wdata % 65536⟩] }
      .next (s.setLpb fun l => { l with cyc := some { c with acked := true } })
/-- LPB_CYCLE_END (R157, R158): the strobe or LCSN deasserts; a cycle without LACKN was abandoned. -/
def execLpbCycleEnd (s : State) : Res :=
  match s.lpb.cyc with
  | none => .next s
  | some c => .next ((s.when (!c.acked) fun s => s.bump 0x00509).setLpb fun l => { l with cyc := none })
/-- LPB_POSTED_COMMIT (R175): the oldest posted write commits. -/
def execLpbPostedCommit (s : State) : Res :=
  match s.lpb.q with
  | [] => .next s
  | w :: q =>
    let s := s.setLpb fun l => { l with q := q }
    .next (if w.kind = 0 then s.nativeWrite w.off w.data w.lo w.hi
      else if s.persActive then s.persWrite w.reg w.data w.lo w.hi else s.persDiscard)

end Sys2Proof.Machine
end

