-- ==== Sys2Proof/Machine/Spi.lean ====
section
/-!
DEFINITION. The SPI port: frames, words and their faults (R202–R208).
-/
namespace Sys2Proof.Machine

def State.setSpi (s : State) (f : SpiSt → SpiSt) : State := { s with spi := f s.spi }
/-- Flag the frame that runs (R205, R207). -/
def State.spiFlag (s : State) (f : SpiFlags → SpiFlags) : State := s.setSpi fun x => { x with cur := f x.cur }
/-- A frame fault counted in SPI_FRAME_ERR (R205). -/
def State.spiFerr (s : State) : State := (s.bump 0x00609).spiFlag fun f => { f with ferr := true }
/-- The CRC-8 of a word, over its bytes from the most significant (R206). -/
def crc8 (w : Word) : Nat := crcL 8 0x07 0 (wordBytes w).reverse
/-- A CRC fault on the word at a position: that word and the rest of the frame are discarded, and SDO sends 0x000000 for the
rest, a data word that has been fetched and not sent included (R205). -/
def State.spiCrc (pos : Nat) (s : State) : State :=
  ((s.bump 0x00608).spiFlag fun f => { f with crcErr := true }).setSpi fun x =>
    { x with dead := true, out := x.out.take (pos + 1) }
/-- A refused access (R198). -/
def State.spiRefused (s : State) : State := (s.bump 0x0060A).spiFlag fun f => { f with refused := true }
/-- Words sent on SDO. -/
def State.spiSend (s : State) (ws : List Word) : State := s.setSpi fun x => { x with out := x.out ++ ws }
/-- The word that SDO carries at a position of the frame: 0x000000 past those listed (R204, R205). -/
def SpiSt.sdo (x : SpiSt) (pos : Nat) : Word := x.out.getD pos 0
/-- The bytes on SDO at a position, most significant first, in a CRC frame with the CRC-8 of the word after them: the status
word is no exception (R203, R206). -/
def SpiSt.sdoBytes (x : SpiSt) (pos : Nat) : Bytes :=
  (wordBytes (x.sdo pos)).reverse ++ (if x.crc then leBytes 1 (crc8 (x.sdo pos)) else [])
/-- SINTN is asserted (R207). -/
def State.sintn (s : State) : Bool := s.pinByLines 4
/-- The status word of a frame: status byte, state code, event lines (R203, R207). -/
def State.spiStatus (s : State) (notReady : Bool) : Word :=
  let f := s.spi.prev
  let b := b2n f.lost + 2 * b2n s.sintn + 4 * b2n (decide (s.role.holder = some .spi)) + 8 * b2n f.ferr + 16 * b2n f.ovf +
    32 * b2n f.crcErr + 64 * b2n f.refused + 128 * b2n notReady
  toWord (s.linesWord + 256 * s.dev.code + 65536 * b)

/-- SPI_FRAME_START (R202, R203, R207, R208): SCSN falls with SCK low (mode 0) or high (mode 3). -/
def execSpiFrameStart (mode3 : Bool) (s : State) : Res :=
  if s.runs = false ∨ s.underTest ∨ s.spi.active then .next s
  else
    let served := decide (s.dev ≠ .boot) && decide (s.dev ≠ .doze)
    let w := s.spiStatus (!served)
    let s := (s.portWake 1).setBit 0x00600 5 mode3
    .next (s.setSpi fun x => { SpiSt.reset with active := true, served := served, prev := x.prev, out := [w] })

/-- SPI_COMMAND_WORD (R203–R205): the command word and, in a read frame, the count word at position 1, each with the CRC that
SDI carries after it in a CRC frame. -/
def execSpiCommandWord (cmd : Word) (crc0 : Byte) (cnt : Word) (crc1 : Byte) (s : State) : Res :=
  if s.spi.active = false ∨ s.spi.gotCmd then .next s
  else
    let rd := bitOf cmd 23
    let crc := bitOf cmd 21
    let s := s.setSpi fun x => { x with
      gotCmd := true, rd := rd, inc := bitOf cmd 22, crc := crc, addr := bitsOf cmd 19 0, count := bitsOf cnt 11 0 }
    let bad := fun (s : State) => s.setSpi fun x => { x with dead := true }
    if (crc && decide (crc0.toNat ≠ crc8 cmd)) || (!crc && s.bit 0x00600 6) then .next (s.spiCrc 0)
    else if bitOf cmd 20 then .next (bad s.spiFerr)
    else if rd = false then .next s
    else if crc && decide (crc1.toNat ≠ crc8 cnt) then .next ((s.spiSend [cmd]).spiCrc 1)
    else if bitsOf cnt 11 0 = 0 ∨ bitsOf cnt 23 12 ≠ 0 then .next (bad (s.spiSend [cmd]).spiFerr)
    else .next (s.spiSend [cmd, 0])

/-- The address of the next data word; past 0xFFFFF a frame addresses nothing (R203, R637). -/
def SpiSt.next (x : SpiSt) : SpiSt :=
  if x.inc = false then x else if x.addr = 0xFFFFF then { x with past := true } else { x with addr := x.addr + 1 }
/-- A data word of a frame that has passed 0xFFFFF: FRAME_ERR, counted once in the frame (R637). -/
def State.spiPast (s : State) : State := if s.spi.cur.ferr then s else s.spiFerr

/-- SPI_READ_FETCH (R204, R205): position k of a read frame ends, for k from 1: SDI carried a word and its CRC (position 1
is the count word, which SPI_COMMAND_WORD has checked), and data word k is fetched with its side effects, `ue` an
uncorrectable Eddy error. After COUNT words nothing is fetched, and a word past position COUNT + 2 is a frame fault, counted
once in the frame (log entry 74). -/
def execSpiReadFetch (r : SpiRx) (ue : Bool) (s : State) : Res :=
  let ⟨sdi, crc⟩ := r
  let x := s.spi
  if x.active = false ∨ x.gotCmd = false ∨ x.rd = false ∨ x.dead then .next s
  else
  let k := x.ends + 1
  let s := s.setSpi fun x => { x with ends := k }
  if x.crc && decide (1 < k) && decide (crc.toNat ≠ crc8 sdi) then .next (s.spiCrc k)
  else if x.count + 2 < k then .next (if k = x.count + 3 then s.spiFerr else s)
  else if x.count < k then .next s
  else
    let got := if x.past then (0, s.spiPast)
      else if x.served = false ∧ s.dev ≠ .boot then (0, s)
      else if ue ∧ 0x80000 ≤ x.addr ∧ s.dev ≠ .boot then (0, s.eddyUe .spi x.addr)
      else
        let r := s.rd .spi x.addr
        (r.1, if s.rdRefused .spi x.addr && x.served then r.2.spiRefused else r.2)
    let w := got.1
    let s := got.2
    .next ((s.spiSend [w]).setSpi fun x => { x.next with fetched := x.fetched + 1 })

/-- SPI_WRITE_WORD (R204, R205): a data word has been received; `full` says that it does not fit in the SPI queue. -/
def execSpiWriteWord (w : Word) (crc : Byte) (full : Bool) (s : State) : Res :=
  let x := s.spi
  if x.active = false ∨ x.gotCmd = false ∨ x.rd ∨ x.dead then .next s
  else if x.crc && decide (crc.toNat ≠ crc8 w) then .next (s.spiCrc 0)
  else
    let s := if x.past then s.spiPast
      else if s.dev = .boot then s.bump SYS_BOOT_DISC
      else if x.served = false then s.bump 0x0060B
      else if full then ((s.bump SYS_QOVF_SPI).fire 452 0).spiFlag fun f => { f with ovf := true }
      else (s.when (s.wrRefused .spi x.addr w) State.spiRefused).wr .spi x.addr w
    .next (s.setSpi SpiSt.next)

/-- SPI_FRAME_END (R205, R207): SCSN rises, after `bits` bits of a word and its CRC that end unfinished and are lost. Data word
k of a read has been shifted out when position k + 2 has ended. -/
def execSpiFrameEnd (bits : Nat) (_part : Word) (_crc : Byte) (s : State) : Res :=
  let x := s.spi
  if x.active = false then .next s
  else
    let s := if bits ≠ 0 then s.spiFerr else s
    let s := if x.rd && decide (x.ends < x.fetched + 2) && decide (0 < x.fetched) then
        (s.bump 0x00609).spiFlag fun f => { f with lost := true } else s
    let f := s.spi.cur
    let seen := b2n f.lost + 2 * b2n f.ferr + 4 * b2n f.crcErr + 8 * b2n f.refused + 16 * b2n f.ovf
    .next ((s.setReg 0x00600 (s.reg 0x00600 ||| toWord seen)).setSpi fun y => { y with
      active := false, prev := f, cur := .none })

end Sys2Proof.Machine
end

