-- ==== Sys2Proof/Machine/Modbus.lean ====
section
/-!
DEFINITION. The Modbus server: the map, the order of the checks, execution and answers (R209–R216).
-/
namespace Sys2Proof.Machine

def State.setMod (s : State) (f : ModSt → ModSt) : State := { s with mod := f s.mod }
/-- The records of the pitched map (R214). -/
def State.modMap (s : State) : List Bytes :=
  match s.shown.bind (·.sec tagModbus) with
  | some b => records 16 (secCount b) (b.drop 16)
  | none => []
/-- TABLE, FORM, ADDR, COUNT, SHIFT, INVERT, WRITABLE and TARGET of a record. -/
def mmTable (r : Bytes) : Nat := u8 r 0
def mmForm (r : Bytes) : Nat := u8 r 1
def mmAddr (r : Bytes) : Nat := u16 r 2
def mmCount (r : Bytes) : Nat := u16 r 4
def mmShift (r : Bytes) : Nat := u8 r 6
def mmInvert (r : Bytes) : Bool := (u8 r 7).testBit 0
def mmWritable (r : Bytes) : Bool := (u8 r 7).testBit 1
def mmTarget (r : Bytes) : Nat := u24 r 8

/-- One native access of a request: bits [first, first + n) of a BITS record, a FIELD16 register, a pair, or a register
pair of the gateway (R214–R216). -/
inductive MItem where
  | bits (r : Bytes) (first n : Nat)
  | field (r : Bytes)
  | pair (r : Bytes)
  | gwAddr
  | gwData
deriving DecidableEq, Repr

/-- Registers, or bits, that an item covers. -/
def MItem.width : MItem → Nat
  | .bits _ _ n => n
  | .field _ => 1
  | .pair _ => 2
  | .gwAddr => 2
  | .gwData => 2
/-- The item at a Modbus address, with at most `q` left; none where nothing is mapped or only one register of a pair is
covered (R213, R215). -/
def State.modItem (s : State) (tab a q : Nat) : Option MItem :=
  if tab = 3 ∧ a = 0xFF00 then (if 2 ≤ q then some .gwAddr else none)
  else if tab = 3 ∧ a = 0xFF02 then (if 2 ≤ q then some .gwData else none)
  else match s.modMap.find? fun r => decide (mmTable r = tab) && decide (mmAddr r ≤ a) && decide (a < mmAddr r + mmCount r) with
    | none => none
    | some r =>
      if mmForm r = 0 then some (.bits r (a - mmAddr r) (min q (mmAddr r + mmCount r - a)))
      else if mmForm r = 1 then some (.field r)
      else if a = mmAddr r ∧ 2 ≤ q then some (.pair r) else none
/-- The items of a range of Modbus addresses, ascending (R213). -/
def State.modItems (s : State) (tab : Nat) : Nat → Nat → Nat → Option (List MItem)
  | 0, _, q => if q = 0 then some [] else none
  | f + 1, a, q =>
    if q = 0 then some []
    else match s.modItem tab a q with
      | none => none
      | some i => (s.modItems tab f (a + i.width) (q - i.width)).map (i :: ·)

/-- An item of the gateway. -/
def MItem.fixed : MItem → Bool
  | .gwAddr => true | .gwData => true | .bits _ _ _ => false | .field _ => false | .pair _ => false
/-- An item that a write may address (R214). -/
def MItem.writable : MItem → Bool
  | .gwAddr => true | .gwData => true
  | .bits r _ _ => mmWritable r
  | .field r => mmWritable r
  | .pair r => mmWritable r
/-- The native address that an item reaches; `gw` is GW_NADDR. -/
def MItem.native (gw : Word) : MItem → Option Nat
  | .gwAddr => none
  | .gwData => some (bitsOf gw 19 0)
  | .bits r _ _ => some (mmTarget r)
  | .field r => some (mmTarget r)
  | .pair r => some (mmTarget r)

/-- What an item's native word shows: bits, or register values with the high register first (R214, R215). -/
def MItem.show (w : Word) : MItem → List Nat
  | .bits r k n => (List.range n).map fun j => b2n ((bitOf w (mmShift r + k + j)) != mmInvert r)
  | .field r => [w.toNat / 2 ^ mmShift r % 65536]
  | .pair r => [w.toNat / 65536 + (if mmForm r = 3 ∧ bitOf w 23 then 0xFF00 else 0), w.toNat % 65536]
  | .gwAddr => [w.toNat / 65536, w.toNat % 65536]
  | .gwData => [w.toNat / 65536, w.toNat % 65536]
/-- One read of an item (R213, R216). -/
def State.modRead (s : State) (i : MItem) : List Nat × State :=
  match i with
  | .gwAddr => (i.show s.mod.gw, s)
  | _ =>
    let got := s.rd .modbus ((i.native s.mod.gw).getD 0)
    let w := got.1
    let s1 := got.2
    (i.show w, if i = .gwData then s1.setMod fun m => { m with gw := naddrNext m.gw } else s1)
/-- The reads of a request; item `ue`, when its native word lies in Eddy, meets an uncorrectable error (R213, R427). -/
def State.modReads (s : State) : List MItem → Option Nat → Nat → Option (List Nat) × State
  | [], _, _ => (some [], s)
  | i :: is, ue, k =>
    let a := (i.native s.mod.gw).getD 0
    if ue = some k ∧ 0x80000 ≤ a then (none, s.eddyUe .modbus a)
    else
      let got := s.modRead i
      let v := got.1
      let s := got.2
      let got := s.modReads is ue (k + 1)
      let vs := got.1
      let s := got.2
      (vs.map (v ++ ·), s)

/-- The selected bits of an item's native word and the written values in them (R214). -/
def MItem.put (vs : List Nat) : MItem → Nat × Nat
  | .bits r k n =>
    let sh := mmShift r + k
    ((2 ^ n - 1) * 2 ^ sh, (List.range n).foldl (fun x j => x + b2n (decide (vs.getD j 0 ≠ 0) != mmInvert r) * 2 ^ (sh + j)) 0)
  | .field r => (65535 * 2 ^ mmShift r, vs.getD 0 0 % 65536 * 2 ^ mmShift r)
  | .pair _ => (0xFFFFFF, vs.getD 0 0 % 256 * 65536 + vs.getD 1 0 % 65536)
  | .gwAddr => (0xFFFFFF, vs.getD 0 0 % 256 * 65536 + vs.getD 1 0 % 65536)
  | .gwData => (0xFFFFFF, vs.getD 0 0 % 256 * 65536 + vs.getD 1 0 % 65536)
/-- The high byte of a pair write is what a read of the value shows (R215). -/
def MItem.highOk (vs : List Nat) : MItem → Bool
  | .bits _ _ _ => true
  | .field _ => true
  | .pair r => decide (vs.getD 0 0 / 256 % 256 = if mmForm r = 3 ∧ (vs.getD 0 0).testBit 7 then 0xFF else 0)
  | .gwAddr => decide (vs.getD 0 0 / 256 % 256 = 0)
  | .gwData => decide (vs.getD 0 0 / 256 % 256 = 0)
/-- A written GW_NADDR. -/
def gwWord (n : Nat) : Word := toWord (n % 2097152)
/-- Whether the role or state forbids a write of the request; GW_NADDR written by an earlier item counts (R198, R213). -/
def State.modWriteBad (s : State) : Word → List (MItem × List Nat) → Bool
  | _, [] => false
  | gw, (i, vs) :: is =>
    let (sel, bits) := i.put vs
    match i.native gw with
    | none => s.modWriteBad (gwWord bits) is
    | some a => s.rmwRefused .modbus a sel bits || s.modWriteBad (if i = .gwData then naddrNext gw else gw) is
/-- The writes of a request, in ascending order (R213, R214). -/
def State.modWrites (s : State) : List (MItem × List Nat) → State
  | [] => s
  | (i, vs) :: is =>
    let (sel, bits) := i.put vs
    let s1 := match i with
      | .gwAddr => s.setMod fun m => { m with gw := gwWord bits }
      | .gwData => (s.wr .modbus (bitsOf s.mod.gw 19 0) (toWord bits)).setMod fun m => { m with gw := naddrNext m.gw }
      | .bits r _ _ => s.rmw .modbus (mmTarget r) sel bits
      | .field r => s.rmw .modbus (mmTarget r) sel bits
      | .pair r => s.rmw .modbus (mmTarget r) sel bits
    s1.modWrites is
/-- The values of a write cut to its items. -/
def cutVals : List MItem → List Nat → List (MItem × List Nat)
  | [], _ => []
  | i :: is, vs => (i, vs.take i.width) :: cutVals is (vs.drop i.width)

/-- The native address that the read-modify-write of an item reads (R214). -/
def MItem.rmwAt : MItem → Option Nat
  | .bits r _ _ => some (mmTarget r)
  | .field r => some (mmTarget r)
  | .pair _ => none
  | .gwAddr => none
  | .gwData => none
/-- A request: function, read part (table, address, quantity), write part (table, address, values), whether its value
checks pass, and the item at which a native read fails: the items of the write part count first, then those of the read
part. -/
structure MReq where
  fn : Nat
  rd : Option (Nat × Nat × Nat)
  wr : Option (Nat × Nat × List Nat)
  ok : Bool
  ue : Option Nat

/-- The answer's bytes before its CRC: server address, function, data. -/
def State.modSend (s : State) (fn : Nat) (data : Bytes) : State :=
  let b := leBytes 1 (s.fld 0x00640 7 0) ++ leBytes 1 fn ++ data
  s.setMod fun m => { m with answer := some b }
/-- The reads of a request whose native reads take place with GW_NADDR as its write part leaves it. After an error nothing is
written: a GW_NADDR that the write part set or stepped reads as before the request (R213; log entry 75). -/
def State.modReadPart (s : State) (gw : Word) (rs : List MItem) (ue : Option Nat) : State :=
  let t := ((s.setMod fun m => { m with gw := gw }).modReads rs ue 0).2
  if gw = s.mod.gw then t else t.setMod fun m => { m with gw := s.mod.gw }
/-- An exception answer (R213); a broadcast gets none, and counts in MOD_EXCEPT alone (R212; log entry 75). `cnt` is the
further counter of order 5 or 6. -/
def State.modExcept (s : State) (bcast : Bool) (fn code : Nat) (cnt : Option Nat) : State :=
  let s := s.bump 0x0064A
  if bcast then s
  else
    let s := match cnt with
      | some a => s.bump a
      | none => s
    s.modSend (fn + 128) (leBytes 1 code)

/-- The execution of a request that has passed its checks: the writes, then the reads, then the answer; exception 04 when a
native read fails (R213). -/
def State.modDone (s : State) (bcast : Bool) (q : MReq) (reply : List Nat → Bytes) (wv : List (MItem × List Nat))
    (rs : List MItem) (ue : Option Nat) (gw : Word) : State :=
  let got := (s.modWrites wv).modReads rs ue 0
  match got.1 with
  | some vs => if bcast then got.2 else got.2.modSend q.fn (reply vs)
  | none => (s.modReadPart gw rs ue).modExcept bcast q.fn 4 none

/-- The checks of R213 in their order, then the execution: `reply` makes the answer's data of what was read. -/
def State.modRun (s : State) (bcast : Bool) (q : MReq) (reply : List Nat → Bytes) : State :=
  let ex := fun (s : State) (code : Nat) (cnt : Option Nat) => s.modExcept bcast q.fn code cnt
  let ri := match q.rd with
    | some (t, a, n) => s.modItems t n a n
    | none => some []
  let wi := match q.wr with
    | some (t, a, vs) => (s.modItems t vs.length a vs.length).bind fun l => if l.all MItem.writable then some l else none
    | none => some []
  if s.dev = .boot then ex s 6 none
  else if q.ok = false then ex s 3 none
  else match ri, wi with
    | some rs, some ws =>
      let wv := cutVals ws ((q.wr.map (·.2.2)).getD [])
      let gw' := wv.foldl (fun g x => match x.1 with
        | .gwAddr => gwWord (x.1.put x.2).2
        | .gwData => naddrNext g
        | _ => g) s.mod.gw
      let rdBad := rs.any fun i => match i.native gw' with
        | some a => s.rdRefused .modbus a
        | none => false
      if s.dev.fires = false ∧ (rs ++ ws).any (fun i => !i.fixed) then ex s 6 (some 0x0064C)
      else if rdBad ∨ s.modWriteBad s.mod.gw wv then ex s 1 (some 0x0064B)
      else if wv.any (fun x => !x.1.highOk x.2) then ex s 3 none
      else
        match q.ue.bind fun k => (ws[k]?).bind MItem.rmwAt with
        | some a => if 0x80000 ≤ a then ex (s.eddyUe .modbus a) 4 none
          else s.modDone bcast q reply wv rs none gw'
        | none => s.modDone bcast q reply wv rs (q.ue.bind fun k => if ws.length ≤ k then some (k - ws.length) else none) gw'
    | _, _ => ex s 2 none

/-- A request that reached the server, addressed or broadcast (R210–R212, R221): before its settings apply the server does
not answer (R109), and while it answers it does not receive. -/
def State.modbus (s : State) (bcast : Bool) (q : MReq) (reply : List Nat → Bytes) : Res :=
  if s.runs = false ∨ s.underTest ∨ s.mss.modUp = false then .next s
  else if s.mod.answer.isSome then .next (s.bump 0x00649)
  else
    let s := (s.portWake 2).bump 0x00648
    let write := decide (q.fn = 5 ∨ q.fn = 6 ∨ q.fn = 15 ∨ q.fn = 16)
    if bcast ∧ (write = false ∨ s.bit 0x00640 14 = false) then .next (s.bump 0x0064A)
    else .next (s.modRun bcast q reply)

/-- Bits packed eight to a byte, the first in the lowest bit. -/
def packBits : Nat → List Nat → Bytes
  | 0, _ => []
  | f + 1, vs =>
    if vs.isEmpty then []
    else leBytes 1 ((List.range 8).foldl (fun n j => n + vs.getD j 0 % 2 * 2 ^ j) 0) ++ packBits f (vs.drop 8)
/-- Registers, high byte first. -/
def regBytes (vs : List Nat) : Bytes := vs.flatMap fun v => leBytes 1 (v / 256 % 256) ++ leBytes 1 (v % 256)
/-- The reply of a read of bits, and of registers. -/
def bitReply (vs : List Nat) : Bytes := leBytes 1 ((vs.length + 7) / 8) ++ packBits vs.length vs
def regReply (vs : List Nat) : Bytes := leBytes 1 (2 * vs.length) ++ regBytes vs
/-- The bits of received data. -/
def dataBits (n : Nat) (d : Bytes) : List Nat := (List.range n).map fun j => b2n ((u8 d (j / 8)).testBit (j % 8))
/-- The registers of received data. -/
def dataRegs (n : Nat) (d : Bytes) : List Nat := (List.range n).map fun j => u8 d (2 * j) * 256 + u8 d (2 * j + 1)
/-- A quantity within its limits (R211). -/
def within (n top : Nat) : Bool := decide (1 ≤ n) && decide (n ≤ top)

/-- MODBUS_FRAME_ERROR (R210, R211). -/
def execModbusFrameError (s : State) : Res :=
  if s.runs = false ∨ s.underTest ∨ s.mss.modUp = false then .next s else .next (s.bump 0x00649)
/-- READ_COILS: function 01. -/
def execReadCoils (bcast : Bool) (a q : Nat) (ue : Option Nat) (s : State) : Res :=
  s.modbus bcast ⟨1, some (0, a, q), none, within q 2000, ue⟩ bitReply
/-- READ_DISCRETE_INPUTS: function 02. -/
def execReadDiscreteInputs (bcast : Bool) (a q : Nat) (ue : Option Nat) (s : State) : Res :=
  s.modbus bcast ⟨2, some (1, a, q), none, within q 2000, ue⟩ bitReply
/-- READ_HOLDING_REGISTERS: function 03. -/
def execReadHoldingRegisters (bcast : Bool) (a q : Nat) (ue : Option Nat) (s : State) : Res :=
  s.modbus bcast ⟨3, some (3, a, q), none, within q 125, ue⟩ regReply
/-- READ_INPUT_REGISTERS: function 04. -/
def execReadInputRegisters (bcast : Bool) (a q : Nat) (ue : Option Nat) (s : State) : Res :=
  s.modbus bcast ⟨4, some (2, a, q), none, within q 125, ue⟩ regReply
/-- WRITE_SINGLE_COIL: function 05 (R211). -/
def execWriteSingleCoil (r : ModRx) (a v : Nat) (s : State) : Res :=
  let ⟨bcast, ue⟩ := r
  s.modbus bcast ⟨5, none, some (0, a, [b2n (decide (v = 0xFF00))]), decide (v = 0xFF00) || decide (v = 0), ue⟩
    fun _ => regBytes [a, v]
/-- WRITE_SINGLE_REGISTER: function 06. -/
def execWriteSingleRegister (r : ModRx) (a v : Nat) (s : State) : Res :=
  let ⟨bcast, ue⟩ := r
  s.modbus bcast ⟨6, none, some (3, a, [v]), true, ue⟩ fun _ => regBytes [a, v]
/-- WRITE_MULTIPLE_COILS: function 15. -/
def execWriteMultipleCoils (r : ModRx) (a q count : Nat) (d : Bytes) (s : State) : Res :=
  let ⟨bcast, ue⟩ := r
  s.modbus bcast ⟨15, none, some (0, a, dataBits q d), within q 1968 && decide (count = (q + 7) / 8) &&
    decide (count = d.length), ue⟩ fun _ => regBytes [a, q]
/-- WRITE_MULTIPLE_REGISTERS: function 16. -/
def execWriteMultipleRegisters (r : ModRx) (a q count : Nat) (d : Bytes) (s : State) : Res :=
  let ⟨bcast, ue⟩ := r
  s.modbus bcast ⟨16, none, some (3, a, dataRegs q d), within q 123 && decide (count = 2 * q) && decide (count = d.length),
    ue⟩ fun _ => regBytes [a, q]
/-- READ_WRITE_MULTIPLE_REGISTERS: function 23: the write part, then the read part. -/
def execReadWriteMultipleRegisters (bcast : Bool) (a q wa wq count : Nat) (d : Bytes) (ue : Option Nat) (s : State) : Res :=
  s.modbus bcast ⟨23, some (3, a, q), some (3, wa, dataRegs wq d), within q 125 && within wq 121 &&
    decide (count = 2 * wq) && decide (count = d.length), ue⟩ regReply
/-- UNSUPPORTED_FUNCTION (R211): exception 01 for every other function code. -/
def execUnsupportedFunction (bcast : Bool) (fn : Nat) (s : State) : Res :=
  if s.runs = false ∨ s.underTest ∨ s.mss.modUp = false then .next s
  else if s.mod.answer.isSome then .next (s.bump 0x00649)
  else
    let s := (s.portWake 2).bump 0x00648
    .next (if bcast then s.bump 0x0064A else s.modExcept false (fn % 128) (if s.dev = .boot then 6 else 1) none)
/-- MODBUS_REPLY (R210): the answer is sent after t3.5. -/
def execModbusReply (s : State) : Res :=
  match s.mod.answer with
  | none => .next s
  | some b => .next (if s.runs then s.setMod fun m => { m with answer := none, sent := b } else s)

/-- MODBUS_SETTINGS_APPLY (R209, R583): the stored settings take effect, not before the answer to the command that changed
them has been sent. -/
def execModbusSettingsApply (s : State) : Res :=
  if s.runs = false ∨ s.mss.run = .none ∨ s.mss.halted ∨ s.mod.answer.isSome then .next s
  else
    let s : State := { s with mss := { s.mss with modUp := true } }
    .next (((s.setFld 0x00640 7 0 (s.setting 1)).setFld 0x00640 11 8 (s.setting 2)).setFld 0x00640 13 12 (s.setting 3))

end Sys2Proof.Machine
end

