-- ==== Sys2Proof/Machine/Ring.lean ====
section
/-!
DEFINITION. The commands of the Limpedal ring (08): links, the cycle, process data, events, census, time, SYNC,
Portage, mail and bulk transfers.
-/
namespace Sys2Proof.Machine

/-- A port sends the DLY request of an exchange; SRC is 0xFFFF before the node has an ID (R251, R252). -/
def State.dlyAsk (s : State) (w : Bool) (exch : Nat) : State :=
  let src := if s.headwater || s.ember.nodeId.isSome then s.nodeId else 0xFFFF
  s.sendFrames w [⟨{ s.hdr 0xFFFF 0 with src := src }, .dly false exch 0⟩]
/-- Store the delay measurement of a port. -/
def State.setDly (s : State) (w : Bool) (d : DlySt) : State :=
  s.setRing fun r => if w then { r with dlyW := d } else { r with dlyE := d }
/-- The delay measurement of a port. -/
def State.dly (s : State) (w : Bool) : DlySt := if w then s.ring.dlyW else s.ring.dlyE
/-- A link delay measurement starts; the delay in force stays until it ends (R251). -/
def State.dlyStart (s : State) (w : Bool) : State :=
  (s.setDly w ⟨true, 0, 0, 0, false, (s.dly w).delay⟩).dlyAsk w 0
/-- An exchange of a measurement is over: the next request, or after the eighth the average of the good ones (R251, R252). -/
def State.dlyNext (s : State) (w : Bool) (d : DlySt) : State :=
  if d.exch < 8 then (s.setDly w d).dlyAsk w d.exch
  else
    let d : DlySt := { d with active := false, delay := if d.good = 0 then d.delay else d.sum / d.good }
    (s.setDly w d).setFld (RNG_LINK w) 23 8 (min 0xFFFF (d.delay / 4))

/-- RING_LINK_UP (R228): the link comes up, or is found MISWIRED. -/
def execRingLinkUp (w miswired : Bool) (s : State) : Res :=
  if s.portsRun = false then .next s
  else if miswired then
    .next (((s.setBit (RNG_LINK w) 2 true).setBit (RNG_LINK w) 3 true).linkEvent w)
  else
    let s := ((s.setBit (RNG_LINK w) 0 true).setBit (RNG_LINK w) 2 false).setBit (RNG_LINK w) 3 true
    let s := (s.dlyStart w).setRing fun r => if w then { r with changed := true, stableW := false }
      else { r with changed := true, stableE := false }
    .next (s.linkEvent w)

/-- A port's link goes down: count, wrap, RING_CHANGED, RING_LINK; the node runs in holdover (R228, R254, R260). -/
def State.linkDown (s : State) (w signal : Bool) : State :=
  if s.bit (RNG_LINK w) 0 then
    let s := ((s.setBit (RNG_LINK w) 0 false).setBit (RNG_LINK w) 1 true).setBit (RNG_LINK w) 3 signal
    let s := (s.bump (RNG_LDOWN w)).setBit RNG_DISC 17 true
    let s := s.setRing fun r => if w then { r with changed := true, stableW := false }
      else { r with changed := true, stableE := false }
    s.linkEvent w
  else s

/-- RING_LINK_DOWN (R228, R260); `signal` says whether signal is still detected. -/
def execRingLinkDown (w signal : Bool) (s : State) : Res :=
  .next (if s.portsRun then s.linkDown w signal else s)

/-- PARTNER_RX_FAULT (R260): the link's receiver still works, and the node wraps; a port that is still WRAPPED stays so, and
the 100 ms of its hop start again (R262, R279). -/
def execPartnerRxFault (w : Bool) (s : State) : Res :=
  if s.portsRun && s.bit (RNG_LINK w) 0 then
    let s := s.setRing fun r => if w then { r with stableW := false } else { r with stableE := false }
    if s.bit (RNG_LINK w) 1 then .next s
    else .next (((s.setBit (RNG_LINK w) 1 true).setRing fun r => { r with changed := true }).linkEvent w)
  else .next s

/-- RING_HOP_STABLE (R262): the dead hop has been up for 100 ms; its node reports it and the Headwater prepares UNWRAP. -/
def execRingHopStable (w : Bool) (s : State) : Res :=
  .next (s.setRing fun r =>
    let up := s.bit (RNG_LINK w) 0 && s.bit (RNG_LINK w) 1
    { r with
      stableE := r.stableE || (!w && up)
      stableW := r.stableW || (w && up)
      unwrapReq := r.unwrapReq || s.headwater })

/-- Unwrapping of the ports whose hop has stayed up (R262). -/
def State.unwrap (s : State) : State :=
  let one := fun (s : State) (w : Bool) (st : Bool) =>
    s.when (st && s.bit (RNG_LINK w) 0) fun s => (s.setBit (RNG_LINK w) 1 false).linkEvent w
  let s := one (one s false s.ring.stableE) true s.ring.stableW
  s.setRing fun r => { r with unwrapDue := false, stableE := false, stableW := false }

/-- The bytes of all slots of the layout in force (R234). -/
def State.slotSum (s : State) : Nat := s.ring.layout.foldl (fun t e => t + 4 * e.slotSize) 0
/-- The slots of the PD frame that the Headwater sends: status bytes 0x00 and each node's output words, in position order
(R234, R247). -/
def State.pdSlots (s : State) : Bytes :=
  (s.ring.layout.filter fun e => decide (e.slotSize ≠ 0)).flatMap fun e =>
    PdSlot.bytes ⟨e.nodeId, 0, 0, 0, 0, s.eddyWords (s.rcfg 0xC 3 + 128 * e.nodeId + 64) (slotRoom e.slotSize)⟩ e.slotSize
/-- The entries of the census frame with a FIRST_POS in pass B (R238, R240). -/
def State.enumPart (s : State) (first : Nat) : List EnumEntry := (s.ring.layoutNew.drop first).take 128

/-- The next mail to send: answers before requests (R243). -/
def nextMail (q : List Mail) : Option Mail := (q.find? (·.answer)).or q.head?
/-- A mail leaves the send queue; a request that is answered waits for its answer (R266, R267). -/
def State.mailGone (s : State) (m : Mail) : State :=
  s.setRing fun r => { r with
    sendQ := r.sendQ.erase m
    waiting := if m.answer ∨ m.kind = .bulkAck then r.waiting else r.waiting ++ [m.tag] }
/-- The carrier of a mail (R236, R263). -/
def State.mailFrame (s : State) (m : Mail) (skip : Nat) : RFrame := ⟨s.hdr m.dest skip, .mail m⟩
/-- Up to `n` mails of the send queue, answers first. -/
def State.takeMails : Nat → State → List Mail × State
  | 0, s => ([], s)
  | n + 1, s =>
    match nextMail s.ring.sendQ with
    | none => ([], s)
    | some m =>
      let got := State.takeMails n (s.mailGone m)
      (m :: got.1, got.2)

/-- The node is booting and waits for the ring's answer or image no longer (R270). -/
def State.imageGone (s : State) : State := (s.setRing fun r => { r with imgReq := false }).bootEnd
/-- The requester has its answer, or gives it itself: OUTBOX_FULL, TIMEOUT or UNREACHABLE (R265–R270). -/
def State.answered (s : State) (kind : MailKind) (tag status : Nat) : State :=
  match kind with
  | .bulkOpen =>
    match s.ring.bulkTx with
    | some b =>
      if b.session = tag then
        if status = 0 then s.setRing fun r => { r with bulkTx := some { b with opened := true } }
        else s.bulkClose true status
      else s
    | none => s
  | .bulkDone => s.when (s.ring.bulkTx.any fun b => decide (b.session = tag)) fun s => s.bulkClose true status
  | .imageReq => s.when (decide (status = 7)) State.imageGone
  | .read => s
  | .write => s
  | .mailbox => s
  | .bulkAck => s
/-- A request of the node's own; one that finds the send queue full is answered with OUTBOX_FULL by the node itself (R265,
R266). -/
def State.requestMail (s : State) (dest tag : Nat) (kind : MailKind) (data : Bytes) : State :=
  if s.ring.sendQ.length < 16 then s.sendMail ⟨dest, s.nodeId, kind, false, false, tag, 0, 0, 0, 0, 0, 0, data⟩
  else (s.deficit 1).answered kind tag 9

/-- The sender's next bulk carrier: at most 85 words, within 64 carriers of the acknowledged offset (R236, R268). -/
def State.bulkTake (s : State) : Option (Nat × Bulk) × State :=
  match s.ring.bulkTx with
  | none => (none, s)
  | some b =>
    let n := min 85 (b.len - b.ofs)
    if b.opened = false ∨ n = 0 ∨ b.acked + 64 * 85 ≤ b.ofs then (none, s)
    else
      (some (b.node, ⟨b.session, decide (b.len ≤ b.ofs + n), b.ofs, s.bulkWords b b.ofs n⟩),
        s.setRing fun r => { r with bulkTx := some { b with ofs := b.ofs + n } })
/-- Up to `n` bulk carriers (R243). -/
def State.takeBulks : Nat → State → List (Nat × Bulk) × State
  | 0, s => ([], s)
  | n + 1, s =>
    match s.bulkTake.1 with
    | none => ([], s)
    | some c =>
      let got := State.takeBulks n s.bulkTake.2
      (c :: got.1, got.2)

/-- The bindings in force: those that wait for the store, or the stored ones (R240). -/
def State.binds (s : State) : List (Nat × Nat) := s.ring.bindsDue.getD s.settings.binds
/-- New Headwater ID bindings go to the settings store as soon as no store runs (R240). -/
def State.storeBinds (s : State) : State :=
  match s.ring.bindsDue with
  | none => s
  | some l =>
    if s.settings.binds = l then s.setRing fun r => { r with bindsDue := none }
    else if s.mss.store.isSome ∨ s.busyOp ∨ s.bit SYS_PWR_STAT 5 then s
    else { s with
      mss := { s.mss with store := some (.settings { s.settings with binds := l }) }
      flash := { s.flash with settings := s.flash.settings.begin } }

/-- SKIP of the EMPTY carriers of a cycle, rotating over the positions (R243, R622). -/
def skipAt (skip nodes k : Nat) : Nat := (skip + k) % nodes
/-- The frames of a cycle in their order: CYC, PD, EVT, in a census ENUM, while a SYNC is pending SYNC, then `m` carriers:
those sent out again, the Headwater's mail, up to BULK_SHARE bulk carriers, all with SKIP 0, and EMPTY ones (R233–R238, R243,
R267, R622). -/
def State.cycleFrames (s : State) (c : Cyc) (sync : Bool) (m : Nat) (mails : List Mail) (bulks : List (Nat × Bulk)) :
    List RFrame :=
  let all := s.hdr 0xFFFF 0
  let mark := s.ring.syncT - BitVec.ofNat 48 (s.ring.syncT.toNat % 500000)
  let e := edgeOf s.ring.syncT
  let nodes := max 1 (s.fld RNG_POS 20 10)
  let part := if s.ring.censusPass = 2 then s.enumPart s.ring.firstPos else []
  let again := (s.ring.relayQ.take m).map fun f => { f with hdr := { f.hdr with aux := 0 } }
  let sent := again ++ mails.map (s.mailFrame · 0) ++ bulks.map fun x => ⟨s.hdr x.1 0, .bulk x.2⟩
  [⟨all, .cyc c⟩, ⟨all, .pd (c.cycleNo % 65536) s.pdSlots⟩,
    ⟨all, .evt 0 (List.replicate (s.rcfg 3 1) ⟨0, 0, 0, 0, 0⟩)⟩] ++
  (if s.ring.censusPass = 0 then [] else [⟨all, .enum s.ring.firstPos part.length part⟩]) ++
  (if sync then
    [⟨all, .sync (if 24576 ≤ e then mark + 500000 else mark) (e % 24576) s.ring.syncGroups (s.fld RNG_SYNC_CMD 20 13)⟩]
  else []) ++
  sent ++ (List.range (m - sent.length)).map fun k => ⟨s.hdr 0xFFFF (skipAt s.ring.skip nodes k), .empty⟩

/-- A log record of a stretched cycle, whose code and data R573 does not give (R244; log entry 60). -/
def State.logStretch (s : State) : State :=
  let n := s.fresh
  ({ s with fresh := n + 3 } : State).logRec Config.stretchCode (Config.freeWord n) (Config.freeWord (n + 1))
    (Config.freeWord (n + 2))

/-- The Headwater begins a cycle at its boundary: unwrapping, an assignment that takes effect, a census that is due, and
CYCLE_US (R240, R243, R244, R262, R277). -/
def State.cycleBegin (s : State) : State :=
  let no := (match s.ring.cycleNo with | some n => n + 1 | none => 0) % 4294967296
  let cyc := max (s.rcfg 4 2) s.ring.tMin
  let stretched := decide (s.rcfg 4 2 < s.ring.tMin)
  let s := (s.when s.ring.unwrapDue State.unwrap).storeBinds
  let census := decide (s.ring.censusPass = 0) && (s.ring.censusDue || decide (256 ≤ s.ring.sinceCensus + 1) ||
    s.ring.cycleNo.isNone)
  let s := s.setRing fun r => { r with
    cycleNo := some no, cycAt := s.time, markPhase := 0, filled := 0
    layout := if r.layoutDue then r.layoutNew else r.layout
    layoutDue := false
    censusPass := if census then 1 else r.censusPass
    firstPos := if census then 0 else r.firstPos
    entries := if census then [] else r.entries
    censusDue := if census then false else r.censusDue
    sinceCensus := if census then 0 else r.sinceCensus + 1 }
  let s := (s.setReg RNG_CYCNO (toWord no)).setFld RNG_CYCLE 13 0 cyc
  let s := s.when (stretched && !s.bit RNG_STAT 3) State.logStretch
  s.setBit RNG_STAT 3 stretched
/-- What the Headwater sends in the cycle that has begun, two mails of its own among it (R233, R242–R244, R258, R262, R622). -/
def State.cycleSend (s : State) : State :=
  let sync := s.bit RNG_SYNC_CMD 21 && decide (0 < timeDiff s.ring.syncT s.time)
  let cyc := s.fld RNG_CYCLE 13 0
  let c : Cyc := ⟨s.ring.cycleNo.getD 0, s.time, 0, (500000 - s.time.toNat % 500000) % 500000, cyc, s.ring.changed,
    s.ring.unwrapReq, decide (s.ring.censusPass ≠ 0), s.bit RNG_STAT 3⟩
  let extra := (if s.ring.censusPass = 0 then 0 else 41560) + (if sync then 840 else 0)
  let m := carriersOf cyc (tSyncNs s.slotSum (s.rcfg 3 1)) extra (s.reg RNG_PATH_DLY).toNat s.ring.unwrapReq
  let m1 := m - s.ring.relayQ.length
  let mails := s.takeMails (min 2 m1)
  let bulks := mails.2.takeBulks (min (s.rcfg 6 1) (m1 - mails.1.length))
  let fs := s.cycleFrames c sync m mails.1 bulks.1
  (bulks.2.sendFrames (s.outWest true) fs).setRing fun r => { r with
    relayQ := r.relayQ.drop m, changed := false
    unwrapDue := r.unwrapReq, unwrapReq := false
    skip := (r.skip + (m1 - mails.1.length - bulks.1.length)) % max 1 (s.fld RNG_POS 20 10) }

/-- RING_CYCLE_START (R243): the Headwater, from its t3 and outside DEEP, starts a cycle and sends its frames. -/
def execRingCycleStart (s : State) : Res :=
  if s.headwater = false ∨ s.bit RNG_STAT 4 ∨ s.asleep ∨ s.forwards = false ∨ s.mss.run = .none then .next s
  else .next s.cycleBegin.cycleSend

/-- A Headwater sees a frame of another Headwater: it stops originating and logs it (R241). -/
def State.conflict (s : State) (src : Nat) : State :=
  (s.setBit RNG_STAT 4 true).when (!s.bit RNG_STAT 4) fun s => s.logRec 0x504 (toWord src) 0 0

/-- An assignment takes effect: ID, slot and map (R239, R240, R277); a node that waits for a ring image then asks for it
(R270). A DUPLICATE loses its ID. -/
def State.takeAssign (s : State) (e : EnumEntry) : State :=
  let s := s.setRing fun r => { r with
    assignDue := none, assignLast := false, slotSize := e.slotSize, slotOff := e.slotOff
    pdConf := if slotUnits r.conf = e.slotSize then r.conf else r.pdConf }
  if e.hasId = false then { s.setBit RNG_STAT 1 false with ember := { s.ember with nodeId := none } }
  else
    let s := (s.setFld RNG_STAT 14 5 e.nodeId).setBit RNG_STAT 1 true
    let s : State := { s with ember := { s.ember with nodeId := some e.nodeId } }
    let s := s.fire 464 (toWord e.nodeId)
    s.when s.ring.imgReq fun s => (s.setRing fun r => { r with imgReq := false }).requestMail 0 1 .imageReq []

/-- Ring time from a CYC at a node: the first sets it in one step and TIME_ACQ, a later one steers its rate, or steps it by a
difference of more than 1 µs (R253). -/
def State.takeTime (s : State) (t : RingTime) : State :=
  if s.bit RNG_STAT 2 = false then ((s.stepTime t).setBit RNG_STAT 2 true).setRing fun r => { r with rateErr := 0 }
  else
    let d := timeDiff t s.time
    if 500 < d.natAbs then (s.stepTime t).setRing fun r => { r with rateErr := 0 }
    else s.setRing fun r => { r with rateErr := d }
/-- A node processes a CYC whose SOF arrived when `acc` of delay had accumulated (R240, R253, R254, R262). -/
def State.nodeCyc (s : State) (c : Cyc) (acc : Nat) : State :=
  let s := s.setReg RNG_PATH_DLY (toWord (acc / 32))
  let s := s.when s.ring.unwrapDue State.unwrap
  let s := s.takeTime (c.tTx + BitVec.ofNat 48 (acc / 32))
  let s := ((s.setReg RNG_CYCNO (toWord c.cycleNo)).setFld RNG_CYCLE 13 0 c.cycleUs).setBit RNG_STAT 3 c.stretched
  let s := match s.ring.assignDue with
    | some e => s.when (s.ring.assignLast || !c.census) fun s => s.takeAssign e
    | none => s
  s.setRing fun r => { r with
    cycleNo := some c.cycleNo, filled := 0, markPhase := (c.tTx.toNat + c.markOff) % 500000
    unwrapDue := c.unwrap, placed := c.census && r.placed, changed := false }
/-- The Headwater reads its loop delay from its returning CYC, and RING_CHANGED asks for a census (R240, R253). -/
def State.headCyc (s : State) (c : Cyc) (acc : Nat) : State :=
  ((s.setReg RNG_PATH_DLY (toWord (acc / 32))).setBit RNG_STAT 2 true).setRing fun r =>
    { r with censusDue := r.censusDue || c.changed }

/-- RING_CYC (R253): on each pass the delay of the link that the frame came on and the node's residence time `resid`, in 1/16
ns, are added to ACC_DELAY; on the processing pass the node takes its time and duties from it. `foreign` says that a Headwater
did not send the frame, `phaseErr` is the measured phase error in 0.25 ns. -/
def execRingCyc (h : RHdr) (c : Cyc) (x : Rx) (resid : Nat) (foreign : Bool) (phaseErr : Int) (s : State) : Res :=
  if s.forwards = false then .next s
  else
    let acc := c.accDelay + (s.dly x.west).delay
    let on := fun (ch : Bool) (s : State) => s.sendOn x.west false ⟨h, .cyc (c.onward (acc + resid) ch)⟩
    if s.asleep ∨ s.downstream x.west = false then .next (on false s)
    else if x.ovf then .next (on false (s.ringOvf x.west))
    else if s.headwater then
      if foreign then .next (on false (s.conflict h.src)) else .next ((s.headCyc c acc).steer phaseErr)
    else .next (on (s.ring.changed || s.ember.nodeId.isNone) ((s.nodeCyc c acc).steer phaseErr))

/-- A frame that a node handles as it passes: while its ports do not forward there is none; in DEEP, on a westward pass and
when its queue cannot take it, it goes on unchanged (R82, R91, R229, R260). -/
def State.passing (s : State) (x : Rx) (f : RFrame) (go : State → State) : State :=
  if s.forwards = false then s
  else if s.asleep ∨ s.downstream x.west = false then s.sendOn x.west false f
  else if x.ovf then (s.ringOvf x.west).sendOn x.west false f
  else go s

/-- The native addresses of the PD map by which the slot is filled: inputs, then outputs (R271, R277). -/
def State.pdMap (s : State) (out : Bool) : List Nat :=
  let c := s.ring.pdConf
  let ni := u8 c 8
  let no := u8 c 9
  if out then (List.range no).map fun k => u24 c (32 + 4 * (ni + k))
  else (List.range ni).map fun k => u24 c (32 + 4 * k)

/-- Reads of several native words in address-list order by an accessor. -/
def State.rdList (s : State) (p : Port) : List Nat → List Word × State
  | [] => ([], s)
  | a :: as =>
    let got := s.rd p a
    let w := got.1
    let s1 := got.2
    let got := s1.rdList p as
    let ws := got.1
    let s2 := got.2
    (w :: ws, s2)

/-- Writes of native words to an address list by an accessor, counting PD refusals (R246). -/
def State.pdCommit (s : State) : List Nat → List Word → State
  | a :: as, w :: ws =>
    let bad := s.wrRefused (.ring 0) a w
    let s := s.wr (.ring 0) a w
    let s := s.when bad fun s => (s.bump RNG_PD_REFUSED).setRing fun r => { r with pdRefused := true }
    s.pdCommit as ws
  | _, _ => s

/-- A node fills its slot: status and input words, with FRESH as CYCLE_LO says (R234, R246). -/
def State.fillSlot (s : State) (lo : Nat) : State :=
  let fresh := match s.ring.cycleNo with | some n => decide (n % 65536 = lo) | none => false
  let got := if s.dev.fires then s.rdList (.ring 0) (s.pdMap false) else ((s.pdMap false).map fun _ => 0, s)
  let u := got.2
  let st1 := b2n u.disc + 2 * u.fld RNG_STAT 2 2 + 4 * b2n (u.bit (RNG_LINK false) 1 || u.bit (RNG_LINK true) 1) +
    8 * b2n u.ring.pdRefused + 128 * b2n fresh
  u.setRing fun r => { r with
    slotOut := ⟨u.nodeId, u.dev.code, st1, u.fld RNG_SYNC_STAT 1 0, u.fld RNG_SYNC_STAT 9 2, got.1⟩
    pdRefused := false }
/-- The slots of a PD frame with this node's own replaced (R229, R246). -/
def State.pdOnward (s : State) (slots : Bytes) : Bytes :=
  let o := 4 * s.ring.slotOff
  slots.take o ++ s.ring.slotOut.bytes s.ring.slotSize ++ slots.drop (o + 4 * s.ring.slotSize)
/-- The output words of this node's slot (R234, R246). -/
def State.pdOuts (s : State) (slots : Bytes) : List Word :=
  bytesWords (s.pdMap true).length (slots.drop (4 * s.ring.slotOff + 4))

/-- RING_PD (R246): the node's slot is filled and, on EOF, its outputs commit. A node without a slot changes nothing in it. A
CRC that fails at this node is counted, and the frame leaves ending in EBAD (R230, R248). -/
def execRingPd (f : RingRx) (pd : PdRaw) (fin : REnd) (s : State) : Res :=
  let ⟨h, x⟩ := f
  let ⟨lo, slots⟩ := pd
  .next <| if s.headwater then s else s.passing x ⟨h, .pd lo slots⟩ fun s =>
    let s := s.setRing fun r => { r with pdLost := r.pdLost && decide (fin ≠ .eof) }
    let s := s.when (decide (fin = .crcBad)) fun s => s.bump (RNG_CRC x.west)
    let bad := decide (fin ≠ .eof)
    if s.ring.slotSize = 0 then s.sendOn x.west bad ⟨h, .pd lo slots⟩
    else
      let u := s.fillSlot lo
      let v := u.sendOn x.west bad ⟨h, .pd lo (u.pdOnward slots)⟩
      if fin = .eof ∧ v.ring.slotOut.st1.testBit 7 ∧ s.dev.fires then v.pdCommit (v.pdMap true) (v.pdOuts slots) else v

/-- The cell of a record of this node (R235). -/
def State.evtCell (s : State) (r : EvtRec) : EvtCell := ⟨s.nodeId, r.w0, r.w1, r.w2, r.w3⟩
/-- RING_EVT (R249): records of the ring queue go into free cells, and NEXT advances. -/
def execRingEvt (f : EvtRx) (s : State) : Res :=
  let ⟨h, next, cells, x⟩ := f
  .next <| if s.headwater then s else s.passing x ⟨h, .evt next cells⟩ fun s =>
    let put := s.ring.evtQ.take (min (s.rcfg 7 1) (cells.length - next))
    let s := s.setRing fun r => { r with evtQ := r.evtQ.drop put.length }
    s.sendOn x.west false ⟨h, .evt (next + put.length)
      (cells.take next ++ put.map s.evtCell ++ cells.drop (next + put.length))⟩

/-- RING_EMPTY (R243): a carrier is filled with mail or bulk data, subject to SKIP and to two carriers a cycle, or goes on
EMPTY. -/
def execRingEmpty (f : RingRx) (s : State) : Res :=
  let ⟨h, x⟩ := f
  .next <| if s.headwater then s else s.passing x ⟨h, .empty⟩ fun s =>
    let fill := fun (s : State) (f : RFrame) =>
      let s := s.setRing fun r => { r with filled := r.filled + 1, seqNo := (r.seqNo + 1) % 65536 }
      s.sendOn x.west false f
    let own := fun (dest : Nat) => { s.hdr dest h.aux with seq := s.ring.seqNo }
    if s.fld RNG_POS 9 0 < h.aux ∨ 2 ≤ s.ring.filled then s.sendOn x.west false ⟨h, .empty⟩
    else match nextMail s.ring.sendQ with
      | some m => fill (s.mailGone m) ⟨own m.dest, .mail m⟩
      | none =>
        match s.bulkTake.1 with
        | some c => fill s.bulkTake.2 ⟨own c.1, .bulk c.2⟩
        | none => s.sendOn x.west false ⟨h, .empty⟩

/-- RING_SYNC_FRAME (R258): a selected node arms on the first such frame. -/
def execRingSyncFrame (f : RingRx) (m : SyncAt) (groups seq : Nat) (s : State) : Res :=
  let ⟨h, x⟩ := f
  let ⟨mark, edge⟩ := m
  .next <| s.passing x ⟨h, .sync mark edge groups seq⟩ fun s =>
    let s := s.sendOn x.west false ⟨h, .sync mark edge groups seq⟩
    let done := decide (s.fld RNG_SYNC_STAT 1 0 ≠ 0) && decide (s.fld RNG_SYNC_STAT 9 2 = seq)
    if (s.rcfg 1 1).testBit 1 = false ∨ s.fld RNG_SYNC_SEL 7 0 &&& groups = 0 ∨ done ∨ s.ring.armed.isSome then s
    else ((s.setFld RNG_SYNC_STAT 1 0 1).setFld RNG_SYNC_STAT 9 2 seq).setRing fun r =>
      { r with armed := some (mark, edge, seq), stepped := false }

/-- The channels that a SYNC resets (R258). -/
def State.syncChannels (s : State) : List (Fin 32) :=
  (List.finRange 32).filter fun c => if c.val < 24 then s.bit 0x0071C c.val else s.bit 0x0071D (c.val - 24)

/-- SYNC_EDGE (R258): the armed node resets the selected decimators, or cancels. -/
def execSyncEdge (s : State) : Res :=
  match s.ring.armed with
  | none => .next s
  | some _ =>
    if s.disc = false ∨ s.ring.stepped then .next (s.syncEnd true)
    else .next ((s.syncChannels.foldl (fun s c => s.channelReset c 2) s).syncEnd false)

/-- The entry that this node writes in pass A (R238, R240). -/
def State.ownEntry (s : State) : EnumEntry := ⟨s.flash.uid.toNat, s.ring.fixedId, 0, slotUnits s.ring.conf, 0, 1⟩
/-- The last ENUM frame of a pass: one with room left, or the eighth (R240). -/
def lastEnum (firstPos next : Nat) : Bool := decide (next < 128) || decide (896 ≤ firstPos)

/-- RING_ENUM (R240): in pass A the node writes its entry into the first frame that has room and takes its position; in pass B
it finds the entry that carries its UNIQUE_ID, which takes effect from the cycle after it, and the nodes present. Entries with
an ID or a DUPLICATE mark are pass B's. A foreign frame is a conflict for a Headwater (R241). -/
def execRingEnum (f : RingRx) (firstPos next : Nat) (es : List EnumEntry) (foreign : Bool) (s : State) : Res :=
  let ⟨h, x⟩ := f
  .next <| s.passing x ⟨h, .enum firstPos next es⟩ fun s =>
    let on := fun (s : State) => s.sendOn x.west false ⟨h, .enum firstPos next es⟩
    if s.headwater then (if foreign then on (s.conflict h.src) else s)
    else if s.mss.run = .none then on s
    else if es.any fun e => decide (e.nodeId ≠ 0) || !e.hasId then
      let mine := es.find? fun e => decide (e.uid = s.flash.uid.toNat)
      let s := s.setRing fun r => { r with
        placed := false, assignDue := mine.or r.assignDue, assignLast := r.assignLast || lastEnum firstPos next }
      on (s.when (lastEnum firstPos next) fun s => s.setFld RNG_POS 20 10 (firstPos + next + 1))
    else if next < 128 ∧ s.ring.placed = false then
      let u := (s.setFld RNG_POS 9 0 (firstPos + next)).setRing fun r => { r with
        placed := true, assignDue := none, assignLast := false }
      u.sendOn x.west false ⟨h, .enum firstPos (next + 1) (es.take next ++ [s.ownEntry])⟩
    else on s

/-- RING_DLY (R252): a request is answered by hardware after `turn`, its turnaround; an answer gives the round trip and the
partner's turnaround; all in 1/16 ns. -/
def execRingDly (w answer : Bool) (exch turn roundTrip : Nat) (s : State) : Res :=
  let d := s.dly w
  if s.portsRun = false then .next s
  else if answer = false then
    let src := if s.headwater || s.ember.nodeId.isSome then s.nodeId else 0xFFFF
    .next (s.sendFrames w [⟨{ s.hdr 0xFFFF 0 with src := src }, .dly true exch turn⟩])
  else if d.active = false ∨ d.exch ≠ exch then .next s
  else
    let asym := (BitVec.ofNat 16 (s.rcfg 0xA 2)).toInt * 4
    let one := ((roundTrip - turn : Int) / 2 + (if w then asym else 0)).toNat
    .next (s.dlyNext w { d with exch := exch + 1, sum := d.sum + one, good := d.good + 1, again := false })

/-- RING_DLY_TIMEOUT (R252): an exchange without an answer is repeated once with the same EXCH, then left out of the
average. -/
def execRingDlyTimeout (w : Bool) (s : State) : Res :=
  let d := s.dly w
  if d.active = false then .next s
  else if d.again then .next (s.dlyNext w { d with exch := d.exch + 1, again := false })
  else .next ((s.setDly w { d with again := true }).dlyAsk w d.exch)

/-- RING_DELAY_MEASURE (R251): a port starts a link delay measurement. -/
def execRingDelayMeasure (w : Bool) (s : State) : Res :=
  .next (if s.portsRun && s.bit (RNG_LINK w) 0 then s.dlyStart w else s)

/-- RING_BAD_FRAME (R230): the frame goes on ending in EBAD; a CRC failure is counted for the receiving port, a frame that
came ending in EBAD is not counted again. -/
def execRingBadFrame (w : Bool) (f : BadFrame) (s : State) : Res :=
  let ⟨ebad, bs⟩ := f
  .next (if s.portsRun = false then s
    else (s.when (!ebad) fun s => s.bump (RNG_CRC w)).when s.ring.forward fun s =>
      s.sendOn w true ⟨⟨false, 0, 0, 0, 0⟩, .raw bs⟩)

/-- One FRESH slot goes into the Headwater's mirror; one without FRESH is counted (R247). -/
def State.mirrorSlot (s : State) (p : PdSlot) : State :=
  let a := s.rcfg 0xC 3 + 128 * p.node
  if p.st1.testBit 7 then
    let s := s.setEddyWords a (p.words.take 62)
    (s.setEddy (a + 126) (toWord (p.st0 + 256 * (p.st1 % 256) + 65536 * (p.st2 % 256)))).setEddy (a + 127)
      (s.reg RNG_CYCNO)
  else s.bump RNG_PD_MISS

/-- SYNC_TALLY (R259): the slots that report the SEQ, and the Headwater itself, end the pending SYNC. -/
def State.syncTally (s : State) (ps : List PdSlot) : State :=
  let seq := s.fld RNG_SYNC_CMD 20 13
  let own := if s.fld RNG_SYNC_STAT 9 2 = seq then s.fld RNG_SYNC_STAT 1 0 else 0
  let cnt := fun (v : Nat) => (ps.filter fun p => p.st1.testBit 7 && decide (p.st3 = seq) && decide (p.st2 % 4 = v)).length
    + b2n (decide (own = v))
  let s := (s.setFld RNG_SYNC_TALLY 10 0 (cnt 2)).setFld RNG_SYNC_TALLY 21 11 (cnt 3)
  let bad := decide (cnt 3 ≠ 0)
  let s := (s.setBit RNG_SYNC_CMD 21 false).setFld RNG_SYNC_CMD 12 9 (if bad then 0x3 else 0x2)
  s.fire 465 (toWord (seq + 256 * b2n bad))

/-- The slots of a returned PD frame, by the layout in force (R234, R247). -/
def State.slotsOf (s : State) (slots : Bytes) : List PdSlot :=
  (s.ring.layout.filter fun e => decide (e.slotSize ≠ 0)).map fun e =>
    pdSlotOf e.nodeId e.slotSize ((slots.drop (4 * e.slotOff)).take (4 * e.slotSize))
/-- RING_PD_RETURN (R247, R259): the FRESH slots enter the mirror; the first PD frame of a cycle that started at least two
cycles after T ends a pending SYNC. -/
def execRingPdReturn (slots : Bytes) (fin : REnd) (s : State) : Res :=
  if s.headwater = false ∨ s.bit RNG_STAT 4 ∨ s.forwards = false ∨ s.asleep then .next s
  else
    let s := s.when (decide (fin = .crcBad)) fun s => s.bump (RNG_CRC true)
    let ps := s.slotsOf slots
    let miss := decide (fin ≠ .eof) || ps.any fun p => !p.st1.testBit 7
    let s := if fin = .eof then ps.foldl State.mirrorSlot s else s.bump RNG_PD_MISS
    let s := s.when miss fun s => s.fire 466 (s.reg RNG_CYCNO)
    let due := s.bit RNG_SYNC_CMD 21 &&
      decide ((1000 * s.fld RNG_CYCLE 13 0 : Nat) ≤ timeDiff s.ring.cycAt s.ring.syncT)
    .next (if fin = .eof ∧ due then s.syncTally ps else s)

/-- One event cell enters the Headwater's ring buffer in Eddy (R249). -/
def State.mirrorCell (s : State) (c : EvtCell) : State :=
  let n := s.rcfg 0x12 3 / 4
  let k := s.ring.evtWr
  let s := s.when (s.ring.evtUnread.contains k) fun s => (s.bump RNG_EVT_OVF).deficit 6
  let s := s.setEddyWords (s.rcfg 0xF 3 + 4 * k) [c.w0, c.w1, c.w2, c.w3]
  s.setRing fun r => { r with evtWr := (k + 1) % max 1 n, evtUnread := (r.evtUnread.erase k) ++ [k] }

/-- RING_EVT_RETURN (R249). -/
def execRingEvtReturn (cells : List EvtCell) (s : State) : Res :=
  if s.headwater = false ∨ s.bit RNG_STAT 4 ∨ s.forwards = false ∨ s.asleep ∨ cells = [] then .next s
  else .next ((cells.foldl State.mirrorCell s).fire 463 (toWord cells.length))

/-- Pass A has ended: the assignment, its new bindings, and pass B (R240). -/
def State.censusEnd (s : State) (all : List EnumEntry) : State :=
  let asg := censusAssign s.binds all all 0 [0]
  let l := (asg.filter EnumEntry.hasId).foldl (fun b e => Sparse.put b e.uid e.nodeId) s.binds
  (s.setRing fun r => { r with
    entries := all, censusPass := 2, firstPos := 0, layoutNew := asg
    bindsDue := if s.settings.binds = l then none else some l }).storeBinds

/-- RING_ENUM_RETURN (R240): pass A collects entries and, at its end, assigns; pass B ends the census, and its assignment takes
effect with the next cycle. -/
def execRingEnumReturn (next : Nat) (es : List EnumEntry) (s : State) : Res :=
  if s.headwater = false ∨ s.bit RNG_STAT 4 ∨ s.forwards = false ∨ s.asleep ∨ s.ring.censusPass = 0 then .next s
  else if s.ring.censusPass = 1 then
    let all := s.ring.entries ++ es
    if lastEnum s.ring.firstPos next then .next (s.censusEnd all)
    else .next (s.setRing fun r => { r with entries := all, firstPos := r.firstPos + 128 })
  else if s.ring.entries.length < s.ring.firstPos + 128 ∨ 896 ≤ s.ring.firstPos then
    let n := s.ring.entries.length + 1
    let sum := s.ring.layoutNew.foldl (fun t e => t + 4 * e.slotSize) 0
    let s := (s.setFld RNG_POS 20 10 n).setRing fun r => { r with
      censusPass := 0, layoutDue := true, tMin := tMinUs sum (s.rcfg 3 1) (s.reg RNG_PATH_DLY).toNat }
    .next (s.fire 464 (toWord n))
  else .next (s.setRing fun r => { r with firstPos := r.firstPos + 128 })

/-- The requester takes the answer to its request (R265, R268–R270). -/
def State.takeAnswer (s : State) (m : Mail) : State :=
  if s.ring.waiting.contains m.tag = false then s
  else (s.setRing fun r => { r with waiting := r.waiting.erase m.tag }).answered m.kind m.tag m.status

/-- MAIL_ANSWER (R265). -/
def execMailAnswer (r : MailIn) (s : State) : Res :=
  let ⟨m, x⟩ := r
  .next (if s.forwards = false ∨ m.answer = false then s
    else if x.ovf then s.ringOvf x.west else s.takeAnswer m)

/-- RING_MAIL_TIMEOUT (R267): the requester answers itself with TIMEOUT. -/
def execRingMailTimeout (tag : Nat) (kind : MailKind) (s : State) : Res :=
  .next (s.takeAnswer ⟨s.nodeId, s.nodeId, kind, true, false, tag, 0, 0, 5, 0, 0, 0, []⟩)

/-- The Headwater answers the sender of a carrier that has returned a second time with UNREACHABLE; the answer to a BULK
carrier's sender is of the kind BULK_DONE with its SESSION as TAG (R267; log entry 78). -/
def State.unreachable (s : State) (src : Nat) (m : Mail) : State :=
  if src = 0 then s.takeAnswer m
  else s.sendMail { m with dest := src, src := 0, answer := true, status := 4, detail := 0, hint := 0, count := 0, data := [] }
/-- RING_CARRIER_RETURN (R267): a MAIL or BULK carrier still addressed to another node is sent out again with RELAYED set, and
answered with UNREACHABLE when it returns once more. -/
def execRingCarrierReturn (h : RHdr) (p : RPay) (s : State) : Res :=
  if s.headwater = false ∨ s.bit RNG_STAT 4 ∨ s.forwards = false ∨ s.asleep then .next s
  else if h.relayed = false then
    .next (s.setRing fun r => { r with relayQ := r.relayQ ++ [⟨{ h with relayed := true }, p⟩] })
  else match p with
    | .mail m => .next (s.unreachable h.src { m with answer := true, status := 4 })
    | .bulk b =>
      if h.src = 0 then .next (s.answered .bulkDone b.session 4)
      else .next (s.unreachable h.src ⟨h.src, 0, .bulkDone, true, false, b.session, 0, 0, 4, 0, 0, 0, []⟩)
    | .cyc _ => .next s
    | .pd _ _ => .next s
    | .evt _ _ => .next s
    | .empty => .next s
    | .sync _ _ _ _ => .next s
    | .enum _ _ _ => .next s
    | .dly _ _ _ => .next s
    | .raw _ => .next s

/-- RING_HOLDOVER_LAPSE (R254). -/
def execRingHoldoverLapse (s : State) : Res :=
  .next (if s.runs then (s.setBit RNG_DISC 17 true).discLapse else s)

/-- PD_FRAME_LOSS (R248): RING_PD_MISS fires once until a good frame has arrived. -/
def execPdFrameLoss (s : State) : Res :=
  if s.portsRun = false ∨ s.asleep ∨ s.headwater ∨ s.ring.pdLost then .next s
  else .next ((s.setRing fun r => { r with pdLost := true }).fire 466 (s.reg RNG_CYCNO))

/-- SYNCN_FALL (R256): ring time is captured, up to ±6 ns off: `err` is 3 for none, in units of 2 ns. -/
def execSyncnFall (err : Fin 7) (s : State) : Res :=
  if s.runs = false ∨ s.underTest then .next s
  else
    let t := s.time + BitVec.ofNat 48 err.val - 3
    .next ((s.setTime RNG_SYNCN_LO t).fire 467 (lo24 t))

/-- Mail reaches this node: it is the Headwater, or has kept an ID (R239, R280). -/
def State.addressed (s : State) : Bool := s.forwards && (s.headwater || s.ember.nodeId.isSome)
/-- A request is turned in its own carrier into a BUSY answer with a hint: nothing is queued (R109, R110, R266). -/
def State.turnMail (s : State) (x : Rx) (node tag : Nat) (kind : MailKind) (hint : Nat) : State :=
  let m : Mail := ⟨node, s.nodeId, kind, true, false, tag, 0, 0, 1, 0, hint, s.roleOf (.ring node), []⟩
  s.sendFrames (s.outWest x.west) [s.mailFrame m 0]
/-- How a node that cannot take mail handles it: not at all without forwarding or an ID, losing what its receive queue does not
take, and BUSY in BOOT, in DEEP and with 16 requests received, which is also what holds requests while the send queue has no
place for their answers (R82, R109, R110, R239, R266, R280; log entry 78). None: it is served. -/
def State.mailTurned (s : State) (node tag : Nat) (kind : MailKind) (x : Rx) (qfull : Bool) : Option State :=
  if s.addressed = false then some s
  else if s.dev = .boot then some (s.turnMail x node tag kind s.bootHint)
  else if s.dev = .deep then some (s.turnMail x node tag kind 64)
  else if x.ovf then some (s.ringOvf x.west)
  else if qfull || decide (16 ≤ s.ring.sendQ.length) then
    some (((s.bump RNG_MAIL_BUSY).deficit 0).turnMail x node tag kind s.queueHint)
  else none

/-- The native addresses of a READ or WRITE (R263). -/
def mailAddrs (addr count : Nat) (autoinc : Bool) : List Nat :=
  (List.range count).map fun k => if autoinc then addr + k else addr
/-- The index of the first element that a test holds of. -/
def firstIdx {α : Type} (p : α → Bool) : List α → Nat → Option Nat
  | [], _ => none
  | x :: xs, n => if p x then some n else firstIdx p xs (n + 1)

/-- MAIL_READ (R264): checked whole, then one burst; `ecc` is the index of a word that meets an uncorrectable error. -/
def execMailRead (node tag addr count : Nat) (autoinc : Bool) (r : MailRx) (ecc : Option Nat) (s : State) : Res :=
  let ⟨x, qfull⟩ := r
  match s.mailTurned node tag .read x qfull with
  | some s' => .next s'
  | none =>
    let s := s.portWake 3
    let p := Port.ring node
    let as := mailAddrs addr count autoinc
    if count = 0 ∨ 85 < count then .next (s.answerMail node tag .read 3 7 0 [])
    else if 0xFFFFF < addr + count - 1 then .next (s.answerMail node tag .read 3 4 0 [])
    else match firstIdx (s.rdRefused p) as 0 with
      | some k => .next (s.answerMail node tag .read 2 k 0 [])
      | none =>
        match ecc.filter (fun k => decide (0x80000 ≤ as.getD k 0)) with
        | some k =>
          let got := s.rdList p (as.take k)
          let s := got.2
          .next ((s.eddyUe p (as.getD k 0)).answerMail node tag .read 6 k 0 [])
        | none =>
          let got := s.rdList p as
          let ws := got.1
          let s := got.2
          .next (s.answerMail node tag .read 0 0 0 ws)

/-- Writes of words to addresses in order (R264). -/
def State.wrList (s : State) (p : Port) : List (Nat × Word) → State
  | [] => s
  | (a, w) :: l => (s.wr p a w).wrList p l

/-- MAIL_WRITE (R264). -/
def execMailWrite (node tag addr : Nat) (ws : List Word) (autoinc : Bool) (r : MailRx) (s : State) : Res :=
  let ⟨x, qfull⟩ := r
  match s.mailTurned node tag .write x qfull with
  | some s' => .next s'
  | none =>
    let s := s.portWake 3
    let p := Port.ring node
    let l := (mailAddrs addr ws.length autoinc).zip ws
    if ws.length = 0 ∨ 85 < ws.length then .next (s.answerMail node tag .write 3 7 0 [])
    else if 0xFFFFF < addr + ws.length - 1 then .next (s.answerMail node tag .write 3 4 0 [])
    else match firstIdx (fun x => s.wrRefused p x.1 x.2) l 0 with
      | some k => .next (s.answerMail node tag .write 2 k 0 [])
      | none => .next ((s.wrList p l).answerMail node tag .write 0 0 0 [])

/-- MAIL_MAILBOX (R584): the command word and its arguments for the node's session. -/
def execMailMailbox (node tag : Nat) (ws : List Word) (r : MailRx) (s : State) : Res :=
  let ⟨x, qfull⟩ := r
  match s.mailTurned node tag .mailbox x qfull with
  | some s' => .next s'
  | none =>
    let s := s.portWake 3
    let p := Port.ring node
    let cmd := ws.getD 0 0
    let m := s.mbxOf p
    if ws.length = 0 ∨ 65 < ws.length ∨ ws.length ≠ bitsOf cmd 14 8 + 1 then .next (s.answerMail node tag .mailbox 3 7 0 [])
    else if m.status = 1 then
      let s := (s.setMbx p { m with overrun := true }).deficit 3
      .next (s.answerMail node tag .mailbox 0 0 0 [(s.mbxOf p).statWord])
    else if s.slots.contains node = false ∧ 4 ≤ s.slots.length then
      .next ((s.deficit 3).answerMail node tag .mailbox 0 0 0 [toWord (stMssBusy + bitsOf cmd 23 16 * 65536)])
    else
      let s : State := { s with slots := if s.slots.contains node then s.slots else s.slots ++ [node] }
      let s := s.setMbx p { m with args := resList (ws.drop 1) }
      let s := s.setRing fun r => { r with mbxWait := Sparse.put r.mbxWait node tag }
      .next (s.submit p cmd (s.roleOf p))

/-- MBX_RING_PENDING (R584): 50 ms after t1 the mail is answered with STATUS PENDING. -/
def execMbxRingPending (node : Nat) (s : State) : Res :=
  if (s.mbxOf (.ring node)).status = 1 then .next (s.ringMbxAnswer (.ring node) []) else .next s

/-- MBX_RESULT_SLOT_EXPIRE (R584): 10 s after the command completed the slot is free. -/
def execMbxResultSlotExpire (node : Nat) (s : State) : Res :=
  if (s.mbxOf (.ring node)).status = 1 then .next s
  else .next { s with slots := s.slots.erase node }

/-- A node that boots with BOOTSEL RING has sent its IMAGE_REQ and takes the image's bulk transfer from node 0 to Eddy word
0 although it is in BOOT (R108, R134, R270; log entry 60). -/
def State.wantsImage (s : State) (node dir dst : Nat) : Bool :=
  decide (s.dev = .boot) && decide (s.mss.run ≠ .none) && decide (s.fld SYS_STRAPS 1 0 = 2) && !s.bit SYS_STRAPS 4 &&
    !s.ring.imgReq && decide (node = 0 ∧ dir = 0 ∧ dst = 0)
/-- The ring controller takes bulk carriers: mail reaches it, and it is not in DEEP (R91, R229). -/
def State.bulkLive (s : State) : Bool := s.addressed && !s.asleep

/-- A region of Eddy words that passes its end (R269). -/
def pastEddy (a len : Nat) : Bool := decide (0x100000 ≤ a) || (decide (len ≤ 0x100000) && decide (0x100000 < a + len))
/-- DETAIL of BAD_REQUEST: 16 plus the offset of the first faulty field of a BULK_OPEN (R269). -/
def bulkOpenBad (session dir rsv2 src dst len rsvD : Nat) : Option Nat :=
  if session = 0 ∨ 255 < session then some 16
  else if 1 < dir then some 17
  else if rsv2 ≠ 0 then some 18
  else if pastEddy src len then some 20
  else if pastEddy dst len then some 23
  else if len = 0 ∨ 0x100000 < len then some 26
  else if rsvD ≠ 0 then some 29
  else none
/-- BULK_OPEN (R268, R269). -/
def execBulkOpen (node tag session dir rsv2 : Nat) (z : BulkSpan) (rsvD : Nat) (r : MailRx) (s : State) : Res :=
  let ⟨src, dst, len⟩ := z
  let ⟨x, qfull⟩ := r
  let turned := if s.bulkLive && s.wantsImage node dir dst && !x.ovf then none
    else s.mailTurned node tag .bulkOpen x qfull
  match turned with
  | some s' => .next s'
  | none =>
    let s := s.portWake 3
    match bulkOpenBad session dir rsv2 src dst len rsvD with
    | some d => .next (s.answerMail node tag .bulkOpen 3 d 0 [])
    | none =>
      if (if dir = 0 then s.ring.bulkRx.isSome else s.ring.bulkTx.isSome) then
        .next (s.answerMail node tag .bulkOpen 1 0 s.queueHint [])
      else
        let b : BulkSt := ⟨session, node, src, dst, len, 0, 0, 0, 0, true⟩
        let s := s.setRing fun r => if dir = 0 then { r with bulkRx := some b } else { r with bulkTx := some b }
        .next ((s.setBit RNG_BULK (if dir = 0 then 1 else 0) true).answerMail node tag .bulkOpen 0 0 0 [])

/-- BULK_ACK (R268): the sender takes the receiver's next expected offset, resends from there what it had sent beyond, and sends
BULK_DONE when all is acknowledged (log entry 60). -/
def execBulkAck (node : Nat) (a : BulkNext) (x : Rx) (s : State) : Res :=
  let ⟨session, next⟩ := a
  if s.bulkLive = false then .next s
  else if x.ovf then .next (s.ringOvf x.west)
  else
    let u := s.portWake 3
    match s.ring.bulkTx with
    | some b =>
      if b.session = session ∧ b.node = node then
        let v := u.setRing fun r => { r with bulkTx := some { b with acked := next, ofs := min b.ofs next } }
        .next (v.when (decide (next = b.len)) fun v => v.requestMail node session .bulkDone
          (bulkDoneBytes session (crc32 (wordsBytes (v.bulkWords b 0 b.len))) b.len))
      else .next u
    | none => .next u

/-- The image that the ring has brought to Eddy word 0 while BOOTSEL RING waits for it is staged (R134, R270). -/
def State.ringStaged (s : State) (b : BulkSt) : State :=
  if s.dev = .boot ∧ s.fld SYS_STRAPS 1 0 = 2 ∧ b.dst = 0 then { s with ringImg := some (3 * b.len) } else s

/-- BULK_DONE (R268, R269): a CRC check of the data, or an abort of the session. A node in BOOT or DEEP that holds no such
session answers it as any mail (R109, R266). -/
def execBulkDone (node tag session : Nat) (z : BulkSum) (r : MailRx) (s : State) : Res :=
  let ⟨crc, words⟩ := z
  let ⟨x, qfull⟩ := r
  let tx := s.ring.bulkTx.any fun b => decide (b.session = session ∧ b.node = node)
  let rx := s.ring.bulkRx.any fun b => decide (b.session = session ∧ b.node = node)
  if s.bulkLive = false ∨ (tx = false ∧ rx = false) ∨ x.ovf ∨ qfull then
    .next ((s.mailTurned node tag .bulkDone x qfull).getD (s.portWake 3))
  else
    let u := s.portWake 3
    if words = 0xFFFFFF then .next ((u.bulkClose tx 8).answerMail node tag .bulkDone 8 2 0 [])
    else match s.ring.bulkRx with
      | none => .next u
      | some b =>
        if rx = false then .next u
        else if b.ofs = b.len ∧ words = b.len ∧ crc32 (wordsBytes (u.eddyWords b.dst b.len)) = crc then
          .next (((u.bulkClose false 0).ringStaged b).answerMail node tag .bulkDone 0 0 0 [])
        else .next ((u.bulkClose false 8).answerMail node tag .bulkDone 8 1 0 [])

/-- IMAGE_REQ (R270): the Headwater opens a bulk transfer of the slot that RING_IMG_SLOT names, or answers NO_IMAGE. While its
one sending session is in use it answers BUSY (R268; log entry 60: R270 does not give this case). -/
def execImageReq (node : Nat) (q : ImageAsk) (s : State) : Res :=
  let ⟨tag, x, qfull⟩ := q
  if s.headwater = false then .next s
  else match s.mailTurned node tag .imageReq x qfull with
  | some s' => .next s'
  | none =>
    let s := s.portWake 3
    let k := s.ring.imgSlot
    if k = 0xFF ∨ (s.slotBytes (k + 1)).isEmpty then .next (s.answerMail node tag .imageReq 7 0 0 [])
    else if s.ring.bulkTx.isSome then .next (s.answerMail node tag .imageReq 1 0 s.queueHint [])
    else
      let len := (u32 (s.slotBytes (k + 1)) 8 + 2) / 3
      let session := tag % 255 + 1
      let s := s.answerMail node tag .imageReq 0 0 0 []
      let s := s.setRing fun r => { r with bulkTx := some ⟨session, node, 0, 0, len, 0, 0, 0, k + 1, false⟩ }
      .next ((s.setBit RNG_BULK 0 true).requestMail node session .bulkOpen (bulkOpenBytes session 0 0 0 len))

/-- RING_BULK (R268): the words at the expected offset enter Eddy; a carrier at another offset does not, but counts. The next
offset expected is acknowledged after every 32 carriers and at the end. -/
def execRingBulk (node : Nat) (c : Bulk) (west ovf : Bool) (s : State) : Res :=
  match s.ring.bulkRx with
  | none => .next s
  | some b =>
    if s.bulkLive = false ∨ b.session ≠ c.session ∨ b.node ≠ node then .next s
    else if ovf then .next (s.ringOvf west)
    else
      let fits := decide (b.ofs = c.ofs ∧ c.ofs + c.ws.length ≤ b.len)
      let n := if fits then c.ofs + c.ws.length else b.ofs
      let ack := decide (32 ≤ b.taken + 1) || c.last || decide (n = b.len)
      let s := (s.when fits fun s => s.setEddyWords (b.dst + c.ofs) c.ws).setRing fun r => { r with
        bulkRx := some { b with ofs := n, taken := if ack then 0 else b.taken + 1 } }
      .next (s.when ack fun s => s.requestMail node c.session .bulkAck (bulkAckBytes c.session n))

/-- BULK_STALL_TIMEOUT (R268): a session without progress for 1 s is aborted. -/
def execBulkStallTimeout (tx : Bool) (s : State) : Res :=
  match (if tx then s.ring.bulkTx else s.ring.bulkRx) with
  | none => .next s
  | some b => .next (if s.asleep then s else (s.bulkClose tx 8).requestMail b.node b.session .bulkDone (bulkDoneBytes b.session 0 0xFFFFFF))

end Sys2Proof.Machine
end

