-- ==== Sys2Proof/Machine/Content.lean ====
section
/-!
DEFINITION. Step 6 of the image verification (R131): the content rules of each section and the cross-section rules. Each
rule is a pair of its code of R132 and whether it is broken. The rules of a section's own chapter, whose code is
SECTION_CONTENT, come first; then the rules with a code of their own, in the order of the codes (log entry 8).
-/
namespace Sys2Proof.Machine

/-- A rule: its code, and whether it is broken. -/
abbrev Rule : Type := Nat × Bool
/-- A rule whose breach is SECTION_CONTENT. -/
def sc (b : Bool) : Rule := (rejContent, b)
/-- A number lies in a range. -/
def inR (lo hi x : Nat) : Bool := decide (lo ≤ x) && decide (x ≤ hi)
/-- The lowest code of the broken rules. -/
def lowestBad (l : List Rule) : Option Nat :=
  l.foldl (fun o r => if r.2 then some (match o with
    | some m => min m r.1
    | none => r.1) else o) none
/-- The reason of a rejection in step 6 of R131. -/
def contentBad (l : List Rule) : Option Nat :=
  if l.any fun r => decide (r.1 = rejContent) && r.2 then some rejContent else lowestBad l
/-- Some element stands twice. -/
def twice : List Nat → Bool
  | [] => false
  | a :: l => l.contains a || twice l
/-- RECORD_COUNT and RECORD_SIZE are as the section's chapter gives them (R127). -/
def headBad (sec : Bytes) (count size : Nat) : Rule := sc (decide (secCount sec ≠ count ∨ secRecSize sec ≠ size))

/-- The record of a channel in an image; zeros without its section (R126, R321). -/
def Image.ch (im : Image) (c : Nat) : Bytes :=
  match im.body (tagIsland (c / 4)) with
  | some b => slice b (48 + 80 * (c % 4)) 80
  | none => []
def Image.func (im : Image) (c : Nat) : Nat := u8 (im.ch c) 0
/-- Field-powered island of an image (R320). -/
def Image.fieldPowered (im : Image) (i : Nat) : Bool := decide (u8 ((im.body (tagIsland i)).getD []) 1 = 1)
/-- The axis records of an image (R447). -/
def Image.axes (im : Image) : List Bytes :=
  match im.sec tagAxes with
  | some b => records 64 (secCount b) (b.drop 16)
  | none => []
/-- The COEFF records of an image. -/
def Image.coeffs (im : Image) : List Bytes :=
  match im.sec tagCoeff with
  | some b => coeffRecs (secCount b) (b.drop 16)
  | none => []
/-- The capture records of an image (R428). -/
def Image.capRecs (im : Image) : List Bytes := im.coeffs.filter fun b => decide (u8 b 0 = 2)
/-- Records of 16 bytes of a section's body. -/
def Image.recs16 (im : Image) (tag : Nat) : List Bytes :=
  let b := (im.body tag).getD []
  records 16 (b.length / 16) b
/-- Line and stream records of EVENT_MAP (R293). -/
def Image.evtRecs (im : Image) (kind : Nat) : List Bytes :=
  ((im.recs16 tagEvents).drop 64).filter fun r => decide (u8 r 0 = kind)
/-- Personality records of one kind (R166, R167, R176). -/
def Image.prs (im : Image) (kind : Nat) : List Bytes := (im.recs16 tagPers).filter fun r => decide (u8 r 0 = kind)
/-- The CAPTURE streams that name a sequence (R293). -/
def Image.capStreams (im : Image) (q : Nat) : List Bytes :=
  (im.evtRecs 2).filter fun r => decide (u8 r 2 = 2) && decide (u8 r 3 = q)

/-- The records of a SAFETY body by kind (R514): length by KIND, at most `n` of them. -/
def safeRecs : Nat → Bytes → List Bytes
  | 0, _ => []
  | n + 1, b =>
    if b.isEmpty then [] else
    let l := if u8 b 0 = 0 then 16 else if u8 b 0 = 1 then 32 else 48
    b.take l :: safeRecs n (b.drop l)
def Image.safRecs (im : Image) (kind : Nat) : List Bytes :=
  (safeRecs 60 ((im.body tagSafety).getD [])).filter fun r => decide (u8 r 0 = kind)
/-- The channels that SAFETY names, with their use: 0 input, 1 output, 2 restart input. -/
def Image.safNamed (im : Image) : List (Nat × Nat) :=
  (im.safRecs 2).flatMap (fun r => ((List.range 4).map fun k => (u8 r (3 + k), 0)).filter fun x => decide (x.1 ≠ 0xFF)) ++
    (im.safRecs 3).flatMap (fun r => [(u8 r 2, 1), (u8 r 3, 1)]) ++
    (im.safRecs 0).flatMap (fun r => if u8 r 1 = 0xFF then [] else [(u8 r 1, 2)])
/-- The SPC of an image: CRC-32 over the SAFETY body (R142). -/
def Image.spc (im : Image) : Nat := crc32 ((im.body tagSafety).getD [])
/-- SPC_DECLARED (R127). -/
def Image.spcDeclared (im : Image) : Nat := u32 ((im.sec tagSafety).getD []) 12

/-- Ranges that a function has (R353, R374). -/
def rangeCount (f : Nat) : Nat :=
  if f = 1 then 5 else if f = 3 then 4 else if f = 5 ∨ f = 0xA ∨ f = 0x10 then 2 else 1
/-- A code lies in what an analogue output accepts (R375). -/
def aoCode (f n : Nat) : Bool :=
  if f = 0x18 then decide (n ≤ 0x7AE147) else decide (0x947AE2 ≤ n) || decide (n ≤ 0x6B851E)
/-- A function that R321 lists, other than 0x00. -/
def knownFunc (f : Nat) : Bool := isInput f || isOutput f
/-- A digital function's part, one rule a field: unused fields are 0 (R352, R353). -/
def digitalBad (r : Bytes) : List Bool :=
  let f := u8 r 0
  let di := decide (f = 1 ∨ f = 2)
  let tst := decide (f = 1) && decide (u8 r 0x15 = 2)
  let diag := if f = 1 ∨ f = 2 ∨ f = 4 then 1 else if f = 8 then 7 else if f = 9 ∨ f = 0xB then 4 else if f = 0xA then 3 else 0
  [decide ((if di ∨ f = 5 then 6400 else 0) < u16 r 0x10),
    decide ((if f = 3 ∨ f = 4 then 3 else 0) < u8 r 0x12),
    (if di then decide (u8 r 0x13 = 1) else decide (u8 r 0x13 ≠ 0)),
    (if di ∧ u8 r 0x13 ≠ 0 then decide (u8 r 0x14 = 0) else decide (u8 r 0x14 ≠ 0)),
    !(if f = 1 then decide (u8 r 0x15 ≤ 2) else if f = 3 then decide (u8 r 0x15 ≤ 1)
      else if f = 4 then decide (u8 r 0x15 ≤ 1 ∨ u8 r 0x15 = 3) else decide (u8 r 0x15 = 0)),
    (if f = 3 then decide (12 ≤ u8 r 0x16 ∨ u8 r 0x16 % 4 = 3) else decide (u8 r 0x16 ≠ 0)),
    decide (u8 r 0x17 &&& diag ≠ u8 r 0x17),
    decide ((if f = 8 ∨ f = 0xA then 100 else 0) < u8 r 0x18),
    decide ((if isDigitalOut f then 1 else 0) < u8 r 0x19),
    (if f = 8 ∨ f = 0xA then !inR 50 600 (u16 r 0x1A) else decide (u16 r 0x1A ≠ 0)),
    (if f = 0xA ∨ tst then !inR 5 50 (u8 r 0x1C) else decide (u8 r 0x1C ≠ 0)),
    (if tst ∨ (f = 0xA ∧ u8 r 2 = 1) then decide (u8 r 0x1D = 0) else decide (u8 r 0x1D ≠ 0)),
    decide ((if f = 4 then 1 else 0) < u8 r 0x1E), !zeros r 0x1F 49]
/-- An analogue function's part (R380): FAIL_LO from 3.0 to 3.8 mA, FAIL_HI from 20.5 to 23.0 mA as codes. -/
def analogueBad (r : Bytes) : List Bool :=
  let f := u8 r 0
  let ai := decide (f = 0x10)
  let ao := decide (f = 0x18 ∨ f = 0x19)
  [decide (u8 r 0x10 &&& (if f = 0x19 then 2 else 3) ≠ u8 r 0x10), !inR 2 100 (u8 r 0x11),
    decide (u8 r 0x12 &&& (if ai then 1 else if f = 0x18 then 2 else 0) ≠ u8 r 0x12),
    !ai && decide (u8 r 0x13 ≠ 0),
    (if ai then !inR 0x0F5C29 0x1374BC (u24 r 0x14) else decide (u24 r 0x14 ≠ 0)),
    (if ai then !inR 0x68F5C2 0x75C28E (u24 r 0x17) else decide (u24 r 0x17 ≠ 0)),
    decide ((if ao then 10000 else 0) < u16 r 0x1A), !zeros r 0x22 46]
/-- The safe state of a record breaks R359 or R375. -/
def safeBad (r : Bytes) : Bool :=
  let f := u8 r 0
  let m := u8 r 8
  let v := u24 r 9
  if isOutput f = false then decide (m ≠ 0 ∨ v ≠ 0)
  else if m = 0 then decide (v ≠ 0)
  else if u8 r 2 = 3 then true
  else if m = 1 then !(decide (f = 9 ∨ f = 0xB) && decide (v ≤ 1))
  else if m = 2 then !(decide (f = 0x18 ∨ f = 0x19) && aoCode f v)
  else !(decide (m = 3 ∨ m = 4) && decide (f = 0x18) && decide (v = 0))
/-- INIT of a record breaks R353 or R375. -/
def initBad (r : Bytes) : Bool :=
  let f := u8 r 0
  let n := u24 r 0xC
  if u8 r 2 ≠ 1 then decide (n ≠ 0)
  else if f = 0x18 ∨ f = 0x19 then !aoCode f n else decide (1 < n)
/-- PRESET, COEFF_SET and PRESET_LOW of a record (R321, R332, R353, R381, R424): PRESET_LOW is GLIDE or POOL where the preset
is RAPIDS or RUN, and 0xFF elsewhere (R332). -/
def chainBad (im : Image) (r : Bytes) : Bool :=
  let set := u8 r 5
  let chain := if isAI (u8 r 0) then
      decide (3 < u8 r 4) || !(decide (set ≤ 1) || im.coeffs.any fun b => decide (u8 b 0 = 1) && decide (u8 b 1 + 0x10 = set))
    else decide (u8 r 4 ≠ 0xFF ∨ set ≠ 0)
  let low := if isAI (u8 r 0) && decide (u8 r 4 ≤ 1) then !inR 2 3 (u8 r 6) else decide (u8 r 6 ≠ 0xFF)
  chain || low
/-- Owners that a function allows (R353, R381). -/
def ownerFits (f o : Nat) : Bool :=
  if isInput f then decide (o = 0) else if f = 8 ∨ f = 0x18 then decide (o = 1)
  else if f = 0xA then decide (o = 1 ∨ o = 3) else decide (o = 1 ∨ o = 2)
/-- The offsets of the channel fields of an axis record (R447): inputs, then outputs. -/
def axisIns : List Nat := [4, 5, 6, 7, 0x17, 0x18, 0x19]
def axisOuts : List Nat := [5, 0x16, 0x2D, 0x2E]
/-- OWNER and AXIS of a record fit its function and the axes (R353, R381, R446, R448). -/
def ownerBad (im : Image) (c : Nat) (r : Bytes) : Bool :=
  let o := u8 r 2
  let named := fun (l : List Nat) => im.axes.any fun a => decide (u8 a 0 = u8 r 3) && l.any fun k => decide (u8 a k = c)
  !ownerFits (u8 r 0) o ||
    (if o = 2 then !named axisOuts else decide (u8 r 3 ≠ 0xFF) && !(isInput (u8 r 0) && !isAI (u8 r 0) && named axisIns))
/-- The rules of one channel record. -/
def cellRules (im : Image) (c : Nat) : List Rule :=
  let r := im.ch c
  let f := u8 r 0
  if f = 0 then [sc (!zeros r 0 80)]
  else if knownFunc f = false then [sc true]
  else
    (if isAnalogue f then analogueBad r else digitalBad r).map sc ++
    [sc (decide (rangeCount f ≤ u8 r 1)), sc (decide (3 < u8 r 2)), sc (inR 8 0xFE (u8 r 3)), sc (safeBad r), sc (initBad r),
      sc (chainBad im r), sc (!(zeros r 7 1 && zeros r 0xF 1)), (rejOwner, ownerBad im c r),
      (rejRange, inR 0 7 (u8 r 3) && !im.axes.any fun a => decide (u8 a 0 = u8 r 3)),
      (rejOwner, decide (f = 0xA ∧ u8 r 2 = 3) && !im.safNamed.any fun x => decide (x = (c, 1)))]

/-- Island-side load of a function in mW (R75). -/
def loadMw (f : Nat) : Nat :=
  if f = 0 then 2 else if f ≤ 2 then 5 else if f = 3 ∨ f = 4 then 20 else if f = 5 then 25 else if f = 0xB then 45
  else if f ≤ 0xA then 8 else if f = 0x10 then 18 else if f = 0x11 then 15 else 12
/-- The rules of an island (R75, R320, R322, R381, R668). -/
def islandRules (im : Image) (i : Nat) : List Rule :=
  match im.sec (tagIsland i) with
  | none => []
  | some sec =>
    let b := sec.drop 16
    let lc := u8 b 2
    let fp := decide (u8 b 1 = 1)
    if b.length ≠ 368 then [sc true, (rejRange, decide (im.minIslands ≤ i))]
    else
      let cells := List.range 4
      [headBad sec 5 0, (rejRange, decide (im.minIslands ≤ i)), sc (decide (u8 b 0 ≠ i)), sc (decide (1 < u8 b 1)),
        sc (if fp then decide (3 < lc) || decide (3 < u8 b 3) || !inR 100 470 (u16 b 4)
          else decide (lc ≠ 0xFF ∨ u8 b 3 ≠ 3 ∨ u16 b 4 ≠ 0)),
        sc (decide (u8 b 6 = 0)), sc (!zeros b 7 41),
        (rejPower, !fp && decide (300 < 95 + (cells.map fun k => loadMw (im.func (4 * i + k))).foldl (· + ·) 0)),
        sc (fp && cells.any fun k =>
          let r := im.ch (4 * i + k)
          if k = lc then decide (u8 r 0 ≠ 0x10 ∨ u8 r 2 ≠ 0 ∨ u8 r 1 ≠ 0) else decide (u8 r 0 ≠ 0)),
        sc (fp && im.safNamed.any fun x => decide (x.1 / 4 = i))] ++
      cells.flatMap fun k => cellRules im (4 * i + k)

/-- The rules of PORTS (R194). -/
def portsRules (im : Image) : List Rule :=
  match im.sec tagPorts with
  | none => []
  | some sec =>
    let b := sec.drop 16
    let es := ((List.range 4).map fun k => u16 b (8 + 2 * k)).filter fun e => decide (e ≠ 0xFFFF)
    let roles := [u8 b 0, u8 b 1, u8 b 2, u8 b 3]
    [sc (decide (b.length ≠ 16)), headBad sec 1 16, sc (roles.any fun r => !inR 1 3 r),
      sc (es.any fun e => decide (e / 16384 = 0) || decide (e / 1024 % 16 ≠ 0)), sc (twice (es.map (· % 1024))),
      sc (decide (1 < u8 b 4 ∨ 1 < u8 b 5) || !zeros b 6 2),
      (rejNoSupervisor, !(roles.contains 3 || es.any fun e => decide (e / 16384 = 3)))]

/-- Event sources that a chapter assigns: those of channels and islands, and the global IDs 448–492 (R284). -/
def assignedSource (n : Nat) : Bool := decide (n ≤ 492)
/-- The island of a channel's or island's source. -/
def sourceIsland (n : Nat) : Nat := if n < 384 then n / 48 else if n < 448 then (n - 384) / 8 else 0
/-- The rules of EVENT_MAP (R292–R294, R176, R668). -/
def eventRules (im : Image) : List Rule :=
  match im.sec tagEvents with
  | none => []
  | some sec =>
    let b := sec.drop 16
    let n := (b.length - 1024) / 16
    let rs := (im.recs16 tagEvents).drop 64
    let ls := im.evtRecs 1
    let ss := im.evtRecs 2
    let irqs := (im.prs 2).map fun r => u8 r 1
    let route := fun (k : Nat) => u16 b (2 * k)
    [sc (decide (b.length < 1024 ∨ b.length % 16 ≠ 0)), headBad sec (512 + n) 0,
      sc ((List.range 512).any fun k => decide (16 ≤ route k)),
      (rejRange, (List.range 512).any fun k => decide (route k % 2 = 1) &&
        (!assignedSource k || decide (im.minIslands ≤ sourceIsland k))),
      sc (rs.any fun r => !inR 1 2 (u8 r 0)), sc (twice (ls.map (u8 · 1))), sc (twice (ss.map (u8 · 1))),
      sc (ls.any fun r => decide (7 < u8 r 1) || decide (31 < u8 r 2) || !inR 1 4000 (u16 r 4) || !inR 1 1024 (u16 r 6) ||
        !zeros r 8 8 || !(decide (u8 r 3 ≤ 1) ||
          ss.any fun t => decide (u8 t 1 + 0x10 = u8 r 3) && decide (u8 t 2 = 1)) ||
        irqs.any fun j => (u8 r 2).testBit j),
      sc (ss.any fun r => decide (7 < u8 r 1) || decide (2 < u8 r 2) || !inR 1 8000 (u16 r 4) ||
        decide (u16 r 6 < 64) || !zeros r 0xA 6 ||
        (if u8 r 2 = 2 then !im.capRecs.any fun c => decide (u8 c 1 = u8 r 3) else decide (u8 r 3 ≠ 0)) ||
        (if u8 r 2 = 1 then inR 1 9 (u16 r 8) else decide (u16 r 8 ≠ 0))),
      sc (twice ((ss.filter fun r => decide (u8 r 2 = 2)).map (u8 · 3)))]

/-- The rules of WATCHDOG (R550). -/
def wdgRules (im : Image) : List Rule :=
  match im.sec tagWdg with
  | none => []
  | some sec =>
    let b := sec.drop 16
    [sc (decide (b.length ≠ 16)), headBad sec 1 16, sc (!inR 1 16000 (u16 b 4)), sc (decide (3 < u8 b 6)),
      sc (decide (1 < u8 b 7)), sc (decide (3 < u8 b 8)), sc (decide (1 < u8 b 9)), sc (!zeros b 0xA 6)]

/-- The ENERGY records of an image: island records, and channel records (R493). -/
def Image.nrgIsl (im : Image) (i : Nat) : Bytes := (im.recs16 tagEnergy).getD i []
def Image.nrgChs (im : Image) : List Bytes := (im.recs16 tagEnergy).drop im.minIslands
/-- A limit of `l` is passed by n / d: 0 means no limit. -/
def excess (n d l : Nat) : Bool := decide (l ≠ 0) && decide (l * d < n)
/-- The safe state of an analogue output passes the limits of an ENERGY record, whose E1_LIM stands at `e`, E100_LIM at
`e + 3` and I_LIM at `i`; `u` is U in 0.1 V (R494). -/
def envelopeBad (u : Nat) (r lim : Bytes) (e i : Nat) : Bool :=
  let n := (safeValue r).toNat
  let m := u8 r 8
  if u8 r 0 = 0x18 ∧ m ≠ 0 then
    excess (u * n * 25) 83886070 (u24 lim e) || excess (u * n * 2500) 83886070 (u24 lim (e + 3)) ||
      excess (n * 25) 8388607 (u16 lim i)
  else if u8 r 0 = 0x19 ∧ m = 2 then
    let a := (safeValue r).toInt.natAbs
    excess (a * 375) 8388607 (u24 lim e) || excess (a * 37500) 8388607 (u24 lim (e + 3))
  else false
/-- The rules of ENERGY, and the envelope (R493, R494, R668). -/
def energyRules (im : Image) : List Rule :=
  match im.sec tagEnergy with
  | none => []
  | some sec =>
    let b := sec.drop 16
    let m := im.minIslands
    let chs := im.nrgChs
    let isl := fun (i : Nat) => im.nrgIsl i
    let u := fun (i : Nat) => if u16 (isl i) 2 = 0 then 320 else u16 (isl i) 2
    [sc (decide (b.length % 16 ≠ 0 ∨ b.length / 16 < m)), headBad sec (b.length / 16) 16,
      sc ((List.range m).any fun i =>
        let r := isl i
        decide (u8 r 0 ≠ i) || decide (1 < u8 r 1) || !(decide (u16 r 2 = 0) || inR 100 330 (u16 r 2)) ||
          decide (2200 < u16 r 4) || !(decide (u8 r 0xE = 0) || inR 50 99 (u8 r 0xE)) || !zeros r 0xF 1),
      sc (!chain (fun x y => decide (x < y)) (chs.map (u8 · 0))),
      sc (chs.any fun r => decide (31 < u8 r 0) || !zeros r 1 1 || decide (1500 < u16 r 2) || !zeros r 0xA 6 ||
        !isLedger (im.ch (u8 r 0))),
      (rejRange, chs.any fun r => decide (m ≤ u8 r 0 / 4) && decide (u8 r 0 ≤ 31)),
      (rejEnvelope, (List.range m).any fun i => im.fieldPowered i && decide (u16 (isl i) 0xC ≠ 0) &&
        decide (100 * u16 (isl i) 0xC < 216 * u16 ((im.body (tagIsland i)).getD []) 4)),
      (rejEnvelope, (List.range (4 * m)).any fun c =>
        envelopeBad (u (c / 4)) (im.ch c) (isl (c / 4)) 6 4 ||
          chs.any fun r => decide (u8 r 0 = c) && envelopeBad (u (c / 4)) (im.ch c) r 4 2)]

/-- The ring configuration of an image, or its defaults (R271). -/
def Image.ringConf (im : Image) : Bytes := (im.body tagRing).getD ringDefault
/-- Two word regions overlap. -/
def overlaps (a n b m : Nat) : Bool := decide (a < b + m) && decide (b < a + n)
/-- The rules of COEFF (R423, R424, R428). -/
def coeffRules (im : Image) : List Rule :=
  match im.sec tagCoeff with
  | none => []
  | some sec =>
    let b := sec.drop 16
    let rs := im.coeffs
    let sets := rs.filter fun r => decide (u8 r 0 = 1)
    let caps := im.capRecs
    let rc := im.ringConf
    let region := fun (r : Bytes) => (u24 r 8, u24 r 0xB)
    let setBad := fun (r : Bytes) =>
      let t := (List.range 8).foldl (fun n k => n + u8 r (4 + k)) 0
      decide (7 < u8 r 1) || decide (15 < u8 r 3) || !zeros r 0xC 4 || ((List.range 8).any fun k => !inR 1 47 (u8 r (4 + k))) ||
        ((List.range t).any fun j => decide (u24 r (16 + 3 * j) / 524288 % 32 ≠ 0) &&
          decide (u24 r (16 + 3 * j) / 524288 % 32 ≠ 31)) || !zeros r (16 + 3 * t) (r.length - 16 - 3 * t)
    let capBad := fun (r : Bytes) =>
      decide (15 < u8 r 1) || decide (2 < u8 r 2) || decide (12 ≤ u8 r 3) ||
        ((u8 r 3).testBit 0 && decide (u8 r 2 ≠ 0)) || decide (u32 r 4 = 0) ||
        ((List.range 32).any fun c => (u32 r 4).testBit c && !isAI (im.func c)) || decide (0x100000 ≤ u24 r 8) ||
        !inR 64 0x100000 (u24 r 0xB) || decide (0x100000 < u24 r 8 + u24 r 0xB) || !zeros r 0xE 2
    let fifos := fun (q : Nat) => (im.prs 1).filter fun p => decide (prCode p = 9) && decide (prTarget p % 256 = q)
    [headBad sec (secCount sec) 0, sc (decide ((rs.map (·.length)).foldl (· + ·) 0 ≠ b.length)),
      sc (decide (rs.length ≠ secCount sec)), sc (rs.any fun r => !inR 1 2 (u8 r 0)), sc (twice (sets.map (u8 · 1))),
      sc (twice (caps.map (u8 · 1))), sc (sets.any setBad), sc (caps.any capBad),
      (rejCoeff, sets.any fun r => (recStages r).any fun st => !st.unchecked && decide (2097152 < l1Norm st.taps)),
      (rejCoeff, !im.unchecked && sets.any fun r => decide (u8 r 2 ≠ 0)),
      sc (caps.zipIdx.any fun x => caps.zipIdx.any fun y => decide (x.2 < y.2) &&
        overlaps (region x.1).1 (region x.1).2 (region y.1).1 (region y.1).2),
      sc (caps.any fun r => overlaps (region r).1 (region r).2 (u24 rc 0xC) 131072 ||
        overlaps (region r).1 (region r).2 (u24 rc 0xF) (u24 rc 0x12)),
      sc (caps.any fun r =>
        let k := u8 r 3 / 4 % 4
        let n := (im.capStreams (u8 r 1)).length
        let p := (fifos (u8 r 1)).length
        (if k = 1 then decide (n ≠ 1) else decide (n ≠ 0)) || (if k = 2 then decide (p = 0) else decide (p ≠ 0))),
      (rejRange, caps.any fun r => (List.range 32).any fun c => (u32 r 4).testBit c && decide (im.minIslands ≤ c / 4))]

/-- The rules of one axis record (R447, R448). -/
def axisBad (im : Image) (r : Bytes) : Bool :=
  let f := fun (k : Nat) => im.func (u8 r k)
  let fit := fun (k : Nat) (p : Nat → Bool) => decide (u8 r k = 0xFF) || p (f k)
  let own := fun (k : Nat) => decide (u8 (im.ch (u8 r k)) 2 = 2) && decide (u8 (im.ch (u8 r k)) 3 = u8 r 0)
  let pulse := fun (k : Nat) => decide (f k = 4) ||
    (decide (f k = 3) && decide (u8 (im.ch (u8 r k)) 0x16 = 0))
  let isl := fun (k : Nat) => u8 r k / 4
  let src := u8 r 1
  let kHz := [100, 250, 500, 1000, 1500, 2000].getD (u8 r 0x13) 1
  let modulus := u24 r 8 + 1
  let scale := (BitVec.ofNat 8 (u8 r 0xB)).toInt
  let di := fun (n : Nat) => decide (n = 1 ∨ n = 2)
  let fields := [decide (u8 r 0 ≤ 7), decide (src ≤ 3), decide (u8 r 2 < 8), decide (u8 r 2 % 4 ≠ 3), inR 1 64 (u8 r 3),
    decide (-8 ≤ scale ∧ scale ≤ 15), inR 1 340 (u16 r 0xC), decide (u8 r 0xF ≤ 1), inR 8 32 (u8 r 0x10),
    inR 1 24 (u8 r 0x11), decide (u8 r 0x11 ≤ u8 r 0x10), decide (u8 r 0x12 ≤ 1), decide (u8 r 0x13 ≤ 5),
    decide (2 ≤ u8 r 0x14), inR 15 63 (u8 r 0x15), decide (u8 r 0x1A < 16), decide (1 ≤ u8 r 0x1B),
    decide (1 ≤ u8 r 0x1C), decide (1 ≤ u8 r 0x1D), decide (1 ≤ u8 r 0x1E), decide (u8 r 0x1F < 16),
    inR 1 0x6B851E (u24 r 0x20), inR 1 10000 (u16 r 0x23), inR 1 3600 (u16 r 0x25), decide (u24 r 0x27 < modulus),
    decide (1 ≤ u24 r 0x30), decide (u24 r 0x30 ≤ u24 r 0x33), zeros r 0x2F 1, zeros r 0x36 10]
  let chans := axisIns ++ [0x16, 0x2D, 0x2E]
  fields.any (!·) || chans.any (fun k => inR 32 0xFE (u8 r k)) ||
    chans.any (fun k => decide (u8 r k ≤ 31) && decide (u8 (im.ch (u8 r k)) 3 ≠ u8 r 0)) ||
    (decide (src = 1) && !(pulse 4 && pulse 5 && decide (isl 4 = isl 5) &&
      (decide (u8 r 6 = 0xFF) || (pulse 6 && decide (isl 6 = isl 4))))) ||
    (decide (src = 2) && decide (u8 r 7 = 0xFF)) || !fit 7 (fun n => decide (n = 5)) ||
    (decide (src = 3) && !(decide (f 4 = 4) && decide (f 5 = 0xB) && own 5 && decide (isl 4 = isl 5) &&
      decide (modulus = 2 ^ u8 r 0x11) && decide (u8 r 0x10 - u8 r 0x11 ≤ 23) &&
      decide ((u8 r 0x10 + 1) * 1000 + u8 r 0x15 * kHz ≤ u8 r 0x14 * 10 * kHz))) ||
    !(decide (u8 r 0x16 = 0xFF) || (decide (f 0x16 = 0x19) && own 0x16)) ||
    !(fit 0x17 di && fit 0x18 di && fit 0x19 di) ||
    !((decide (u8 r 0x2D = 0xFF) && decide (u8 r 0x2E = 0xFF)) ||
      (decide (src ≠ 0) && decide (f 0x2D = f 0x2E) && decide (f 0x2D = 0xB ∨ f 0x2D = 9) && own 0x2D && own 0x2E &&
        decide (isl 0x2D = isl 0x2E)))
/-- The rules of AXES (R446–R448, R668). -/
def axesRules (im : Image) : List Rule :=
  match im.sec tagAxes with
  | none => []
  | some sec =>
    let n := (sec.length - 16) / 64
    [sc (decide ((sec.length - 16) % 64 ≠ 0) || !inR 1 8 n), headBad sec n 64, sc (twice (im.axes.map (u8 · 0))),
      sc (im.axes.any (axisBad im)),
      (rejRange, im.axes.any fun r => (axisIns ++ axisOuts).any fun k =>
        decide (u8 r k ≤ 31) && decide (im.minIslands ≤ u8 r k / 4))]

/-- The channels and the island that a native address names (R4, R668): bits select cells of ISLi_DIN and ISLi_DOUT. -/
def addrChans (a bits : Nat) : List Nat :=
  if 0x01000 ≤ a ∧ a < 0x01800 ∧ (a % 256 = 0x10 ∨ a % 256 = 0x11) then
    ((List.range 4).filter fun k => bits.testBit k || bits.testBit (4 + k)).map fun k => 4 * ((a - 0x01000) / 256) + k
  else if 0x02000 ≤ a ∧ a < 0x03000 then [(a - 0x02000) / 128]
  else if 0x03000 ≤ a ∧ a < 0x03800 then [(a - 0x03000) / 64]
  else if 0x04800 ≤ a ∧ a < 0x04A00 ∧ 0x10 ≤ a % 64 ∧ a % 64 < 0x20 then [4 * ((a - 0x04800) / 64) + (a % 64 - 0x10) / 4]
  else if 0x04800 ≤ a ∧ a < 0x04A00 ∧ 0x28 ≤ a % 64 ∧ a % 64 < 0x34 then [4 * ((a - 0x04800) / 64) + (a % 64 - 0x28) / 3]
  else []
/-- An address lies in a block of an island at or above MIN_ISLANDS, or of an axis that AXES does not hold (R132, R668). -/
def addrAbsent (im : Image) (a : Nat) : Bool := match addrIsl a with
  | some i => decide (im.minIslands ≤ i)
  | none => decide (0x04000 ≤ a ∧ a < 0x04800) && !im.axes.any fun r => decide (u8 r 0 = (a - 0x04000) / 256)
where
  /-- the island whose blocks an address lies in -/
  addrIsl (a : Nat) : Option Nat :=
    if 0x01000 ≤ a ∧ a < 0x01800 then some ((a - 0x01000) / 256)
    else if 0x02000 ≤ a ∧ a < 0x03000 then some ((a - 0x02000) / 512)
    else if 0x03000 ≤ a ∧ a < 0x03800 then some ((a - 0x03000) / 256)
    else if 0x04800 ≤ a ∧ a < 0x04A00 then some ((a - 0x04800) / 64)
    else none

/-- Flags that R168 allows on a code. -/
def flagsAllowed (c : Nat) : Nat :=
  (if c = 7 ∨ c = 0xB then 0 else 1) + (if c = 3 ∨ c = 4 then 2 else 0) + (if c = 8 then 4 else 0) +
    (if c = 0xA then 24 else 0)
/-- The rules of one register record (R167–R169, R172). -/
def prBad (w nat : Nat) (rs : List Bytes) (r : Bytes) : Bool :=
  let c := prCode r
  let t := prTarget r
  let ip := rs.find? fun q => decide (prCode q = 7) && decide (prOffset q = prInit r)
  !inR 1 0xB c || inR nat (nat + 7) (prOffset r) || (decide (w = 16) && decide (prOffset r % 2 = 1)) ||
    decide (400 < u16 r 4) || decide (u16 r 6 &&& flagsAllowed c ≠ u16 r 6) || decide (23 < prShift r) ||
    decide (2 ^ w ≤ prMask r) || decide (16777216 ≤ prMask r * 2 ^ prShift r) ||
    (if t = 0xFFFFFF then !decide (c = 1 ∨ c = 7 ∨ c = 0xB) else decide (0x100000 ≤ t) || decide (c = 7 ∨ c = 0xB)) ||
    ((inR 2 6 c || decide (c = 0xA)) && decide (prInit r ≠ 0)) ||
    (decide (c = 9) && decide (15 < t % 256)) ||
    (decide (c = 7) && decide ((prMask r + 1) &&& prMask r ≠ 0)) ||
    (decide (c = 8) && match ip with
      | some q => decide (0xFFFFF < t + prMask q)
      | none => true)
/-- The rules of PERSONALITY (R166–R172, R176, R668); `width` is the width sampled from LMODE1. -/
def persRules (im : Image) (width : Nat) : List Rule :=
  match im.sec tagPers with
  | none => []
  | some sec =>
    let all := im.recs16 tagPers
    let h := all.headD []
    let rs := im.prs 1
    let irqs := im.prs 2
    let snaps := rs.filter fun r => decide (prCode r = 0xA)
    let at' := fun (o : Nat) => rs.find? fun r => decide (prOffset r = o)
    let irqBad := fun (r : Bytes) =>
      let st := (at' (u16 r 2)).getD []
      decide (3 < u8 r 1) || !inR 2 4 (prCode st) ||
        !(decide (u16 r 4 = 0xFFFF) || (at' (u16 r 4)).any fun e => decide (prCode e = 1 ∨ prCode e = 5)) ||
        decide (2 < u8 r 6) || decide (2 < u8 r 7) || !zeros r 9 1 || (decide (u8 r 6 = 1) && !inR 5 6000 (u16 r 0xA)) ||
        !zeros r 0xC 4 || (decide (u8 r 7 = 2) && decide (0xFF < u8 r 8 + (prMask st).log2))
    [headBad sec all.length 16, sc (decide ((sec.length - 16) % 16 ≠ 0)), sc (all.any fun r => decide (2 < u8 r 0)),
      sc (decide (all.length = 0) || decide (u8 h 0 ≠ 0) || decide ((im.prs 0).length ≠ 1)),
      sc (decide (u8 h 1 ≠ width) || decide (u16 h 2 % 8 ≠ 0) || decide (3 < u8 h 6) || !zeros h 7 1 ||
        !inR 1 64 (u8 h 8) || !inR 1 100 (u8 h 9) || decide (u8 h 0xA < 5) || !inR 1 100 (u8 h 0xB) ||
        !(decide (u8 h 0xC = 0) || inR 10 200 (u8 h 0xC)) || !inR 1 100 (u8 h 0xD) || !zeros h 0xE 2),
      sc (decide (512 < rs.length) || decide (4 < irqs.length) || twice (irqs.map (u8 · 1))),
      sc (twice (rs.map prOffset)), sc (rs.any (prBad width (u16 h 2) rs)), sc (irqs.any irqBad),
      sc (snaps.any fun r => decide ((snaps.filter fun q =>
        decide (prTarget q = prTarget r) && (prFlag q 3 || prFlag q 4)).length ≠ 1)),
      (rejRange, rs.any fun r => decide (prCode r ≠ 9) && decide (prTarget r ≠ 0xFFFFFF) && addrAbsent im (prTarget r))]

/-- The rules of one MODBUS_MAP record (R214). -/
def modBad (r : Bytes) : Bool :=
  let t := u8 r 0
  let form := u8 r 1
  let n := u16 r 4
  let sh := u8 r 6
  decide (3 < t) || (if t ≤ 1 then decide (form ≠ 0) else !inR 1 3 form) ||
    !(if form = 0 then inR 1 24 n && decide (sh + n ≤ 24) else if form = 1 then decide (n = 1) && decide (sh ≤ 8)
      else decide (n = 2) && decide (sh = 0)) ||
    decide (0xFEFF < u16 r 2 + n - 1) || decide (0xFEFF < u16 r 2) || decide (3 < u8 r 7) ||
    ((u8 r 7).testBit 0 && decide (form ≠ 0)) || ((u8 r 7).testBit 1 && decide (t = 1 ∨ t = 2)) ||
    decide (0x100000 ≤ u24 r 8) || !zeros r 0xB 5
/-- The rules of MODBUS_MAP (R214, R668). -/
def modbusRules (im : Image) : List Rule :=
  match im.sec tagModbus with
  | none => []
  | some sec =>
    let rs := im.recs16 tagModbus
    let n := (sec.length - 16) / 16
    [sc (decide ((sec.length - 16) % 16 ≠ 0)), sc (decide (1024 < n)), headBad sec n 16, sc (rs.any modBad),
      sc (rs.zipIdx.any fun x => rs.zipIdx.any fun y => decide (x.2 < y.2) && decide (u8 x.1 0 = u8 y.1 0) &&
        overlaps (u16 x.1 2) (u16 x.1 4) (u16 y.1 2) (u16 y.1 4)),
      (rejRange, rs.any fun r => addrAbsent im (u24 r 8))]

/-- The PD map entries of an image (R271). -/
def Image.pdEntries (im : Image) : List Bytes :=
  match im.sec tagRing with
  | some sec => records 4 (secCount sec - 1) (sec.drop 48)
  | none => []
/-- The rules of RING (R271, R668); `hw` is RING_HEADWATER. -/
def ringRules (im : Image) (hw : Bool) : List Rule :=
  match im.sec tagRing with
  | none => []
  | some sec =>
    let b := sec.drop 16
    let n := secCount sec - 1
    let isHw := decide (u8 b 0 = 1) || (decide (u8 b 0 = 0xFF) && hw)
    let es := im.pdEntries
    [sc (decide (secRecSize sec ≠ 0) || decide (secCount sec = 0) || decide (b.length ≠ 32 + (4 * n + 15) / 16 * 16) ||
        !zeros b (32 + 4 * n) (b.length - 32 - 4 * n)),
      sc (decide (u8 b 0 ≠ 0xFF) && decide (u8 b 0 ≠ b2n hw)), sc (decide (3 < u8 b 1)),
      sc (if isHw then !inR 250 16000 (u16 b 4) || decide (64 < u8 b 6) else decide (u16 b 4 ≠ 0)),
      sc (!inR 1 8 (u8 b 7)), sc (decide (62 < u8 b 8 ∨ 62 < u8 b 9)), sc (decide (u8 b 8 + u8 b 9 ≠ n)),
      sc (decide (u24 b 0x12 % 4 ≠ 0) || !inR 4 65536 (u24 b 0x12)), sc (!zeros b 0x15 11),
      sc (es.zipIdx.any fun x => decide (u8 x.1 3 ≠ b2n (decide (u8 b 8 ≤ x.2))) || decide (0x100000 ≤ u24 x.1 0)),
      sc (decide (0x100000 < u24 b 0xC + 131072) || decide (0x100000 < u24 b 0xF + u24 b 0x12) ||
        overlaps (u24 b 0xC) 131072 (u24 b 0xF) (u24 b 0x12)),
      (rejRange, es.any fun r => addrAbsent im (u24 r 0))]

/-- The rules of one safety function (R514, R515); `pairs` are the output pairs defined. -/
def fnBad (im : Image) (pairs : List Nat) (r : Bytes) : Bool :=
  let t := u8 r 2
  let pol := u8 r 7
  let chs := (List.range 4).map fun k => u8 r (3 + k)
  decide (15 < u8 r 1) || !inR 1 4 t || chs.any (inR 32 0xFE) || decide (15 < pol) || !inR 1 256 (u16 r 8) ||
    !inR 10 3000 (u16 r 0xA) || decide (1 < u8 r 0xC ∨ 1 < u8 r 0xD) || !zeros r 0xF 33 ||
    ((List.range 8).any fun p => (u8 r 0xE).testBit p && !pairs.contains p) ||
    (if t = 3 then chs.contains 0xFF || decide (pol % 2 = pol / 2 % 2) || decide (pol / 4 % 2 = pol / 8 % 2) ||
        decide (u8 r 0xC = 1)
      else decide (u8 r 3 = 0xFF ∨ u8 r 4 = 0xFF ∨ u8 r 5 ≠ 0xFF ∨ u8 r 6 ≠ 0xFF ∨ 3 < pol)) ||
    (decide (t = 1) && decide (u8 r 0xC = 1)) ||
    (decide (t = 4) && (decide (4 < u16 r 8) || chs.any fun c => decide (c ≤ 31) && decide (u8 (im.ch c) 0x15 = 2)))
/-- A channel that SAFETY names does not fit its use (R515). -/
def useBad (im : Image) (x : Nat × Nat) : Bool :=
  let r := im.ch x.1
  let f := u8 r 0
  if x.2 = 0 then !((decide (f = 1 ∧ u8 r 1 ≤ 1) || decide (f = 2)) && decide (u8 r 2 = 0) && decide (u16 r 0x10 = 0) &&
    decide (u8 r 0x13 = 0) && decide (u8 r 0x15 = 0 ∨ u8 r 0x15 = 2))
  else if x.2 = 1 then !decide (f = 0xA ∧ u8 r 2 = 3 ∧ u8 r 8 = 0 ∧ u8 r 0x1D = 0 ∧ u8 r 0x1C ≤ 50)
  else !decide (f = 1 ∧ u8 r 2 = 0)
/-- A cell copy differs from the channel's record (R143, R514). -/
def copyBad (im : Image) (r : Bytes) : Bool :=
  let c := im.ch (u8 r 1)
  decide (slice r 2 3 ≠ slice c 0 3) || decide (slice r 6 4 ≠ slice c 8 4) || decide (slice r 0xA 15 ≠ slice c 0x10 15)
/-- Two channels lie in one island. -/
def oneIsland (a b : Nat) : Bool := decide (a ≤ 31) && decide (b ≤ 31) && decide (a / 4 = b / 4)
/-- The rules of SAFETY (R142, R143, R514, R515, R668). -/
def safetyRules (im : Image) : List Rule :=
  match im.sec tagSafety with
  | none => [(rejSpcDeclared, im.hasSafety)]
  | some sec =>
    let b := sec.drop 16
    let rs := safeRecs 60 b
    let cells := im.safRecs 1
    let fns := im.safRecs 2
    let prs := im.safRecs 3
    let named := im.safNamed
    let used := named.map (·.1)
    let copies := cells.map (u8 · 1)
    let rising := fun (l : List Bytes) => chain (fun x y => decide (x < y)) (l.map (u8 · 1))
    [headBad sec rs.length 0, sc (decide ((rs.map (·.length)).foldl (· + ·) 0 ≠ b.length)),
      sc (rs.any fun r => decide (3 < u8 r 0) ||
        decide (r.length ≠ if u8 r 0 = 0 then 16 else if u8 r 0 = 1 then 32 else 48)),
      sc (!chain (fun x y => decide (x ≤ y)) (rs.map (u8 · 0)) || decide ((im.safRecs 0).length ≠ 1)),
      sc (!(rising cells && rising fns && rising prs)),
      sc ((im.safRecs 0).any fun r => inR 32 0xFE (u8 r 1) || !zeros r 2 14),
      sc (cells.any fun r => decide (31 < u8 r 1) || !zeros r 5 1 || !zeros r 0x19 7),
      sc (fns.any (fnBad im (prs.map (u8 · 1)))),
      sc (prs.any fun r => decide (7 < u8 r 1) || decide (31 < u8 r 2 ∨ 31 < u8 r 3) || decide (30000 < u16 r 4) ||
        !inR 2 8 (u8 r 6) || !zeros r 7 41 || !fns.any fun f => (u8 f 0xE).testBit (u8 r 1)),
      sc (twice used || used.any (fun c => !copies.contains c) || copies.any fun c => !used.contains c),
      sc (named.any (useBad im)), (rejRange, used.any fun c => decide (c ≤ 31) && decide (im.minIslands ≤ c / 4)),
      (rejPlacement, fns.any fun r => oneIsland (u8 r 3) (u8 r 4) || (decide (u8 r 2 = 3) && oneIsland (u8 r 5) (u8 r 6))),
      (rejPlacement, prs.any fun r => oneIsland (u8 r 2) (u8 r 3)), (rejSafetyCell, cells.any (copyBad im)),
      (rejSpcDeclared, !im.hasSafety || decide (im.spc ≠ im.spcDeclared))]

/-- Bytes of the sections with LOAD (R123, R126). -/
def Image.loadedBytes (im : Image) : Nat :=
  (im.dir.filter fun e => (secFlags e.tag).isSome && e.flags.testBit 0).foldl (fun n e => n + e.len) 0
/-- Step 6 of R131: the code of the rejection, or none. -/
def checkContent (im : Image) (width : Nat) (hw : Bool) : Option Nat :=
  contentBad ([(rejRange, decide (im.serial = 0)), (rejTooLarge, decide (245760 < im.loadedBytes))] ++
    (List.range 8).flatMap (islandRules im) ++ portsRules im ++ eventRules im ++ wdgRules im ++ energyRules im ++
    coeffRules im ++ axesRules im ++ persRules im width ++ modbusRules im ++ ringRules im hw ++ safetyRules im)

/-- The bytes of an image as they verify through steps 1–6 (R131): the image, or the first failing check's code. -/
def verifyImage (bs : Bytes) (fwMajor fwMinor : Nat) (keys : List (Option PubKey)) (width : Nat) (hw : Bool) :
    Except Nat Image :=
  match checkOuter bs 8 fwMajor fwMinor keys with
  | some c => .error c
  | none => match checkContent (readImage bs) width hw with
    | some c => .error c
    | none => .ok (readImage bs)

/-- The scope rules of R137 between the pitched image and a re-pitch image of an island. -/
def repitchScope (old new : Image) (i : Nat) (locked : Bool) : Option Nat :=
  let same := fun (o n : Nat) => decide (slice old.header o n = slice new.header o n)
  let entry := fun (a b : DirEntry) =>
    decide (a.tag = b.tag) && decide (a.ver = b.ver) && decide (a.flags = b.flags) && decide (a.off = b.off) &&
      (decide (a.tag = tagNote) || decide (a.len = b.len)) &&
      (decide (a.tag = tagNote ∨ a.tag = tagIsland i) || decide (a.crc = b.crc))
  let refs := old.axes.flatMap (fun r => (axisIns ++ axisOuts).map (u8 r)) ++
    (old.prs 1).flatMap (fun r => if prCode r = 9 ∨ prTarget r = 0xFFFFFF then []
      else addrChans (prTarget r) (prMask r * 2 ^ prShift r)) ++
    (old.recs16 tagModbus).flatMap (fun r =>
      addrChans (u24 r 8) (if u8 r 1 = 0 then (2 ^ u16 r 4 - 1) * 2 ^ u8 r 6
        else if u8 r 1 = 1 then 65535 * 2 ^ u8 r 6 else 16777215)) ++
    old.pdEntries.flatMap (fun r => addrChans (u24 r 0) 16777215) ++ old.nrgChs.map (u8 · 0)
  if ¬ (same 0 8 ∧ same 0xC 4 ∧ same 0x13 9 ∧ same 0x20 12 ∧ same 0x30 16) then some rejScope
  else if old.dir.length ≠ new.dir.length ∨ ¬ (old.dir.zip new.dir).all (fun x => entry x.1 x.2) then some rejScope
  else if old.secs.any (fun x => decide (x.1 ≠ tagNote) && decide (x.1 ≠ tagIsland i) &&
      decide (new.sec x.1 ≠ some x.2)) then some rejScope
  else if locked then some rejRepSafety
  else if refs.any (fun c => decide (c ≤ 31) && decide (c / 4 = i) &&
      decide (slice (old.ch c) 0 2 ≠ slice (new.ch c) 0 2)) then some rejReferenced
  else none

end Sys2Proof.Machine
end

