-- ==== Sys2Proof/Machine/Maps.lean ====
section
/-!
DEFINITION. What the IMG registers take from an image: the registers of an island at q4 and of the whole device at p5
(R10, R135, R400, R569), the operating registers' initial values (R111, R400), and the roles in force (R194, R195).
-/
namespace Sys2Proof.Machine

/-- Field [hi:lo] of a register, and the value it takes. -/
structure Put where
  addr : Nat
  hi : Nat
  lo : Nat
  val : Nat
/-- Store the fields of a list, in order. -/
def State.putAll (s : State) (l : List Put) : State := l.foldl (fun s p => s.setFld p.addr p.hi p.lo p.val) s

/-- The IMG registers of a channel (R366, R400, R437). -/
def Image.chPuts (im : Image) (c : Fin 32) : List Put :=
  let r := im.ch c.val
  let f := u8 r 0
  let ana := isAnalogue f
  let none' := decide (u8 r 3 = 0xFF)
  [⟨CH c 7, 21, 0, f + 256 * u8 r 1 + 65536 * u8 r 2 + (if none' then 0 else 262144 * (u8 r 3 % 8) + 2097152)⟩,
    ⟨CH c 8, 2, 0, u8 r 8⟩, ⟨CH c 9, 23, 0, (safeValue r).toNat⟩,
    ⟨CH c 0x37, 23, 0, if f = 0x10 then u24 r 0x14 else 0x126E97⟩,
    ⟨CH c 0x38, 23, 0, if f = 0x10 then u24 r 0x17 else 0x6B851E⟩,
    ⟨CH c 0x39, 23, 0, if ana then u24 r 0x1C else 0⟩, ⟨CH c 0x3A, 23, 0, if ana then u24 r 0x1F else 0⟩,
    ⟨FLT c 8, 4, 0, if isAI f then u8 r 4 % 4 + (if u8 r 6 = 0xFF then 0 else 4 * (u8 r 6 % 4) + 16) else 0⟩,
    ⟨FLT c 8, 15, 8, if isAI f then u8 r 5 else 0⟩]
/-- SAFETY_LOCK of an island: the SAFETY section names one of its channels (R137). -/
def Image.locks (im : Image) (i : Nat) : Bool := im.safNamed.any fun x => decide (x.1 ≤ 31) && decide (x.1 / 4 = i)
/-- The IMG registers of an island and its channels (R146, R339). -/
def Image.islPuts (im : Image) (i : Fin 8) : List Put :=
  [⟨ISL i 0, 2, 2, b2n (im.fieldPowered i.val)⟩, ⟨ISL i 8, 3, 3, b2n (im.locks i.val)⟩] ++
    (islChans i).flatMap im.chPuts

/-- The event map and the Weir's budgets (R292–R294, R307, R308). -/
def Image.evtPuts (im : Image) : List Put :=
  let b := (im.body tagEvents).getD []
  let find := fun (kind k : Nat) => (im.evtRecs kind).find? fun r => decide (u8 r 1 = k)
  (List.range 512).flatMap (fun n =>
    let r := u16 b (2 * n)
    [⟨EVT_SRC0 + n, 15, 15, r % 2⟩, ⟨EVT_SRC0 + n, 18, 16, r / 2 % 8⟩]) ++
  (List.finRange 8).flatMap (fun k => match find 1 k.val with
    | some r => [⟨EVT_LCFG k, 4, 0, u8 r 2⟩, ⟨EVT_LCFG k, 15, 8, u8 r 3⟩, ⟨WEIR_LCFG k, 11, 0, u16 r 4⟩,
        ⟨WEIR_LCFG k, 22, 12, u16 r 6⟩]
    | none => [⟨EVT_LCFG k, 4, 0, 0⟩, ⟨EVT_LCFG k, 15, 8, 0⟩, ⟨WEIR_LCFG k, 11, 0, 16⟩, ⟨WEIR_LCFG k, 22, 12, 64⟩]) ++
  (List.finRange 8).flatMap (fun k =>
    let r := (find 2 k.val).getD [0, 0, 0, 0, 0, 2, 0, 4, 0, 0]
    [⟨SLC k 6, 9, 0, u8 r 2 + 4 * u8 r 3⟩, ⟨SLC k 7, 15, 0, u16 r 8⟩, ⟨SLC k 8, 12, 0, u16 r 4⟩, ⟨SLC k 9, 15, 0, u16 r 6⟩])
/-- The energy limits (R493, R504). -/
def Image.nrgPuts (im : Image) : List Put :=
  (List.finRange 8).flatMap (fun i =>
    let r := if i.val < im.minIslands then im.nrgIsl i.val else []
    [⟨NRG i 0x20, 15, 0, u8 r 1 % 2 + 256 * u8 r 0xE⟩, ⟨NRG i 0x21, 23, 0, u16 r 2⟩, ⟨NRG i 0x22, 23, 0, u16 r 4⟩,
      ⟨NRG i 0x23, 23, 0, u24 r 6⟩, ⟨NRG i 0x24, 23, 0, u24 r 9⟩, ⟨NRG i 0x25, 23, 0, u16 r 0xC⟩]) ++
  (List.finRange 32).flatMap (fun c =>
    let r := (im.nrgChs.find? fun r => decide (u8 r 0 = c.val)).getD []
    let a := NRG (chIsl c) (0x28 + 3 * (chCell c).val)
    [⟨a, 23, 0, u16 r 2⟩, ⟨a + 1, 23, 0, u24 r 4⟩, ⟨a + 2, 23, 0, u24 r 7⟩])
/-- The capture sequences (R428, R438). -/
def Image.capPuts (im : Image) : List Put :=
  (List.finRange 16).flatMap fun q =>
    let r := (im.capRecs.find? fun r => decide (u8 r 1 = q.val)).getD []
    let n := ((List.range 32).filter fun c => (u32 r 4).testBit c).length
    let w := if (u8 r 3).testBit 0 then 2 * n else n
    [⟨CAP q 0xB, 12, 0, u8 r 2 + 4 * (u8 r 3 % 16) + 64 * w⟩, ⟨CAP q 0xC, 19, 0, u24 r 8⟩, ⟨CAP q 0xD, 20, 0, u24 r 0xB⟩,
      ⟨CAP q 0xE, 23, 0, u24 r 4⟩, ⟨CAP q 0xF, 7, 0, u8 r 7⟩]
/-- The axes (R447, R485). -/
def Image.posPuts (im : Image) : List Put :=
  (List.finRange 8).flatMap fun a => match im.axes.find? fun r => decide (u8 r 0 = a.val) with
    | some r => [⟨POS a 0x20, 17, 0, u8 r 1 + 4 * (u8 r 2 % 8) + 32 * (u8 r 3 - 1) + 2048 * (u8 r 0xB % 32) +
        65536 * b2n ((u8 r 0x1F).testBit 3) + 131072 * b2n ((u8 r 0x1A).testBit 3)⟩,
        ⟨POS a 0x21, 23, 0, u24 r 8⟩, ⟨POS a 0x22, 23, 0, u24 r 0x30⟩, ⟨POS a 0x23, 23, 0, u24 r 0x33⟩]
    | none => [⟨POS a 0x20, 17, 0, 0⟩, ⟨POS a 0x21, 23, 0, 0⟩, ⟨POS a 0x22, 23, 0, 0⟩, ⟨POS a 0x23, 23, 0, 0⟩]
/-- The ports: the personality's header, SPI_OPTIONS and MOD_OPTIONS, the Modbus map (R166, R183, R194, R208, R216). -/
def Image.portPuts (im : Image) : List Put :=
  let p := (im.body tagPorts).getD []
  let h := (im.recs16 tagPers).headD []
  let has := (im.sec tagPers).isSome
  (if has then
    [⟨0x00500, 23, 0, u16 h 2 / 8 + 8192 * (u8 h 6 % 4) + 32768 + 65536 * u8 h 4⟩,
      ⟨0x00501, 17, 0, u8 h 5 + 256 * (im.prs 1).length⟩,
      ⟨0x00502, 21, 0, u8 h 8 + 128 * u8 h 9 + 16384 * u8 h 0xA⟩,
      ⟨0x00503, 21, 0, u8 h 0xB + 128 * u8 h 0xC + 32768 * u8 h 0xD⟩]
  else [⟨0x00500, 23, 0, 0x001FFF⟩, ⟨0x00501, 17, 0, 0⟩, ⟨0x00502, 21, 0, 0x050510⟩, ⟨0x00503, 21, 0, 0x05000A⟩]) ++
  [⟨0x00600, 6, 6, u8 p 4⟩, ⟨0x00640, 14, 14, u8 p 5⟩, ⟨0x00640, 15, 15, b2n (im.sec tagModbus).isSome⟩]
/-- SAF_CFG (R527). -/
def Image.safPuts (im : Image) : List Put :=
  let ch := ((im.safRecs 0).map (u8 · 1)).headD 0xFF
  [⟨0x05001, 13, 0, (if ch ≤ 31 then ch else 0x1F) + 32 * (im.safRecs 2).length + 1024 * (im.safRecs 3).length⟩]
/-- Every IMG register but the watchdog's, as p5 loads it (R569). -/
def Image.puts (im : Image) : List Put :=
  (List.finRange 8).flatMap im.islPuts ++ im.evtPuts ++ im.nrgPuts ++ im.capPuts ++ im.posPuts ++ im.portPuts ++ im.safPuts

/-- The operating registers of a channel take the image's initial value, or their reset value (R111, R400). -/
def State.initChannel (s : State) (c : Fin 32) : State :=
  let r := s.chRec c
  let s := (s.setReg (CH c 2) (if u8 r 2 = 1 then toWord (u24 r 0xC) else 0)).setBit (CH c 6) 1 false
  let s := [CH c 0x31, CH c 0x32, CH c 0x33, FLT c 0xC, FLT c 0xD, FLT c 0xE, FLT c 0x10].foldl
    (fun s a => s.setReg a (resetWord a)) s
  let s := ((s.setBit (FLT c 9) 1 false).setBit (FLT c 1) 3 false).setReg (FLT c 0x14) 0
  (s.setFilt c fun f => { f with acc := 0 }).setChan c fun x => { x with limFresh := true, pt0 := none, pt1 := none, cal := [] }

/-- Roles in force from a PORTS body (R194). -/
def portsRoles (b : Bytes) (holder : Option Port) : RoleSt :=
  let es := ((List.range 4).map fun k => u16 b (8 + 2 * k)).filter fun e => decide (e ≠ 0xFFFF)
  ⟨holder, u8 b 0, u8 b 1, u8 b 2, u8 b 3, es.map fun e => (e % 1024, e / 16384)⟩
/-- p5: the roles of PORTS come into force, and a holder that may no longer claim loses the claim (R136, R195, R224). -/
def State.takeRoles (s : State) (im : Image) : State :=
  let s : State := { s with role := match im.body tagPorts with
    | some b => portsRoles b s.role.holder
    | none => { RoleSt.reset with holder := s.role.holder } }
  match s.role.holder with
  | some p =>
    if s.highest p = 3 then s
    else (s.setHolder none).logRec 0x106 (toWord (holderCode (some p))) (toWord (holderNode (some p))) (toWord im.serial)
  | none => s

end Sys2Proof.Machine
end

