-- ==== Sys2Proof/Machine/Scrub.lean ====
section
/-!
DEFINITION. Configuration SRAM: its regions, the scrub, and the repair of a region from its slot (R569–R571, R589).
-/
namespace Sys2Proof.Machine

/-- The source of every region that an image loads from a source (R569). -/
def sources (im : Image) (src : Nat) : List (Nat × Nat × Bytes) :=
  (0, src, im.digest) :: im.dir.map fun e => (e.tag, src, im.digest)
/-- The region of a word among loaded sections laid one after another (R569, R571). -/
def regionOf : List DirEntry → Nat → Nat
  | [], _ => 0
  | e :: es, a => if a < e.len / 4 then e.tag % 256 else regionOf es (a - e.len / 4)
/-- The region of a word of configuration SRAM: 0x00 for the hub's own, and where no section lies (R571). -/
def State.cfgRegion (s : State) (a : Nat) : Nat :=
  match s.cfg.img with
  | some im => if 0xF000 ≤ a then 0 else
      regionOf (im.dir.filter fun e => (secFlags e.tag).isSome && e.flags.testBit 0) a
  | none => 0
/-- CFG_ECC and the log for a region: outcome 0 detected, 1 repaired, 2 unrepairable (R571, R573, R585). -/
def State.cfgEcc (s : State) (region addr outcome : Nat) : State :=
  (s.fire 490 (toWord (region + 256 * outcome))).logRec 0x501 (toWord region) (toWord addr) (toWord outcome)
def State.setCfg (s : State) (f : CfgSram → CfgSram) : State := { s with cfg := f s.cfg }
/-- An uncorrectable word is counted, recorded and reported (R571). -/
def State.cfgUe (s : State) (a : Nat) : State :=
  let r := s.cfgRegion a
  (((s.bump SYS_CFG_UE).setReg SYS_CFG_LAST (toWord (a % 65536 + 65536 * r))).cfgEcc r a 0).setCfg fun c =>
    { c with seen := c.seen ++ [a] }
/-- The words of a region have been rewritten. -/
def State.cfgRewritten (s : State) (r : Nat) : State :=
  s.setCfg fun c => { c with seen := c.seen.filter fun a => decide (s.cfgRegion a ≠ r) }
/-- A full pitch is between p2 and p5 (R155). -/
def State.cfgPitching (s : State) : Bool :=
  decide (s.pitch.phase = .loaded) || decide (s.pitch.phase = .structured) || decide (s.pitch.phase = .checked)

/-- CFG_SCRUB_WORD (R570, R571): the scrub reads a word: 0 good, 1 a single-bit error, 2 an uncorrectable one. The last
word ends a pass. A word that has been reported is not reported again until it is rewritten (log entry 16). -/
def execCfgScrubWord (addr ecc : Nat) (s : State) : Res :=
  let a := addr % 65536
  if s.scrubOn = false ∨ s.asleep then .next s
  else
    let s := if a = 0xFFFF then s.setFld SYS_CFG_STAT 23 8 (s.fld SYS_CFG_STAT 23 8 + 1) else s
    if ecc = 1 then .next (s.bump SYS_CFG_CE)
    else if ecc ≠ 2 then .next s
    else
      let r := s.cfgRegion a
      if s.cfg.seen.contains a then .next s
      else
        let mark := fun (s : State) => s.setCfg fun c => { c with bad := if c.bad.contains r then c.bad else c.bad ++ [r] }
        let s := s.cfgUe a
        if s.cfgPitching then .next (mark s)
        else if r = 0xA0 then .next ((mark s).safeCause 1 (s.reg SYS_CFG_LAST))
        else if s.cfg.bad.contains r ∨ s.cfg.repair.contains r then .next s
        else .next (s.setCfg fun c => { c with repair := c.repair ++ [r] })

/-- The slot from which a region was loaded still holds that image, and its section passes its SEC_CRC (R571). -/
def State.repairable (s : State) (r : Nat) : Bool :=
  match s.cfg.src.find? fun x => decide (x.1 % 256 = r) with
  | some (tag, slot, dig) =>
    let bs := s.slotBytes slot
    decide (slot = 1 ∨ slot = 2) && decide (slice bs (u32 bs 0x1C + 8) 32 = dig) &&
      (decide (tag = 0) || (readDir bs (u16 bs 0x14) 0x40).any fun e =>
        decide (e.tag = tag) && decide (crc32 (slice bs e.off e.len) = e.crc))
  | none => false
/-- CFG_REPAIR_DONE (R571, R589): the repair of the first region ends; `ue` is the word at which its burst scrub met another
uncorrectable error. A repair starts once more; then the region is unrepaired. -/
def execCfgRepairDone (ue : Option Nat) (s : State) : Res :=
  match s.cfg.repair with
  | [] => .next s
  | r :: rest =>
    let fail := fun (s : State) =>
      (s.setCfg fun c => { c with repair := rest, bad := c.bad ++ [r], again := false }).cfgEcc r (s.fld SYS_CFG_LAST 15 0) 2
    if s.mss.run = .none ∨ s.mss.halted then .next s
    else if s.repairable r = false then .next (fail s)
    else match ue with
      | none =>
        .next (((s.cfgRewritten r).setCfg fun c => { c with repair := rest, again := false }).cfgEcc r
          (s.fld SYS_CFG_LAST 15 0) 1)
      | some a =>
        let s := s.cfgUe a
        .next (if s.cfg.again then fail s else s.setCfg fun c => { c with again := true })

end Sys2Proof.Machine
end

