-- ==== Sys2Proof/Machine/Store.lean ====
section
/-!
DEFINITION. The two-bank stores of the MSS and the long operations that make them (R580, R588, R594), and the verification
of an image slot by the running firmware (R131).
-/
namespace Sys2Proof.Machine

def State.setMss (s : State) (f : MssSt → MssSt) : State := { s with mss := f s.mss }
def State.setFlash (s : State) (f : Flash → Flash) : State := { s with flash := f s.flash }
/-- PFW is raised: the MSS starts no flash program or erase (R72, R588). -/
def State.pfw (s : State) : Bool := s.bit SYS_PWR_STAT 5

/-- The inactive bank that a store writes is no longer valid (R594). -/
def Flash.begin (f : Flash) : StoreWhat → Flash
  | .bootCtl _ => { f with ctl := f.ctl.begin }
  | .settings _ => { f with settings := f.settings.begin }
  | .calib _ => { f with calib := f.calib.begin }
/-- MARK is written: the new bank is active (R594). -/
def Flash.mark (f : Flash) : StoreWhat → Flash
  | .bootCtl c => { f with ctl := f.ctl.mark c }
  | .settings x => { f with settings := f.settings.mark x }
  | .calib l => { f with calib := f.calib.mark l }
/-- The bit of a store's bank pair in `erase`. -/
def StoreWhat.pair : StoreWhat → Nat
  | .bootCtl _ => 1
  | .settings _ => 2
  | .calib _ => 4

/-- A store starts (R594). -/
def State.storeBegin (s : State) (w : StoreWhat) : State :=
  (s.setFlash (·.begin w)).setMss fun m => { m with store := some w }
/-- The long operation that runs stores a bank; with PFW raised it ends with ABORTED (R588). -/
def State.storeOp (s : State) (w : StoreWhat) : State := if s.pfw then s.endOp stAborted [] else s.storeBegin w
/-- A store without a step of its own: a bank is written and the other erased at once (log entry 14). -/
def State.storeNow (s : State) (w : StoreWhat) : State :=
  s.setFlash fun f =>
    let f := (f.begin w).mark w
    match w with
    | .bootCtl _ => { f with ctl := f.ctl.clean }
    | .settings _ => { f with settings := f.settings.clean }
    | .calib _ => { f with calib := f.calib.clean }

/-- FW_MAJOR and FW_MINOR of a package (R591). -/
def pkgVersion (b : Bytes) : Nat := u16 b 4 * 4096 + u16 b 6
/-- The version of the firmware that runs, as INFO gives it (R582, R591). -/
def State.fwVersion (s : State) : Nat := match s.mss.run with
  | .none => 0
  | .slotA => pkgVersion s.flash.fwA
  | .slotB => pkgVersion s.flash.fwB
  | .oxbow => s.flash.oxVer.toNat
/-- The keys by KEY_INDEX: the trust anchors, then key 4 (R129). -/
def State.keys (s : State) : List (Option PubKey) := s.flash.anchors ++ [s.settings.key4]
/-- RING_HEADWATER in force (R239). -/
def State.settingHw (s : State) : Bool := s.headwater
/-- R131 over the bytes of a slot (1 or 2) or of ring staging (3). -/
def State.verifySource (s : State) (src : Nat) : Except Nat Image :=
  let bs := if src = 3 then s.staged 0 (s.ringImg.getD 0) else s.slotBytes src
  verifyImage bs (s.fwVersion / 4096) (s.fwVersion % 4096) s.keys (if s.bit SYS_STRAPS 3 then 8 else 16) s.settingHw
/-- IMAGE_SERIAL of what a source holds, for the log of a rejection. -/
def State.serialOf (s : State) (src : Nat) : Nat :=
  u24 (if src = 3 then s.staged 0 (s.ringImg.getD 0) else s.slotBytes src) 0x10

/-- A request is answered REJECTED with its code (R132, R133, R581). -/
def State.refuseImage (s : State) (p : Port) (code scope isl : Nat) : State :=
  let s := s.reject code scope isl 0 (sessionNo p)
  s.finish p stRejected [s.reg SYS_IMG_REJECT]
/-- The running image operation is rejected and its session answered. -/
def State.rejectOp (s : State) (code scope isl serial : Nat) : State :=
  (s.reject code scope isl serial s.opSession).endRejected
/-- An image command: the checks of R580, then BUSY while a pitch, re-pitch, acceptance or image store runs (R132, R148). A
request in a state that does not allow it is answered STATE, and reported with code STATE as any rejection (R132, R137; log
entry 65). -/
def State.imageCommand (s : State) (p : Port) (code scope : Nat) (isl : Job → Nat) (bad : Job → Option Nat) (ok : Bool)
    (body : Job → State → State) : State :=
  s.command p code (!s.imageBusy && ok) bad true fun j s =>
    if ok = false then (s.reject rejState scope (isl j) 0 (sessionNo p)).finish p stState [toWord s.dev.code]
    else if s.imageBusy then s.refuseImage p rejBusy scope (isl j)
    else body j s

end Sys2Proof.Machine
end

