-- ==== Sys2Proof/Machine/Pitch.lean ====
section
/-!
DEFINITION. The full pitch, instant by instant (R131–R136, R142–R145, R154, R155).
-/
namespace Sys2Proof.Machine

def State.setPitch (s : State) (f : PitchSt → PitchSt) : State := { s with pitch := f s.pitch }

/-- PITCH (p0 of R135). `outside` says that a supply or the junction is outside its SAFE limits now (R37, R71). -/
def execPitch (p : Port) (outside : Bool) (s : State) : Res :=
  let retained := s.bit SYS_IMG_STAT 5
  let bad := fun (j : Job) => (j.count 1).or (if 2 < j.arg 0 ∨ (j.arg 0 = 0 ∧ retained = false) then some 0 else none)
  .next (s.imageCommand p 0x10 1 (fun _ => 0) bad s.dev.stable fun j s =>
    if outside || s.bit SYS_STRAPS 4 then s.refuseImage p rejState 1 0
    else
      let src := if j.arg 0 = 0 then s.fld SYS_IMG_STAT 1 0 else j.arg 0
      let cand := if j.arg 0 = 0 then s.cfg.img else none
      (s.startOp p j).setPitch fun _ => ⟨.verifying, false, src, cand, 0⟩)

/-- p1 of R135: PITCHING is entered, outputs are de-energised, streams, captures and runs stop, the kernels disarm, and
pending event records end (R136, R306, R312, R434). SYS_IMG_STAT, SYS_IMG_SERIAL and SYS_SPC keep the former image's values
until p4 and p5 show the new ones (log entry 66). -/
def State.enterPitching (s : State) (im : Image) : State :=
  let old := s
  let s := (List.finRange 8).foldl (fun s a => if s.homeState a = 0 then s else s.homeIdle a 6) s
  let s := ((s.setDev .pitching (if s.pitch.boot then 0xFF else 0x10)).slcHaltAll.capStopAll).disarm
  let s := (List.range 22).foldl (fun s k => s.setReg (EVT_STAT0 + k) 0) s
  let s := (List.range 512).foldl (fun s k => s.setFld (EVT_SRC0 + k) 14 0 0) s
  let s : State := { s with
    evt := { s.evt with pend := [] }
    cfg := { s.cfg with old := if s.cfg.pitched then s.cfg.img else none, pitched := false } }
  old.observe (s.setPitch fun p => { p with phase := .entered, cand := some im })

/-- PITCH_VERIFIED (p1 of R135): verification has ended; a rejected image changes no state (R133). A retained image is not
verified again (R134). A SAFE cause that is present by now refuses the pitch (R71). -/
def execPitchVerified (outside : Bool) (s : State) : Res :=
  let p := s.pitch
  let stop := fun (s : State) (code serial : Nat) => (s.setPitch fun _ => PitchSt.idle).rejectOp code 1 0 serial
  if p.phase ≠ .verifying ∨ s.mss.halted ∨ s.sleep.phase = 4 ∨ s.sleep.phase = 5 then .next s
  else if p.boot = false ∧ s.dev.stable = false then .next (stop s rejState 0)
  else match p.cand with
    | some im => if outside then .next (stop s rejState im.serial) else .next (s.enterPitching im)
    | none =>
      match s.verifySource p.src with
      | .error c => .next (stop s c (s.serialOf p.src))
      | .ok im => if outside then .next (stop s rejState im.serial) else .next (s.enterPitching im)

/-- The transfer of an island that becomes hub-powered starts again (R74, R77, R333). -/
def State.powerMode (s : State) (i : Fin 8) : State :=
  if (s.isl i).fpwr && !s.fieldPowered i then
    s.xferOn i
  else s
/-- Structuring of an island from the section that has been loaded; an island without a section loses its structure. -/
def State.structureIsland (s : State) (i : Fin 8) : State :=
  let s := ((s.powerMode i).setBit (ISL i 0) 1 false).setIsl i fun x => { x with await := x.await || x.barred }
  if (s.islBody i).isSome then s.startStructure i false false
  else s.setIsl i fun x => { (if x.iLock then x.unstructure else x) with sPhase := 0 }

/-- PITCH_LOADED (p2 of R135): the loaded sections stand in configuration SRAM; `crcBad` says that a SEC_CRC failed as
flash was read, which ends the pitch. -/
def execPitchLoaded (crcBad : Bool) (s : State) : Res :=
  let p := s.pitch
  match p.phase, p.cand with
  | .entered, some im =>
    if crcBad then .next (s.endPitch rejSecCrc false)
    else
      let s : State := { s with cfg := { s.cfg with
        img := some im, src := sources im p.src, bad := [], repair := [], again := false, seen := [] } }
      let s := s.setPitch fun p => { p with phase := .loaded }
      .next ((List.finRange 8).foldl State.structureIsland s)
  | _, _ => .next s

/-- An island needs nothing more before p3: it has no section, its link is down (R116), it reports structured, or its
readback has failed for good. -/
def State.structureDone (s : State) (i : Fin 8) : Bool :=
  (s.islBody i).isNone || !s.bit (ISL i 0) 0 || s.bit (ISL i 0) 1 || decide ((s.isl i).sPhase = 5)
/-- PITCH_STRUCTURED (p3 of R135, t5 of R106). -/
def execPitchStructured (s : State) : Res :=
  if s.pitch.phase = .loaded ∧ (List.finRange 8).all s.structureDone then
    let s := s.setPitch fun p => { p with phase := .structured }
    .next (if s.pitch.boot then s.setFld SYS_BOOT 3 0 4 else s)
  else .next s

/-- Each kernel takes its own copy of the SAFETY body (R510): every function starts UNARMED, every pair off. -/
def Kern.load (k : Kern) (b : Bytes) : Kern :=
  { Kern.reset with sec := some b, safen := k.safen, run := k.run, life := k.life, miss := k.miss }
/-- SYS_SPC of an image (R146). -/
def State.showSpc (s : State) (im : Image) : State :=
  let n := if (im.sec tagSafety).isSome then im.spc else 0
  (s.setReg SYS_SPC_LO (toWord (n % 16777216))).setReg SYS_SPC_HI (toWord (n / 16777216))
/-- PITCH_SAFETY_CHECK (p4 of R135, t6 of R106): the kernels compute the SPC and test themselves; `fault` is a cause 10–13
of R526 that they find, 0 for none. An SPC equal to the accepted one accepts the section; any other leaves acceptance
pending (R144, R145). SYS_SPC, and KST_PASS or SAFETY_PENDING, show it. -/
def execPitchSafetyCheck (fault : Nat) (s : State) : Res :=
  match s.pitch.phase, s.pitch.cand with
  | .structured, some im =>
    match im.body tagSafety with
    | none => .next s
    | some b =>
      let s := s.setSaf fun x => { x with ka := x.ka.load b, kb := x.kb.load b, runs := 0, armed := false }
      if 10 ≤ fault ∧ fault ≤ 13 then .next (s.kernelFault fault 0 false)
      else
        let ok := decide (s.settings.spc.map (·.1) = some im.spc)
        let s := (s.setPitch fun p => { p with phase := .checked }).setSaf fun x => { x with armed := ok }
        let s := ((s.setBit SYS_BOOT 10 ok).setFld SYS_IMG_STAT 4 2 (1 + (if ok then 4 else 2))).showSpc im
        .next (if s.pitch.boot then s.setFld SYS_BOOT 3 0 5 else s)
  | _, _ => .next s

/-- SYS_IMG_STAT of a pitched image from a source, apart from acceptance (R146). -/
def imgStat (im : Image) (src : Nat) (accepted : Bool) : Word :=
  let saf := (im.sec tagSafety).isSome
  toWord (src % 4 + 4 * b2n saf + 8 * b2n (saf && !accepted) + 16 * b2n (saf && accepted) + 64 * b2n im.unchecked +
    256 * (im.keyIndex % 8))
/-- A capture sequence starts IDLE with its registers at their reset values (R434, R438). -/
def State.capFresh (s : State) (q : Fin 16) : State :=
  let s := (List.range 11).foldl (fun s k => s.setReg (CAP q k) (resetWord (CAP q k))) s
  (s.setFld (CAP q 6) 19 0 (s.fld (CAP q 0xC) 19 0)).setCapt q fun _ => Capt.reset
/-- The RING section in force (R271): RNG_SYNC_SEL takes SYNC_GROUPS (R246). -/
def State.takeRing (s : State) (im : Image) : State :=
  (s.setRing fun r => r.newConf im.ringConf).setReg RNG_SYNC_SEL (toWord (u8 im.ringConf 2))

/-- The other registers that take their reset values at p5 (R136; log entry 11): SYS_WAKE_MASK, LPB_PEEK_IDX, the coefficient
load registers, EDDY_PAGE of every accessor, the overload and load latches, and of each channel the diagnostic latch and the
guard flags. -/
def State.operAnew (s : State) : State :=
  let s := [SYS_WAKE_MASK, 0x00510, 0x03C08, 0x03C09, 0x03C0A, EVT_OVL, SYS_LOAD_SUST].foldl
    (fun s a => s.setReg a (resetWord a)) { s with eddyPage := [] }
  (List.finRange 32).foldl (fun s c => (s.setReg (CH c 5) 0).setReg (FLT c 0xA) 0) s
/-- REPITCH_DONE of an island that a full pitch structures after a re-pitch left it unstructured (R140). -/
def State.awaitedPitch (s : State) (im : Image) (i : Fin 8) : State :=
  if (s.isl i).await && s.bit (ISL i 0) 1 then
    (((s.setIsl i fun x => { x with await := false }).bumpFld (ISL i 8) 23 12).fire 456 (toWord i.val)).logRec 0x102
      (toWord i.val) (toWord im.serial) 0xFF
  else s
/-- An island of the image whose link has not locked by p5 is reported lost, with no frames as the cause (R116; log entry 84). -/
def State.missingIsland (s : State) (i : Fin 8) : State :=
  if (s.islBody i).isSome && !s.bit (ISL i 0) 0 && !(s.isl i).lost then s.lossMark i 1 else s
/-- p5 of R135 and R136: every map, budget, role and initial value of the image comes into force, and the state becomes
PITCHED. T_PITCHED of SYS_BOOT_TIME stops at 0xFFFFFF (log entry 67). -/
def State.commitPitch (s : State) (im : Image) : State :=
  let old := s
  let p := s.pitch
  let accepted := s.kstPass
  let s := s.putAll im.puts
  let s := s.when (im.body tagWdg).isSome fun s => s.wdgPitch ((im.body tagWdg).getD [])
  let s := (List.finRange 32).foldl State.initChannel s
  let s := (List.finRange 16).foldl State.capFresh s
  let s := (List.finRange 8).foldl (fun s a => (s.axisRestart a).axisRestore a) s
  let s := (List.range 22).foldl (fun s k => s.setReg (EVT_HMASK0 + k) (resetWord (EVT_HMASK0 + k))) s
  let s := (List.finRange 8).foldl (fun s k => s.setReg (WEIR_LOST k) 0) s
  let s := s.operAnew.weirRestart.takeRing im
  let s : State := { s with
    sets := match im.sec tagCoeff with
      | some b => imageSets b
      | none => []
    load := LoadSt.reset
    ringImg := none
    cfg := { s.cfg with pitched := true, old := none }
    pitch := PitchSt.idle }
  let s := ((s.setReg SYS_IMG_STAT (imgStat im p.src accepted)).setReg SYS_IMG_SERIAL (toWord im.serial)).showSpc im
  let s := s.setDev .pitched 0xFF
  let s := s.takeRoles im
  let ms := if p.boot then s.upUs / 1000 else p.us / 1000
  let s := s.when (decide (s.reg SYS_BOOT_TIME = 0)) fun s => s.setReg SYS_BOOT_TIME (toWord (min 0xFFFFFF (s.upUs / 1000)))
  let s := s.when p.boot fun s => s.setFld SYS_BOOT 3 0 6
  let s := (List.finRange 8).foldl (fun s i => (s.awaitedPitch im i).missingIsland i) (s.fire 454 0)
  let s := s.when (s.bit SYS_IMG_STAT 3) fun s => s.fire 457 (toWord (im.spc % 16777216))
  let s := (s.logRec 0x003 (toWord im.serial) (toWord (min 0xFFFFFF ms)) (s.reg SYS_IMG_STAT)).setMss fun m =>
    { m with reached := true }
  let s := (old.observe s).persStart
  if p.boot then s else s.endOp stOK []

/-- PITCH_COMMIT (p5 of R135, t7 of R106): `ue` is the word at which the commit scrub met an uncorrectable error (R155); an island
whose readback failed twice ends the pitch with READBACK, and the image is retained (R134). -/
def execPitchCommit (ue : Option Nat) (s : State) : Res :=
  let p := s.pitch
  match p.cand with
  | none => .next s
  | some im =>
    let due := decide (p.phase = .checked) || (decide (p.phase = .structured) && (im.sec tagSafety).isNone)
    if due = false then .next s
    else if ue.isSome || !s.cfg.bad.isEmpty then
      .next ((match ue with
        | some a => s.cfgUe a
        | none => s).endPitch rejScrub false)
    else if (List.finRange 8).any fun i => decide ((s.isl i).sPhase = 5) then .next (s.endPitch rejReadback true)
    else .next (s.commitPitch im)

end Sys2Proof.Machine
end

