-- ==== Sys2Proof/Machine/Repitch.lean ====
section
/-!
DEFINITION. The re-pitch of one island, instant by instant (R137–R140, R148–R151, R189), and the loss of an island (R330).
-/
namespace Sys2Proof.Machine

def State.setRepitch (s : State) (f : RepitchSt → RepitchSt) : State := { s with repitch := f s.repitch }
/-- The island of the re-pitch. -/
def State.repIsl (s : State) : Fin 8 := Fin.ofNat 8 s.repitch.isl

/-- REPITCH (q0 of R138). -/
def execRepitch (p : Port) (s : State) : Res :=
  let bad := fun (j : Job) => (j.count 2).or (if 7 < j.arg 0 then some 0 else if j.arg 1 = 1 ∨ j.arg 1 = 2 then none else some 1)
  .next (s.imageCommand p 0x11 2 (·.arg 0) bad (decide (s.dev = .pitched)) fun j s =>
    if s.bit SYS_STRAPS 4 then s.refuseImage p rejState 2 (j.arg 0)
    else (s.startOp p j).setRepitch fun _ => ⟨1, j.arg 0, j.arg 1, none, false⟩)

/-- REPITCH_CHECKED (q1 of R138): the image has been verified and checked by R137; the island's channels become
unstructured. -/
def execRepitchChecked (s : State) : Res :=
  let i := s.repIsl
  if s.repitch.phase ≠ 1 ∨ s.mss.halted then .next s
  else match s.verifySource s.repitch.src, s.cfg.img with
    | .error c, _ => .next (s.abandonRepitch c (s.serialOf s.repitch.src))
    | .ok _, none => .next s
    | .ok im, some old =>
      let stop := fun (c : Nat) => Host.Outcome.next (s.abandonRepitch c im.serial)
      match repitchScope old im i.val (s.bit (ISL i 8) 3) with
      | some c => stop c
      | none =>
        if s.cfg.bad ≠ [] then stop rejScrub
        else if s.bit (ISL i 0) 0 = false then stop rejIslandLost
        else
          let s1 := (s.setRepitch fun r => { r with phase := 2, cand := some im }).setBit (ISL i 0) 1 false
          .next (s.observe s1)

/-- q2 of R138 and R140: configuration SRAM holds the new section, rewritten whole, and the new image is the pitched one. -/
def State.takeSection (s : State) (i : Fin 8) (im : Image) : State :=
  let src := s.repitch.src
  let tag := tagIsland i.val
  let s := (s.cfgRewritten tag).setCfg fun c => { c with
    img := some im, src := c.src.map fun x => if x.1 = tag ∨ x.1 = 0 then (x.1, src, im.digest) else x
    bad := c.bad.filter (· ≠ tag), repair := c.repair.filter (· ≠ tag) }
  (s.setFld SYS_IMG_STAT 1 0 src).setReg SYS_IMG_SERIAL (toWord im.serial)
/-- REPITCH_LOADED (q2 of R138): `ue` is the word at which the scrub of the region met an uncorrectable error, which is
retried once (R139). After a second error the re-pitch is rejected, and the region is repaired as R571 gives. -/
def execRepitchLoaded (ue : Option Nat) (s : State) : Res :=
  let i := s.repIsl
  match s.repitch.phase, s.repitch.cand, ue with
  | 2, some im, none =>
    .next (((s.takeSection i im).structureIsland i).setRepitch fun r => { r with phase := 3 })
  | 2, some im, some a =>
    let s := s.cfgUe a
    if s.repitch.retried = false then .next (s.setRepitch fun r => { r with retried := true })
    else
      let s := (s.takeSection i im).setCfg fun c => { c with repair := c.repair ++ [tagIsland i.val] }
      .next (s.abandonRepitch rejScrub im.serial)
  | _, _, _ => .next s

/-- REPITCH_STRUCTURED (q3 of R138): the readback has been compared; a second mismatch rejects the re-pitch (R139). -/
def execRepitchStructured (s : State) : Res :=
  let i := s.repIsl
  let x := s.isl i
  match s.repitch.phase, s.repitch.cand with
  | 3, some im =>
    if x.sPhase = 5 then .next (s.abandonRepitch rejReadback im.serial)
    else if (s.islBody i).isNone ∨ x.sPhase = 3 ∨ (x.sPhase = 0 ∧ s.bit (ISL i 0) 1) then
      .next (s.setRepitch fun r => { r with phase := 4 })
    else .next s
  | _, _ => .next s

/-- What q4 brings (R138, R151, R189): IMG fields and operating registers of the island, its personality registers,
REPITCH_DONE, REPITCH_COUNT and the log. -/
def State.repitchDone (s : State) (i : Fin 8) (im : Image) (session : Nat) : State :=
  let old := s
  let s := (islChans i).foldl State.initChannel (s.putAll (im.islPuts i))
  let s := ((s.persIsland i.val).bumpFld (ISL i 8) 23 12).fire 456 (toWord i.val)
  let s := s.logRec 0x102 (toWord i.val) (toWord im.serial) (toWord session)
  old.observe s
/-- REPITCH_COMMIT (q4 of R138): the structure is committed at the island and runs. A damaged region sends the re-pitch back to
q2 once (R139, R571). -/
def execRepitchCommit (s : State) : Res :=
  let i := s.repIsl
  match s.repitch.phase, s.repitch.cand with
  | 4, some im =>
    if s.cfg.bad ≠ [] then
      .next (if s.repitch.retried then s.abandonRepitch rejScrub im.serial
        else s.setRepitch fun r => { r with phase := 2, retried := true })
    else if (s.islBody i).isSome ∧ s.bit (ISL i 0) 1 = false then .next s
    else
      let n := s.opSession
      let s := s.setRepitch fun _ => RepitchSt.idle
      .next ((s.repitchDone i im n).endOp stOK [])
  | _, _ => .next s

/-- ISLAND_LOST (g4 of R330): three frame periods without a good uplink frame; `osc` says that the island's oscillator was
unlocked. A re-pitch of the island ends: before q2 as a rejection, from q2 on with the new section pitched, which the island
takes at its relock (R140, R149; log entry 17). -/
def execIslandLost (i : Fin 8) (osc : Bool) (s : State) : Res :=
  if s.bit (ISL i 0) 0 = false ∨ s.runs = false then .next s
  else
    let s := s.islandLoss i osc
    let r := s.repitch
    if r.phase = 0 ∨ r.isl ≠ i.val then .next s
    else if r.phase ≤ 2 then .next (s.abandonRepitch rejIslandLost ((r.cand.map (·.serial)).getD 0))
    else
      let s := (s.setRepitch fun _ => RepitchSt.idle).setIsl i fun x => { x with await := true }
      .next ((s.setBit (ISL i 0) 1 false).endOp stOK [])

/-- The structuring at a relock that a re-pitch still waited for (R140); during a full pitch it waits for p5. -/
def State.awaitDone (s : State) (i : Fin 8) : State :=
  match (s.isl i).await && s.cfg.pitched, s.cfg.img with
  | true, some im => (s.setIsl i fun x => { x with await := false }).repitchDone i im 0xFF
  | _, _ => s
/-- STRUCTURE_COMMIT (R331): every structure word has been read back equal. -/
def execStructureCommit (i : Fin 8) (raw : List Nat) (s : State) : Res :=
  .next (if (s.isl i).sPhase = 3 ∧ (s.isl i).iLock ∧ (s.isl i).commit then (s.structCommit i raw).awaitDone i else s)

end Sys2Proof.Machine
end

