-- ==== Sys2Proof/Machine/Calib.lean ====
section
/-!
DEFINITION. The field trim: CAL_POINT, CAL_COMMIT and CAL_CLEAR (R394, R395, R404, R604), and the claims of SUPERVISOR (R199).
-/
namespace Sys2Proof.Machine

/-- t1 and t2 of a ROLE_CLAIM (2) or ROLE_RELEASE (3): the MSS answers with what R199 gave it as it committed; surplus
arguments are answered with their first index (R580, R581). -/
def State.claimAnswer (s : State) (p : Port) (code : Nat) : State :=
  match (s.mbxOf p).job with
  | none => s
  | some j =>
    if j.code ≠ code ∨ j.taken ∨ s.mssServes = false then s
    else s.finish p j.claim (if j.claim = stBadArgs then [0] else [])
/-- ROLE_CLAIM (R199), decided as its MBX_CMD committed (State.submit). -/
def execRoleClaim (p : Port) (s : State) : Res := .next (s.claimAnswer p 2)
/-- ROLE_RELEASE (R199), decided as its MBX_CMD committed (State.submit). -/
def execRoleRelease (p : Port) (s : State) : Res := .next (s.claimAnswer p 3)

/-- The channel of a CAL command. -/
def Job.chan (j : Job) : Fin 32 := Fin.ofNat 32 (j.arg 0)
/-- The arguments of a CAL command: its channel has an analogue function (R395). -/
def State.calBad (s : State) (j : Job) : Option Nat :=
  if j.args = [] ∨ 31 < j.arg 0 ∨ isAnalogue (s.func j.chan) = false then some 0 else none
/-- A CAL command needs a structured channel that is not in re-pitch; otherwise it is answered STATE (R395; log entry 21). -/
def State.calOk (s : State) (j : Job) : Bool := s.structured j.chan && !s.inRepitch (chIsl j.chan)
/-- Point P of a channel is set to a NOMINAL and a measured code (R395). -/
def State.setPoint (s : State) (c : Fin 32) (point : Nat) (v : Int × Int) : State :=
  s.setChan c fun x => if point = 0 then { x with pt0 := some v } else { x with pt1 := some v }

/-- CAL_POINT (R395): an output's point is set from MEASURED; an input starts to average. -/
def execCalPoint (p : Port) (s : State) : Res :=
  let bad := fun (j : Job) =>
    (s.calBad j).or <| (j.count (if isOutput (s.func j.chan) then 4 else 3)).or (if 1 < j.arg 1 then some 1 else none)
  .next (s.command p 0x40 false bad (decide (s.dev = .pitched)) fun j s =>
    let c := j.chan
    let nom := (toWord (j.arg 2)).toInt
    if s.calOk j = false then s.finish p stState [toWord s.dev.code]
    else if isOutput (s.func c) then (s.setPoint c (j.arg 1) (nom, (toWord (j.arg 3)).toInt)).finish p stOK []
    else (s.takeJob p).setChan c fun x => { x with cal := x.cal ++ [⟨p, j.arg 1, nom, 0, 0⟩] })
/-- The average of a session no longer runs. -/
def State.calDrop (s : State) (c : Fin 32) (p : Port) : State :=
  s.setChan c fun x => { x with cal := x.cal.filter fun k => k.port ≠ p }
/-- CAL_POINT_DONE (R395): 256 good outputs of the channel have been taken for the session. -/
def execCalPointDone (p : Port) (c : Fin 32) (s : State) : Res :=
  match (s.chan c).cal.find? fun k => decide (k.port = p) with
  | some k =>
    if k.n < 256 ∨ s.mss.halted then .next s
    else
      let m := Config.calMean k.sum
      .next (((s.calDrop c p).setPoint c k.point (k.nominal, m)).finish p stOK [codeWord m])
  | none => .next s
/-- CAL_POINT_TIMEOUT (R404): the point is not set. -/
def execCalPointTimeout (p : Port) (s : State) : Res :=
  match (s.mbxOf p).job with
  | some j =>
    if j.code ≠ 0x40 ∨ j.taken = false ∨ s.mss.halted then .next s
    else .next ((s.calDrop j.chan p).finish p stTimeout [])
  | none => .next s

/-- The trim that CAL_COMMIT computes from both points, or why it refuses (R395, CAL_LIMIT of R581): more than 2 % of gain,
or 0.5 % of span of offset. -/
def State.newTrim (s : State) (c : Fin 32) : Except Nat (Int × Int) :=
  match (s.chan c).pt0, (s.chan c).pt1 with
  | some a, some b =>
    let span := rbSpan (s.func c)
    if 2 * (a.1 - b.1).natAbs < span then .error 2
    else
      let t := Config.fieldTrim ((s.trim c).getD (0, 0)) a b
      if 2 * 8388608 < 100 * t.2.natAbs then .error 3 else if 5 * span < 1000 * t.1.natAbs then .error 4 else .ok t
  | _, _ => .error 1
/-- The calibration table without the entry of a channel's cell, function and range (R395, R604). -/
def State.calWithout (s : State) (c : Fin 32) : List CalEntry :=
  s.calTable.filter fun e => !(decide (e.ch = c.val) && decide (e.func = s.func c) && decide (e.range = s.range c))
/-- CAL_COMMIT (R395). -/
def execCalCommit (p : Port) (s : State) : Res :=
  let bad := fun (j : Job) => (s.calBad j).or (j.count 1)
  .next (s.command p 0x41 true bad (decide (s.dev = .pitched)) fun j s =>
    let c := j.chan
    if s.calOk j = false then s.finish p stState [toWord s.dev.code]
    else match s.newTrim c with
      | .error n => s.finish p stCalLimit [toWord n]
      | .ok t =>
        (s.startOp p j).storeOp (.calib (s.calWithout c ++ [⟨c.val, s.func c, s.range c, codeWord t.1, codeWord t.2⟩])))
/-- CAL_CLEAR (R395). -/
def execCalClear (p : Port) (s : State) : Res :=
  let bad := fun (j : Job) => (s.calBad j).or (j.count 1)
  .next (s.command p 0x42 true bad (decide (s.dev = .pitched)) fun j s =>
    if s.calOk j = false then s.finish p stState [toWord s.dev.code]
    else (s.startOp p j).storeOp (.calib (s.calWithout j.chan)))

end Sys2Proof.Machine
end

