-- ==== Sys2Proof/Machine/Update.lean ====
section
/-!
DEFINITION. The long operations that write flash: image slots and boot control (R134), acceptance (R144), key 4 (R130), the
settings and their push (R583, R600, R602), firmware update and confirmation (R591–R601), and the end of a store (R594).
-/
namespace Sys2Proof.Machine

/-- Words of a byte string staged in Eddy (R667). -/
def stagedWords (n : Nat) : Nat := (n + 2) / 3
/-- The first faulty argument of a staged string: its address `k` and its length at `k + 1` (R582, R667). -/
def Job.badStaged (j : Job) (k : Nat) : Option Nat :=
  if 0xFFFFF < j.arg k then some k
  else if j.arg (k + 1) = 0 ∨ 0x100000 < j.arg k + stagedWords (j.arg (k + 1)) then some (k + 1) else none

/-- The arguments of IMAGE_STORE: slot, address, length. -/
def imageStoreBad (j : Job) : Option Nat :=
  (j.count 3).or <| (if 1 < j.arg 0 then some 0 else none).or (j.badStaged 1)
/-- IMAGE_STORE (R134): the slot that boot control names is protected; a slot holds 1 MiB. -/
def execImageStore (p : Port) (s : State) : Res :=
  .next (s.imageCommand p 0x12 3 (fun _ => 0) imageStoreBad s.dev.stable fun j s =>
    if j.arg 0 = s.bootCtl.imgSlot then s.refuseImage p rejProtected 3 0
    else if 0x100000 < j.arg 2 then s.refuseImage p rejLength 3 0
    else if s.pfw then s.finish p stAborted []
    else s.startOp p j)
/-- An argument of the operation that runs. -/
def LongOp.arg (o : LongOp) (k : Nat) : Nat := (o.args.getD k 0).toNat
/-- IMAGE_STORE_DONE (R134): the slot holds the staged bytes and has been verified; `fail` is the flash address of a program
or verify error (R581). -/
def execImageStoreDone (fail : Option Nat) (s : State) : Res :=
  match s.mss.op with
  | some o =>
    if o.code ≠ 0x12 ∨ s.mss.halted then .next s
    else match fail with
      | some a => .next (((s.setFlash (·.setImg (o.arg 0) (cutImage s.fresh (s.staged (o.arg 1) (o.arg 2))))).takeFree).endOp
          stFlashError [toWord a])
      | none =>
        let s := s.setFlash (·.setImg (o.arg 0) (s.staged (o.arg 1) (o.arg 2)))
        match s.verifySource (o.arg 0 + 1) with
        | .error c => .next (s.rejectOp c 3 0 (s.serialOf (o.arg 0 + 1)))
        | .ok _ => .next (s.endOp stOK [])
  | none => .next s
/-- IMAGE_SELECT (R134): boot control changes when its store is complete. -/
def execImageSelect (p : Port) (s : State) : Res :=
  let bad := fun (j : Job) => (j.count 1).or (if 1 < j.arg 0 then some 0 else none)
  .next (s.imageCommand p 0x13 3 (fun _ => 0) bad s.dev.stable fun j s =>
    match s.verifySource (j.arg 0 + 1) with
    | .error c =>
      let s := s.reject c 3 0 (s.serialOf (j.arg 0 + 1)) (sessionNo p)
      s.finish p stRejected [s.reg SYS_IMG_REJECT]
    | .ok _ => (s.startOp p j).storeOp (.bootCtl { s.bootCtl with imgSlot := j.arg 0 }))

/-- The running firmware's slot in boot control: its state code (R593), CONFIRMED for Oxbow. -/
def State.fwState (s : State) : Nat := match s.mss.run with
  | .slotA => s.bootCtl.stA
  | .slotB => s.bootCtl.stB
  | .oxbow | .none => 2
/-- The bytes of the package that runs. -/
def State.fwBytes (s : State) : Bytes := match s.mss.run with
  | .slotA => s.flash.fwA
  | .slotB => s.flash.fwB
  | .oxbow | .none => []
/-- SCHEMA of the firmware that runs (R591). -/
def State.fwSchema (s : State) : Nat := match s.mss.run with
  | .slotA | .slotB => u16 s.fwBytes 0xE
  | .oxbow | .none => Config.oxbowSchema
/-- The schema in which settings are written: an unconfirmed firmware keeps the one that it found (R598). -/
def State.writeSchema (s : State) : Nat :=
  if s.fwState = 1 ∧ s.flash.settings.active.isSome then s.settings.schema else s.fwSchema
/-- The long operation stores the settings (R594, R598). -/
def State.storeSettings (s : State) (x : Settings) : State := s.storeOp (.settings { x with schema := s.writeSchema })

/-- SAFETY_ACCEPT (R144): both kernels compare the carried SPC with their own, and the serial is the pitched image's. -/
def execSafetyAccept (p : Port) (s : State) : Res :=
  let bad := fun (j : Job) => (j.count 3).or (if 255 < j.arg 1 then some 1 else none)
  .next (s.imageCommand p 0x14 4 (fun _ => 0) bad (decide (s.dev = .pitched)) fun j s =>
    let spc := j.arg 0 + 16777216 * j.arg 1
    if s.saf.ka.sec.map crc32 = some spc ∧ s.saf.kb.sec.map crc32 = some spc ∧
        j.arg 2 = (s.reg SYS_IMG_SERIAL).toNat then
      (s.startOp p j).storeSettings { s.settings with spc := some (spc, j.arg 2) }
    else s.refuseImage p rejSpcMismatch 4 0)
/-- The section is accepted (R144, R145). -/
def State.accepted (s : State) (o : LongOp) : State :=
  let s := ((s.setBit SYS_IMG_STAT 3 false).setBit SYS_IMG_STAT 4 true).setBit SYS_BOOT 10 true
  let s : State := { s with saf := { s.saf with armed := true } }
  (s.fire 458 (toWord (o.arg 0))).logRec 0x202 (toWord (o.arg 0)) (toWord (o.arg 1 % 256 + 256 * sessionNo o.port))
    (toWord (o.arg 2))

/-- The 64 bytes that 22 argument words from `k` up carry (R582). -/
def Job.bytes64 (j : Job) (k : Nat) : Bytes := (((j.args.drop k).take 22).flatMap wordBytes).take 64
def keyOf (b : Bytes) : PubKey := ⟨beNat (b.take 32), beNat (b.drop 32)⟩
/-- A signature of ARG23–ARG44 over a byte string verifies (R130). -/
def Job.proves (j : Job) (k : Option PubKey) (msg : Bytes) : Bool := match k with
  | some k => let g := j.bytes64 23
    ecdsaOk k (beNat (sha256 msg)) (beNat (g.take 32)) (beNat (g.drop 32))
  | none => false
/-- The unique ID, its 64 bits least significant byte first, followed by the new public key (R130; the byte order is the
model's, log entry 18). -/
def State.keyMessage (s : State) (j : Job) : Bytes := leBytes 8 s.flash.uid.toNat ++ j.bytes64 1
/-- KEY_ENROL's arguments (R582): 45 words, and the trust anchor's index for a removal. -/
def keyBad (j : Job) : Option Nat :=
  if j.args = [] ∨ j.arg 0 = 0 ∨ 3 < j.arg 0 then some 0
  else (j.count (if j.arg 0 = 3 then 46 else 45)).or (if j.arg 0 = 3 ∧ 3 < j.arg 45 then some 45 else none)
/-- The state allows KEY_ENROL: any but BOOT in which the mailbox serves commands (R130; log entry 64). -/
def Dev.keyOk (d : Dev) : Bool := d.served
/-- KEY_ENROL with its proof: `allow` is the action's condition on key 4 and the state (R130). -/
def State.keyEnrol (s : State) (p : Port) (action : Nat) (allow : Bool) (proof : Job → Bool) (new : Job → Option PubKey) :
    State :=
  match (s.mbxOf p).job with
  | some j0 =>
    if j0.arg 0 ≠ action ∧ keyBad j0 = none then s
    else s.command p 0x16 true keyBad s.dev.keyOk fun j s =>
      if allow = false then s.finish p stState [toWord s.dev.code]
      else if proof j then (s.startOp p j).storeSettings { s.settings with key4 := new j }
      else (s.logRec 0x302 (toWord action) (toWord (sessionNo p)) 0).finish p stVerifyFail [1]
  | none => s
/-- KEY_ENROL_FIRST (R130). -/
def execKeyEnrolFirst (p : Port) (s : State) : Res :=
  .next (s.keyEnrol p 1 (s.settings.key4.isNone && (decide (s.dev = .unpitched) || decide (s.dev = .maintenance)))
    (fun j => j.proves (some (keyOf (j.bytes64 1))) (s.keyMessage j)) fun j => some (keyOf (j.bytes64 1)))
/-- KEY_ENROL_REPLACE (R130). -/
def execKeyEnrolReplace (p : Port) (s : State) : Res :=
  .next (s.keyEnrol p 2 s.settings.key4.isSome (fun j => j.proves s.settings.key4 (s.keyMessage j))
    fun j => some (keyOf (j.bytes64 1)))
/-- KEY_ENROL_REMOVE (R130): the record is signed by the trust anchor that ARG45 names. -/
def execKeyEnrolRemove (p : Port) (s : State) : Res :=
  .next (s.keyEnrol p 3 true
    (fun j => j.proves (s.flash.anchors.getD (j.arg 45) none) (Config.removalRecord s.flash.uid.toNat (j.bytes64 1)))
    fun _ => none)

/-- The range of a setting, and its ID (R583). -/
def settingIds : List Nat := [1, 2, 3, 0x10, 0x11, 0x12, 0x20]
def settingRange (id v : Nat) : Bool :=
  if id = 1 then decide (1 ≤ v ∧ v ≤ 247) else if id = 2 then decide (v ≤ 10) else if id = 3 then decide (v ≤ 2)
  else if id = 0x10 then decide (v ≤ 1) else if id = 0x11 then decide (v ≤ 1023)
  else if id = 0x12 then decide (v ≤ 1 ∨ v = 0xFF) else decide (v ≤ 7)
/-- SETTING_READ (R583). -/
def execSettingRead (p : Port) (s : State) : Res :=
  let bad := fun (j : Job) => (j.count 1).or (if settingIds.contains (j.arg 0) then none else some 0)
  .next (s.command p 0x30 false bad s.dev.served fun j s => s.finish p stOK [toWord (s.setting (j.arg 0))])
/-- SETTING_WRITE (R583). -/
def execSettingWrite (p : Port) (s : State) : Res :=
  let bad := fun (j : Job) => (j.count 2).or <|
    (if settingIds.contains (j.arg 0) then none else some 0).or (if settingRange (j.arg 0) (j.arg 1) then none else some 1)
  .next (s.command p 0x31 true bad s.dev.served fun j s =>
    (s.startOp p j).storeSettings { s.settings with vals := Sparse.put s.settings.vals (j.arg 0) (j.arg 1) })

/-- The entries of a settings bank: ID and value (R602); none when they do not tile it. -/
def bankEntries : Nat → Bytes → Option (List (Nat × Bytes))
  | 0, b => if b.isEmpty then some [] else none
  | n + 1, b =>
    if b.isEmpty then some []
    else
      let l := u16 b 2
      let size := 4 + (l + 3) / 4 * 4
      if b.length < size then none else (bankEntries n (b.drop size)).map ((u16 b 0, slice b 4 l) :: ·)
/-- The form of an entry (R602). -/
def entryForm (e : Nat × Bytes) : Bool :=
  let l := e.2.length
  if 1 ≤ e.1 ∧ e.1 ≤ 0x20 then l = 4 else if e.1 = 0x100 then l = 64 else if e.1 = 0x101 then l = 8
  else if e.1 = 0x102 then l % 12 = 0 else true
/-- An entry is taken from a pushed bank; key 4 and the accepted SPC are dropped (R600). -/
def Settings.take (x : Settings) (e : Nat × Bytes) : Settings :=
  if 1 ≤ e.1 ∧ e.1 ≤ 0x20 then { x with vals := Sparse.put x.vals e.1 (leNat e.2) }
  else if e.1 = 0x102 then { x with
    binds := (records 12 (e.2.length / 12) e.2).foldl (fun m r => Sparse.put m (leNat (r.take 8)) (u16 r 8)) x.binds }
  else if e.1 = 0x100 ∨ e.1 = 0x101 then x
  else { x with extra := x.extra ++ [e] }
/-- A pushed bank whose MAGIC, CRC and entries check (R600, R602). -/
def readBank (b : Bytes) : Option Settings :=
  let n := u32 b 0xC
  if slice b 0 4 ≠ [0x53, 0x54, 0x47, 0x31] ∨ n % 4 ≠ 0 ∨ 65512 < n ∨ b.length < 0x14 + n then none
  else if u32 b (0x10 + n) ≠ crc32 (b.take (0x10 + n)) then none
  else match bankEntries (n / 4) (slice b 0x10 n) with
    | some es => if es.all entryForm then some (es.foldl Settings.take { Settings.none with schema := u16 b 8 }) else none
    | none => none
/-- The firmware reads a settings bank (R598): 0, or the reason of R610: 1 newer, 2 older than SCHEMA_MIN, 3 an entry does
not migrate. -/
def readsSchema (fw : Bytes) (x : Settings) : Nat :=
  if u16 fw 0xE < x.schema then 1 else if x.schema < u16 fw 0x10 then 2
  else if u16 fw 0xE = x.schema ∨ Config.migrates (pkgVersion fw) x.schema x.vals then 0 else 3
/-- SETTINGS_PUSH (R600): Oxbow stores the bank verbatim and then clears OXBOW_REQ; the Malelama firmware must read it. -/
def execSettingsPush (p : Port) (s : State) : Res :=
  let bad := fun (j : Job) => (j.count 2).or (j.badStaged 0)
  let ok := decide (s.dev = .unpitched) || decide (s.dev = .maintenance)
  .next (s.command p 0x32 true bad ok fun j s =>
    match readBank (s.staged (j.arg 0) (j.arg 1)) with
    | none => s.finish p stVerifyFail [4]
    | some x =>
      if s.mss.run = .oxbow then
        let s := (s.startOp p j).storeOp (.settings x)
        if s.mss.op.isSome ∧ s.bootCtl.oxReq then
          s.setMss fun m => { m with storeNext := some (.bootCtl { s.bootCtl with oxReq := false }) }
        else s
      else if readsSchema s.fwBytes x ≠ 0 then s.finish p stVerifyFail [4]
      else (s.startOp p j).storeSettings x)

/-- Slot code of a FIRMWARE record (R610). -/
def FwRun.code : FwRun → Nat
  | .slotA => 0 | .slotB => 1 | .oxbow => 2 | .none => 0
/-- A FIRMWARE record (R573, R610). -/
def State.fwLog (s : State) (event slot version reason : Nat) : State :=
  s.logRec 0x105 (toWord (event + 16 * slot)) (toWord version) (toWord reason)
/-- R592 over a package: none when it verifies, otherwise RES0 of VERIFY_FAIL (R596). -/
def checkPackage (anchors : List (Option PubKey)) (b : Bytes) : Option Nat :=
  let n := u32 b 8
  let g := slice b (n - 128) 128
  let d := slice g 8 32
  if slice b 0 4 ≠ [0x4D, 0x4C, 0x46, 0x57] ∨ n ≠ b.length ∨ 0x200000 < n ∨ n < 192 ∨ u16 b 0x12 ≠ 0x80 then some 2
  else if u32 b 0x24 ≠ crc32 (b.take 0x24) then some 2
  else if u32 b 0x20 ≠ crc32 (slice b 0x40 (n - 192)) then some 2
  else if d ≠ sha256 (b.take (n - 128)) then some 2
  else match anchors.getD (u8 b 0x14) none with
    | some k => if ecdsaOk k (beNat d) (beNat (slice g 0x28 32)) (beNat (slice g 0x48 32)) then none else some 3
    | none => some 3
/-- FW_STORE (u0 of R596). -/
def execFwStore (p : Port) (s : State) : Res :=
  let bad := fun (j : Job) => (j.count 3).or (j.badStaged 0)
  .next (s.command p 0x20 true bad s.dev.served fun j s => s.startOp p j)
/-- Boot control once the target slot has been stored (u3 of R596); Oxbow clears OXBOW_REQ with ACTIVATE (R600). -/
def State.storedCtl (s : State) (activate : Bool) : BootCtl :=
  let b := s.fwTargetB
  let c := if b then { s.bootCtl with stB := 1 } else { s.bootCtl with stA := 1 }
  if activate then { c with active := b2n b, tries := 0, oxReq := c.oxReq && decide (s.mss.run ≠ .oxbow) } else c
/-- The operation steps to its boot control store. -/
def State.fwCtlStore (s : State) (o : LongOp) : State :=
  (s.setMss fun m => { m with op := some { o with stage := 2 + b2n s.fwTargetB } }).storeOp (.bootCtl (s.storedCtl (o.arg 2 % 2 = 1)))
/-- FW_VERIFY_DONE (u1 of R596, R597): a slot that holds an identical package is not programmed again. -/
def execFwVerifyDone (s : State) : Res :=
  match s.mss.op with
  | some o =>
    if o.code ≠ 0x20 ∨ o.stage ≠ 0 ∨ s.mss.halted then .next s
    else
      let b := s.staged (o.arg 0) (o.arg 1)
      match checkPackage s.flash.anchors b with
      | some n => .next (s.endOp stVerifyFail [toWord n])
      | none =>
        if u16 b 0xC < s.bootCtl.minSec then
          .next ((s.fwLog 6 (b2n s.fwTargetB) (pkgVersion b) 0).endOp stBadArgs [0])
        else
          let s := s.setMss fun m => { m with pkg := b }
          if (if s.fwTargetB then s.flash.fwB else s.flash.fwA) = b then .next (s.fwCtlStore o)
          else if s.pfw then .next (s.endOp stAborted [])
          else .next (s.setMss fun m => { m with op := some { o with stage := 1 } })
  | none => .next s
/-- FW_PROGRAM_DONE (u2 of R596): `fail` is the flash address of a mismatch; boot control is then unchanged. -/
def execFwProgramDone (fail : Option Nat) (s : State) : Res :=
  match s.mss.op with
  | some o =>
    if o.code ≠ 0x20 ∨ o.stage ≠ 1 ∨ s.mss.halted then .next s
    else match fail with
      | some a => .next ((s.setFlash (·.setFw s.fwTargetB [])).endOp stFlashError [toWord a])
      | none => .next ((s.setFlash (·.setFw s.fwTargetB s.mss.pkg)).fwCtlStore o)
  | none => .next s

/-- Boot control at confirmation (R601). -/
def State.confirmedCtl (s : State) : BootCtl :=
  let c := if s.mss.run = .slotB then { s.bootCtl with stB := 2 } else { s.bootCtl with stA := 2 }
  { c with tries := 0, minSec := max c.minSec (u16 s.fwBytes 0xC) }
/-- The two stores of a confirmation start: the settings in the firmware's own SCHEMA, then boot control (R601). -/
def State.confirmStart (s : State) : State :=
  (s.storeBegin (.settings { s.settings with schema := s.fwSchema })).setMss fun m =>
    { m with storeNext := some (.bootCtl s.confirmedCtl) }
/-- FW_CONFIRM (R601). -/
def execFwConfirm (p : Port) (s : State) : Res :=
  .next (s.command p 0x21 true (fun j => j.count 0) (decide (s.dev = .pitched)) fun j s =>
    if s.fwState ≠ 1 then s.finish p stOK []
    else if s.pfw then s.finish p stAborted []
    else (s.startOp p j).confirmStart)
/-- FW_CONFIRM_TIMER (R601): ten minutes of PITCHED and DOZE have accumulated. -/
def execFwConfirmTimer (s : State) : Res :=
  if s.mss.conf < 600000000 ∨ s.fwState ≠ 1 ∨ s.mss.reached = false ∨ s.mssServes = false ∨ s.busyOp ∨ s.mss.store.isSome ∨
      s.pfw then .next s
  else .next s.confirmStart

/-- The settings that a store has changed are logged, and CKOUT_SEL applies at once (R583). -/
def State.settingsChanged (s : State) (old : Nat → Nat) : State :=
  settingIds.foldl (fun s id =>
    let v := s.setting id
    if old id = v then s
    else
      let s := s.logRec 0x103 (toWord id) (toWord (old id)) (toWord v)
      if id = 0x20 then s.setFld SYS_CLKCTL 2 0 v else s) s
/-- A trim applies from the next sinc output or frame; an input's channel is reset (R395, R420). -/
def State.trimmed (s : State) (o : LongOp) (what : Word) : State :=
  let c : Fin 32 := Fin.ofNat 32 (o.arg 0)
  let s := if isAI (s.func c) then s.requestReset c 6 else s
  s.logRec 0x104 (toWord c.val) what (toWord (sessionNo o.port))
/-- The operation whose last store is complete ends. -/
def State.opStored (s : State) (o : LongOp) : State :=
  if o.code = 0x14 then (s.accepted o).endOp stOK []
  else if o.code = 0x16 then (s.logRec 0x301 (toWord (o.arg 0)) (toWord (sessionNo o.port)) 0).endOp stOK []
  else if o.code = 0x20 then (s.fwLog 1 (o.stage - 2) (pkgVersion s.mss.pkg) 0).endOp stOK []
  else if o.code = 0x21 then (s.fwLog 3 s.mss.run.code s.fwVersion 1).endOp stOK []
  else if o.code = 0x41 then
    let t := (s.trim (Fin.ofNat 32 (o.arg 0))).getD (0, 0)
    (s.trimmed o 1).endOp stOK [codeWord t.1, codeWord t.2]
  else if o.code = 0x42 then (s.trimmed o 2).endOp stOK []
  else s.endOp stOK []
/-- BANK_STORE_DONE (R594): the bank checks and MARK is written, or `fail` is the address at which the check failed. -/
def execBankStoreDone (fail : Option Nat) (s : State) : Res :=
  match s.mss.store with
  | none => .next s
  | some w =>
    if s.mss.halted then .next s
    else match fail with
      | some a => .next ((s.setMss fun m => { m with store := none, storeNext := none }).endOp stFlashError [toWord a])
      | none =>
        let old := s.setting
        let s := (s.setFlash (·.mark w)).setMss fun m => { m with store := none, erase := m.erase ||| w.pair }
        let s := s.settingsChanged old
        match s.mss.storeNext, s.mss.op with
        | some w2, _ => .next ((s.setMss fun m => { m with storeNext := none }).storeOp w2)
        | none, some o => .next (s.opStored o)
        | none, none => match w with
          | .bootCtl _ => .next (s.fwLog 3 s.mss.run.code s.fwVersion 2)
          | .settings _ | .calib _ => .next s
/-- The banks that background erase has erased: of the pairs in `e`, the one that is not active (R594). -/
def Flash.erased (f : Flash) (e : Nat) : Flash := { f with
  ctl := if e.testBit 0 then f.ctl.clean else f.ctl
  settings := if e.testBit 1 then f.settings.clean else f.settings
  calib := if e.testBit 2 then f.calib.clean else f.calib }
/-- BANK_ERASE_DONE (R594): the inactive banks of the pairs that were stored have been erased. -/
def execBankEraseDone (s : State) : Res :=
  if s.mss.halted ∨ s.mss.store.isSome then .next s
  else .next ((s.setFlash (·.erased s.mss.erase)).setMss fun m => { m with erase := 0 })

end Sys2Proof.Machine
end

