-- ==== Sys2Proof/Machine/Power.lean ====
section
/-!
DEFINITION. Supplies and monitors (R67–R72), clock failures (R80), resets and their release (R104–R106), and the Ember
domain's supply and clock (R605–R608).
-/
namespace Sys2Proof.Machine

/-- The code of a reset cause, which is also its priority (R104). -/
def ResetCause.code : ResetCause → Nat
  | .powerOn => 1 | .supply => 2 | .clock => 3 | .pin => 4 | .watchdog => 5 | .mssMonitor => 6 | .command => 7 | .firmware => 8
/-- A reset cause with the causes that occur in the same core-clock cycle: the highest priority counts, and MULTI is set
when they differ (R104, R115). -/
def State.resetNow (s : State) (cause : Nat) (also : List ResetCause) : State :=
  let all := also.map ResetCause.code
  s.hubReset (all.foldl min cause) (all.any fun c => decide (c ≠ cause))
/-- The Ember flag of R104: every main rail has been below its RESET level. -/
def State.railsDown (s : State) (all : Bool) : State :=
  { s with ember := { s.ember with powerOn := s.ember.powerOn || all }, hold := { s.hold with railsOk := false } }
/-- The latest value of a sensor (R572). -/
def State.sensor (s : State) (n : Fin 24) : Word := toWord (s.fld (SYS_SENS n) 15 0)

/-- POWER_LOSS (R34, R44): valid main power is lost; `all` says that every main rail falls below its RESET level. -/
def execPowerLoss (all : Bool) (s : State) : Res :=
  .next ((if s.dev = .off then s else s.hubResetTo .off 2 false).railsDown all)
/-- MAIN_RAILS_VALID (R67): the POR hold of 2 ms starts. -/
def execMainRailsValid (s : State) : Res := .next { s with hold := { s.hold with railsOk := true } }
/-- RAIL_BELOW_RESET (R69, R70, R96). -/
def execRailBelowReset (all : Bool) (also : List ResetCause) (s : State) : Res :=
  if s.dev = .off then .next (s.railsDown all)
  else if s.hold.held then .next (({ s with hold := { s.hold with cause := min s.hold.cause 2 } } : State).railsDown all)
  else .next ((s.resetNow 2 also).railsDown all)
/-- RSTN_ASSERT (R53, R104, R114). -/
def execRstnAssert (also : List ResetCause) (s : State) : Res := .next (if s.down then s else s.resetNow 4 also)
/-- REFERENCE_CLOCK_FAIL (R80): the reference stops, or PLL-A loses lock. -/
def execReferenceClockFail (reference : Bool) (also : List ResetCause) (s : State) : Res :=
  .next (if s.down then s else (s.resetNow 3 also).setBit SYS_CLKSTAT (if reference then 0 else 1) false)
/-- MSS_MONITOR (R104, R566). -/
def execMssMonitor (also : List ResetCause) (s : State) : Res := .next (if s.down || s.asleep then s else s.resetNow 6 also)
/-- MSS_SRAM_UNCORRECTABLE (R566). -/
def execMssSramUncorrectable (s : State) : Res :=
  .next (if s.mss.run = .none then s else s.setMss fun m => { m with halted := true })
/-- COMMAND_RESET (R104, R582): 10 ms after the RESET command was answered. -/
def execCommandReset (also : List ResetCause) (s : State) : Res := .next (if s.mss.resetDue then s.resetNow 7 also else s)

/-- The majority of three samples of a strap (R55). -/
def strap (a b c : Nat) (k : Nat) : Nat :=
  if 2 ≤ b2n (a.testBit k) + b2n (b.testBit k) + b2n (c.testBit k) then 2 ^ k else 0
/-- SYS_STRAPS from three samples of its bits [4:0] (R55, R56). -/
def strapWord (a b c : Nat) : Word :=
  let m := fun (x : Nat) => x % 32
  toWord ((List.range 5).foldl (fun n k => n + strap a b c k) 0 + 256 * b2n (decide (¬ (m a = m b ∧ m b = m c))))
/-- The Ember domain at a reset release (R105–R107, R606, R607). -/
def EmberSt.release (e : EmberSt) (cause : Nat) : EmberSt :=
  let ok := !e.low && e.crcOk
  let lost := (List.finRange 8).foldl (fun n a => n + b2n (e.snaps[a.val]).isSome * 2 ^ a.val) 0
  if ok then { e with valid := true, bootCnt := e.bootCnt + 1, prevCause := cause, powerOn := false, lostSnaps := 0 }
  else { EmberSt.reset with low := e.low, crcOk := e.crcOk, oscOk := e.oscOk, onVbat := e.onVbat, prevCause := cause, lostSnaps := lost }
/-- HUB_RESET_RELEASE (t1 of R106): three samples of BOOTSEL, LMODE and TESTEN, the cause, BOOT, and the watchdog's boot
window. -/
def execHubResetRelease (a b c : Nat) (s : State) : Res :=
  if s.hold.held = false ∨ s.hold.railsOk = false then .next s
  else
    let ok := !s.ember.low && s.ember.crcOk
    let cause := if s.hold.cause ≤ 2 then (if ok = false ∨ s.ember.powerOn then 1 else 2) else s.hold.cause
    let prev := if ok then s.ember.prevCause else 0
    let s : State := { s with
      ember := s.ember.release cause
      hold := { s.hold with held := false, cause := cause, xferNext := 0 }
      upUs := 0 }
    let w := strapWord a b c
    let s := (s.setReg SYS_CAUSE (toWord (cause + 256 * b2n s.hold.multi + 65536 * prev))).setReg SYS_STRAPS w
    let s := s.setFld SYS_BOOT 8 7 (bitsOf w 1 0)
    let s := s.setReg SYS_CLKSTAT (putBits (resetWord SYS_CLKSTAT) 6 6 (b2n s.ember.oscOk))
    let s := s.setReg WDG_CHAL (firstChallenge s.ember.bootCnt.toNat)
    let hw := decide (s.setting 0x10 = 1)
    let s := (s.setBit RNG_STAT 0 hw).setFld RNG_STAT 14 5 (if hw then 0 else s.ember.nodeId.getD 0)
    let s := s.setRing fun r => { r with fixedId := s.setting 0x11, imgSlot := s.setting 0x12 }
    .next (s.setDev .boot 0xFF)

/-- RAIL_WARN_ENTER (R69, R70, R85): rails 0–4 are VDDC, VDDM, VDDIO, VDDA, VISO. -/
def execRailWarnEnter (rail : Fin 5) (s : State) : Res :=
  if s.dev = .off ∨ s.bit SYS_PWR_STAT rail.val then .next s
  else
    let s := s.setBit SYS_PWR_STAT rail.val true
    if s.down then .next s
    else
      let n : Fin 24 := ⟨rail.val + 1, by omega⟩
      let s := (s.setBit SYS_PWR_EVT rail.val true).fire 448 0
      .next (s.logRec 0x401 (s.reg SYS_PWR_STAT) (toWord n.val) (s.sensor n))
/-- RAIL_WARN_CLEAR (R69). -/
def execRailWarnClear (rail : Fin 5) (s : State) : Res := .next (s.setBit SYS_PWR_STAT rail.val false)
/-- A SAFE-limit crossing (R36, R37, R94, R95): the sticky bit, and its handling by the state; in DEEP it waits for the
wake. -/
def State.limitCross (s : State) (b cause : Nat) (detail : Word) : State :=
  if s.down then s
  else
    let s := s.setBit SYS_PWR_EVT b true
    if s.dev = .deep then { s with sleep := { s.sleep with limit := cause } }
    else (s.when (decide (s.dev = .doze)) fun s => s.setBit SYS_WAKE_CAUSE 15 true).safeCause cause detail
/-- RAIL_SAFE_HIGH (R69); the log's detail is the rail (log entry 24). -/
def execRailSafeHigh (rail : Fin 5) (s : State) : Res := .next (s.limitCross 7 4 (toWord rail.val))
/-- PFW ends what the MSS writes to flash; the previous content stays valid (R588). -/
def State.flashAbort (s : State) : State :=
  let s := s.setMss fun m => { m with store := none, storeNext := none }
  match s.mss.op with
  | some o => if o.code = 0x10 ∨ o.code = 0x11 then s else s.endOp stAborted []
  | none => s
/-- PFW_RAISE (R72, R480, R588). -/
def execPfwRaise (s : State) : Res :=
  if s.dev = .off ∨ s.bit SYS_PWR_STAT 5 then .next s
  else
    let s := s.setBit SYS_PWR_STAT 5 true
    if s.down then .next s
    else
      let s := ((s.setBit SYS_PWR_EVT 5 true).fire 449 0).logRec 0x403 0 0 0
      let s := s.when (decide (s.dev = .pitched) || decide (s.dev = .doze)) State.snapAll
      .next (if s.mss.halted then s else s.flashAbort)
/-- PFW_CLEAR (R72). -/
def execPfwClear (s : State) : Res := .next (s.setBit SYS_PWR_STAT 5 false)
/-- TEMP_WARN_RAISE (R71). -/
def execTempWarnRaise (s : State) : Res :=
  if s.down ∨ s.bit SYS_PWR_STAT 6 then .next s
  else
    let s := ((s.setBit SYS_PWR_STAT 6 true).setBit SYS_PWR_EVT 6 true).fire 450 0
    .next (s.logRec 0x402 0 (s.sensor 0) 0)
/-- TEMP_WARN_CLEAR (R71). -/
def execTempWarnClear (s : State) : Res := .next (s.setBit SYS_PWR_STAT 6 false)
/-- TEMP_SAFE_LIMIT (R71); the log's detail is the junction temperature (log entry 24). -/
def execTempSafeLimit (s : State) : Res := .next (s.limitCross 8 5 (s.sensor 0))

/-- PLLB_UNLOCK (R80, R101): both ring ports go down; an armed SYNC meets a broken ring. -/
def execPllbUnlock (s : State) : Res :=
  if s.down ∨ s.bit SYS_CLKSTAT 2 = false then .next s
  else
    let one := fun (s : State) (w : Bool) => s.linkDown w (s.bit (RNG_LINK w) 3)
    let s := one (one (s.setBit SYS_CLKSTAT 2 false) false) true
    .next (s.fire 451 0)
/-- RING_FORWARD_START (t2 of R106): PLL-B is locked. -/
def execRingForwardStart (s : State) : Res :=
  if s.down then .next s else .next ((s.setBit SYS_CLKSTAT 2 true).setRing fun r => { r with forward := true })
/-- EMBER_OSC_STOP (R80, R608, R610). -/
def execEmberOscStop (s : State) : Res :=
  let s : State := { s with ember := { s.ember with oscOk := false, rtcValid := false } }
  .next (if s.down then s else (s.setBit SYS_CLKSTAT 6 false).logRec 0x404 4 (s.sensor 6) 0)

/-- EMBER_TO_VBAT (R606). -/
def execEmberToVbat (s : State) : Res :=
  .next (({ s with ember := { s.ember with onVbat := true } } : State).setBit SYS_PWR_STAT 7 true)
/-- EMBER_LOW (R606): VBAT falls below V_RET; `lost` says that Ember takes its power-on reset, which clears all other
content. -/
def execEmberLow (lost : Bool) (s : State) : Res :=
  let e := s.ember
  if e.onVbat = false then .next s
  else .next { s with ember :=
    if lost then { EmberSt.reset with low := true, crcOk := e.crcOk, onVbat := true, oscOk := e.oscOk, bootCnt := 0, logSeq := 0, powerOn := true }
    else { e with low := true } }
/-- EMBER_TO_VDDIO (R606): the CRC is checked; `low` says that VBAT crosses V_RET in the same Ember clock period. -/
def execEmberToVddio (crcOk low : Bool) (s : State) : Res :=
  if s.ember.onVbat = false then .next s
  else
    let s : State := { s with ember := { s.ember with onVbat := false, crcOk := crcOk, low := s.ember.low || low } }
    .next (s.setBit SYS_PWR_STAT 7 false)
/-- RTC_ALARM_MATCH (R608): the alarm disables itself; its wake is DOZE_WAKE or DEEP_WAKE. -/
def execRtcAlarmMatch (s : State) : Res :=
  let e := s.ember
  if e.alarmEn = false ∨ e.oscOk = false ∨ e.sec ≠ e.alarm then .next s
  else .next { s with ember := { e with alarmEn := false, alarmHit := true, alarm := 0 } }

end Sys2Proof.Machine
end

