-- ==== Sys2Proof/Machine/Mgmt.lean ====
section
/-!
DEFINITION. The management subsystem: sensors (R572), the log in flash (R574–R576), the short mailbox commands (R582, R608),
and the load summary (R625).
-/
namespace Sys2Proof.Machine

/-- The MSS acts: its firmware runs and it is neither halted nor stopped by DEEP (R90, R566). -/
def State.mssRuns (s : State) : Bool :=
  !s.down && decide (s.mss.run ≠ .none) && !s.mss.halted && decide (s.sleep.phase ≠ 4) && decide (s.sleep.phase ≠ 5)
/-- A sensor value with VALID set, as SYS_SENSn (R572). -/
def sensWord (v : Nat) : Word := toWord (v % 65536 + 65536)
/-- The order of a sensor's values: signed for temperatures (R572). -/
def sensKey (n : Fin 24) (w : Word) : Int :=
  let v := bitsOf w 15 0
  if n.val = 0 ∨ (8 ≤ n.val ∧ n.val ≤ 15) then (BitVec.ofNat 16 v).toInt else v
/-- The lower, or the higher, of a kept sample and a new one; a kept word without VALID is none. -/
def sensLow (n : Fin 24) (old new : Word) : Word := if bitOf old 16 && decide (sensKey n old ≤ sensKey n new) then old else new
def sensHigh (n : Fin 24) (old new : Word) : Word := if bitOf old 16 && decide (sensKey n new ≤ sensKey n old) then old else new
/-- SENSOR_UPDATE (R572): the mean, the lowest and the highest sample of an update interval. Sensor 7 does not exist. -/
def execSensorUpdate (n : Fin 24) (mean low high : Nat) (s : State) : Res :=
  if s.mssRuns = false ∨ n.val = 7 then .next s
  else if s.sensLost n then .next (s.setBit (SYS_SENS n) 16 false)
  else
    let s := s.setReg (SYS_SENS n) (sensWord mean)
    .next (s.setMss fun m => { m with
      sensMin := updV m.sensMin n fun w => sensLow n w (sensWord low)
      sensMax := updV m.sensMax n fun w => sensHigh n w (sensWord high) })

/-- A record enters a ring of segments of 2,047 records; a full ring erases its oldest segment (R575). -/
def ringPut (segments : Nat) (l : List LogRec) (r : LogRec) : List LogRec :=
  (if 2047 * segments ≤ l.length then l.drop 2047 else l) ++ [r]
/-- The buffered records go to the log partition (R575, R576). -/
def State.logStore (s : State) : State :=
  let crit := s.log.buf.filter fun r => logCritical r.code
  let gen := s.log.buf.filter fun r => !logCritical r.code
  let s := s.setFlash fun f => { f with logCrit := crit.foldl (ringPut 4) f.logCrit, logGen := gen.foldl (ringPut 12) f.logGen }
  { s with log := { s.log with buf := [] } }
/-- A LOG_LOST record when the ring that lost records has room, and the general ring that takes the record (R573, R575,
R576). -/
def State.logLost (s : State) (crit : Bool) : State :=
  let n := if crit then s.log.lostCrit else s.log.lostGen
  if n = 0 ∨ s.logRoom crit = false ∨ s.logRoom false = false then s
  else
    let s := (s.logPut 0x506 (toWord n) (toWord (b2n crit)) 0).fire 491 (toWord n)
    { s with log := if crit then { s.log with lostCrit := 0 } else { s.log with lostGen := 0 } }
/-- LOG_FLUSH (R576); with PFW raised the MSS starts no flash program (R588). -/
def execLogFlush (s : State) : Res :=
  if s.mssRuns = false ∨ s.pfw then .next s else .next ((s.logStore.logLost false).logLost true)

/-- POLL (R582): the session's latest result; OK without words when there is none. -/
def execPoll (p : Port) (s : State) : Res :=
  .next (s.command p 0 false (fun j => j.count 0) s.dev.served fun _ s =>
    let m := s.mbxOf p
    s.finish p (if m.lastStatus = 0 then stOK else m.lastStatus) m.lastRes)
/-- The words of INFO (R582). -/
def State.infoWords (s : State) : List Word :=
  let u := s.flash.uid.toNat
  [toWord s.fwVersion, toWord (s.mss.run.code + 4 * b2n (decide (s.fwState = 2))), toWord u, toWord (u / 16777216),
    toWord (u / 281474976710656), s.ember.bootCnt, toWord s.fwSchema, s.reg SYS_IMG_SERIAL]
/-- INFO (R582). -/
def execInfo (p : Port) (s : State) : Res :=
  .next (s.command p 1 false (fun j => j.count 0) s.dev.served fun _ s => s.finish p stOK s.infoWords)
/-- RESET (R582): the reset follows by COMMAND_RESET. -/
def execReset (p : Port) (s : State) : Res :=
  let bad := fun (j : Job) => (j.count 1).or (if j.arg 0 = 0x00A55A then none else some 0)
  .next (s.command p 4 false bad s.dev.served fun _ s =>
    (s.setMss fun m => { m with resetDue := true }).finish p stOK [])

/-- The eight words of a record (R574). -/
def LogRec.words (r : LogRec) : List Word :=
  [toWord r.seq, toWord (r.rep + 1024 * r.sev + 4096 * r.code), toWord r.sec,
    toWord (r.sec / 16777216 % 256 + 256 * r.ms + 262144 * b2n r.rtcValid), toWord (r.boot + 65536 * r.dev), r.d0, r.d1, r.d2]
/-- How far a SEQ lies after another, modulo 2^24. -/
def seqAfter (a b : Nat) : Nat := (a + 16777216 - b) % 16777216
/-- A record placed into a list in ascending SEQ, counted from `base`. -/
def insertSeq (base : Nat) (r : LogRec) : List LogRec → List LogRec
  | [] => [r]
  | x :: l => if seqAfter r.seq base ≤ seqAfter x.seq base then r :: x :: l else x :: insertSeq base r l
/-- The records that LOG_READ gives: of the classes, from a SEQ on, in ascending SEQ, at most `n` (R582). -/
def State.logFind (s : State) (first n mask : Nat) : List LogRec :=
  let all := s.flash.logCrit ++ s.flash.logGen ++ s.log.buf
  let hit := all.filter fun r => mask.testBit (r.code / 256) && decide (seqAfter r.seq first < 8388608)
  (hit.foldl (fun l r => insertSeq first r l) []).take n
/-- LOG_READ (R582). -/
def execLogRead (p : Port) (s : State) : Res :=
  let bad := fun (j : Job) => (j.count 3).or <| (if 1 ≤ j.arg 1 ∧ j.arg 1 ≤ 8 then none else some 1).or
    (if j.arg 2 ≤ 255 then none else some 2)
  .next (s.command p 0x50 false bad s.dev.served fun j s =>
    let rs := s.logFind (j.arg 0) (j.arg 1) (j.arg 2)
    if rs = [] then s.finish p stNoRecord [] else s.finish p stOK (rs.flatMap LogRec.words))
/-- LOG_WRITE (R573, R582): the SEQ of the record, or of the one that it is folded into; no word when it is lost. -/
def execLogWrite (p : Port) (s : State) : Res :=
  .next (s.command p 0x51 false (fun j => j.count 3) s.dev.served fun j s =>
    let d0 := toWord (j.arg 0)
    let seq := if s.logRoom false then [s.ember.logSeq]
      else ((s.log.buf.find? fun r => decide (r.code = 0x701 ∧ r.d0 = d0)).map fun r => toWord r.seq).toList
    (s.logRec 0x701 d0 (toWord (j.arg 1)) (toWord (j.arg 2))).finish p stOK seq)
/-- SENSOR_MINMAX (R572, R582). -/
def execSensorMinmax (p : Port) (s : State) : Res :=
  let bad := fun (j : Job) => (j.count 2).or (if j.arg 0 ≤ 23 then none else some 0)
  .next (s.command p 0x52 false bad s.dev.served fun j s =>
    let n : Fin 24 := Fin.ofNat 24 (j.arg 0)
    let ws := [s.mss.sensMin[n.val], s.mss.sensMax[n.val]]
    (s.when (decide (j.arg 1 % 2 = 1)) fun s => s.setMss fun m =>
      { m with sensMin := updV m.sensMin n fun _ => 0, sensMax := updV m.sensMax n fun _ => 0 }).finish p stOK ws)

/-- The seconds that RTC_SET and RTC_ALARM carry (R582). -/
def Job.seconds (j : Job) : Nat := j.arg 0 + 16777216 * j.arg 1
/-- Their arguments. -/
def secondsBad (j : Job) : Option Nat := (j.count 2).or (if j.arg 1 ≤ 255 then none else some 1)
/-- RTC_SET (R608): with the crystal stopped RTC_VALID is not set (R53). -/
def execRtcSet (p : Port) (s : State) : Res :=
  .next (s.command p 0x60 true secondsBad s.dev.servedNotMaint fun j s =>
    let e := s.ember
    ({ s with ember := { e with sec := j.seconds, ms := 0, us := 0, rtcValid := e.oscOk } } : State).finish p stOK [])
/-- RTC_ALARM (R608): 0 disables the alarm. -/
def execRtcAlarm (p : Port) (s : State) : Res :=
  .next (s.command p 0x61 false secondsBad s.dev.servedNotMaint fun j s =>
    ({ s with ember := { s.ember with alarm := j.seconds, alarmEn := decide (j.seconds ≠ 0) } } : State).finish p stOK [])

/-- LOAD_CHECK (R625): each millisecond; a resource in deficit at 1,000 consecutive checks fires LOAD_SUSTAINED. -/
def execLoadCheck (s : State) : Res :=
  if s.runs = false then .next s
  else
    let now := s.load.now % 128
    let old := s.load.runs
    let runs := Vector.ofFn fun b : Fin 7 => if now.testBit b.val then min 1000 (old[b.val] + 1) else 0
    let s : State := { s with load := ⟨0, runs⟩ }
    let one := fun (s : State) (b : Fin 7) =>
      if runs[b.val] = 1000 ∧ old[b.val] < 1000 then (s.setBit SYS_LOAD_SUST b.val true).fire 492 (toWord b.val) else s
    .next ((List.finRange 7).foldl one (s.setReg SYS_LOAD (toWord now)))

end Sys2Proof.Machine
end

