-- ==== Sys2Proof/Machine/Boot.lean ====
section
/-!
DEFINITION. The boot from t3 (R106–R108, R595, R598–R603, R607, R644), and the sleep states DOZE and DEEP with MAINTENANCE
(R34, R35, R40, R86–R95).
-/
namespace Sys2Proof.Machine

/-- The bytes of a firmware slot, and its state in a boot control record. -/
def Flash.fw (f : Flash) (isB : Bool) : Bytes := if isB then f.fwB else f.fwA
def BootCtl.st (c : BootCtl) (isB : Bool) : Nat := if isB then c.stB else c.stA
def BootCtl.setSt (c : BootCtl) (isB : Bool) (n : Nat) : BootCtl := if isB then { c with stB := n } else { c with stA := n }
/-- A slot passes R592 and the rollback floor. -/
def Flash.passes (f : Flash) (isB : Bool) (floor : Nat) : Bool :=
  (checkPackage f.anchors (f.fw isB)).isNone && decide (floor ≤ u16 (f.fw isB) 0xC)
/-- The ACTIVE slot does not fail (R595). -/
def Flash.activeOk (f : Flash) (c : BootCtl) : Bool :=
  let b := decide (c.active = 1)
  let st := c.st b
  (decide (st = 2) || (decide (st = 1) && decide (c.tries < 3))) && f.passes b c.minSec
/-- What boot ROM starts, and whether it is a fallback (R595). -/
def Flash.choose (f : Flash) : FwRun × Bool :=
  let slot := fun (b : Bool) => if b then FwRun.slotB else FwRun.slotA
  match f.ctl.active with
  | none => (if (checkPackage f.anchors f.fwA).isNone then .slotA else .oxbow, false)
  | some c =>
    let b := decide (c.active = 1)
    if c.oxReq then (.oxbow, false)
    else if f.activeOk c then (slot b, false)
    else if c.st (!b) = 2 ∧ f.passes (!b) c.minSec then (slot (!b), true)
    else (.oxbow, true)

/-- SEQ continues from the log partition (R574, R607). -/
def State.logContinue (s : State) : State :=
  let last := fun (l : List LogRec) => (l.getLast?).map (·.seq)
  let next := match last s.flash.logGen, last s.flash.logCrit with
    | some a, some b => (if seqAfter a b < 8388608 then a else b) + 1
    | some a, none => a + 1
    | none, some b => b + 1
    | none, none => 0
  { s with ember := { s.ember with logSeq := toWord next } }
/-- The log records of the boot, in their order, once the firmware runs (R573). -/
def State.logLate (s : State) : State :=
  let l := s.log.late
  l.foldl (fun s r => s.logRec r.1 r.2.1 r.2.2.1 r.2.2.2) { s with log := { s.log with late := [] } }
/-- t3: Ember content that was not valid is logged and initialised (R607, R610); `vbat` is sensor 6 at the boot, in mV. -/
def State.emberInit (s : State) (vbat : Nat) : State :=
  let e := s.ember
  if e.valid then s
  else
    let d := b2n e.low + 2 * b2n (!e.low && !e.crcOk) + 4 * b2n (!e.oscOk)
    let s := s.logRec 0x404 (toWord d) (toWord vbat) (toWord e.lostSnaps)
    { s with ember := { s.ember with low := false, crcOk := true, lostSnaps := 0 } }

/-- A firmware that cannot read the settings (R599): logged, boot control stored, reset with cause FIRMWARE. The record
reaches flash before the reset. -/
def State.settingsUnreadable (s : State) (isB : Bool) (reason : Nat) : State :=
  let s := (s.fwLog 4 (b2n isB) s.fwVersion reason).logStore
  let c := s.bootCtl
  let c := if c.st isB = 1 ∧ c.st (!isB) = 2 then { (c.setSt isB 3) with active := b2n (!isB) } else { c with oxReq := true }
  (s.storeNow (.bootCtl c)).hubReset 8 false
/-- The Malelama firmware starts (R595, R598, R603): boot control, then the settings, then CKOUT_SEL (R79). -/
def State.firmwareStart (s : State) (isB fallback : Bool) : State :=
  let s := if fallback then
      s.storeNow (.bootCtl { (s.bootCtl.setSt (!isB) 3) with active := b2n isB })
    else s
  let s := if s.bootCtl.st isB = 1 ∧ s.flash.ctl.active.isSome then
      (s.storeNow (.bootCtl { s.bootCtl with tries := s.bootCtl.tries + 1 })).fwLog 2 (b2n isB) s.fwVersion 0
    else s
  match s.flash.settings.active with
  | none => (s.fwLog 4 (b2n isB) s.fwVersion 5).setFld SYS_CLKCTL 2 0 (s.setting 0x20)
  | some x =>
    let r := readsSchema s.fwBytes x
    if r ≠ 0 then s.settingsUnreadable isB r else s.setFld SYS_CLKCTL 2 0 (s.setting 0x20)
/-- t3 with the firmware that boot ROM has chosen: it runs, SYS_BOOT tells, and the boot's log records are written in their
order (R106, R573, R595, R607). -/
def State.firmwareFound (s : State) (vbat : Nat) : State :=
  let ctl := s.bootCtl
  let run := s.flash.choose.1
  let fallback := s.flash.choose.2
  let tries := fallback && decide (ctl.st (decide (ctl.active = 1)) = 1) && decide (3 ≤ ctl.tries)
  let s := if s.ember.valid then s else s.logContinue
  let late := s.log.late
  let s : State := { s with mss := { s.mss with run := run }, log := { s.log with late := [] } }
  let s := ((s.setFld SYS_BOOT 3 0 2).setFld SYS_BOOT 5 4 run.code).setBit SYS_BOOT 6 fallback
  let s := ({ s with log := { s.log with late := late } } : State).logLate
  let s := s.logRec 0x001 (s.reg SYS_CAUSE) (s.reg SYS_STRAPS) (toWord s.fwVersion)
  let s := s.when (s.bit SYS_STRAPS 8) fun s => s.logRec 0x502 (s.reg SYS_STRAPS) 0 0
  let s := s.emberInit vbat
  s.when tries fun s => s.fwLog 4 ctl.active (pkgVersion (s.flash.fw (decide (ctl.active = 1)))) 4
/-- The firmware of a slot waits for a ring image when BOOTSEL selects the ring, but for a test boot (R108, R644). -/
def State.firmwareRing (s : State) : State :=
  s.setRing fun r => { r with imgReq := decide (s.fld SYS_STRAPS 1 0 = 2) && !s.bit SYS_STRAPS 4 }
/-- FIRMWARE_VERIFIED (t3 of R106): the chosen firmware runs, or Oxbow in MAINTENANCE (R34, R107, R550). -/
def execFirmwareVerified (vbat : Nat) (s : State) : Res :=
  if s.down ∨ s.dev ≠ .boot ∨ s.mss.run ≠ .none then .next s
  else
    let fallback := s.flash.choose.2
    let u := s.firmwareFound vbat
    match s.flash.choose.1 with
    | .oxbow =>
      .next ((((u.fwLog 5 2 u.fwVersion 0).wdgMaintenance).setDev .maintenance 0xFF).setFld SYS_BOOT 3 0 0xF)
    | .slotA => .next (u.firmwareRing.firmwareStart false fallback)
    | .slotB => .next (u.firmwareRing.firmwareStart true fallback)
    | .none => .next u

/-- The boot ends in UNPITCHED (R107, R108). -/
def State.bootUnpitched (s : State) : State := (s.setDev .unpitched 0xFF).setFld SYS_BOOT 3 0 0xF
/-- A boot image from a source is pitched, or with HOLD retained (R106, R108, R134). -/
def State.bootImage (s : State) (src : Nat) (im : Image) : State :=
  if s.fld SYS_STRAPS 1 0 = 1 then
    let s := s.setCfg fun _ => { CfgSram.reset with img := some im, src := sources im src }
    (s.setReg SYS_IMG_STAT (toWord (src + 32))).bootUnpitched
  else
    let s : State := { s with pitch := ⟨.verifying, true, src, some im, s.upUs⟩ }
    (s.enterPitching im).setFld SYS_BOOT 3 0 3
/-- The image slots in the order of boot control; an empty slot is no rejection (R107, R108). -/
def State.bootSlots (s : State) : List Nat → Bool → State
  | [], _ => s.bootUnpitched
  | k :: ks, first =>
    if (s.slotBytes (k + 1)).isEmpty then s.bootSlots ks false
    else match s.verifySource (k + 1) with
      | .ok im => s.bootImage (k + 1) im
      | .error c =>
        let s := s.when first fun s => s.setBit SYS_BOOT 9 true
        (s.reject c 0 0 (s.serialOf (k + 1)) 0xFF).bootSlots ks false
/-- BOOT_IMAGE_VERIFIED (t4 of R106): the image of the BOOTSEL source has been loaded and verified. With TESTEN sampled 1
no image is taken (R644). -/
def execBootImageVerified (s : State) : Res :=
  if s.down ∨ s.dev ≠ .boot ∨ s.mss.run = .none ∨ s.mss.halted then .next s
  else
    let sel := s.fld SYS_STRAPS 1 0
    let k := s.bootCtl.imgSlot
    if s.bit SYS_STRAPS 4 ∨ sel = 3 then .next s.bootUnpitched
    else if sel = 2 then
      if s.headwater then .next s.bootUnpitched
      else match s.ringImg with
        | none => .next s
        | some _ => match s.verifySource 3 with
          | .ok im => .next (s.bootImage 3 im)
          | .error c => .next (s.reject c 0 0 (s.serialOf 3) 0xFF).bootUnpitched
    else .next (s.bootSlots [k, 1 - k] true)
/-- RING_IMAGE_TIMEOUT (R108). -/
def execRingImageTimeout (s : State) : Res := .next (if s.down then s else s.bootEnd)

/-- The enabled wake sources among those asserted: SYNCN, SAFEN and RTC_ALARM, in DOZE also the event lines, in DEEP the
host ports (R94). -/
def State.wakeSet (s : State) (asserted : Nat) (deep : Bool) : Nat :=
  let m := (s.reg SYS_WAKE_MASK).toNat
  if deep then asserted &&& m % 128 else (asserted % 128 / 16 * 16 + 128 * s.linesWord) &&& m
/-- The MSS writes flash (reason 4 of R89). -/
def State.writesFlash (s : State) : Bool :=
  s.mss.store.isSome || decide (s.mss.erase ≠ 0) || match s.mss.op with
    | some o => decide (o.code ≠ 0x10 ∧ o.code ≠ 0x11)
    | none => false
/-- The reason of R89 for which a sleep request is refused, in the order of its table; 0 for none. -/
def State.sleepReason (s : State) (asserted : Nat) (deep : Bool) : Nat :=
  if s.dev ≠ .unpitched ∧ s.dev ≠ .pitched then 1
  else if deep && s.saf.armed then 2
  else if deep && s.anyEnergised then 3
  else if deep && s.writesFlash then 4
  else if s.wakeSet asserted deep ≠ 0 then 5
  else if s.repitch.phase ≠ 0 then 6 else 0
/-- A sleep request: refused with its reason, or taken (R41, R89); in another state the answer is STATE (R582). -/
def State.sleepAsk (s : State) (p : Port) (code asserted : Nat) (deep : Bool) (take : State → State) : State :=
  s.command p code false (fun j => j.count 0) true fun _ s =>
    let r := s.sleepReason asserted deep
    if r = 0 then (take s).finish p stOK []
    else
      let s := s.setFld SYS_SLEEP_STAT 3 0 r
      if r = 1 then s.finish p stState [toWord s.dev.code] else s.finish p stSleepRefused [toWord r]
/-- DOZE (R86, R89, R94, R306, R434). -/
def execDoze (p : Port) (asserted : Nat) (s : State) : Res :=
  .next (s.sleepAsk p 5 asserted false fun s =>
    let old := s
    let s : State := { s with sleep := { s.sleep with origin := s.dev } }
    old.observe (((s.setReg SYS_WAKE_CAUSE 0).capStopAll.tenureOver).setDev .doze 5))
/-- DOZE_WAKE (R88, R94): host ports always, the other sources when enabled. -/
def execDozeWake (sources : Nat) (s : State) : Res :=
  let src := sources % 16 + (((sources % 128 / 16 * 16) + 128 * (sources / 128 &&& s.linesWord)) &&& (s.reg SYS_WAKE_MASK).toNat)
  .next (if src = 0 ∨ s.down then s else s.wakeDoze src)

/-- DEEP (t0 of R92). -/
def execDeep (p : Port) (asserted : Nat) (s : State) : Res :=
  .next (s.sleepAsk p 6 asserted true fun s =>
    if s.sleep.phase = 1 ∨ s.sleep.phase = 2 then s else { s with sleep := { s.sleep with origin := s.dev, phase := 1, port := p } })
/-- DEEP_PREPARED (t1 of R92). -/
def execDeepPrepared (s : State) : Res :=
  if s.sleep.phase ≠ 1 ∨ s.down ∨ s.dev ≠ s.sleep.origin then .next s
  else
    let s := (s.capStopAll.slcHaltAll.tenureOver).snapAll
    .next ((({ s with sleep := { s.sleep with phase := 2 } } : State)).logRec 0x004 1 0 0)
/-- Every link and transfer stops, a start or a retry that was due with them: hub-powered islands lose their supply (R90,
R92). -/
def State.islandsOff (s : State) : State :=
  (List.finRange 8).foldl (fun s i =>
    (((s.setBit (ISL i 0) 0 false).setBit (ISL i 0) 1 false).setFld (ISL i 1) 1 0 0).setIsl i Isl.hubReset)
    { s with hold := { s.hold with xferNext := 8 } }
/-- DEEP_COMMIT (t2 of R92): an enabled wake source that is asserted refuses it (R40). -/
def execDeepCommit (asserted : Nat) (s : State) : Res :=
  if s.sleep.phase ≠ 2 ∨ s.down ∨ s.dev ≠ s.sleep.origin then .next s
  else if s.wakeSet asserted true ≠ 0 then
    .next (({ s with sleep := { s.sleep with phase := 0 } } : State).setFld SYS_SLEEP_STAT 3 0 5)
  else
    let old := s
    let s := ({ s with sleep := { s.sleep with phase := 3, limit := 0 } } : State).setReg SYS_WAKE_CAUSE 0
    .next (old.observe (s.setDev .deep 6).islandsOff)
/-- DEEP_RETAIN (t3 of R92, R90, R91): PLL-A stops; ring time and discipline are not maintained. -/
def execDeepRetain (s : State) : Res :=
  if s.sleep.phase ≠ 3 then .next s
  else
    let s := ((s.wdgPause.setBit SYS_CLKSTAT 1 false).setDisc false).setBit RNG_STAT 2 false
    .next { s with sleep := { s.sleep with phase := 4 } }
/-- DEEP_WAKE (t0 of R93, R94, R95, R99): sources asserted before t1 are all recorded. -/
def execDeepWake (sources : Nat) (s : State) : Res :=
  let src := s.wakeSet sources true + 32768 * b2n (decide (s.sleep.limit ≠ 0))
  if s.dev ≠ .deep ∨ src = 0 then .next s
  else
    let w := (s.reg SYS_WAKE_CAUSE).toNat ||| src
    let s := ((s.setReg SYS_WAKE_CAUSE (toWord w)).setBit SYS_WAKE_CAUSE 16 true).setBit SYS_CLKSTAT 1 true
    .next { s with sleep := { s.sleep with phase := 5 } }
/-- The wake ends in UNPITCHED (R35): no image is pitched any more. -/
def State.wakeUnpitched (s : State) : State :=
  let s := s.disarm.unstructureAll.clearImg
  let s : State := { s with role := { RoleSt.reset with holder := s.role.holder }, cfg := CfgSram.reset }
  let s := (((s.setReg SYS_IMG_STAT 0).setReg SYS_IMG_SERIAL 0).setReg SYS_SPC_LO 0).dropRing
  (s.setReg SYS_SPC_HI 0).setDev .unpitched 0xFF
/-- The islands' transfers start in their order (R74, R93). -/
def State.islandsOn (s : State) (phase : Nat) : State :=
  { s with hold := { s.hold with xferNext := 0 }, sleep := { s.sleep with phase := phase } }
/-- WAKE_CORE_RUNNING (t1 of R93): the state of the wake, the watchdog, and a SAFE limit that woke the module (R95). -/
def execWakeCoreRunning (s : State) : Res :=
  if s.sleep.phase ≠ 5 then .next s
  else
    let limit := s.sleep.limit
    let s : State := { s with sleep := { s.sleep with phase := 6, limit := 0 } }
    let s := (s.setDev (if s.sleep.origin = .pitched then .pitching else .unpitched) 0xFF).wdgResume
    let s := s.logRec 0x004 1 (s.reg SYS_WAKE_CAUSE) 0
    let s := s.when (decide (limit ≠ 0)) fun s => s.safeCause limit (if limit = 5 then s.sensor 0 else 0)
    .next s
/-- WAKE_SCRUB_DONE (t2 of R93, R35): `ue` is a word with an uncorrectable error. -/
def execWakeScrubDone (ue : Option Nat) (s : State) : Res :=
  if s.sleep.phase ≠ 6 ∨ s.down then .next s
  else if s.dev ≠ .pitching then .next (s.islandsOn 0)
  else match ue with
    | some a => .next (((s.cfgUe a).wakeUnpitched).islandsOn 0)
    | none => .next (if s.cfg.bad.isEmpty then s.islandsOn 7 else s.wakeUnpitched.islandsOn 0)
/-- WAKE_COMPLETE (t5 of R93): PITCHED, with axes restored where R481 allows it. -/
def execWakeComplete (s : State) : Res :=
  if s.sleep.phase ≠ 7 ∨ s.dev ≠ .pitching ∨ !((List.finRange 8).all s.structureDone) then .next s
  else
    let old := s
    let s : State := { s with sleep := { s.sleep with phase := 0 } }
    let s := s.setDev .pitched 0xFF
    let s := (List.finRange 8).foldl (fun s a => (s.setBit (POS a 2) 1 false).axisRestore a) s
    let s : State := { s with load := LoadSt.reset }
    .next (old.observe ((s.fire 454 0).fire 453 0)).persFresh

/-- MAINTENANCE (R34, R30, R550): a re-pitch that runs is abandoned. -/
def execMaintenance (p : Port) (s : State) : Res :=
  .next (s.command p 7 false (fun j => j.count 0) s.dev.stable fun _ s =>
    let old := s
    let s := s.abandonRepitch rejAborted ((s.repitch.cand.map (·.serial)).getD 0)
    let s := ((s.disarm.capStopAll.slcHaltAll.tenureOver).wdgMaintenance).setDev .maintenance 7
    (old.observe s).finish p stOK [])

end Sys2Proof.Machine
end

