-- ==== Sys2Proof/Machine/Tap.lean ====
section
/-!
DEFINITION. The test access port: its instructions, the boundary register and the island scan (R639–R648).
-/
namespace Sys2Proof.Machine

/-- Update the test access port. -/
def State.setTap (s : State) (f : TapSt → TapSt) : State := { s with tap := f s.tap }
/-- TESTEN as sampled at the latest reset (R55, R640). -/
def State.testen (s : State) : Bool := s.bit SYS_STRAPS 4
/-- The TAP has power: VDDIO and VDDC (R639). -/
def State.tapPowered (s : State) : Bool := s.powered
/-- The device ID: version, part number, manufacturer identity, and a 1 (R641). -/
def deviceId : BitVec 32 := 0x1#4 ++ 0x3280#16 ++ 0x3A5#11 ++ 1#1
/-- The Capture-IR value: 0b01, TESTEN as sampled, and zeros (R640). -/
def State.irCapture (s : State) : Nat := 1 + 4 * b2n s.testen
/-- The island that ISL_SEL names, with the scan enabled (R645). -/
def State.scanIsl (s : State) : Option (Fin 8) :=
  if s.tap.sel.testBit 3 then some (Fin.ofNat 8 (s.tap.sel % 8)) else none
/-- The hub sends drive fields to an island in its next downlink frame (R646). -/
def State.scanSend (s : State) (i : Fin 8) (d : Word) : State := s.setIsl i fun x => { x with scanDue := true, scanData := d }
/-- Every drive field of the scanned island is sent as off (R646, End). -/
def State.scanOff (s : State) : State :=
  match s.scanIsl with
  | some i => s.scanSend i 0
  | none => s

/-- The bits of a register's fields (R12, R629). -/
def fieldMask (a : Nat) (w : Word) : Word :=
  match regAt a with
  | some d => d.flds.foldl (fun m f => putBits m f.hi f.lo (bitsOf w f.hi f.lo)) 0
  | none => 0
/-- Registers among `as` that differ from what they held as the lands came under test take free values (R643). -/
def State.taint (old : List (Nat × Word)) : List Nat → State → State
  | [], s => s
  | a :: as, s =>
    if Sparse.get resetWord old a = s.reg a then s.taint old as
    else
      let got := s.freeWord
      let f := got.1
      let s := got.2
      (s.setReg a (fieldMask a f)).taint old as
/-- The lands return to functional control: what changed under test is undefined until RSTN (R643; log entry 4). -/
def State.testEnd (s : State) : State :=
  match s.tap.before with
  | none => s
  | some old =>
    let listed := old.map (·.1)
    let more := (s.regs.map (·.1)).filter fun a => !listed.contains a
    (s.setTap fun t => { t with before := none }).taint old (listed ++ more)
/-- An instruction that gives the boundary register the lands, or releases them (R640, R643). -/
def testIr (ir : Nat) : Bool := decide (ir = 0 ∨ ir = 4 ∨ ir = 5)
/-- Update-IR loads an instruction: ISLAND_SCAN left sends its drives off, and a test that begins or ends takes or returns the
lands (R643, R646). -/
def State.loadIr (s : State) (ir : Nat) : State :=
  let s := if s.tap.ir = 0x21 ∧ ir ≠ 0x21 then s.scanOff else s
  let was := testIr s.tap.ir
  let s := s.setTap fun t => { t with ir := ir, idr := if ir = 2 then deviceId.toNat else 0 }
  if testIr ir then (if was then s else s.setTap fun t => { t with before := some s.regs })
  else if was then s.testEnd else s
/-- Capture-IR, and the Update-IR that loads an opcode (R640). -/
def State.shiftIr (s : State) (ir : Nat) : State :=
  if s.tapPowered then (s.setTap fun t => { t with irc := s.irCapture }).loadIr ir else s
/-- An instruction that needs TESTEN acts as BYPASS without it (R640, R647). -/
def State.shiftTest (s : State) (ir : Nat) : State := s.shiftIr (if s.testen then ir else 0xFF)
/-- The length of the data register between TDI and TDO (R640, R642, R645). -/
def State.drLen (s : State) : Nat :=
  if s.tap.ir ≤ 1 then 179 else if s.tap.ir = 2 then 32 else if s.tap.ir = 0x20 then 4
  else if s.tap.ir = 0x21 ∧ s.scanIsl.isSome then 40 else 1
/-- What Capture-DR has taken, or takes, into that register: the boundary register and the island scan as their own commands
captured them (R640–R646). -/
def State.drCapture (s : State) : Nat :=
  if s.tap.ir ≤ 1 then s.tap.bcap else if s.tap.ir = 0x20 then s.tap.sel
  else if s.tap.ir = 0x21 ∧ s.scanIsl.isSome then s.tap.icap else s.tap.idr

/-- TAP_RESET (R639): Test-Logic-Reset selects IDCODE. -/
def execTapReset (s : State) : Res := .next (if s.tapPowered then s.loadIr 2 else s)
/-- EXTEST (R640, R643). -/
def execExtest (s : State) : Res := .next (s.shiftTest 0)
/-- SAMPLE/PRELOAD (R640, R648). -/
def execSamplePreload (s : State) : Res := .next (s.shiftIr 1)
/-- IDCODE (R641). -/
def execIdcode (s : State) : Res := .next (s.shiftIr 2)
/-- CLAMP (R640, R643). -/
def execClamp (s : State) : Res := .next (s.shiftTest 4)
/-- HIGHZ (R640, R643). -/
def execHighz (s : State) : Res := .next (s.shiftTest 5)
/-- ISL_SEL (R645). -/
def execIslSel (s : State) : Res := .next (s.shiftTest 0x20)
/-- ISLAND_SCAN (R645). -/
def execIslandScan (s : State) : Res := .next (s.shiftTest 0x21)
/-- BYPASS (R640). -/
def execBypass (s : State) : Res := .next (s.shiftIr 0xFF)

/-- The boundary register is selected (R640). -/
def State.boundarySel (s : State) : Bool := s.tapPowered && decide (s.tap.ir ≤ 1)
/-- BOUNDARY_CAPTURE (R642, R648): `lands` are the levels and cell values at Capture-DR, one bit for each of 179 cells. -/
def execBoundaryCapture (lands : Nat) (s : State) : Res :=
  .next (if s.boundarySel then s.setTap fun t => { t with bcap := lands % 2 ^ 179 } else s)
/-- BOUNDARY_UPDATE (R642). -/
def execBoundaryUpdate (w : Nat) (s : State) : Res :=
  .next (if s.boundarySel then s.setTap fun t => { t with bnd := w % 2 ^ 179 } else s)

/-- The drive settings in force at an island: a lost link switches all off (R646). -/
def Isl.drives (x : Isl) : Nat := if x.up && x.iLock && x.scan then x.drv.toNat else 0
/-- The island scan register (R645) from LOCKED, the 14 bits of DIAG item 9 and the drive fields. -/
def scanWord (locked : Bool) (item drv : Nat) : Nat :=
  b2n locked + 2 * b2n (item.testBit 12) + 4 * b2n (item.testBit 13) +
    (List.range 12).foldl (fun n j =>
      n + b2n (locked && item.testBit j) * 2 ^ (4 + 3 * j) + drv / 4 ^ j % 4 * 2 ^ (5 + 3 * j)) 0
/-- The drive fields of an island scan register (R645) as the SCAN word of R325: DRV_j in bits [2j + 1 : 2j]. -/
def scanDrives (w : Nat) : Word := toWord ((List.range 12).foldl (fun n j => n + w / 2 ^ (5 + 3 * j) % 4 * 4 ^ j) 0)
/-- ISLAND_SCAN_CAPTURE (R646): status and OBS of the latest uplink frame, drives in force; what the latest frame does not
carry is free (log entry 4). -/
def execIslandScanCapture (s : State) : Res :=
  match s.scanIsl with
  | none => .next s
  | some i =>
    if s.tapPowered = false ∨ s.tap.ir ≠ 0x21 then .next s
    else
      let x := s.isl i
      let item := match x.obs with
        | some w => (w, s)
        | none => s.freeWord
      let s := item.2
      let w := scanWord (s.bit (ISL i 0) 0) item.1.toNat x.drives
      .next (s.setTap fun t => { t with icap := w })
/-- ISLAND_SCAN_UPDATE (R646). -/
def execIslandScanUpdate (w : Nat) (s : State) : Res :=
  match s.scanIsl with
  | none => .next s
  | some i => .next (if s.tapPowered ∧ s.tap.ir = 0x21 then s.scanSend i (scanDrives w) else s)
/-- ISL_SEL_UPDATE (R645): the island and the enable; clearing bit 3 sends every drive field as off. -/
def execIslSelUpdate (w : Nat) (s : State) : Res :=
  if s.tapPowered = false ∨ s.tap.ir ≠ 0x20 then .next s
  else .next ((if w.testBit 3 then s else s.scanOff).setTap fun t => { t with sel := w % 16 })

end Sys2Proof.Machine
end

