-- ==== Sys2Proof/Machine/Tick.lean ====
section
/-!
DEFINITION. What a microsecond brings when no command waits: ring time, the token buckets, the watchdog's windows, the times that
other rules ask for, and the RTC (log entry 1).
-/
namespace Sys2Proof.Machine

/-- One microsecond of the Ember oscillator: milliseconds and seconds of the RTC (R608). -/
def EmberSt.tick (e : EmberSt) : EmberSt :=
  if e.oscOk = false then e
  else if e.us < 999 then { e with us := e.us + 1 }
  else if e.ms < 999 then { e with us := 0, ms := e.ms + 1 }
  else { e with us := 0, ms := 0, sec := (e.sec + 1) % 2 ^ 32 }
/-- One microsecond of the log's buckets, in millionths of a token (R576). -/
def LogSt.tick (l : LogSt) : LogSt :=
  { l with tokGen := min 128000000 (l.tokGen + 16), tokCrit := min 64000000 (l.tokCrit + 4) }
/-- One microsecond of the hub while it runs (R108, R250, R601). -/
def State.hubTick (s : State) : State :=
  { s with
    time := if s.ring.forward then s.time + 500 else s.time
    upUs := s.upUs + 1
    pitch := if s.pitch.phase = .idle then s.pitch else { s.pitch with us := s.pitch.us + 1 }
    mss := { s.mss with conf := if s.dev = .pitched ∨ s.dev = .doze then s.mss.conf + 1 else s.mss.conf }
    log := s.log.tick }
/-- One microsecond without a command. -/
def State.tick (s : State) : State :=
  let s : State := { s with ember := s.ember.tick }
  if s.runs then s.hubTick.weirTick.wdgTick else s

end Sys2Proof.Machine
end

