-- ==== Sys2Proof/Machine/Dispatch.lean ====
section
/-!
DEFINITION. The dispatch: one arm for each command of the table, in its order.
-/
namespace Sys2Proof.Machine

def exec (instr : Instr) (s : State) : Host.Outcome State Fault Refusal :=
  match instr with
  | .powerLoss all => Sys2Proof.Machine.execPowerLoss all s
  | .mainRailsValid => Sys2Proof.Machine.execMainRailsValid s
  | .hubResetRelease a b c => Sys2Proof.Machine.execHubResetRelease a b c s
  | .rstnAssert also => Sys2Proof.Machine.execRstnAssert also s
  | .railBelowReset all also => Sys2Proof.Machine.execRailBelowReset all also s
  | .railWarnEnter rail => Sys2Proof.Machine.execRailWarnEnter rail s
  | .railWarnClear rail => Sys2Proof.Machine.execRailWarnClear rail s
  | .railSafeHigh rail => Sys2Proof.Machine.execRailSafeHigh rail s
  | .pfwRaise => Sys2Proof.Machine.execPfwRaise s
  | .pfwClear => Sys2Proof.Machine.execPfwClear s
  | .tempWarnRaise => Sys2Proof.Machine.execTempWarnRaise s
  | .tempWarnClear => Sys2Proof.Machine.execTempWarnClear s
  | .tempSafeLimit => Sys2Proof.Machine.execTempSafeLimit s
  | .vfldLevelChange i low high => Sys2Proof.Machine.execVfldLevelChange i low high s
  | .transferStart => Sys2Proof.Machine.execTransferStart s
  | .transferLimitShutdown i => Sys2Proof.Machine.execTransferLimitShutdown i s
  | .transferRetry i => Sys2Proof.Machine.execTransferRetry i s
  | .referenceClockFail reference also => Sys2Proof.Machine.execReferenceClockFail reference also s
  | .pllbUnlock => Sys2Proof.Machine.execPllbUnlock s
  | .emberOscStop => Sys2Proof.Machine.execEmberOscStop s
  | .mssMonitor also => Sys2Proof.Machine.execMssMonitor also s
  | .mssSramUncorrectable => Sys2Proof.Machine.execMssSramUncorrectable s
  | .ringForwardStart => Sys2Proof.Machine.execRingForwardStart s
  | .firmwareVerified vbat => Sys2Proof.Machine.execFirmwareVerified vbat s
  | .bootImageVerified => Sys2Proof.Machine.execBootImageVerified s
  | .ringImageTimeout => Sys2Proof.Machine.execRingImageTimeout s
  | .modbusSettingsApply => Sys2Proof.Machine.execModbusSettingsApply s
  | .pitch p outside => Sys2Proof.Machine.execPitch p outside s
  | .pitchVerified outside => Sys2Proof.Machine.execPitchVerified outside s
  | .pitchLoaded crcBad => Sys2Proof.Machine.execPitchLoaded crcBad s
  | .pitchStructured => Sys2Proof.Machine.execPitchStructured s
  | .pitchSafetyCheck fault => Sys2Proof.Machine.execPitchSafetyCheck fault s
  | .pitchCommit ue => Sys2Proof.Machine.execPitchCommit ue s
  | .repitch p => Sys2Proof.Machine.execRepitch p s
  | .repitchChecked => Sys2Proof.Machine.execRepitchChecked s
  | .repitchLoaded ue => Sys2Proof.Machine.execRepitchLoaded ue s
  | .repitchStructured => Sys2Proof.Machine.execRepitchStructured s
  | .repitchCommit => Sys2Proof.Machine.execRepitchCommit s
  | .doze p asserted => Sys2Proof.Machine.execDoze p asserted s
  | .dozeWake sources => Sys2Proof.Machine.execDozeWake sources s
  | .deep p asserted => Sys2Proof.Machine.execDeep p asserted s
  | .deepPrepared => Sys2Proof.Machine.execDeepPrepared s
  | .deepCommit asserted => Sys2Proof.Machine.execDeepCommit asserted s
  | .deepRetain => Sys2Proof.Machine.execDeepRetain s
  | .deepWake sources => Sys2Proof.Machine.execDeepWake sources s
  | .wakeCoreRunning => Sys2Proof.Machine.execWakeCoreRunning s
  | .wakeScrubDone ue => Sys2Proof.Machine.execWakeScrubDone ue s
  | .wakeComplete => Sys2Proof.Machine.execWakeComplete s
  | .maintenance p => Sys2Proof.Machine.execMaintenance p s
  | .lpbCycleStart la bhen read both => Sys2Proof.Machine.execLpbCycleStart la bhen read both s
  | .lpbCycleAck wdata ue => Sys2Proof.Machine.execLpbCycleAck wdata ue s
  | .lpbCycleEnd => Sys2Proof.Machine.execLpbCycleEnd s
  | .lpbPostedCommit => Sys2Proof.Machine.execLpbPostedCommit s
  | .persAccumulate => Sys2Proof.Machine.execPersAccumulate s
  | .irqPulseEnd j => Sys2Proof.Machine.execIrqPulseEnd j s
  | .interruptAcknowledge j abandoned => Sys2Proof.Machine.execInterruptAcknowledge j abandoned s
  | .tenureRequest => Sys2Proof.Machine.execTenureRequest s
  | .busGrant => Sys2Proof.Machine.execBusGrant s
  | .tenureStart => Sys2Proof.Machine.execTenureStart s
  | .masterCycleDone data ue => Sys2Proof.Machine.execMasterCycleDone data ue s
  | .tenureEnd => Sys2Proof.Machine.execTenureEnd s
  | .grantTimeout => Sys2Proof.Machine.execGrantTimeout s
  | .masterErrorTimeout => Sys2Proof.Machine.execMasterErrorTimeout s
  | .foreignBusBusy => Sys2Proof.Machine.execForeignBusBusy s
  | .spiFrameStart mode3 => Sys2Proof.Machine.execSpiFrameStart mode3 s
  | .spiCommandWord cmd crc0 cnt crc1 => Sys2Proof.Machine.execSpiCommandWord cmd crc0 cnt crc1 s
  | .spiReadFetch r ue => Sys2Proof.Machine.execSpiReadFetch r ue s
  | .spiWriteWord w crc full => Sys2Proof.Machine.execSpiWriteWord w crc full s
  | .spiFrameEnd bits part crc => Sys2Proof.Machine.execSpiFrameEnd bits part crc s
  | .modbusFrameError => Sys2Proof.Machine.execModbusFrameError s
  | .readCoils bcast a q ue => Sys2Proof.Machine.execReadCoils bcast a q ue s
  | .readDiscreteInputs bcast a q ue => Sys2Proof.Machine.execReadDiscreteInputs bcast a q ue s
  | .readHoldingRegisters bcast a q ue => Sys2Proof.Machine.execReadHoldingRegisters bcast a q ue s
  | .readInputRegisters bcast a q ue => Sys2Proof.Machine.execReadInputRegisters bcast a q ue s
  | .writeSingleCoil r a v => Sys2Proof.Machine.execWriteSingleCoil r a v s
  | .writeSingleRegister r a v => Sys2Proof.Machine.execWriteSingleRegister r a v s
  | .writeMultipleCoils r a q count d => Sys2Proof.Machine.execWriteMultipleCoils r a q count d s
  | .writeMultipleRegisters r a q count d => Sys2Proof.Machine.execWriteMultipleRegisters r a q count d s
  | .readWriteMultipleRegisters bcast a q wa wq count d ue => Sys2Proof.Machine.execReadWriteMultipleRegisters bcast a q wa wq count d ue s
  | .unsupportedFunction bcast fn => Sys2Proof.Machine.execUnsupportedFunction bcast fn s
  | .modbusReply => Sys2Proof.Machine.execModbusReply s
  | .roleClaim p => Sys2Proof.Machine.execRoleClaim p s
  | .roleRelease p => Sys2Proof.Machine.execRoleRelease p s
  | .ringLinkUp w miswired => Sys2Proof.Machine.execRingLinkUp w miswired s
  | .ringLinkDown w signal => Sys2Proof.Machine.execRingLinkDown w signal s
  | .ringCycleStart => Sys2Proof.Machine.execRingCycleStart s
  | .ringCyc h c x resid foreign phaseErr => Sys2Proof.Machine.execRingCyc h c x resid foreign phaseErr s
  | .ringPd f pd fin => Sys2Proof.Machine.execRingPd f pd fin s
  | .ringEvt f => Sys2Proof.Machine.execRingEvt f s
  | .ringEmpty f => Sys2Proof.Machine.execRingEmpty f s
  | .ringSyncFrame f m groups seq => Sys2Proof.Machine.execRingSyncFrame f m groups seq s
  | .ringEnum f firstPos next es foreign => Sys2Proof.Machine.execRingEnum f firstPos next es foreign s
  | .ringDly w answer exch turn roundTrip => Sys2Proof.Machine.execRingDly w answer exch turn roundTrip s
  | .ringBadFrame w f => Sys2Proof.Machine.execRingBadFrame w f s
  | .ringPdReturn slots fin => Sys2Proof.Machine.execRingPdReturn slots fin s
  | .ringEvtReturn cells => Sys2Proof.Machine.execRingEvtReturn cells s
  | .ringEnumReturn next es => Sys2Proof.Machine.execRingEnumReturn next es s
  | .ringCarrierReturn h p => Sys2Proof.Machine.execRingCarrierReturn h p s
  | .ringDelayMeasure w => Sys2Proof.Machine.execRingDelayMeasure w s
  | .ringDlyTimeout w => Sys2Proof.Machine.execRingDlyTimeout w s
  | .ringHoldoverLapse => Sys2Proof.Machine.execRingHoldoverLapse s
  | .pdFrameLoss => Sys2Proof.Machine.execPdFrameLoss s
  | .ringHopStable w => Sys2Proof.Machine.execRingHopStable w s
  | .syncnFall err => Sys2Proof.Machine.execSyncnFall err s
  | .syncEdge => Sys2Proof.Machine.execSyncEdge s
  | .mailRead node tag addr count autoinc r ecc => Sys2Proof.Machine.execMailRead node tag addr count autoinc r ecc s
  | .mailWrite node tag addr ws autoinc r => Sys2Proof.Machine.execMailWrite node tag addr ws autoinc r s
  | .mailMailbox node tag ws r => Sys2Proof.Machine.execMailMailbox node tag ws r s
  | .bulkOpen node tag session dir rsv2 z rsvD r => Sys2Proof.Machine.execBulkOpen node tag session dir rsv2 z rsvD r s
  | .bulkAck node a x => Sys2Proof.Machine.execBulkAck node a x s
  | .bulkDone node tag session z r => Sys2Proof.Machine.execBulkDone node tag session z r s
  | .imageReq node q => Sys2Proof.Machine.execImageReq node q s
  | .ringBulk node b west ovf => Sys2Proof.Machine.execRingBulk node b west ovf s
  | .mailAnswer r => Sys2Proof.Machine.execMailAnswer r s
  | .ringMailTimeout tag kind => Sys2Proof.Machine.execRingMailTimeout tag kind s
  | .bulkStallTimeout tx => Sys2Proof.Machine.execBulkStallTimeout tx s
  | .recordRelease l => Sys2Proof.Machine.execRecordRelease l s
  | .weirCheck => Sys2Proof.Machine.execWeirCheck s
  | .slcFlushTimeout k => Sys2Proof.Machine.execSlcFlushTimeout k s
  | .guylineSlot i n => Sys2Proof.Machine.execGuylineSlot i n s
  | .islandDownlink i err errA errB => Sys2Proof.Machine.execIslandDownlink i err errA errB s
  | .hubUplink i m err full => Sys2Proof.Machine.execHubUplink i m err full s
  | .islandLost i osc => Sys2Proof.Machine.execIslandLost i osc s
  | .islandLinkTimeout i => Sys2Proof.Machine.execIslandLinkTimeout i s
  | .glDegradedClear i => Sys2Proof.Machine.execGlDegradedClear i s
  | .structureCommit i raw => Sys2Proof.Machine.execStructureCommit i raw s
  | .structureRetry i => Sys2Proof.Machine.execStructureRetry i s
  | .structureDiscard i => Sys2Proof.Machine.execStructureDiscard i s
  | .islandSubframeLoss i isB => Sys2Proof.Machine.execIslandSubframeLoss i isB s
  | .kernelSubframeIn isB i errLife errData errCrc => Sys2Proof.Machine.execKernelSubframeIn isB i errLife errData errCrc s
  | .kernelSubframeLoss isB i => Sys2Proof.Machine.execKernelSubframeLoss isB i s
  | .loopStable i => Sys2Proof.Machine.execLoopStable i s
  | .rungClimb i => Sys2Proof.Machine.execRungClimb i s
  | .rungDescent i rung reservoir => Sys2Proof.Machine.execRungDescent i rung reservoir s
  | .rungTakeEffect i => Sys2Proof.Machine.execRungTakeEffect i s
  | .brownOutStop i => Sys2Proof.Machine.execBrownOutStop i s
  | .islandRestart i => Sys2Proof.Machine.execIslandRestart i s
  | .inputFilterChange c st => Sys2Proof.Machine.execInputFilterChange c st s
  | .chatterBin c => Sys2Proof.Machine.execChatterBin c s
  | .diagSet c d again => Sys2Proof.Machine.execDiagSet c d again s
  | .diagClear c d => Sys2Proof.Machine.execDiagClear c d s
  | .inrushEnd c => Sys2Proof.Machine.execInrushEnd c s
  | .faultAutoRetry c => Sys2Proof.Machine.execFaultAutoRetry c s
  | .islandOvercurrent i again => Sys2Proof.Machine.execIslandOvercurrent i again s
  | .supplyLimitOff c => Sys2Proof.Machine.execSupplyLimitOff c s
  | .supplyRetry c held => Sys2Proof.Machine.execSupplyRetry c held s
  | .testPulseStart c => Sys2Proof.Machine.execTestPulseStart c s
  | .testPulseEnd c pass again => Sys2Proof.Machine.execTestPulseEnd c pass again s
  | .supplyTestPulse c raw => Sys2Proof.Machine.execSupplyTestPulse c raw s
  | .supplyTestPulseEnd c fell => Sys2Proof.Machine.execSupplyTestPulseEnd c fell s
  | .inputSwitchOpen c => Sys2Proof.Machine.execInputSwitchOpen c s
  | .inputSwitchRetry c => Sys2Proof.Machine.execInputSwitchRetry c s
  | .fineOutput c => Sys2Proof.Machine.execFineOutput c s
  | .riffleValue c => Sys2Proof.Machine.execRiffleValue c s
  | .filterReset c => Sys2Proof.Machine.execFilterReset c s
  | .captureTrigger q src => Sys2Proof.Machine.execCaptureTrigger q src s
  | .captureBlockComplete q => Sys2Proof.Machine.execCaptureBlockComplete q s
  | .homeDebounce a asserted => Sys2Proof.Machine.execHomeDebounce a asserted s
  | .homingTimeout a => Sys2Proof.Machine.execHomingTimeout a s
  | .limitRelease a pos => Sys2Proof.Machine.execLimitRelease a pos s
  | .standstillTimeout a => Sys2Proof.Machine.execStandstillTimeout a s
  | .ssiRead a idle word after back => Sys2Proof.Machine.execSsiRead a idle word after back s
  | .axisSnapshot => Sys2Proof.Machine.execAxisSnapshot s
  | .nrgEscalate c => Sys2Proof.Machine.execNrgEscalate c s
  | .kernelCycle isB safen fault => Sys2Proof.Machine.execKernelCycle isB safen fault s
  | .inputConfirm isB f j => Sys2Proof.Machine.execInputConfirm isB f j s
  | .discrepancyTimeout isB f => Sys2Proof.Machine.execDiscrepancyTimeout isB f s
  | .twoHandSyncTimeout isB f => Sys2Proof.Machine.execTwoHandSyncTimeout isB f s
  | .ss1DelayEnd isB p => Sys2Proof.Machine.execSs1DelayEnd isB p s
  | .pairTestRequest isB p => Sys2Proof.Machine.execPairTestRequest isB p s
  | .safenReassert isB => Sys2Proof.Machine.execSafenReassert isB s
  | .wdgWindowOpen => Sys2Proof.Machine.execWdgWindowOpen s
  | .wdgWindowClose => Sys2Proof.Machine.execWdgWindowClose s
  | .wdgClockTrip wosc => Sys2Proof.Machine.execWdgClockTrip wosc s
  | .cfgScrubWord addr ecc => Sys2Proof.Machine.execCfgScrubWord addr ecc s
  | .cfgRepairDone ue => Sys2Proof.Machine.execCfgRepairDone ue s
  | .sensorUpdate n mean low high => Sys2Proof.Machine.execSensorUpdate n mean low high s
  | .logFlush => Sys2Proof.Machine.execLogFlush s
  | .poll p => Sys2Proof.Machine.execPoll p s
  | .info p => Sys2Proof.Machine.execInfo p s
  | .reset p => Sys2Proof.Machine.execReset p s
  | .commandReset also => Sys2Proof.Machine.execCommandReset also s
  | .imageStore p => Sys2Proof.Machine.execImageStore p s
  | .imageStoreDone fail => Sys2Proof.Machine.execImageStoreDone fail s
  | .imageSelect p => Sys2Proof.Machine.execImageSelect p s
  | .safetyAccept p => Sys2Proof.Machine.execSafetyAccept p s
  | .restartAck p => Sys2Proof.Machine.execRestartAck p s
  | .keyEnrolFirst p => Sys2Proof.Machine.execKeyEnrolFirst p s
  | .keyEnrolReplace p => Sys2Proof.Machine.execKeyEnrolReplace p s
  | .keyEnrolRemove p => Sys2Proof.Machine.execKeyEnrolRemove p s
  | .fwStore p => Sys2Proof.Machine.execFwStore p s
  | .fwVerifyDone => Sys2Proof.Machine.execFwVerifyDone s
  | .fwProgramDone fail => Sys2Proof.Machine.execFwProgramDone fail s
  | .bankStoreDone fail => Sys2Proof.Machine.execBankStoreDone fail s
  | .bankEraseDone => Sys2Proof.Machine.execBankEraseDone s
  | .fwConfirm p => Sys2Proof.Machine.execFwConfirm p s
  | .fwConfirmTimer => Sys2Proof.Machine.execFwConfirmTimer s
  | .settingRead p => Sys2Proof.Machine.execSettingRead p s
  | .settingWrite p => Sys2Proof.Machine.execSettingWrite p s
  | .settingsPush p => Sys2Proof.Machine.execSettingsPush p s
  | .calPoint p => Sys2Proof.Machine.execCalPoint p s
  | .calPointDone p c => Sys2Proof.Machine.execCalPointDone p c s
  | .calPointTimeout p => Sys2Proof.Machine.execCalPointTimeout p s
  | .calCommit p => Sys2Proof.Machine.execCalCommit p s
  | .calClear p => Sys2Proof.Machine.execCalClear p s
  | .logRead p => Sys2Proof.Machine.execLogRead p s
  | .logWrite p => Sys2Proof.Machine.execLogWrite p s
  | .sensorMinmax p => Sys2Proof.Machine.execSensorMinmax p s
  | .rtcSet p => Sys2Proof.Machine.execRtcSet p s
  | .rtcAlarm p => Sys2Proof.Machine.execRtcAlarm p s
  | .mbxRingPending node => Sys2Proof.Machine.execMbxRingPending node s
  | .mbxResultSlotExpire node => Sys2Proof.Machine.execMbxResultSlotExpire node s
  | .emberToVbat => Sys2Proof.Machine.execEmberToVbat s
  | .emberToVddio crcOk low => Sys2Proof.Machine.execEmberToVddio crcOk low s
  | .emberLow lost => Sys2Proof.Machine.execEmberLow lost s
  | .rtcAlarmMatch => Sys2Proof.Machine.execRtcAlarmMatch s
  | .loadCheck => Sys2Proof.Machine.execLoadCheck s
  | .tapReset => Sys2Proof.Machine.execTapReset s
  | .extest => Sys2Proof.Machine.execExtest s
  | .samplePreload => Sys2Proof.Machine.execSamplePreload s
  | .idcode => Sys2Proof.Machine.execIdcode s
  | .clamp => Sys2Proof.Machine.execClamp s
  | .highz => Sys2Proof.Machine.execHighz s
  | .islSel => Sys2Proof.Machine.execIslSel s
  | .islandScan => Sys2Proof.Machine.execIslandScan s
  | .bypass => Sys2Proof.Machine.execBypass s
  | .boundaryCapture lands => Sys2Proof.Machine.execBoundaryCapture lands s
  | .boundaryUpdate w => Sys2Proof.Machine.execBoundaryUpdate w s
  | .islandScanCapture => Sys2Proof.Machine.execIslandScanCapture s
  | .islandScanUpdate w => Sys2Proof.Machine.execIslandScanUpdate w s
  | .partnerRxFault w => Sys2Proof.Machine.execPartnerRxFault w s
  | .islSelUpdate w => Sys2Proof.Machine.execIslSelUpdate w s

end Sys2Proof.Machine
end

