-- ==== Sys2Proof/Safety.lean ====
section
/-!
DEFINITION. What counts as a safe run, in the terms the statements use: stores in their one form, factory data that nothing
changes, safety outputs that need both kernels, and a step that never stops.
-/
namespace Sys2Proof.Machine

/-- Eddy in its one form: addresses rising, and no word listed that is 0x000000 (R426). -/
abbrev Memory.wf (m : List (Nat × Word)) : Bool := Sparse.wf (fun _ => 0) m
/-- Registers and Eddy are in their one form. -/
def State.canonical (s : State) : Prop := Sparse.wf resetWord s.regs = true ∧ Memory.wf s.eddy = true
/-- What manufacture has written and no command can change: unique ID, trust anchors, Oxbow and the factory calibration
records (R129, R394, R567). -/
def Flash.sameFactory (f g : Flash) : Prop :=
  f.uid = g.uid ∧ f.anchors = g.anchors ∧ f.oxVer = g.oxVer ∧ f.facBad = g.facBad
/-- A state is sound for a module with given factory content. -/
def State.sound (f : Flash) (s : State) : Prop := s.canonical ∧ s.flash.sameFactory f
/-- Everything but the fields that a function takes from `t` is as in `s`. -/
def State.onlyRegs (s t : State) (as : List Nat) : Prop :=
  t = { s with regs := t.regs } ∧ ∀ a, a ∉ as → t.reg a = s.reg a

/-- A hub reset has taken place (R105): the hub is in state `d` and held in reset with its cause; every register but the views
of supplies, straps and clocks is at its reset value; configuration SRAM, Eddy, mailboxes, roles, the MSS and the kernels are at
theirs; the queue, and flash but for what a write cut off, stay. -/
def State.wasReset (s t : State) (d : Dev) (cause : Nat) (multi : Bool) : Prop :=
  t.dev = d ∧ t.hold.held = true ∧ t.hold.cause = cause ∧ t.hold.multi = multi ∧ t.pending = s.pending ∧
    t.flash = s.cutFlash ∧ t.eddy = [] ∧ t.mbx = [] ∧ t.cfg = CfgSram.reset ∧ t.role = RoleSt.reset ∧ t.mss = MssSt.reset ∧
    t.saf.armed = false ∧ ∀ a, a ∉ [SYS_PWR_STAT, SYS_STRAPS, SYS_CLKSTAT] → t.reg a = resetWord a
/-- A session's command waits for the MSS, which serves it: a code with its arguments, from the SUPERVISOR (R580). -/
def State.asks (s : State) (p : Port) (code : Nat) (args : List Word) : Prop :=
  s.mssServes = true ∧ ∃ role claim, 3 ≤ role ∧ (s.mbxOf p).job = some ⟨code, args, role, false, claim⟩

end Sys2Proof.Machine
end

