-- ==== Sys2Proof/Certificates/Slice0/Obligations.lean ====
section
/-!
DEFINITION. The statements for the provers.
-/
open Sys2Proof Sys2Proof.Machine

/-- A step takes the command at the front of the queue and runs exec on it with the queue's rest (00_scope.md). -/
def Obligations.StepRunsFront : Prop :=
  ∀ (c : Instr) (s : State), step (s.front c) = exec c s

/-- With an empty queue a step is one microsecond: Ember counts always, and while the hub runs ring time and the up-time count (log entry 1, the model's choice) (R108, R250, R608). -/
def Obligations.IdleTick : Prop :=
  ∀ (s : State), s.pending = [] →
    (s.runs = false → step s = .next { s with ember := s.ember.tick }) ∧
    (s.runs = true → ∃ t, step s = .next t ∧ t.time = (if s.ring.forward then s.time + 500 else s.time) ∧
      t.upUs = s.upUs + 1 ∧ t.ember = s.ember.tick ∧ t.pending = [] ∧ t.dev = s.dev ∧ t.mbx = s.mbx ∧ t.eddy = s.eddy ∧
      t.flash = s.flash ∧ t.saf = s.saf ∧ (∀ a, a ≠ WDG_LEFT → a ≠ WDG_STAT → t.reg a = s.reg a) ∧
      (∀ b, b < 24 → b ≠ 3 → t.bit WDG_STAT b = s.bit WDG_STAT b) ∧ (s.wdgRuns = false → t.regs = s.regs)) ∧
    (s.ember.oscOk = true → s.ember.us < 999 → s.ember.tick = { s.ember with us := s.ember.us + 1 }) ∧
    (s.ember.oscOk = true → s.ember.us = 999 → s.ember.ms = 999 →
      s.ember.tick = { s.ember with us := 0, ms := 0, sec := (s.ember.sec + 1) % 2 ^ 32 })

/-- What holds right after a reset release of the factory module: BOOT, no command waiting, every register at its reset value, nothing held or armed (R104, R105, R199, R306, R551, R581). -/
def Obligations.ResetState : Prop :=
  State.reset.dev = .boot ∧ State.reset.pending = [] ∧ State.reset.reg SYS_CAUSE = 1 ∧
    (∀ a, a ≠ SYS_CAUSE → a ≠ WDG_CHAL → State.reset.reg a = resetWord a) ∧ (∀ a, State.reset.eddyAt a = 0) ∧
    State.reset.role.holder = none ∧ (∀ p, State.reset.mbxOf p = Mailbox.idle) ∧
    (∀ k : Fin 8, (State.reset.stream k).buf = none) ∧ State.reset.mss.run = .none ∧ State.reset.cfg.pitched = false ∧
    State.reset.saf.armed = false

/-- The state after reset is sound: registers and Eddy in their one form (R105, R426). -/
def Obligations.ResetSound : Prop :=
  State.reset.sound State.reset.flash

/-- Every step keeps the state sound: registers and Eddy in one form; unique ID, trust anchors, Oxbow and factory calibration unchanged (R129, R394, R426, R567, R634). -/
def Obligations.StepKeepsSound : Prop :=
  ∀ (f : Flash) (s t : State), s.sound f → step s = .next t → t.sound f

/-- No command and no tick ends in a fault or a refusal: each of the 232 rows answers a next state in every state, for every operand (log entry 57) (R13, R21, R34). -/
def Obligations.NoCommandStops : Prop :=
  (∀ (c : Instr) (s : State), ∃ t, exec c s = .next t) ∧ ∀ (s : State), ∃ t, step s = .next t

/-- A register or Eddy word that is stored reads back, and no other register or Eddy word changes (R8, R426). -/
def Obligations.StoreLaws : Prop :=
  (∀ (s : State) (a b : Nat) (v : Word), (s.setReg a v).reg b = (if b = a then v else s.reg b) ∧
    s.setReg a v = { s with regs := (s.setReg a v).regs }) ∧
  (∀ (s : State) (a : Nat) (t : RingTime), (s.setTime a t).reg a = lo24 t ∧ (s.setTime a t).reg (a + 1) = hi24 t ∧
    ∀ b, b ≠ a → b ≠ a + 1 → (s.setTime a t).reg b = s.reg b) ∧
  (∀ (s : State) (a b : Nat) (ws : List Word), (s.setEddyWords a ws).eddyAt b =
      (if a ≤ b ∧ b < a + ws.length then ws.getD (b - a) 0 else s.eddyAt b) ∧
    s.setEddyWords a ws = { s with eddy := (s.setEddyWords a ws).eddy })

/-- A field that is written reads back and nothing else changes; a 24-bit counter counts by one and sticks at 0xFFFFFF (R6, R10, R634). -/
def Obligations.RegisterLaws : Prop :=
  (∀ (s : State) (a hi lo v : Nat), lo ≤ hi → hi < 24 →
    (s.setFld a hi lo v).fld a hi lo = v % 2 ^ (hi + 1 - lo) ∧
    (∀ b k, k < 24 → (s.setFld a hi lo v).bit b k = (if b = a ∧ lo ≤ k ∧ k ≤ hi then v.testBit (k - lo) else s.bit b k)) ∧
    ∀ k w, k < 24 → (s.setBit a k w).bit a k = w) ∧
  (∀ (s : State) (a : Nat), ((s.bump a).reg a).toNat = min 0xFFFFFF ((s.reg a).toNat + 1) ∧
    ∀ b, b ≠ a → (s.bump a).reg b = s.reg b) ∧
  (∀ (s : State) (a n : Nat), ((s.bumpBy a n).reg a).toNat = min 0xFFFFFF ((s.reg a).toNat + n) ∧
    ∀ b, b ≠ a → (s.bumpBy a n).reg b = s.reg b) ∧
  ∀ (s : State) (p : Port) (a : Nat) (v : Word) (f : Fld), f.acc = .rw → f.chk = .counter →
    (s.fieldOk p a v f = true → v = 0) ∧ (v = 0 → f.role ≤ s.roleOf p → s.valueOk a v f = true → s.fieldOk p a v f = true)

/-- A hub reset holds the hub with its cause, restarts every register, memory, mailbox, role, the MSS and the kernels, and keeps flash, Ember and the queue (R34, R44, R104, R105). -/
def Obligations.HubResetLeaves : Prop :=
  ∀ (s : State) (cause : Nat) (multi : Bool),
    (s.wasReset (s.hubReset cause multi) .boot cause multi ∧ (s.hubReset cause multi).ember = s.ember) ∧
    (s.wasReset (s.hubResetTo .off cause multi) .off cause multi ∧ (s.hubResetTo .off cause multi).ember = s.ember)

/-- Each reset cause resets the hub: of the causes of one cycle the one with the lowest number is kept, and MULTI is set when they differ (R34, R44, R70, R80, R104, R566). -/
def Obligations.ResetCauses : Prop :=
  ∀ (s : State) (also : List ResetCause) (all reference : Bool),
    let low := fun (c : Nat) => (also.map ResetCause.code).foldl min c
    let multi := fun (c : Nat) => (also.map ResetCause.code).any fun x => decide (x ≠ c)
    let down := fun (t : State) => { t with
      ember := { t.ember with powerOn := t.ember.powerOn || all }, hold := { t.hold with railsOk := false } }
    (s.down = false → exec (.rstnAssert also) s = .next (s.hubReset (low 4) (multi 4))) ∧
    (s.down = false → exec (.railBelowReset all also) s = .next (down (s.hubReset (low 2) (multi 2)))) ∧
    (s.dev ≠ .off → s.hold.held = true → exec (.railBelowReset all also) s =
      .next (down { s with hold := { s.hold with cause := min s.hold.cause 2 } })) ∧
    (s.down = false → exec (.referenceClockFail reference also) s =
      .next ((s.hubReset (low 3) (multi 3)).setBit SYS_CLKSTAT (if reference then 0 else 1) false)) ∧
    (s.runs = true → exec (.mssMonitor also) s = .next (s.hubReset (low 6) (multi 6))) ∧
    (s.asleep = true → exec (.mssMonitor also) s = .next s) ∧
    (s.mss.resetDue = true → exec (.commandReset also) s = .next (s.hubReset (low 7) (multi 7))) ∧
    (s.mss.resetDue = false → exec (.commandReset also) s = .next s) ∧
    (s.dev ≠ .off → exec (.powerLoss all) s = .next (down (s.hubResetTo .off 2 false))) ∧
    (s.down = true → exec (.rstnAssert also) s = .next s ∧ exec (.referenceClockFail reference also) s = .next s ∧
      exec (.mssMonitor also) s = .next s)

/-- Valid rails allow the release; the release samples the straps, tells the cause and counts the boot in Ember; otherwise it waits (R55, R67, R104, R105, R106, R107). -/
def Obligations.ResetRelease : Prop :=
  (∀ s : State, exec .mainRailsValid s = .next { s with hold := { s.hold with railsOk := true } }) ∧
  (∀ (s : State) (a b c : Nat), s.hold.held = false ∨ s.hold.railsOk = false → exec (.hubResetRelease a b c) s = .next s) ∧
  (∀ (s : State) (a b c : Nat), s.hold.held = true → s.hold.railsOk = true → s.mss.run = .none → ∃ t,
    exec (.hubResetRelease a b c) s = .next t ∧ t.dev = .boot ∧ t.upUs = 0 ∧ t.pending = s.pending ∧ t.flash = s.flash ∧
    t.hold = { s.hold with held := false, xferNext := 0, cause := t.hold.cause } ∧
    t.hold.cause = (if s.hold.cause ≤ 2 then
      (if (!s.ember.low && s.ember.crcOk) = false ∨ s.ember.powerOn = true then 1 else 2) else s.hold.cause) ∧
    t.ember = s.ember.release t.hold.cause) ∧
  (∀ (e : EmberSt) (cause : Nat), e.low = false → e.crcOk = true →
    e.release cause = { e with valid := true, bootCnt := e.bootCnt + 1, prevCause := cause, powerOn := false, lostSnaps := 0 }) ∧
  (∀ (a b c k : Nat), k < 5 → bitOf (strapWord a b c) k =
    ((a.testBit k && b.testBit k) || (a.testBit k && c.testBit k) || (b.testBit k && c.testBit k)))

/-- Supply and temperature warnings leave status, trace and event, PFW saves the axes and aborts flash work, and a SAFE limit is a SAFE cause (R36, R37, R69, R70, R71, R72, R85, R94, R95, R480, R588). -/
def Obligations.SupplyLimits : Prop :=
  (∀ (s : State) (r : Fin 5), s.dev ≠ .off → s.bit SYS_PWR_STAT r.val = false →
    exec (.railWarnEnter r) s = .next (
      let u := s.setBit SYS_PWR_STAT r.val true
      if s.hold.held then u else
        let v := (u.setBit SYS_PWR_EVT r.val true).fire 448 0
        v.logRec 0x401 (v.reg SYS_PWR_STAT) (toWord (r.val + 1)) (v.sensor ⟨r.val + 1, by omega⟩))) ∧
  (∀ (s : State) (r : Fin 5), s.bit SYS_PWR_STAT r.val = true → exec (.railWarnEnter r) s = .next s) ∧
  (∀ (s : State) (r : Fin 5), exec (.railWarnClear r) s = .next (s.setBit SYS_PWR_STAT r.val false)) ∧
  (∀ s : State, s.dev ≠ .off → s.bit SYS_PWR_STAT 5 = false →
    exec .pfwRaise s = .next (
      let u := s.setBit SYS_PWR_STAT 5 true
      if s.hold.held then u else
        let v := ((u.setBit SYS_PWR_EVT 5 true).fire 449 0).logRec 0x403 0 0 0
        let w := if v.dev = .pitched ∨ v.dev = .doze then v.snapAll else v
        if w.mss.halted then w else w.flashAbort)) ∧
  (∀ s : State, exec .pfwClear s = .next (s.setBit SYS_PWR_STAT 5 false)) ∧
  (∀ s : State, s.down = false → s.bit SYS_PWR_STAT 6 = false →
    exec .tempWarnRaise s = .next (
      let u := ((s.setBit SYS_PWR_STAT 6 true).setBit SYS_PWR_EVT 6 true).fire 450 0
      u.logRec 0x402 0 (u.sensor 0) 0)) ∧
  (∀ s : State, exec .tempWarnClear s = .next (s.setBit SYS_PWR_STAT 6 false)) ∧
  (∀ (s : State) (r : Fin 5), exec (.railSafeHigh r) s = .next (
    if s.down then s else
      let u := s.setBit SYS_PWR_EVT 7 true
      if s.dev = .deep then { u with sleep := { u.sleep with limit := 4 } }
      else (if s.dev = .doze then u.setBit SYS_WAKE_CAUSE 15 true else u).safeCause 4 (toWord r.val))) ∧
  (∀ s : State, exec .tempSafeLimit s = .next (
    if s.down then s else
      let u := s.setBit SYS_PWR_EVT 8 true
      if s.dev = .deep then { u with sleep := { u.sleep with limit := 5 } }
      else (if s.dev = .doze then u.setBit SYS_WAKE_CAUSE 15 true else u).safeCause 5 (s.sensor 0)))

/-- Power transfers: the start-up order, the shutdown after 5 ms at the current limit and its retry, and the field supply's flags (R60, R73, R74, R77). -/
def Obligations.TransferPower : Prop :=
  (∀ (s : State) (i : Fin 8), s.hold.xferNext = i.val → s.hold.held = false → s.dev ≠ .off → s.dev ≠ .deep →
    exec .transferStart s = .next (State.xferOn { s with hold := { s.hold with xferNext := i.val + 1 } } i)) ∧
  (∀ s : State, 8 ≤ s.hold.xferNext ∨ s.hold.held = true ∨ s.dev = .off ∨ s.dev = .deep →
    exec .transferStart s = .next s) ∧
  (∀ (s : State) (i : Fin 8), s.bit (ISL i 1) 0 = true → exec (.transferLimitShutdown i) s =
    .next (((s.setBit (ISL i 1) 0 false).setBit (ISL i 1) 1 true).setIsl i Isl.powerDown)) ∧
  (∀ (s : State) (i : Fin 8), s.bit (ISL i 1) 0 = false → exec (.transferLimitShutdown i) s = .next s) ∧
  (∀ (s : State) (i : Fin 8), s.bit (ISL i 1) 1 = true → exec (.transferRetry i) s = .next (s.xferOn i)) ∧
  (∀ (s : State) (i : Fin 8), (s.xferOn i).bit (ISL i 1) 0 = true ∧ (s.xferOn i).bit (ISL i 1) 1 = false ∧
    ((s.xferOn i).isl i).up = true ∧ ((s.isl i).up = false → ((s.xferOn i).isl i).store = none ∧
      ((s.xferOn i).isl i).iLock = false ∧ ((s.xferOn i).isl i).rung = 3) ∧ ∀ j, j ≠ i → (s.xferOn i).isl j = s.isl j) ∧
  (∀ x : Isl, x.powerDown.up = false ∧ x.powerDown.store = none ∧ x.powerDown.words = [] ∧ x.powerDown.fpwr = false) ∧
  (∀ (s : State) (i : Fin 8) (low high : Bool), (s.isl i).up = true → ∃ t, exec (.vfldLevelChange i low high) s = .next t ∧
    (t.isl i).vlow = low ∧ (t.isl i).vhigh = (high && !low) ∧ (t.isl i).vfldAt = s.time ∧
    (∀ k : Fin 4, (t.isl i).cells[k.val] = (if low then { (s.isl i).cells[k.val] with stp := 0, stpWait := false }
      else (s.isl i).cells[k.val])) ∧ (∀ j, j ≠ i → t.isl j = s.isl j) ∧ t = { s with isls := t.isls }) ∧
  (∀ (s : State) (i : Fin 8) (low high : Bool), (s.isl i).up = false → exec (.vfldLevelChange i low high) s = .next s)

/-- Field power: the changeover at rung 0, announced climbs and descents that reset the loop channels when they take effect, brown-out and restart (R333, R334, R335, R337). -/
def Obligations.FieldPower : Prop :=
  (∀ (s : State) (i : Fin 8), s.bit (ISL i 0) 3 = true → s.fieldPowered i = true → exec (.loopStable i) s =
    .next (((((s.setBit (ISL i 0) 3 false).setBit (ISL i 1) 0 false).setFld (ISL i 0) 5 4 0).setIsl i fun x =>
        { x with fpwr := true, rung := 0, next := 0 }).loopReset i)) ∧
  (∀ (s : State) (i : Fin 8), s.loopReset i = (islChans i).foldl (fun s c => if isAI (s.func c) = true then
    (s.channelReset c 3).setCell c fun y => { y with sinc := .reset, srst := none } else s) s) ∧
  (∀ (s : State) (i : Fin 8), s.bit (ISL i 0) 3 = false ∨ s.fieldPowered i = false → exec (.loopStable i) s = .next s) ∧
  (∀ (s : State) (i : Fin 8), (s.isl i).fpwr = true → (s.isl i).next = (s.isl i).rung →
    (s.isl i).rung < min 3 (u8 (s.islRec i) 3) → exec (.rungClimb i) s =
      .next (s.setIsl i fun x => { x with next := x.rung + 1, ann := 2, annRes := false })) ∧
  (∀ (s : State) (i : Fin 8) (rung : Nat), (s.isl i).fpwr = true → rung < (s.isl i).rung →
    exec (.rungDescent i rung false) s = .next (s.setIsl i fun x => { x with next := rung, ann := 2, annRes := false })) ∧
  (∀ (s : State) (i : Fin 8) (rung : Nat), (s.isl i).fpwr = true → 0 < (s.isl i).rung →
    exec (.rungDescent i rung true) s =
      .next (s.setIsl i fun x => { x with next := (s.isl i).rung - 1, ann := 2, annRes := true })) ∧
  (∀ (s : State) (i : Fin 8), (s.isl i).fpwr = false → exec (.rungClimb i) s = .next s ∧
    ∀ rung res, exec (.rungDescent i rung res) s = .next s) ∧
  (∀ (s : State) (i : Fin 8), (s.isl i).next ≠ (s.isl i).rung → (s.isl i).ann = 0 → exec (.rungTakeEffect i) s =
    .next (
      let x := s.isl i
      let t := ((s.setFld (ISL i 0) 5 4 x.next).setIsl i fun y => { y with rung := y.next }).bumpFld (ISL i 3) 13 2
      (t.fire (384 + 8 * i.val + 3) (toWord (x.next + 4 * x.rung + 16 * b2n x.annRes))).loopReset i)) ∧
  (∀ (s : State) (i : Fin 8), (s.isl i).next = (s.isl i).rung ∨ (s.isl i).ann ≠ 0 →
    exec (.rungTakeEffect i) s = .next s) ∧
  (∀ (s : State) (i : Fin 8), (s.isl i).fpwr = true → (s.isl i).up = true → (s.isl i).brown = none →
    exec (.brownOutStop i) s = .next (s.setIsl i fun x => if x.iLock = true then { x with brown := some 2 } else
      { x.powerDown with fpwr := true, rung := 0, next := 0 })) ∧
  (∀ (s : State) (i : Fin 8), (s.isl i).fpwr = false ∨ (s.isl i).up = false ∨ (s.isl i).brown ≠ none →
    exec (.brownOutStop i) s = .next s) ∧
  (∀ (s : State) (i : Fin 8), (s.isl i).fpwr = true → (s.isl i).up = false → exec (.islandRestart i) s =
    .next ((s.setIsl i fun x => x.powerUp 0).setFld (ISL i 0) 5 4 0))

/-- PLL-B's loss takes both ring ports down, ring forwarding starts with it, an SRAM error halts the MSS, and Ember's crystal, supply switch and alarm (R80, R101, R106, R566, R606, R607, R608, R610). -/
def Obligations.ClockEvents : Prop :=
  (∀ s : State, s.down = false → s.bit SYS_CLKSTAT 2 = true → exec .pllbUnlock s = .next (
    let t := s.setBit SYS_CLKSTAT 2 false
    let u := t.linkDown false (t.bit (RNG_LINK false) 3)
    (u.linkDown true (u.bit (RNG_LINK true) 3)).fire 451 0)) ∧
  (∀ s : State, s.down = true ∨ s.bit SYS_CLKSTAT 2 = false → exec .pllbUnlock s = .next s) ∧
  (∀ s : State, s.down = false → exec .ringForwardStart s = .next
    ((s.setBit SYS_CLKSTAT 2 true).setRing fun r => { r with forward := true })) ∧
  (∀ s : State, exec .emberOscStop s = .next (
    let t : State := { s with ember := { s.ember with oscOk := false, rtcValid := false } }
    if t.down = true then t else (t.setBit SYS_CLKSTAT 6 false).logRec 0x404 4 (t.sensor 6) 0)) ∧
  (∀ s : State, s.mss.run ≠ .none → exec .mssSramUncorrectable s =
    .next { s with mss := { s.mss with halted := true } }) ∧
  (∀ s : State, exec .emberToVbat s = .next (State.setBit { s with ember := { s.ember with onVbat := true } } SYS_PWR_STAT 7 true)) ∧
  (∀ (s : State) (ok low : Bool), s.ember.onVbat = true → exec (.emberToVddio ok low) s = .next (State.setBit { s with
    ember := { s.ember with onVbat := false, crcOk := ok, low := s.ember.low || low } } SYS_PWR_STAT 7 false)) ∧
  (∀ s : State, s.ember.onVbat = true → exec (.emberLow false) s = .next { s with ember := { s.ember with low := true } } ∧
    ∃ t, exec (.emberLow true) s = .next t ∧ t.ember.low = true ∧ t.ember.onVbat = true ∧ t.ember.rtcValid = false ∧
      t.ember.alarmEn = false ∧ (∀ a : Fin 8, t.ember.snaps[a.val] = none) ∧ t = { s with ember := t.ember }) ∧
  (∀ s : State, s.ember.onVbat = false → (∀ ok low, exec (.emberToVddio ok low) s = .next s) ∧
    ∀ lost, exec (.emberLow lost) s = .next s) ∧
  (∀ s : State, s.ember.alarmEn = true → s.ember.oscOk = true → s.ember.sec = s.ember.alarm → exec .rtcAlarmMatch s =
    .next { s with ember := { s.ember with alarmEn := false, alarmHit := true, alarm := 0 } }) ∧
  (∀ s : State, s.ember.alarmEn = false ∨ s.ember.oscOk = false ∨ s.ember.sec ≠ s.ember.alarm →
    exec .rtcAlarmMatch s = .next s)

/-- Boot ROM starts the ACTIVE slot, falls back to a CONFIRMED other slot, and else starts Oxbow; without boot control slot A when its package is valid (R592, R595). -/
def Obligations.FirmwareChoice : Prop :=
  (∀ (f : Flash), f.ctl.active = none →
    (checkPackage f.anchors f.fwA = none → f.choose = (.slotA, false)) ∧
    (checkPackage f.anchors f.fwA ≠ none → f.choose = (.oxbow, false))) ∧
  (∀ (f : Flash) (c : BootCtl), f.ctl.active = some c → c.oxReq = true → f.choose = (.oxbow, false)) ∧
  (∀ (f : Flash) (c : BootCtl) (b : Bool), f.ctl.active = some c → c.oxReq = false → b = decide (c.active = 1) →
    let good := f.passes b c.minSec = true ∧ (c.st b = 2 ∨ (c.st b = 1 ∧ c.tries < 3))
    let other := f.passes (!b) c.minSec = true ∧ c.st (!b) = 2
    let slot := fun (x : Bool) => if x then FwRun.slotB else FwRun.slotA
    (good → f.choose = (slot b, false)) ∧ (¬ good → other → f.choose = (slot (!b), true)) ∧
      (¬ good → ¬ other → f.choose = (.oxbow, true))) ∧
  (∀ (f : Flash) (b : Bool) (floor : Nat), f.passes b floor = true ↔
    checkPackage f.anchors (f.fw b) = none ∧ floor ≤ u16 (f.fw b) 0xC)

/-- The boot's steps: the chosen firmware runs or Oxbow waits in MAINTENANCE; the image of BOOTSEL's source is taken, held or refused (R34, R106, R107, R108, R209, R550, R583, R595, R644). -/
def Obligations.BootSteps : Prop :=
  (∀ (s : State) (vbat : Nat), s.down = false → s.dev = .boot → s.mss.run = .none →
    (s.flash.choose.1 = .slotA →
      exec (.firmwareVerified vbat) s = .next ((s.firmwareFound vbat).firmwareRing.firmwareStart false s.flash.choose.2)) ∧
    (s.flash.choose.1 = .slotB →
      exec (.firmwareVerified vbat) s = .next ((s.firmwareFound vbat).firmwareRing.firmwareStart true s.flash.choose.2)) ∧
    (s.flash.choose.1 = .oxbow → ∃ t, exec (.firmwareVerified vbat) s = .next t ∧ t.dev = .maintenance ∧
      t.fld SYS_BOOT 3 0 = 0xF)) ∧
  (∀ (s : State), s.down = false → s.dev = .boot → s.mss.run ≠ .none → s.mss.halted = false →
    (s.bit SYS_STRAPS 4 = true ∨ s.fld SYS_STRAPS 1 0 = 3 ∨ (s.fld SYS_STRAPS 1 0 = 2 ∧ s.headwater = true) →
      ∃ t, exec .bootImageVerified s = .next t ∧ t.dev = .unpitched ∧ t.fld SYS_BOOT 3 0 = 0xF) ∧
    (s.bit SYS_STRAPS 4 = false → s.fld SYS_STRAPS 1 0 < 2 → exec .bootImageVerified s =
      .next (s.bootSlots [s.bootCtl.imgSlot, 1 - s.bootCtl.imgSlot] true)) ∧
    (s.bit SYS_STRAPS 4 = false → s.fld SYS_STRAPS 1 0 = 2 → s.headwater = false → ∀ im, s.ringImg ≠ none →
      s.verifySource 3 = .ok im → exec .bootImageVerified s = .next (s.bootImage 3 im))) ∧
  (∀ (s : State) (src : Nat) (im : Image), s.fld SYS_STRAPS 1 0 = 1 → (s.bootImage src im).dev = .unpitched ∧
    (s.bootImage src im).cfg.img = some im ∧ (s.bootImage src im).cfg.pitched = false) ∧
  (∀ s : State, s.down = false → s.dev = .boot → s.mss.run ≠ .none → s.fld SYS_STRAPS 1 0 = 2 →
    exec .ringImageTimeout s =
      .next (((s.setRing fun r => { r with imgReq := false }).setDev .unpitched 0xFF).setFld SYS_BOOT 3 0 0xF)) ∧
  (∀ s : State, s.runs = true → s.mss.run ≠ .none → s.mss.halted = false → s.mod.answer = none →
    exec .modbusSettingsApply s = .next (
      let t : State := { s with mss := { s.mss with modUp := true } }
      ((t.setFld 0x00640 7 0 (s.setting 1)).setFld 0x00640 11 8 (s.setting 2)).setFld 0x00640 13 12 (s.setting 3)))

/-- The full pitch instant by instant: request, verified, loaded, structured, safety checked, committed; each refusal ends it with its code (R132, R133, R134, R135, R142, R144, R145, R155). -/
def Obligations.PitchSteps : Prop :=
  (∀ (s : State) (p : Port) (n : Word), s.asks p 0x10 [n] → s.dev.stable = true → s.imageBusy = false → s.busyOp = false →
    s.bit SYS_STRAPS 4 = false → (n = 1 ∨ n = 2 ∨ (n = 0 ∧ s.bit SYS_IMG_STAT 5 = true)) → ∃ j,
    (s.mbxOf p).job = some j ∧ exec (.pitch p false) s = .next ((s.startOp p j).setPitch fun _ =>
      ⟨.verifying, false, if n = 0 then s.fld SYS_IMG_STAT 1 0 else n.toNat, if n = 0 then s.cfg.img else none, 0⟩)) ∧
  (∀ (s : State) (im : Image), s.pitch.phase = .verifying → s.mss.halted = false → s.dev.stable = true →
    s.sleep.phase < 4 → s.pitch.cand = none → s.verifySource s.pitch.src = .ok im →
    exec (.pitchVerified false) s = .next (s.enterPitching im)) ∧
  (∀ (s : State) (c : Nat), s.pitch.phase = .verifying → s.mss.halted = false → s.dev.stable = true →
    s.sleep.phase < 4 → s.pitch.cand = none → s.verifySource s.pitch.src = .error c → exec (.pitchVerified false) s =
      .next ((s.setPitch fun _ => PitchSt.idle).rejectOp c 1 0 (s.serialOf s.pitch.src))) ∧
  (∀ (s : State) (im : Image), s.pitch.phase = .entered → s.pitch.cand = some im →
    exec (.pitchLoaded false) s = .next ((List.finRange 8).foldl State.structureIsland ((s.setCfg fun c =>
      { c with img := some im, src := sources im s.pitch.src, bad := [], repair := [], again := false, seen := [] }).setPitch
        fun p => { p with phase := .loaded })) ∧
    exec (.pitchLoaded true) s = .next (s.endPitch rejSecCrc false)) ∧
  (∀ s : State, s.pitch.phase = .loaded → (∀ i, s.structureDone i = true) → exec .pitchStructured s = .next (
    let t := s.setPitch fun p => { p with phase := .structured }
    if s.pitch.boot = true then t.setFld SYS_BOOT 3 0 4 else t)) ∧
  (∀ (s : State) (im : Image) (b : Bytes), s.pitch.phase = .structured → s.pitch.cand = some im →
    im.body tagSafety = some b → s.pitch.boot = false → ∃ t, exec (.pitchSafetyCheck 0) s = .next t ∧
      t.pitch = { s.pitch with phase := .checked } ∧ t.saf.ka = s.saf.ka.load b ∧ t.saf.kb = s.saf.kb.load b ∧
      t.saf.armed = decide (s.settings.spc.map (·.1) = some im.spc) ∧ t.bit SYS_BOOT 10 = t.saf.armed ∧
      t.bit SYS_IMG_STAT 3 = !t.saf.armed ∧ (im.spc < 2 ^ 32 → im.sec tagSafety ≠ none →
        (t.reg SYS_SPC_LO).toNat + 2 ^ 24 * (t.reg SYS_SPC_HI).toNat = im.spc) ∧
      (∀ a, a ∉ [SYS_BOOT, SYS_IMG_STAT, SYS_SPC_LO, SYS_SPC_HI] → t.reg a = s.reg a) ∧ t.eddy = s.eddy ∧ t.isls = s.isls) ∧
  (∀ (s : State) (im : Image), s.pitch.cand = some im →
    (s.pitch.phase = .checked ∨ (s.pitch.phase = .structured ∧ im.sec tagSafety = none)) →
    (s.cfg.bad = [] → (∀ i, (s.isl i).sPhase ≠ 5) → exec (.pitchCommit none) s = .next (s.commitPitch im)) ∧
    (s.cfg.bad = [] → (∃ i, (s.isl i).sPhase = 5) → exec (.pitchCommit none) s = .next (s.endPitch rejReadback true)) ∧
    (∀ a, exec (.pitchCommit (some a)) s = .next ((s.cfgUe a).endPitch rejScrub false)))

/-- The re-pitch of one island instant by instant: request, checked, loaded, structured, committed; an error ends it with its code (R137, R138, R139, R140, R148, R149, R151). -/
def Obligations.RepitchSteps : Prop :=
  (∀ (s : State) (p : Port) (i : Fin 8) (n : Word), s.asks p 0x11 [toWord i.val, n] → s.dev = .pitched →
    s.imageBusy = false → s.busyOp = false → s.bit SYS_STRAPS 4 = false → (n = 1 ∨ n = 2) → ∃ j,
    (s.mbxOf p).job = some j ∧
    exec (.repitch p) s = .next ((s.startOp p j).setRepitch fun _ => ⟨1, i.val, n.toNat, none, false⟩)) ∧
  (∀ (s : State) (im old : Image), s.repitch.phase = 1 → s.mss.halted = false → s.verifySource s.repitch.src = .ok im →
    s.cfg.img = some old → repitchScope old im s.repIsl.val (s.bit (ISL s.repIsl 8) 3) = none → s.cfg.bad = [] →
    s.bit (ISL s.repIsl 0) 0 = true → exec .repitchChecked s = .next (s.observe
      ((s.setRepitch fun r => { r with phase := 2, cand := some im }).setBit (ISL s.repIsl 0) 1 false))) ∧
  (∀ (s : State) (c : Nat), s.repitch.phase = 1 → s.mss.halted = false → s.verifySource s.repitch.src = .error c →
    exec .repitchChecked s = .next (s.abandonRepitch c (s.serialOf s.repitch.src))) ∧
  (∀ (s : State) (im : Image), s.repitch.phase = 2 → s.repitch.cand = some im →
    exec (.repitchLoaded none) s = .next (((s.takeSection s.repIsl im).structureIsland s.repIsl).setRepitch fun r =>
      { r with phase := 3 }) ∧
    ∀ a, ((s.cfgUe a).repitch.retried = false → exec (.repitchLoaded (some a)) s =
      .next ((s.cfgUe a).setRepitch fun r => { r with retried := true })) ∧
    ((s.cfgUe a).repitch.retried = true → exec (.repitchLoaded (some a)) s =
      .next ((((s.cfgUe a).takeSection s.repIsl im).setCfg fun c =>
        { c with repair := c.repair ++ [tagIsland s.repIsl.val] }).abandonRepitch rejScrub im.serial))) ∧
  (∀ (s : State) (im : Image), s.repitch.phase = 3 → s.repitch.cand = some im →
    ((s.isl s.repIsl).sPhase = 3 → exec .repitchStructured s = .next (s.setRepitch fun r => { r with phase := 4 })) ∧
    ((s.isl s.repIsl).sPhase = 5 → exec .repitchStructured s = .next (s.abandonRepitch rejReadback im.serial))) ∧
  (∀ (s : State) (im : Image), s.repitch.phase = 4 → s.repitch.cand = some im → s.cfg.bad = [] →
    s.bit (ISL s.repIsl 0) 1 = true → exec .repitchCommit s =
      .next (((s.setRepitch fun _ => RepitchSt.idle).repitchDone s.repIsl im s.opSession).endOp stOK []))

/-- Native space: unassigned addresses read 0 and discard writes, an Eddy word that is written reads back, and nothing else changes with it (R13, R21, R109, R196, R426). -/
def Obligations.NativeSpace : Prop :=
  (∀ (s : State) (p : Port) (a : Nat) (v : Word), (a < 0x80000 ∧ (a < 0x05800 ∨ 0x05A00 ≤ a) ∧ regAt a = none) ∨ 0x100000 ≤ a →
    s.peek p a = 0 ∧ s.wr p a v = s ∧ s.wrRefused p a v = false) ∧
  (∀ (s : State) (p : Port) (a : Nat) (v : Word), 0x80000 ≤ a → a < 0x100000 → 2 ≤ s.roleOf p →
    s.eddyHeld (s.eddyOf p a) = false → s.wr p a v = s.setEddy (s.eddyOf p a) v ∧ (s.wr p a v).peek p a = v ∧
    (∀ q, s.eddyPage.contains q = s.eddyPage.contains p → (s.wr p a v).peek q a = v) ∧
    (∀ b, b ≠ s.eddyOf p a → (s.wr p a v).eddyAt b = s.eddyAt b)) ∧
  (∀ (s : State) (p : Port) (a : Nat) (v : Word), 0x80000 ≤ a →
    (s.roleOf p < 2 ∨ s.eddyHeld (s.eddyOf p a) = true) → s.wr p a v = s)

/-- A read of a group's lowest word snapshots the group for its reader; its higher words then read that snapshot, and no other reader's changes (R8, R23, R633). -/
def Obligations.ReadSnapshot : Prop :=
  ∀ (s : State) (p : Port) (a : Nat), s.dev ≠ .boot → s.rdRefused p a = false → inSnap a = false →
    (s.rd p a).1 = s.peek p a ∧ (s.rd p a).2 = { s with snaps := (s.rd p a).2.snaps } ∧
    (∀ k, 1 ≤ k → k ≤ snapTail a → s.rdRefused p (a + k) = false → s.undefinedAt (a + k) = false →
      ((s.rd p a).2.rd p (a + k)) = (s.peek p (a + k), (s.rd p a).2)) ∧
    (∀ q b, q ≠ p → (s.rd p a).2.snapGet q b = s.snapGet q b) ∧
    (∀ b, b ≤ a ∨ a + snapTail a < b → (s.rd p a).2.snapGet p b = s.snapGet p b)

/-- A write by a port that carries less than OPERATOR changes no register and no other state, but for the count of refused watchdog services (R21, R195, R196, R198, R426). -/
def Obligations.ObserverWritesNothing : Prop :=
  ∀ (s : State) (p : Port) (a : Nat) (v : Word), s.roleOf p < 2 → a ≠ 0x03C00 →
    s.wr p a v = { s with regs := (s.wr p a v).regs } ∧
    ∀ b, (a = 0x00401 → b ≠ WDG_REFUSED) → (s.wr p a v).reg b = s.reg b

/-- An access carries SUPERVISOR for the claim's holder, else its port's highest role up to OPERATOR; grants and releases fire ROLE_CHANGE (R196, R201). -/
def Obligations.AccessRole : Prop :=
  (∀ (s : State) (p : Port), (p ≠ .mss → s.role.holder = some p → s.roleOf p = 3) ∧
    (p ≠ .mss → s.role.holder ≠ some p → s.roleOf p = min (s.highest p) 2) ∧ s.roleOf .mss = 4 ∧
    (p ≠ .mss → s.roleOf p < 4)) ∧
  (∀ (s : State) (new : Option Port), ∃ w : Word, bitsOf w 2 0 = holderCode new ∧
    bitsOf w 12 3 = holderNode new % 1024 ∧ bitsOf w 15 13 = holderCode s.role.holder ∧
    s.setHolder new = ((({ s with role := { s.role with holder := new } } : State).bumpFld SYS_ROLE_SEQ 15 0).fire 461 w).logRec
      0x303 w 0 0) ∧
  (∀ (s : State) (p : Port) (role : Nat), s.mssServes = true →
    (∀ st, st ≠ stBadArgs → (s.mbxOf p).job = some ⟨2, [], role, false, st⟩ →
      exec (.roleClaim p) s = .next (s.finish p st [])) ∧
    (∀ st, st ≠ stBadArgs → (s.mbxOf p).job = some ⟨3, [], role, false, st⟩ →
      exec (.roleRelease p) s = .next (s.finish p st []))) ∧
  (∀ (s : State) (p : Port) (cmd : Word) (role : Nat), (s.mbxOf p).status ≠ 1 → bitsOf cmd 14 8 = 0 →
    let t := s.submit p cmd role
    (bitsOf cmd 7 0 = 2 →
      (s.role.holder = none → s.highest p = 3 → t.role.holder = some p ∧ (t.mbxOf p).job = some ⟨2, [], role, false, stOK⟩ ∧
        ∃ u : State, u.role = s.role ∧ t = u.setHolder (some p)) ∧
      (s.role.holder = some p → t.role.holder = some p ∧ (t.mbxOf p).job = some ⟨2, [], role, false, stOK⟩) ∧
      (∀ q, q ≠ p → s.role.holder = some q → t.role.holder = some q ∧
        (t.mbxOf p).job = some ⟨2, [], role, false, stClaimBusy⟩) ∧
      (s.role.holder = none → s.highest p ≠ 3 → t.role.holder = none ∧
        (t.mbxOf p).job = some ⟨2, [], role, false, stClaimDenied⟩)) ∧
    (bitsOf cmd 7 0 = 3 →
      (s.role.holder = some p → t.role.holder = none ∧ (t.mbxOf p).job = some ⟨3, [], role, false, stOK⟩ ∧
        ∃ u : State, u.role = s.role ∧ t = u.setHolder none) ∧
      (s.role.holder ≠ some p → t.role.holder = s.role.holder ∧
        (t.mbxOf p).job = some ⟨3, [], role, false, stNotHolder⟩)))

/-- A host cycle on the legacy bus: decode, both strobes, the read and the posted write at LACKN, the commit, and a cycle that ends without LACKN (R156, R157, R159, R160, R162, R163, R174, R175). -/
def Obligations.LpbCycles : Prop :=
  (∀ (s : State) (la : Nat) (bhen read : Bool), s.lpbListens = true → s.lpb.cyc = none → (s.portWake 0).bit SYS_STRAPS 2 = false →
    exec (.lpbCycleStart la bhen read true) s = .next ((s.portWake 0).bump 0x0050A)) ∧
  (∀ (s : State) (la : Nat) (bhen read : Bool), s.lpbListens = true → s.lpb.cyc = none →
    let u := s.portWake 0
    let off := if u.lpbWide then la % 65536 / 2 * 2 else la % 65536
    let lo := if u.lpbWide then decide (la % 2 = 0) else true
    let hi := u.lpbWide && bhen
    let window := u.nativeOff ≤ off ∧ off < u.nativeOff + 8
    let start := fun (kind reg : Nat) => u.setLpb fun l => { l with cyc := some ⟨read, off, lo, hi, kind, reg, false, 0⟩ }
    (u.inAperture la = false → exec (.lpbCycleStart la bhen read false) s = .next u) ∧
    (u.inAperture la = true → window → exec (.lpbCycleStart la bhen read false) s = .next (u.setLpb fun l =>
      { l with cyc := some ⟨read, off - u.nativeOff, lo, hi, 0, 0, false, 0⟩ })) ∧
    (u.inAperture la = true → ¬ window → u.persActive = false → exec (.lpbCycleStart la bhen read false) s = .next (start 3 0)) ∧
    (u.inAperture la = true → ¬ window → u.persActive = true → ∀ n, u.persAt off = some n →
      exec (.lpbCycleStart la bhen read false) s = .next (start 1 n)) ∧
    (u.inAperture la = true → ¬ window → u.persActive = true → u.persAt off = none →
      exec (.lpbCycleStart la bhen read false) s = .next (if u.unmappedNoack = true then u.bump 0x0050B else start 2 0))) ∧
  (∀ (s : State) (la : Nat) (bhen read both : Bool), s.lpbListens = false ∨ s.lpb.cyc ≠ none →
    exec (.lpbCycleStart la bhen read both) s = .next s) ∧
  (∀ (s : State) (c : LpbCyc) (wdata : Nat) (ue : Bool), s.lpb.cyc = some c → s.lpbListens = true → c.acked = false →
    (c.read = true → s.lpb.q = [] → c.kind = 0 → exec (.lpbCycleAck wdata ue) s = .next (
      let got := s.nativeRead c.off c.lo ue
      got.2.setLpb fun l => { l with cyc := some { c with acked := true, out := got.1 &&& laneMask c.lo c.hi } })) ∧
    (c.read = true → s.lpb.q = [] → c.kind = 1 → s.persActive = true → exec (.lpbCycleAck wdata ue) s = .next (
      let got := s.persRead c.reg c.lo c.hi ue
      got.2.setLpb fun l => { l with cyc := some { c with acked := true, out := got.1 &&& laneMask c.lo c.hi } })) ∧
    (c.read = true → s.lpb.q ≠ [] → exec (.lpbCycleAck wdata ue) s = .next s) ∧
    (c.read = true → s.lpb.q = [] → 2 ≤ c.kind ∨ (c.kind = 1 ∧ s.persActive = false) → exec (.lpbCycleAck wdata ue) s = .next (
      (if c.kind = 2 then s.bump 0x0050B else s).setLpb fun l => { l with cyc := some { c with acked := true, out := 0 } })) ∧
    (c.read = false → s.lpb.q.length < 8 → c.kind < 2 → exec (.lpbCycleAck wdata ue) s = .next ((s.setLpb fun l =>
      { l with q := l.q ++ [⟨c.off, c.lo, c.hi, c.kind, c.reg, wdata % 65536⟩] }).setLpb
        fun l => { l with cyc := some { c with acked := true } })) ∧
    (c.read = false → s.lpb.q.length < 8 → c.kind = 2 → exec (.lpbCycleAck wdata ue) s = .next ((s.bump 0x0050B).setLpb
      fun l => { l with cyc := some { c with acked := true } })) ∧
    (c.read = false → s.lpb.q.length < 8 → c.kind = 3 → exec (.lpbCycleAck wdata ue) s = .next (
      (if s.dev = .boot ∨ s.dev = .unpitched ∨ s.dev = .pitching then s.bump SYS_BOOT_DISC else s).setLpb
        fun l => { l with cyc := some { c with acked := true } })) ∧
    (c.read = false → 8 ≤ s.lpb.q.length → exec (.lpbCycleAck wdata ue) s = .next (s.deficit 2))) ∧
  (∀ (s : State) (c : LpbCyc), s.lpb.cyc = some c → exec .lpbCycleEnd s =
    .next ((if c.acked = true then s else s.bump 0x00509).setLpb fun l => { l with cyc := none })) ∧
  (∀ s : State, s.lpb.cyc = none → exec .lpbCycleEnd s = .next s ∧ ∀ wdata ue, exec (.lpbCycleAck wdata ue) s = .next s) ∧
  (∀ (s : State) (w : LpbWrite) (q : List LpbWrite), s.lpb.q = w :: q →
    let u := s.setLpb fun l => { l with q := q }
    (w.kind = 0 → exec .lpbPostedCommit s = .next (u.nativeWrite w.off w.data w.lo w.hi)) ∧
    (w.kind ≠ 0 → s.persActive = true → exec .lpbPostedCommit s = .next (u.persWrite w.reg w.data w.lo w.hi)) ∧
    (w.kind ≠ 0 → s.persActive = false → exec .lpbPostedCommit s = .next
      (if s.dev = .boot ∨ s.dev = .unpitched ∨ s.dev = .pitching then u.bump SYS_BOOT_DISC else u))) ∧
  (∀ s : State, s.lpb.q = [] → exec .lpbPostedCommit s = .next s)

/-- The personality's interrupt lines: accumulation each cycle, the end of a pulse, and the acknowledge with its vector (R170, R177, R178, R188). -/
def Obligations.PersonalityLines : Prop :=
  (∀ s : State, s.down = false → s.persActive = true → exec .persAccumulate s = .next (((s.persRecs 1).zipIdx.foldl (fun s x =>
    if prCode x.1 = 3 ∨ prCode x.1 = 4 then
      let now := prBits x.1 (s.persSrc x.1)
      let was := (Sparse.find s.lpb.prev x.2).getD 0
      let add := if prFlag x.1 1 then now else now - (now &&& was)
      (s.persPut x.2 (s.persGet x.2 ||| add)).setLpb fun l => { l with prev := Sparse.put l.prev x.2 now }
    else s) s).irqAll)) ∧
  (∀ (s : State) (j : Fin 4) (r : Bytes), s.irqRec j = some r → u8 r 6 = 1 → exec (.irqPulseEnd j) s =
    .next (s.setLpb fun l => { l with irq := updV l.irq j fun x => { x with on := false } })) ∧
  (∀ (s : State) (j : Fin 4) (r : Bytes), s.runs = true →
    let t := (s.portWake 0).setLpb fun l => { l with vec := none }
    let freed := if u8 r 6 = 2 then t.setLpb fun l => { l with irq := updV l.irq j fun x => { x with on := false } } else t
    let v := u8 r 8 + (if u8 r 7 = 2 then lowBit (t.irqCond r) else 0)
    t.irqRec j = some r → t.down = false → t.underTest = false → t.ten.phase ≠ 3 → (t.lpb.irq[j.val]).on = true →
    (u8 r 7 = 0 → ∀ ab, exec (.interruptAcknowledge j ab) s = .next freed) ∧
    (u8 r 7 ≠ 0 → exec (.interruptAcknowledge j true) s = .next (t.bump 0x00509)) ∧
    (u8 r 7 ≠ 0 → (u8 r 7 = 2 → t.irqCond r ≠ 0) → ∃ u, exec (.interruptAcknowledge j false) s = .next u ∧
      u = { freed.setLpb (fun l => { l with vec := some v }) with fresh := u.fresh }) ∧
    (u8 r 7 = 2 → t.irqCond r = 0 → ∃ u w, exec (.interruptAcknowledge j false) s = .next u ∧
      u = { freed.setLpb (fun l => { l with vec := some w }) with fresh := u.fresh })) ∧
  (∀ (s : State) (j : Fin 4) (ab : Bool), s.runs = true →
    let t := (s.portWake 0).setLpb fun l => { l with vec := none }
    (t.irqRec j = none ∨ t.down = true ∨ t.underTest = true ∨ t.ten.phase = 3 ∨ (t.lpb.irq[j.val]).on = false) →
    exec (.interruptAcknowledge j ab) s = .next t)

/-- An enabled source that fires sets its own status bit, forms one record or extends the pending one with newer data, and changes no other bit (R285, R286, R290, R294). -/
def Obligations.EventFires : Prop :=
  (∀ (s : State) (src : Nat) (d : Word), s.canFire src = false → s.fire src d = s) ∧
  (∀ (s : State) (src : Nat) (t : RingTime) (d : Word), src < 512 → s.canFire src = true → let u := s.occur src t d
    u.bit (EVT_STAT0 + src / 24) (src % 24) = true ∧
    (∀ w b, w < 22 → b < 24 → 24 * w + b ≠ src → u.bit (EVT_STAT0 + w) b = s.bit (EVT_STAT0 + w) b) ∧
    (s.recDest (s.lineOf src) = 0 → u = s.setBit (EVT_STAT0 + src / 24) (src % 24) true) ∧
    (s.recDest (s.lineOf src) ≠ 0 → s.fld (EVT_SRC0 + src) 14 0 = 0 →
      u.evt = { s.evt with pend := s.evt.pend ++ [⟨src, t, d⟩] } ∧ u.fld (EVT_SRC0 + src) 14 0 = 1) ∧
    (s.recDest (s.lineOf src) ≠ 0 → 0 < s.fld (EVT_SRC0 + src) 14 0 →
      u.evt.pend = s.evt.pend.map (fun r => if r.src = src then { r with data := d } else r) ∧
      u.fld (EVT_SRC0 + src) 14 0 = min 0x7FFF (s.fld (EVT_SRC0 + src) 14 0 + 1)) ∧
    (∀ x, x < 512 → x ≠ src → u.reg (EVT_SRC0 + x) = s.reg (EVT_SRC0 + x))) ∧
  (∀ (s : State) (src : Nat) (d : Word), s.canFire src = true → let u := s.occur src s.time d
    (u.feeds src = none → s.fire src d = u) ∧
    (∀ k, u.feeds src = some k → 1000 ≤ u.evt.strTok[k.val] → u.wantsLag k = false → s.fire src d = u) ∧
    (∀ k, u.feeds src = some k → u.wantsLag k = true →
      (s.fire src d).bit (SLC k 1) 1 = true ∧ (s.fire src d).evt.strDef[k.val] = true)) ∧
  (∀ (s : State) (src : Nat) (d : Word), src < 512 → s.canFire src = true →
    (s.fire src d).bit (EVT_STAT0 + src / 24) (src % 24) = true ∧
    (∀ w b, w < 22 → b < 24 → 24 * w + b ≠ src → 24 * w + b ≠ 469 →
      (s.fire src d).bit (EVT_STAT0 + w) b = s.bit (EVT_STAT0 + w) b) ∧
    s.fire src d = { s with evt := (s.fire src d).evt, regs := (s.fire src d).regs })

/-- Records leave in turn when their line has a token and the destination room; the Weir's check each millisecond; the flush timeout (R289, R291, R297, R301). -/
def Obligations.RecordRelease : Prop :=
  (∀ (s : State) (l : Fin 8) (r : PendRec), s.evt.pend.find? (fun r => decide (s.lineOf r.src = l)) = some r →
    s.down = false → s.dev.fires = true → 1000 ≤ s.evt.lineTok[l.val] →
    (s.recDest l = 1 → s.ring.evtQ.length < 8 → exec (.recordRelease l) s = .next ((s.release l r).setRing fun x =>
      { x with evtQ := x.evtQ ++ [s.recordOf r] })) ∧
    (∀ k : Fin 8, s.recDest l = 0x10 + k.val → (s.slcEval k).slcTakes k = true → (s.slcEval k).slcNextLine k = some l →
      exec (.recordRelease l) s = .next ((((s.slcEval k).release l r).setStream k fun x =>
        { x with q := x.q ++ [lo24 r.stamp, hi24 r.stamp, (s.recordOf r).w2, r.data], turn := l.val }).slcMark k))) ∧
  (∀ (s : State) (l : Fin 8), (s.evt.pend.find? (fun r => decide (s.lineOf r.src = l)) = none ∨ s.down = true ∨
    s.dev.fires = false ∨ s.evt.lineTok[l.val] < 1000) → exec (.recordRelease l) s = .next s) ∧
  (∀ (s : State) (k : Fin 8), s.slcMoves = true → s.fld (SLC k 7) 15 0 ≠ 0 →
    exec (.slcFlushTimeout k) s = .next (s.slcFlush k)) ∧
  (∀ (s : State), s.runs = true → (∀ k : Fin 8, s.evt.lineRun[k.val] < 999 ∧ s.evt.strRun[k.val] < 999) →
    ∃ t, exec .weirCheck s = .next t ∧ t.regs = s.regs ∧ ∀ k : Fin 8,
      t.evt.lineRun[k.val] = (if s.evt.lineCoal[k.val] = true then s.evt.lineRun[k.val] + 1 else 0) ∧
      t.evt.strRun[k.val] = (if s.evt.strDef[k.val] = true ∨ s.slcLagging k = true ∨ s.slcWeir k = true
        then s.evt.strRun[k.val] + 1 else 0) ∧
      t.evt.lineCoal[k.val] = false ∧ t.evt.strDef[k.val] = false)

/-- A bus tenure from request to end: the streams in rotation, descriptor words, data words and the return, and what breaks it off (R180, R181, R182, R296, R300, R304, R305, R318). -/
def Obligations.BusTenures : Prop :=
  (∀ s : State, s.slcMoves = true → s.ten.phase = 0 → s.slcPick ≠ none → exec .tenureRequest s =
    .next (s.setTen fun t => { t with phase := 1 })) ∧
  (∀ s : State, s.ten.phase = 1 → s.underTest = false → exec .busGrant s = .next (s.setTen fun t => { t with phase := 2 })) ∧
  (∀ (s : State) (k : Fin 8), s.ten.phase = 2 → s.lpb.cyc = none → s.slcPick = some k → exec .tenureStart s =
    .next (s.setTen fun t => { t with
      phase := 3, stream := k, moved := 0, allow := s.slcTok k / 1000, desc := [], ret := none })) ∧
  (∀ s : State, s.lpb.cyc ≠ none → exec .tenureStart s = .next s) ∧
  (∀ (s : State) (d : Word) (ue : Bool), s.ten.phase = 3 → s.slcMoves = true → s.tenRoom s.ten.stream = true →
    let k := s.ten.stream
    let u := s.setTen fun t => { t with moved := t.moved + 1 }
    (s.slcNext k = .desc → s.ten.desc.length < 3 → exec (.masterCycleDone d ue) s = .next (u.setTen fun t =>
      { t with cyc := some (false, s.slcDesc k + 4 * s.ten.desc.length, d), desc := s.ten.desc ++ [d] })) ∧
    (s.slcNext k = .desc → s.ten.desc.length = 3 → exec (.masterCycleDone d ue) s = .next (((u.setTen fun t =>
      { t with cyc := some (false, s.slcDesc k + 12, d), desc := s.ten.desc ++ [d] }).setTen fun t =>
        { t with desc := [] }).slcOpen k (s.ten.desc ++ [d]))) ∧
    (s.slcNext k = .data → 0 < s.ten.allow → exec (.masterCycleDone d ue) s =
      .next (((u.setTen fun t => { t with allow := t.allow - 1 }).slcWrite k ue).slcMark k)) ∧
    (∀ b, s.slcNext k = .ret → (s.stream k).buf = some b → s.ten.ret = none → exec (.masterCycleDone d ue) s =
      .next ((u.setTen fun t => { t with ret := some (s.stream k).lostBefore, cyc := some (true, s.slcDesc k + 8,
        toWord (b.used + 0x200000 * b2n b.fin + 0x400000 * b2n b.aborted + 0x800000 * b2n (s.stream k).lostBefore)) }).setStream k
          fun x => { x with lostBefore := false })) ∧
    (∀ b, s.slcNext k = .ret → (s.stream k).buf = some b → s.ten.ret ≠ none → exec (.masterCycleDone d ue) s =
      .next ((u.setTen fun t => { t with ret := none, cyc := some (true, s.slcDesc k + 12, toWord (2 * b2n b.irq)) }).slcReturned
        k))) ∧
  (∀ (s : State) (d : Word) (ue : Bool), s.ten.phase ≠ 3 ∨ s.slcMoves = false ∨ s.tenRoom s.ten.stream = false →
    exec (.masterCycleDone d ue) s = .next s) ∧
  (∀ s : State, s.ten.phase = 3 → s.ten.ret ≠ some true → exec .tenureEnd s =
    .next (s.setTen fun t => { t with phase := 0, desc := [], ret := none })) ∧
  (∀ s : State, s.ten.phase = 3 → s.ten.ret = some true → exec .tenureEnd s = .next ((s.setStream s.ten.stream fun x =>
    { x with lostBefore := true }).setTen fun t => { t with phase := 0, desc := [], ret := none })) ∧
  (∀ s : State, s.ten.phase = 1 → exec .grantTimeout s = .next ((s.tenureOver.bump 0x0050D).fire 460 1)) ∧
  (∀ s : State, s.ten.phase = 3 → s.fld 0x00503 14 7 = 0 → exec .masterErrorTimeout s =
    .next (((s.tenureOver.bump 0x0050E).fire 460 2).slcFault s.ten.stream 3)) ∧
  (∀ s : State, s.ten.phase = 3 → exec .foreignBusBusy s =
    .next (((s.tenureOver.bump 0x0050E).fire 460 3).slcFault s.ten.stream 3)) ∧
  (∀ s : State, s.ten.phase = 0 → exec .busGrant s = .next s ∧ exec .tenureStart s = .next s ∧ exec .tenureEnd s = .next s ∧
    exec .grantTimeout s = .next s ∧ exec .masterErrorTimeout s = .next s ∧ exec .foreignBusBusy s = .next s)

/-- An SPI frame from start to end: status word, command, read and write words with their side effects, and the faults that a frame reports in the next (R198, R202, R203, R204, R205, R207, R208, R637). -/
def Obligations.SpiFrames : Prop :=
  (∀ (s : State) (m : Bool), s.runs = true → s.underTest = false → s.spi.active = false → exec (.spiFrameStart m) s = .next (
    let served := decide (s.dev ≠ .boot) && decide (s.dev ≠ .doze)
    ((s.portWake 1).setBit 0x00600 5 m).setSpi fun x =>
      { SpiSt.reset with active := true, served := served, prev := x.prev, out := [s.spiStatus (!served)] })) ∧
  (∀ (s : State) (cmd cnt : Word) (c0 c1 : Byte), s.spi.active = true → s.spi.gotCmd = false →
    let t := s.setSpi fun x => { x with gotCmd := true, rd := bitOf cmd 23, inc := bitOf cmd 22, crc := bitOf cmd 21,
                                        addr := bitsOf cmd 19 0, count := bitsOf cnt 11 0 }
    let dead := fun (u : State) => u.setSpi fun x => { x with dead := true }
    let ok := (bitOf cmd 21 = true ∧ c0.toNat = crc8 cmd) ∨ (bitOf cmd 21 = false ∧ t.bit 0x00600 6 = false)
    let ok1 := bitOf cmd 21 = true → c1.toNat = crc8 cnt
    (ok → bitOf cmd 20 = false → bitOf cmd 23 = false → exec (.spiCommandWord cmd c0 cnt c1) s = .next t) ∧
    (ok → bitOf cmd 20 = false → bitOf cmd 23 = true → ok1 → bitsOf cnt 11 0 ≠ 0 → bitsOf cnt 23 12 = 0 →
      exec (.spiCommandWord cmd c0 cnt c1) s = .next (t.spiSend [cmd, 0])) ∧
    (ok → bitOf cmd 20 = false → bitOf cmd 23 = true → ok1 → bitsOf cnt 11 0 = 0 ∨ bitsOf cnt 23 12 ≠ 0 →
      exec (.spiCommandWord cmd c0 cnt c1) s = .next (dead (t.spiSend [cmd]).spiFerr)) ∧
    (ok → bitOf cmd 20 = false → bitOf cmd 23 = true → ¬ ok1 →
      exec (.spiCommandWord cmd c0 cnt c1) s = .next ((t.spiSend [cmd]).spiCrc 1)) ∧
    (ok → bitOf cmd 20 = true → exec (.spiCommandWord cmd c0 cnt c1) s = .next (dead t.spiFerr)) ∧
    (¬ ok → exec (.spiCommandWord cmd c0 cnt c1) s = .next (t.spiCrc 0))) ∧
  (∀ (s : State) (sdi : Word) (crc : Byte), s.spi.active = true → s.spi.gotCmd = true → s.spi.rd = true → s.spi.dead = false →
    let k := s.spi.ends + 1
    let u := s.setSpi fun x => { x with ends := k }
    let good := s.spi.crc = false ∨ k = 1 ∨ crc.toNat = crc8 sdi
    (¬ good → ∀ ue, exec (.spiReadFetch ⟨sdi, crc⟩ ue) s = .next (u.spiCrc k)) ∧
    (good → k ≤ s.spi.count → s.spi.past = false → s.spi.served = true → exec (.spiReadFetch ⟨sdi, crc⟩ false) s = .next (
      let r := u.rd .spi s.spi.addr
      let v := if u.rdRefused .spi s.spi.addr = true then r.2.spiRefused else r.2
      (v.spiSend [r.1]).setSpi fun x => { x.next with fetched := x.fetched + 1 })) ∧
    (good → k ≤ s.spi.count → s.spi.past = true → ∀ ue, exec (.spiReadFetch ⟨sdi, crc⟩ ue) s = .next
      ((u.spiPast.spiSend [0]).setSpi fun x => { x.next with fetched := x.fetched + 1 })) ∧
    (good → s.spi.count < k → k ≠ s.spi.count + 3 → ∀ ue, exec (.spiReadFetch ⟨sdi, crc⟩ ue) s = .next u) ∧
    (good → k = s.spi.count + 3 → ∀ ue, exec (.spiReadFetch ⟨sdi, crc⟩ ue) s = .next u.spiFerr)) ∧
  (∀ (s : State) (w : Word) (crc : Byte), s.spi.active = true → s.spi.gotCmd = true → s.spi.rd = false → s.spi.dead = false →
    let good := s.spi.crc = false ∨ crc.toNat = crc8 w
    (¬ good → ∀ full, exec (.spiWriteWord w crc full) s = .next (s.spiCrc 0)) ∧
    (good → s.spi.past = false → s.dev ≠ .boot → s.spi.served = true → exec (.spiWriteWord w crc false) s = .next (
      let u := if s.wrRefused .spi s.spi.addr w = true then s.spiRefused else s
      (u.wr .spi s.spi.addr w).setSpi SpiSt.next)) ∧
    (good → s.spi.past = false → s.dev = .boot → ∀ full, exec (.spiWriteWord w crc full) s =
      .next ((s.bump SYS_BOOT_DISC).setSpi SpiSt.next)) ∧
    (good → s.spi.past = false → s.dev ≠ .boot → s.spi.served = true → exec (.spiWriteWord w crc true) s =
      .next ((((s.bump SYS_QOVF_SPI).fire 452 0).spiFlag fun f => { f with ovf := true }).setSpi SpiSt.next)) ∧
    (good → s.spi.past = true → ∀ full, exec (.spiWriteWord w crc full) s = .next (s.spiPast.setSpi SpiSt.next))) ∧
  (∀ (s : State) (bits : Nat) (part : Word) (crc : Byte), s.spi.active = true → exec (.spiFrameEnd bits part crc) s = .next (
    let a := if bits ≠ 0 then s.spiFerr else s
    let b := if s.spi.rd = true ∧ s.spi.ends < s.spi.fetched + 2 ∧ 0 < s.spi.fetched then
      (a.bump 0x00609).spiFlag fun f => { f with lost := true } else a
    let f := b.spi.cur
    (b.setReg 0x00600 (b.reg 0x00600 ||| toWord (b2n f.lost + 2 * b2n f.ferr + 4 * b2n f.crcErr + 8 * b2n f.refused +
      16 * b2n f.ovf))).setSpi fun y => { y with active := false, prev := f, cur := .none })) ∧
  (∀ (s : State) (pos : Nat), ((s.spiCrc pos).spi.dead = true ∧ (s.spiCrc pos).spi.cur.crcErr = true) ∧
    (s.spiCrc pos).spi.out = s.spi.out.take (pos + 1)) ∧
  (∀ s : State, s.spi.active = false → exec (.spiFrameEnd 0 0 0) s = .next s ∧
    (∀ w c f, exec (.spiWriteWord w c f) s = .next s ∧ exec (.spiReadFetch ⟨w, c⟩ f) s = .next s) ∧
    ∀ w c v d, exec (.spiCommandWord w c v d) s = .next s)

/-- Modbus: each function's request with its quantity limits and parts, an unsupported function, a frame error, and the sending of the answer (R209, R210, R211, R212, R214, R221). -/
def Obligations.ModbusRequests : Prop :=
  (∀ s : State, s.runs = true → s.underTest = false → s.mss.modUp = true → s.mod.answer = none →
    let u := (s.portWake 2).bump 0x00648
    (∀ a q ue, exec (.readCoils false a q ue) s = .next (u.modRun false ⟨1, some (0, a, q), none, within q 2000, ue⟩ bitReply) ∧
      exec (.readDiscreteInputs false a q ue) s = .next (u.modRun false ⟨2, some (1, a, q), none, within q 2000, ue⟩ bitReply) ∧
      exec (.readHoldingRegisters false a q ue) s =
        .next (u.modRun false ⟨3, some (3, a, q), none, within q 125, ue⟩ regReply) ∧
      exec (.readInputRegisters false a q ue) s =
        .next (u.modRun false ⟨4, some (2, a, q), none, within q 125, ue⟩ regReply)) ∧
    (∀ bc a v ue, (bc = true → u.bit 0x00640 14 = true) →
      (exec (.writeSingleCoil ⟨bc, ue⟩ a v) s = .next (u.modRun bc ⟨5, none, some (0, a, [b2n (decide (v = 0xFF00))]),
        decide (v = 0xFF00) || decide (v = 0), ue⟩ fun _ => regBytes [a, v])) ∧
      exec (.writeSingleRegister ⟨bc, ue⟩ a v) s =
        .next (u.modRun bc ⟨6, none, some (3, a, [v]), true, ue⟩ fun _ => regBytes [a, v])) ∧
    (∀ bc a q n d ue, (bc = true → u.bit 0x00640 14 = true) →
      exec (.writeMultipleCoils ⟨bc, ue⟩ a q n d) s = .next (u.modRun bc ⟨15, none, some (0, a, dataBits q d),
        within q 1968 && decide (n = (q + 7) / 8) && decide (n = d.length), ue⟩ fun _ => regBytes [a, q]) ∧
      exec (.writeMultipleRegisters ⟨bc, ue⟩ a q n d) s = .next (u.modRun bc ⟨16, none, some (3, a, dataRegs q d),
        within q 123 && decide (n = 2 * q) && decide (n = d.length), ue⟩ fun _ => regBytes [a, q])) ∧
    (∀ a q wa wq n d ue, exec (.readWriteMultipleRegisters false a q wa wq n d ue) s =
      .next (u.modRun false ⟨23, some (3, a, q), some (3, wa, dataRegs wq d),
        within q 125 && within wq 121 && decide (n = 2 * wq) && decide (n = d.length), ue⟩ regReply)) ∧
    (∀ fn, exec (.unsupportedFunction false fn) s =
      .next (u.modExcept false (fn % 128) (if u.dev = .boot then 6 else 1) none) ∧
      exec (.unsupportedFunction true fn) s = .next (u.bump 0x0064A)) ∧
    (∀ a q ue, exec (.readCoils true a q ue) s = .next (u.bump 0x0064A) ∧
      exec (.readHoldingRegisters true a q ue) s = .next (u.bump 0x0064A)) ∧
    exec .modbusFrameError s = .next (s.bump 0x00649)) ∧
  (∀ s : State, s.runs = true → s.underTest = false → s.mss.modUp = true → s.mod.answer ≠ none → ∀ bc a q ue v fn,
    exec (.readHoldingRegisters bc a q ue) s = .next (s.bump 0x00649) ∧
    exec (.writeSingleRegister ⟨bc, ue⟩ a v) s = .next (s.bump 0x00649) ∧
    exec (.unsupportedFunction bc fn) s = .next (s.bump 0x00649)) ∧
  (∀ (s : State) (b : Bytes), s.mod.answer = some b → s.runs = true → exec .modbusReply s =
    .next (s.setMod fun m => { m with answer := none, sent := b }))

/-- A Modbus request is checked in the order of R213; each failure gives its exception and counters and nothing else, and only a request that passes is executed (R198, R211, R213). -/
def Obligations.ModbusChecks : Prop :=
  ∀ (s : State) (q : MReq) (rep : List Nat → Bytes) (rs ws : List MItem),
    let wv := cutVals ws ((q.wr.map (·.2.2)).getD [])
    let maps := (match q.rd with | some (t, a, n) => s.modItems t n a n | none => some []) = some rs ∧
      (match q.wr with | some (t, a, vs) => s.modItems t vs.length a vs.length | none => some []) = some ws ∧
      (q.wr ≠ none → ws.all MItem.writable = true)
    let plain := ∀ i ∈ rs ++ ws, i.fixed = false
    (s.dev = .boot → s.modRun false q rep = s.modExcept false q.fn 6 none) ∧
    (s.dev ≠ .boot → q.ok = false → s.modRun false q rep = s.modExcept false q.fn 3 none) ∧
    (s.dev ≠ .boot → q.ok = true → (∃ t a n, q.rd = some (t, a, n) ∧ s.modItems t n a n = none) →
      s.modRun false q rep = s.modExcept false q.fn 2 none) ∧
    (s.dev ≠ .boot → q.ok = true → (∃ t a vs, q.wr = some (t, a, vs) ∧ (s.modItems t vs.length a vs.length = none ∨
      ∃ l, s.modItems t vs.length a vs.length = some l ∧ l.all MItem.writable = false)) →
      s.modRun false q rep = s.modExcept false q.fn 2 none) ∧
    (s.dev ≠ .boot → q.ok = true → maps → plain → rs ++ ws ≠ [] → s.dev.fires = false →
      s.modRun false q rep = s.modExcept false q.fn 6 (some 0x0064C)) ∧
    (s.dev ≠ .boot → q.ok = true → maps → s.dev.fires = true → s.modWriteBad s.mod.gw wv = true →
      s.modRun false q rep = s.modExcept false q.fn 1 (some 0x0064B)) ∧
    (s.dev ≠ .boot → q.ok = true → maps → s.dev.fires = true → q.rd = none → q.ue = none →
      s.modWriteBad s.mod.gw wv = false → (∀ x ∈ wv, x.1.highOk x.2 = true) →
      s.modRun false q rep = (s.modWrites wv).modSend q.fn (rep []) ∧ s.modRun true q rep = s.modWrites wv) ∧
    (s.dev ≠ .boot → q.ok = true → maps → s.dev.fires = true → q.rd = none → s.modWriteBad s.mod.gw wv = false →
      (∀ x ∈ wv, x.1.highOk x.2 = true) → ∀ k i a, q.ue = some k → ws[k]? = some i → i.rmwAt = some a → 0x80000 ≤ a →
      s.modRun false q rep = (s.eddyUe .modbus a).modExcept false q.fn 4 none) ∧
    (s.dev ≠ .boot → q.ok = true → maps → s.dev.fires = true → q.rd = none → s.modWriteBad s.mod.gw wv = false →
      (∃ x ∈ wv, x.1.highOk x.2 = false) → s.modRun false q rep = s.modExcept false q.fn 3 none) ∧
    (s.dev ≠ .boot → q.ok = true → maps → s.dev.fires = true → q.wr = none → q.ue = none →
      (∀ i ∈ rs, ∀ a, i.native s.mod.gw = some a → s.rdRefused .modbus a = false) →
      ∃ vs, (s.modReads rs none 0).1 = some vs ∧
        s.modRun false q rep = (s.modReads rs none 0).2.modSend q.fn (rep vs)) ∧
    (∀ fn code cnt, s.modExcept true fn code cnt = s.bump 0x0064A ∧ ∃ u : State,
      u = (match cnt with | some a => (s.bump 0x0064A).bump a | none => s.bump 0x0064A) ∧
      s.modExcept false fn code cnt = u.setMod fun m =>
        { m with answer := some (leBytes 1 (u.fld 0x00640 7 0) ++ leBytes 1 (fn + 128) ++ leBytes 1 code) })

/-- Ring links: up, miswired, down, the partner's receive fault, a stable hop, bad frames going on with EBAD, and the eight exchanges of a delay measurement, asked and answered (R228, R230, R251, R252, R260, R262). -/
def Obligations.RingLinks : Prop :=
  (∀ (s : State) (w : Bool), s.portsRun = true →
    let flags := fun (u : State) => u.setRing fun r => if w then { r with changed := true, stableW := false }
      else { r with changed := true, stableE := false }
    exec (.ringLinkUp w false) s = .next ((flags ((((s.setBit (RNG_LINK w) 0 true).setBit (RNG_LINK w) 2 false).setBit
      (RNG_LINK w) 3 true).dlyStart w)).linkEvent w) ∧
    exec (.ringLinkUp w true) s = .next (((s.setBit (RNG_LINK w) 2 true).setBit (RNG_LINK w) 3 true).linkEvent w) ∧
    (∀ sig, s.bit (RNG_LINK w) 0 = true → exec (.ringLinkDown w sig) s = .next ((flags (((((s.setBit (RNG_LINK w) 0 false).setBit
      (RNG_LINK w) 1 true).setBit (RNG_LINK w) 3 sig).bump (RNG_LDOWN w)).setBit RNG_DISC 17 true)).linkEvent w)) ∧
    (∀ sig, s.bit (RNG_LINK w) 0 = false → exec (.ringLinkDown w sig) s = .next s) ∧
    (s.bit (RNG_LINK w) 0 = true →
      let u := s.setRing fun r => if w then { r with stableW := false } else { r with stableE := false }
      (s.bit (RNG_LINK w) 1 = true → exec (.partnerRxFault w) s = .next u) ∧
      (s.bit (RNG_LINK w) 1 = false → exec (.partnerRxFault w) s = .next (((u.setBit (RNG_LINK w) 1 true).setRing fun r =>
        { r with changed := true }).linkEvent w)) ∧
      exec (.ringDelayMeasure w) s = .next (s.dlyStart w)) ∧
    (∀ bs, s.ring.forward = true →
      exec (.ringBadFrame w ⟨false, bs⟩) s = .next ((s.bump (RNG_CRC w)).sendOn w true ⟨⟨false, 0, 0, 0, 0⟩, .raw bs⟩) ∧
      exec (.ringBadFrame w ⟨true, bs⟩) s = .next (s.sendOn w true ⟨⟨false, 0, 0, 0, 0⟩, .raw bs⟩))) ∧
  (∀ (s : State) (w : Bool), s.bit (RNG_LINK w) 0 = true → s.bit (RNG_LINK w) 1 = true → ∃ t,
    exec (.ringHopStable w) s = .next t ∧ t = { s with ring := t.ring } ∧
      (if w then t.ring.stableW else t.ring.stableE) = true ∧ t.ring.unwrapReq = (s.ring.unwrapReq || s.headwater)) ∧
  (∀ (s : State) (w bad : Bool) (f : RFrame), s.headwater = false →
    (s.sendOn w bad f).ring.tx = [⟨s.outWest w, bad, f⟩] ∧ (s.sendOn w bad f).regs = s.regs) ∧
  (∀ (s : State) (w : Bool), (s.dlyStart w).dly w = ⟨true, 0, 0, 0, false, (s.dly w).delay⟩ ∧
    ∃ f, (s.dlyStart w).ring.tx = [⟨w, false, f⟩] ∧ f.pay = .dly false 0 0) ∧
  (∀ (s : State) (w : Bool) (exch turn trip : Nat), s.portsRun = true →
    let d := s.dly w
    let one := ((trip - turn : Int) / 2 + (if w then (BitVec.ofNat 16 (s.rcfg 0xA 2)).toInt * 4 else 0)).toNat
    (∃ t, exec (.ringDly w false exch turn trip) s = .next t ∧ t.regs = s.regs ∧
      ∃ f, t.ring.tx = [⟨w, false, f⟩] ∧ f.pay = .dly true exch turn) ∧
    (d.active = true → d.exch = exch → exch < 7 → exec (.ringDly w true exch turn trip) s =
      .next ((s.setDly w ⟨true, exch + 1, d.sum + one, d.good + 1, false, d.delay⟩).dlyAsk w (exch + 1))) ∧
    (d.active = true → d.exch = exch → exch = 7 → exec (.ringDly w true exch turn trip) s =
      .next ((s.setDly w ⟨false, 8, d.sum + one, d.good + 1, false, (d.sum + one) / (d.good + 1)⟩).setFld (RNG_LINK w) 23 8
        (min 0xFFFF ((d.sum + one) / (d.good + 1) / 4)))) ∧
    (d.active = false ∨ d.exch ≠ exch → exec (.ringDly w true exch turn trip) s = .next s)) ∧
  (∀ (s : State) (w : Bool), (s.dly w).active = true →
    ((s.dly w).again = false → exec (.ringDlyTimeout w) s = .next ((s.setDly w { s.dly w with again := true }).dlyAsk w (s.dly w).exch)) ∧
    ((s.dly w).again = true → (s.dly w).exch < 7 → exec (.ringDlyTimeout w) s =
      .next ((s.setDly w { s.dly w with exch := (s.dly w).exch + 1, again := false }).dlyAsk w ((s.dly w).exch + 1))))

/-- The ring's cycle: the Headwater's start and its frames, time and delay from CYC, process data, events, carriers, what a full receive queue loses, and the returns at the Headwater (R82, R229, R241, R243, R246, R247, R248, R249, R253). -/
def Obligations.RingCycle : Prop :=
  (∀ s : State, s.headwater = true → s.bit RNG_STAT 4 = false → s.asleep = false → s.forwards = true →
    s.mss.run ≠ .none → s.ring.unwrapDue = false → s.ring.bindsDue = none →
    (s.rcfg 4 2 < s.ring.tMin → s.bit RNG_STAT 3 = true) → ∃ t, exec .ringCycleStart s = .next t ∧
    let no := (match s.ring.cycleNo with | some n => n + 1 | none => 0) % 4294967296
    t.ring.cycleNo = some no ∧ t.reg RNG_CYCNO = toWord no ∧ t.fld RNG_CYCLE 13 0 = max (s.rcfg 4 2) s.ring.tMin % 16384 ∧
    t.bit RNG_STAT 3 = decide (s.rcfg 4 2 < s.ring.tMin) ∧ t.ring.filled = 0 ∧ t.ring.cycAt = s.time ∧
    (∃ (h : RHdr) (c : Cyc) (fs : List RingTx), t.ring.tx = ⟨s.outWest true, false, ⟨h, .cyc c⟩⟩ :: fs ∧
      (∀ x ∈ fs, x.west = s.outWest true ∧ x.bad = false) ∧ h.src = 0 ∧ c.cycleNo = no ∧ c.tTx = s.time ∧ c.accDelay = 0 ∧
      c.markOff = (500000 - s.time.toNat % 500000) % 500000 ∧ c.changed = s.ring.changed ∧ c.unwrap = s.ring.unwrapReq) ∧
    (∀ a, a ∉ [RNG_CYCNO, RNG_CYCLE, RNG_STAT] → t.reg a = s.reg a) ∧ t = { s with ring := t.ring, regs := t.regs }) ∧
  (∀ (s : State) (x : Rx) (f : RFrame) (go : State → State), s.forwards = true →
    (s.asleep = true ∨ s.downstream x.west = false → s.passing x f go = s.sendOn x.west false f) ∧
    (s.asleep = false → s.downstream x.west = true → s.passing x f go = if x.ovf = true
      then ((s.bump (if x.west then 0x00031 else 0x00030)).fire 452 0).sendOn x.west false f else go s)) ∧
  (∀ (s : State) (h : RHdr) (c : Cyc) (x : Rx) (resid : Nat) (fo : Bool) (e : Int), s.forwards = true → s.asleep = false →
    s.downstream x.west = true → x.ovf = false →
    let acc := c.accDelay + (s.dly x.west).delay
    (s.headwater = true → exec (.ringCyc h c x resid true e) s =
      .next ((s.conflict h.src).sendOn x.west false ⟨h, .cyc (c.onward (acc + resid) false)⟩)) ∧
    (s.headwater = true → exec (.ringCyc h c x resid false e) s = .next ((s.headCyc c acc).steer e)) ∧
    (s.headwater = false → exec (.ringCyc h c x resid fo e) s = .next (((s.nodeCyc c acc).steer e).sendOn x.west false
      ⟨h, .cyc (c.onward (acc + resid) (s.ring.changed || s.ember.nodeId.isNone))⟩))) ∧
  (∀ (s : State) (c : Cyc) (acc : Nat), s.ring.unwrapDue = false → s.ring.assignDue = none →
    let u := s.nodeCyc c acc
    let t : RingTime := c.tTx + BitVec.ofNat 48 (acc / 32)
    u.time = (if s.bit RNG_STAT 2 = false ∨ 500 < (timeDiff t s.time).natAbs then t else s.time) ∧
    u.reg RNG_CYCNO = toWord c.cycleNo ∧ u.fld RNG_CYCLE 13 0 = c.cycleUs % 16384 ∧ u.bit RNG_STAT 3 = c.stretched ∧
    u.bit RNG_STAT 2 = true ∧ u.reg RNG_PATH_DLY = toWord (acc / 32) ∧ u.ring.cycleNo = some c.cycleNo ∧
    u.ring.markPhase = (c.tTx.toNat + c.markOff) % 500000 ∧ u.ring.unwrapDue = c.unwrap ∧
    u.ring.changed = false ∧ ∀ a, a ∉ [RNG_CYCNO, RNG_CYCLE, RNG_STAT, RNG_PATH_DLY] → u.reg a = s.reg a) ∧
  (∀ (s : State) (h : RHdr) (lo : Nat) (slots : Bytes) (x : Rx), s.headwater = false → s.forwards = true → s.asleep = false →
    s.downstream x.west = true → x.ovf = false →
    let good := s.setRing fun r => { r with pdLost := false }
    (s.ring.slotSize = 0 → exec (.ringPd ⟨h, x⟩ ⟨lo, slots⟩ .eof) s = .next (good.sendOn x.west false ⟨h, .pd lo slots⟩)) ∧
    (s.ring.slotSize ≠ 0 → s.dev.fires = true →
      let v := good.fillSlot lo
      let w := v.sendOn x.west false ⟨h, .pd lo (v.pdOnward slots)⟩
      v.ring.slotOut.words = (good.rdList (.ring 0) (good.pdMap false)).1 ∧ v.ring.slotOut.st0 = s.dev.code ∧
      v.ring.pdRefused = false ∧
      exec (.ringPd ⟨h, x⟩ ⟨lo, slots⟩ .eof) s = .next (
        if s.ring.cycleNo.any (fun n => decide (n % 65536 = lo)) = true then w.pdCommit (w.pdMap true) (w.pdOuts slots)
        else w)) ∧
    (s.ring.slotSize ≠ 0 →
      let v := (s.bump (RNG_CRC x.west)).fillSlot lo
      exec (.ringPd ⟨h, x⟩ ⟨lo, slots⟩ .crcBad) s = .next (v.sendOn x.west true ⟨h, .pd lo (v.pdOnward slots)⟩)) ∧
    (∀ k, 4 * (s.ring.slotOff + s.ring.slotSize) ≤ slots.length →
      k < 4 * s.ring.slotOff ∨ 4 * (s.ring.slotOff + s.ring.slotSize) ≤ k → (s.pdOnward slots)[k]? = slots[k]?)) ∧
  (∀ (s : State) (h : RHdr) (next : Nat) (cells : List EvtCell) (x : Rx), s.headwater = false → s.forwards = true →
    s.asleep = false → s.downstream x.west = true → x.ovf = false →
    let put := s.ring.evtQ.take (min (s.rcfg 7 1) (cells.length - next))
    exec (.ringEvt ⟨h, next, cells, x⟩) s = .next ((s.setRing fun r => { r with evtQ := r.evtQ.drop put.length }).sendOn x.west false
      ⟨h, .evt (next + put.length) (cells.take next ++ put.map s.evtCell ++ cells.drop (next + put.length))⟩)) ∧
  (∀ (s : State) (h : RHdr) (x : Rx), s.headwater = false → s.forwards = true → s.asleep = false → s.downstream x.west = true →
    x.ovf = false →
    let fill := fun (u : State) (dest : Nat) (p : RPay) => (u.setRing fun r =>
      { r with filled := r.filled + 1, seqNo := (r.seqNo + 1) % 65536 }).sendOn x.west false
        ⟨⟨false, dest, s.nodeId, s.ring.seqNo, h.aux⟩, p⟩
    (s.fld RNG_POS 9 0 < h.aux ∨ 2 ≤ s.ring.filled → exec (.ringEmpty ⟨h, x⟩) s = .next (s.sendOn x.west false ⟨h, .empty⟩)) ∧
    (h.aux ≤ s.fld RNG_POS 9 0 → s.ring.filled < 2 →
      (∀ m, nextMail s.ring.sendQ = some m → exec (.ringEmpty ⟨h, x⟩) s = .next (fill (s.mailGone m) m.dest (.mail m))) ∧
      (∀ n b, s.ring.sendQ = [] → s.bulkTake.1 = some (n, b) →
        exec (.ringEmpty ⟨h, x⟩) s = .next (fill s.bulkTake.2 n (.bulk b))) ∧
      (s.ring.sendQ = [] → s.bulkTake.1 = none → exec (.ringEmpty ⟨h, x⟩) s = .next (s.sendOn x.west false ⟨h, .empty⟩)))) ∧
  (∀ (s : State) (slots : Bytes) (cells : List EvtCell), s.headwater = true → s.bit RNG_STAT 4 = false → s.forwards = true →
    s.asleep = false →
    let ps := s.slotsOf slots
    let u := ps.foldl State.mirrorSlot s
    let v := if ps.any (fun p => !p.st1.testBit 7) then u.fire 466 (u.reg RNG_CYCNO) else u
    exec (.ringPdReturn slots .eof) s = .next (
      if v.bit RNG_SYNC_CMD 21 = true ∧ (1000 * v.fld RNG_CYCLE 13 0 : Nat) ≤ timeDiff v.ring.cycAt v.ring.syncT
        then v.syncTally ps else v) ∧
    exec (.ringPdReturn slots .ebad) s = .next ((s.bump RNG_PD_MISS).fire 466 ((s.bump RNG_PD_MISS).reg RNG_CYCNO)) ∧
    (cells ≠ [] → exec (.ringEvtReturn cells) s =
      .next ((cells.foldl State.mirrorCell s).fire 463 (toWord cells.length)))) ∧
  (∀ s : State, s.portsRun = true → s.asleep = false → s.headwater = false →
    (s.ring.pdLost = true → exec .pdFrameLoss s = .next s) ∧
    (s.ring.pdLost = false → exec .pdFrameLoss s =
      .next ((s.setRing fun r => { r with pdLost := true }).fire 466 (s.reg RNG_CYCNO))))

/-- The census and ring time: a node's entry and its assignment, which takes effect with a later CYC, the Headwater's passes, SYNC frames and edges, SYNCN, and the lapse of discipline (R240, R241, R254, R256, R258, R259). -/
def Obligations.RingCensus : Prop :=
  (∀ (s : State) (h : RHdr) (fp n : Nat) (es : List EnumEntry) (x : Rx), s.forwards = true → s.asleep = false →
    s.downstream x.west = true → x.ovf = false → s.mss.run ≠ .none → s.headwater = false →
    ((∀ e ∈ es, e.nodeId = 0 ∧ e.hasId = true) →
      (n < 128 → s.ring.placed = false → exec (.ringEnum ⟨h, x⟩ fp n es false) s = .next (((s.setFld RNG_POS 9 0 (fp + n)).setRing
        fun r => { r with placed := true, assignDue := none, assignLast := false }).sendOn x.west false ⟨h, .enum fp (n + 1)
          (es.take n ++ [⟨s.flash.uid.toNat, s.ring.fixedId, 0, slotUnits s.ring.conf, 0, 1⟩])⟩)) ∧
      (128 ≤ n ∨ s.ring.placed = true →
        exec (.ringEnum ⟨h, x⟩ fp n es false) s = .next (s.sendOn x.west false ⟨h, .enum fp n es⟩))) ∧
    (∀ a ∈ es, a.uid = s.flash.uid.toNat → a.nodeId ≠ 0 → es.find? (fun e => decide (e.uid = s.flash.uid.toNat)) = some a →
      ∃ t : State, exec (.ringEnum ⟨h, x⟩ fp n es false) s = .next t ∧ t.ring.assignDue = some a ∧
        t.ring.assignLast = (s.ring.assignLast || decide (n < 128) || decide (896 ≤ fp)) ∧
        (n < 128 → t.fld RNG_POS 20 10 = (fp + n + 1) % 2048) ∧ t.ember = s.ember ∧ ∀ b, b ≠ RNG_POS → t.reg b = s.reg b)) ∧
  (∀ (s : State) (c : Cyc) (acc : Nat) (a : EnumEntry), s.ring.unwrapDue = false → s.ring.assignDue = some a →
    s.ring.assignLast = true ∨ c.census = false →
    let u := s.nodeCyc c acc
    u.ring.assignDue = none ∧ u.ring.slotSize = a.slotSize ∧ u.ring.slotOff = a.slotOff ∧
    (a.status.testBit 1 = false → s.ring.imgReq = false → u.ember.nodeId = some a.nodeId ∧
      u.fld RNG_STAT 14 5 = a.nodeId % 1024 ∧ u.bit RNG_STAT 1 = true) ∧
    (a.status.testBit 1 = true → u.ember.nodeId = none ∧ u.bit RNG_STAT 1 = false)) ∧
  (∀ (s : State) (h : RHdr) (fp n : Nat) (es : List EnumEntry) (x : Rx), s.forwards = true → s.asleep = false →
    s.downstream x.west = true → x.ovf = false → s.headwater = true →
    exec (.ringEnum ⟨h, x⟩ fp n es true) s = .next ((s.conflict h.src).sendOn x.west false ⟨h, .enum fp n es⟩)) ∧
  (∀ (s : State) (n : Nat) (es : List EnumEntry), s.headwater = true → s.bit RNG_STAT 4 = false → s.forwards = true →
    s.asleep = false →
    (s.ring.censusPass = 1 → 128 ≤ n → s.ring.firstPos < 896 → exec (.ringEnumReturn n es) s = .next (s.setRing fun r =>
      { r with entries := s.ring.entries ++ es, firstPos := r.firstPos + 128 })) ∧
    (s.ring.censusPass = 1 → n < 128 ∨ 896 ≤ s.ring.firstPos →
      let all := s.ring.entries ++ es
      let asg := censusAssign s.binds all all 0 [0]
      let l := (asg.filter fun e => !e.status.testBit 1).foldl (fun b e => Sparse.put b e.uid e.nodeId) s.binds
      exec (.ringEnumReturn n es) s = .next ((s.setRing fun r => { r with
        entries := all, censusPass := 2, firstPos := 0, layoutNew := asg
        bindsDue := if s.settings.binds = l then none else some l }).storeBinds)) ∧
    (s.ring.censusPass = 2 → s.ring.entries.length < s.ring.firstPos + 128 → ∃ t : State,
      exec (.ringEnumReturn n es) s = .next (t.fire 464 (toWord (s.ring.entries.length + 1))) ∧ t.ring.censusPass = 0 ∧
      t.ring.layoutDue = true ∧ t.fld RNG_POS 20 10 = (s.ring.entries.length + 1) % 2048 ∧
      ∀ b, b ≠ RNG_POS → t.reg b = s.reg b)) ∧
  (∀ (s : State) (h : RHdr) (mark : RingTime) (edge groups seq : Nat) (x : Rx), s.forwards = true → s.asleep = false →
    s.downstream x.west = true → x.ovf = false →
    let u := s.sendOn x.west false ⟨h, .sync mark edge groups seq⟩
    ((s.rcfg 1 1).testBit 1 = true → s.fld RNG_SYNC_SEL 7 0 &&& groups ≠ 0 → s.ring.armed = none →
      s.fld RNG_SYNC_STAT 1 0 = 0 ∨ s.fld RNG_SYNC_STAT 9 2 ≠ seq → exec (.ringSyncFrame ⟨h, x⟩ ⟨mark, edge⟩ groups seq) s =
      .next (((u.setFld RNG_SYNC_STAT 1 0 1).setFld RNG_SYNC_STAT 9 2 seq).setRing fun r =>
        { r with armed := some (mark, edge, seq), stepped := false })) ∧
    ((s.rcfg 1 1).testBit 1 = false ∨ s.fld RNG_SYNC_SEL 7 0 &&& groups = 0 ∨ s.ring.armed ≠ none ∨
      (s.fld RNG_SYNC_STAT 1 0 ≠ 0 ∧ s.fld RNG_SYNC_STAT 9 2 = seq) →
      exec (.ringSyncFrame ⟨h, x⟩ ⟨mark, edge⟩ groups seq) s = .next u)) ∧
  (∀ s : State, (s.ring.armed = none → exec .syncEdge s = .next s) ∧
    (s.ring.armed ≠ none → s.disc = false ∨ s.ring.stepped = true → exec .syncEdge s = .next (s.syncEnd true)) ∧
    (s.ring.armed ≠ none → s.disc = true → s.ring.stepped = false → exec .syncEdge s =
      .next ((s.syncChannels.foldl (fun s c => s.channelReset c 2) s).syncEnd false))) ∧
  (∀ (s : State) (err : Fin 7), s.runs = true → s.underTest = false → ∃ t : RingTime,
    exec (.syncnFall err) s = .next ((s.setTime RNG_SYNCN_LO t).fire 467 (lo24 t)) ∧ timeDiff t s.time = (err.val : Int) - 3) ∧
  (∀ s : State, s.runs = true → (s.disc = true ∨ s.bit RNG_STAT 2 = true) →
    (s.bit (RNG_LINK false) 0 = true ∨ s.bit (RNG_LINK true) 0 = true) → ∃ t : State,
    exec .ringHoldoverLapse s = .next (t.fire 451 0) ∧ t.disc = false ∧ t.bit RNG_STAT 2 = false ∧ t.ring.lockRun = 0 ∧
    t.ring.frozen = true ∧ t.bit RNG_DISC 17 = true ∧ ∀ b, b ∉ [SYS_CLKSTAT, RNG_DISC, RNG_STAT] → t.reg b = s.reg b)

/-- Mails: which requests are turned BUSY in their carrier and which served, reads and writes checked whole and then made, mailbox commands submitted, images offered, answers taken, OUTBOX_FULL, and lost carriers relayed once (R109, R110, R264, R265, R266, R267, R270, R280, R584). -/
def Obligations.RingMails : Prop :=
  (∀ (s : State) (n tag addr count : Nat) (inc q : Bool) (x : Rx), s.mailTurned n tag .read x q = none →
    let u := s.portWake 3
    let as := mailAddrs addr count inc
    (1 ≤ count → count ≤ 85 → addr + count ≤ 0x100000 → (∀ a ∈ as, u.rdRefused (.ring n) a = false) →
      exec (.mailRead n tag addr count inc ⟨x, q⟩ none) s =
        .next ((u.rdList (.ring n) as).2.answerMail n tag .read 0 0 0 (u.rdList (.ring n) as).1)) ∧
    (count = 0 ∨ 85 < count → exec (.mailRead n tag addr count inc ⟨x, q⟩ none) s =
      .next (u.answerMail n tag .read 3 7 0 [])) ∧
    (1 ≤ count → count ≤ 85 → 0x100000 < addr + count → exec (.mailRead n tag addr count inc ⟨x, q⟩ none) s =
      .next (u.answerMail n tag .read 3 4 0 []))) ∧
  (∀ (s : State) (n tag addr : Nat) (ws : List Word) (inc q : Bool) (x : Rx), s.mailTurned n tag .write x q = none →
    let u := s.portWake 3
    let l := (mailAddrs addr ws.length inc).zip ws
    ws ≠ [] → ws.length ≤ 85 → addr + ws.length ≤ 0x100000 →
    ((∀ x ∈ l, u.wrRefused (.ring n) x.1 x.2 = false) → exec (.mailWrite n tag addr ws inc ⟨x, q⟩) s =
      .next ((u.wrList (.ring n) l).answerMail n tag .write 0 0 0 [])) ∧
    (∀ k, firstIdx (fun x => u.wrRefused (.ring n) x.1 x.2) l 0 = some k → exec (.mailWrite n tag addr ws inc ⟨x, q⟩) s =
      .next (u.answerMail n tag .write 2 k 0 []))) ∧
  (∀ (s : State) (n tag : Nat) (cmd : Word) (args : List Word) (x : Rx) (q : Bool), s.mailTurned n tag .mailbox x q = none →
    args.length = bitsOf cmd 14 8 → args.length ≤ 64 →
    let u := s.portWake 3
    let m := u.mbxOf (.ring n)
    (m.status = 1 → exec (.mailMailbox n tag (cmd :: args) ⟨x, q⟩) s = .next (
      let v := (u.setMbx (.ring n) { m with overrun := true }).deficit 3
      v.answerMail n tag .mailbox 0 0 0 [(v.mbxOf (.ring n)).statWord])) ∧
    (m.status ≠ 1 → n ∈ u.slots → ∃ v : State, exec (.mailMailbox n tag (cmd :: args) ⟨x, q⟩) s =
        .next (v.submit (.ring n) cmd (v.roleOf (.ring n))) ∧
      v = (u.setMbx (.ring n) { m with args := resList args }).setRing fun r =>
        { r with mbxWait := Sparse.put r.mbxWait n tag }) ∧
    (m.status ≠ 1 → n ∉ u.slots → u.slots.length < 4 → ∃ v : State, exec (.mailMailbox n tag (cmd :: args) ⟨x, q⟩) s =
        .next (v.submit (.ring n) cmd (v.roleOf (.ring n))) ∧ v.slots = u.slots ++ [n] ∧ v.regs = u.regs ∧
      (v.mbxOf (.ring n)).args = resList args)) ∧
  (∀ (s : State) (n tag : Nat) (x : Rx) (q : Bool), s.headwater = true → s.mailTurned n tag .imageReq x q = none →
    let u := s.portWake 3
    let k := u.ring.imgSlot
    let len := (u32 (u.slotBytes (k + 1)) 8 + 2) / 3
    (k = 0xFF → exec (.imageReq n ⟨tag, x, q⟩) s = .next (u.answerMail n tag .imageReq 7 0 0 [])) ∧
    (k ≠ 0xFF → u.slotBytes (k + 1) ≠ [] → u.ring.bulkTx = none → exec (.imageReq n ⟨tag, x, q⟩) s = .next (
      let v := (u.answerMail n tag .imageReq 0 0 0 []).setRing fun r =>
        { r with bulkTx := some ⟨tag % 255 + 1, n, 0, 0, len, 0, 0, 0, k + 1, false⟩ }
      (v.setBit RNG_BULK 0 true).requestMail n (tag % 255 + 1) .bulkOpen (bulkOpenBytes (tag % 255 + 1) 0 0 0 len)))) ∧
  (∀ (s : State) (n tag : Nat) (k : MailKind) (x : Rx) (q : Bool),
    (s.addressed = false → s.mailTurned n tag k x q = some s) ∧
    (s.addressed = true → s.dev = .boot → s.mailTurned n tag k x q = some (s.turnMail x n tag k s.bootHint)) ∧
    (s.addressed = true → s.dev ≠ .boot → s.dev ≠ .deep →
      (x.ovf = true → s.mailTurned n tag k x q = some (s.ringOvf x.west)) ∧
      (x.ovf = false → q = true ∨ 16 ≤ s.ring.sendQ.length →
        s.mailTurned n tag k x q = some (((s.bump RNG_MAIL_BUSY).deficit 0).turnMail x n tag k s.queueHint)) ∧
      (x.ovf = false → q = false → s.ring.sendQ.length < 16 → s.mailTurned n tag k x q = none))) ∧
  (∀ (s : State) (n tag hint : Nat) (k : MailKind) (x : Rx), ∃ (h : RHdr) (m : Mail),
    (s.turnMail x n tag k hint).ring.tx = [⟨s.outWest x.west, false, ⟨h, .mail m⟩⟩] ∧ h.dest = n ∧ m.answer = true ∧
    m.tag = tag ∧ m.kind = k ∧ m.status = 1 ∧ m.hint = hint ∧
    (s.turnMail x n tag k hint).ring.sendQ = s.ring.sendQ ∧ (s.turnMail x n tag k hint).regs = s.regs) ∧
  (∀ (s : State) (m : Mail) (x : Rx), s.forwards = true → m.answer = true → x.ovf = false →
    exec (.mailAnswer ⟨m, x⟩) s = .next (s.takeAnswer m)) ∧
  (∀ (s : State) (m : Mail), s.ring.waiting.contains m.tag = true → m.kind = .read → s.takeAnswer m =
    s.setRing fun r => { r with waiting := r.waiting.erase m.tag }) ∧
  (∀ (s : State) (n tag : Nat) (k : MailKind) (data : Bytes), 16 ≤ s.ring.sendQ.length →
    s.requestMail n tag k data = (s.deficit 1).answered k tag 9) ∧
  (∀ (s : State) (tag : Nat) (k : MailKind), exec (.ringMailTimeout tag k) s =
    .next (s.takeAnswer ⟨s.nodeId, s.nodeId, k, true, false, tag, 0, 0, 5, 0, 0, 0, []⟩)) ∧
  (∀ (s : State) (h : RHdr) (m : Mail) (b : Bulk), s.headwater = true → s.bit RNG_STAT 4 = false → s.forwards = true →
    s.asleep = false →
    (h.relayed = false → ∀ p, exec (.ringCarrierReturn h p) s =
      .next (s.setRing fun r => { r with relayQ := r.relayQ ++ [⟨{ h with relayed := true }, p⟩] })) ∧
    (h.relayed = true → h.src ≠ 0 →
      exec (.ringCarrierReturn h (.mail m)) s = .next (s.sendMail
        { m with dest := h.src, src := 0, answer := true, status := 4, detail := 0, hint := 0, count := 0, data := [] }) ∧
      exec (.ringCarrierReturn h (.bulk b)) s = .next (s.sendMail ⟨h.src, 0, .bulkDone, true, false, b.session, 0, 0, 4, 0, 0, 0,
        []⟩))) ∧
  (∀ (s : State) (n : Nat), ((s.mbxOf (.ring n)).status = 1 →
      exec (.mbxRingPending n) s = .next (s.ringMbxAnswer (.ring n) []) ∧ exec (.mbxResultSlotExpire n) s = .next s) ∧
    ((s.mbxOf (.ring n)).status ≠ 1 → exec (.mbxRingPending n) s = .next s ∧
      exec (.mbxResultSlotExpire n) s = .next { s with slots := s.slots.erase n }))

/-- Bulk transfers: opening, carriers at the expected offset and at another, acknowledgements, the CRC at the end, aborts and stalls (R268, R269, R270, R272). -/
def Obligations.BulkTransfers : Prop :=
  (∀ (s : State) (n tag sess src dst len : Nat) (x : Rx) (q : Bool), s.mailTurned n tag .bulkOpen x q = none →
    1 ≤ sess → sess ≤ 255 → 1 ≤ len → len ≤ 0x100000 →
    let u := s.portWake 3
    (src + len ≤ 0x100000 → dst + len ≤ 0x100000 → u.ring.bulkRx = none →
      exec (.bulkOpen n tag sess 0 0 ⟨src, dst, len⟩ 0 ⟨x, q⟩) s =
      .next (((u.setRing fun r => { r with bulkRx := some ⟨sess, n, src, dst, len, 0, 0, 0, 0, true⟩ }).setBit RNG_BULK 1
        true).answerMail n tag .bulkOpen 0 0 0 [])) ∧
    (src + len ≤ 0x100000 → dst + len ≤ 0x100000 → u.ring.bulkTx = none →
      exec (.bulkOpen n tag sess 1 0 ⟨src, dst, len⟩ 0 ⟨x, q⟩) s =
      .next (((u.setRing fun r => { r with bulkTx := some ⟨sess, n, src, dst, len, 0, 0, 0, 0, true⟩ }).setBit RNG_BULK 0
        true).answerMail n tag .bulkOpen 0 0 0 [])) ∧
    (src + len ≤ 0x100000 → dst + len ≤ 0x100000 → u.ring.bulkRx ≠ none →
      exec (.bulkOpen n tag sess 0 0 ⟨src, dst, len⟩ 0 ⟨x, q⟩) s = .next (u.answerMail n tag .bulkOpen 1 0 u.queueHint [])) ∧
    (∀ dir ≤ 1, 0x100000 < src + len → exec (.bulkOpen n tag sess dir 0 ⟨src, dst, len⟩ 0 ⟨x, q⟩) s =
      .next (u.answerMail n tag .bulkOpen 3 20 0 [])) ∧
    (∀ dir ≤ 1, src + len ≤ 0x100000 → 0x100000 < dst + len → exec (.bulkOpen n tag sess dir 0 ⟨src, dst, len⟩ 0 ⟨x, q⟩) s =
      .next (u.answerMail n tag .bulkOpen 3 23 0 []))) ∧
  (∀ (s : State) (b : BulkSt) (c : Bulk) (west : Bool), s.bulkLive = true → s.ring.bulkRx = some b → c.session = b.session →
    let ack := fun (u : State) (a : Bool) (n : Nat) =>
      if a then u.requestMail b.node c.session .bulkAck (bulkAckBytes c.session n) else u
    (c.ofs = b.ofs → b.ofs + c.ws.length ≤ b.len → exec (.ringBulk b.node c west false) s = .next (
      let n := b.ofs + c.ws.length
      let a := decide (32 ≤ b.taken + 1) || c.last || decide (n = b.len)
      ack ((s.setEddyWords (b.dst + b.ofs) c.ws).setRing fun r =>
        { r with bulkRx := some { b with ofs := n, taken := if a then 0 else b.taken + 1 } }) a n)) ∧
    (c.ofs ≠ b.ofs → exec (.ringBulk b.node c west false) s = .next (
      let a := decide (32 ≤ b.taken + 1) || c.last || decide (b.ofs = b.len)
      ack (s.setRing fun r => { r with bulkRx := some { b with taken := if a then 0 else b.taken + 1 } }) a b.ofs))) ∧
  (∀ (s : State) (b : BulkSt) (next : Nat) (x : Rx), s.bulkLive = true → s.ring.bulkTx = some b → x.ovf = false →
    next ≠ b.len → exec (.bulkAck b.node ⟨b.session, next⟩ x) s = .next ((s.portWake 3).setRing fun r =>
      { r with bulkTx := some { b with acked := next, ofs := min b.ofs next } })) ∧
  (∀ (s : State) (b : BulkSt) (tag crc words : Nat) (x : Rx), words ≠ 0xFFFFFF → x.ovf = false →
    let u := s.portWake 3
    s.bulkLive = true → s.ring.bulkRx = some b →
    (b.ofs = b.len → words = b.len → crc32 (wordsBytes (u.eddyWords b.dst b.len)) = crc →
      exec (.bulkDone b.node tag b.session ⟨crc, words⟩ ⟨x, false⟩) s =
        .next (((u.bulkClose false 0).ringStaged b).answerMail b.node tag .bulkDone 0 0 0 [])) ∧
    (b.ofs ≠ b.len ∨ words ≠ b.len ∨ crc32 (wordsBytes (u.eddyWords b.dst b.len)) ≠ crc →
      exec (.bulkDone b.node tag b.session ⟨crc, words⟩ ⟨x, false⟩) s =
        .next ((u.bulkClose false 8).answerMail b.node tag .bulkDone 8 1 0 []))) ∧
  (∀ (s : State) (tx : Bool) (b : BulkSt), s.asleep = false → (if tx then s.ring.bulkTx else s.ring.bulkRx) = some b →
    exec (.bulkStallTimeout tx) s = .next ((s.bulkClose tx 8).requestMail b.node b.session .bulkDone
      (bulkDoneBytes b.session 0 0xFFFFFF)))

/-- Guyline frames: the three CRCs and the frame's bytes, the hub's downlink in its slots, the island's lock after eight good frames, the kernels' subframes judged apart, the uplink, a full queue, and the losses (R82, R324, R325, R327, R328, R329, R330). -/
def Obligations.GuylineFrames : Prop :=
  (∀ ascii : Bytes, ascii = [0x31, 0x32, 0x33, 0x34, 0x35, 0x36, 0x37, 0x38, 0x39] →
    crcP ascii = 0x29B1 ∧ crcSkA ascii = 0xD0DB ∧ crcSkB ascii = 0xEA82) ∧
  (∀ (up isB : Bool) (i : Fin 8) (life data : Nat), life < 256 → data < 65536 →
    subTake up isB i.val (subBytes up isB i.val life data) = some (life, data)) ∧
  (∀ (d : DnFrame) (i : Nat), frameSync dnSync (d.bytes i) = true ∧ frameGood (d.bytes i) = true ∧
    frameSafA (d.bytes i) = subBytes false false i d.lifeA d.dataA ∧
    frameSafB (d.bytes i) = subBytes false true i d.lifeB d.dataB ∧
    (d.seq < 256 → d.slot < 128 → d.rungAck < 4 → d.op < 256 → d.word < 256 → d.rstMask < 16 → d.rstEdge < 256 →
      DnFrame.ofBytes (d.bytes i) = { d with lifeA := 0, dataA := 0, lifeB := 0, dataB := 0 })) ∧
  (∀ (s : State) (i : Fin 8) (n : Nat), s.dev ≠ .off → s.hold.held = false → s.dev ≠ .deep → n < 100 →
    (s.fld (ISL i 0) 5 4 ≠ 0 ∨ n % 4 = 0) → exec (.guylineSlot i n) s = .next ((s.slotWork i n).sendFrame i n)) ∧
  (∀ (u : State) (i : Fin 8) (n : Nat),
    let x := u.isl i
    let y := (u.sendFrame i n).isl i
    y.seq = (x.seq + 1) % 256 ∧ y.dn.seq = x.seq ∧ y.dn.slot = n ∧ y.dn.lifeA = (x.ktxA + 1) % 256 ∧ y.dn.dataA = x.kdA ∧
      y.dn.lifeB = (x.ktxB + 1) % 256 ∧ y.dn.dataB = x.kdB ∧ y.slotAt = u.time ∧ y.got = false ∧
      y.ulife = (x.ulife + 1) % 256 ∧
      (∀ j, j ≠ i → (u.sendFrame i n).isl j = u.isl j) ∧
      (∀ a, (∀ k, a ≠ CH (chOf i k) 0x36 ∧ a ≠ CH (chOf i k) 1) → (u.sendFrame i n).reg a = u.reg a)) ∧
  (∀ (s : State) (i : Fin 8) (err errA errB : Bytes), (s.isl i).up = true →
    let bs := withErr ((s.isl i).dn.bytes i.val) (frameErr err errA errB)
    (frameSync dnSync bs = true → exec (.islandDownlink i err errA errB) s = .next (s.setIsl i fun x => x.receive i bs s.time)) ∧
    (frameSync dnSync bs = false → (s.isl i).iLock = true → exec (.islandDownlink i err errA errB) s = .next s) ∧
    (frameSync dnSync bs = false → (s.isl i).iLock = false → exec (.islandDownlink i err errA errB) s =
      .next (s.setIsl i fun x => { x with dnGood := 0 }))) ∧
  (∀ (x : Isl) (i : Fin 8) (bs : Bytes) (now : RingTime),
    let y := x.safety i bs now
    (x.iLock = false → frameGood bs = false → x.receive i bs now = { y with dnGood := 0 }) ∧
    (x.iLock = false → frameGood bs = true → x.dnGood < 7 → x.receive i bs now = { y with dnGood := x.dnGood + 1 }) ∧
    (x.iLock = false → frameGood bs = true → 7 ≤ x.dnGood → x.receive i bs now =
      { y with iLock := true, dnGood := 0, useq := 0, scan := false, dnErr := false, ask := none }) ∧
    (x.iLock = true → frameGood bs = false → x.receive i bs now = { y.endPulses with dnErr := true, ask := none }) ∧
    (x.iLock = true → frameGood bs = true → (x.receive i bs now).dnErr = false ∧
      ∀ k : Fin 4, (x.receive i bs now).cells[k.val].out = (DnFrame.ofBytes bs).outs[k.val] ∧
        (x.receive i bs now).cells[k.val].ena = (DnFrame.ofBytes bs).ena[k.val] ∧
        (x.receive i bs now).cells[k.val].appl = (DnFrame.ofBytes bs).appl[k.val]) ∧
    (∀ k : Fin 4, ((x.receive i bs now).cells[k.val].cmdA =
        ((subTake false false i.val (frameSafA bs)).any fun v => lifeOk x.lifeA v.1 && v.2.testBit k.val)) ∧
      ((x.receive i bs now).cells[k.val].cmdB =
        ((subTake false true i.val (frameSafB bs)).any fun v => lifeOk x.lifeB v.1 && v.2.testBit k.val)))) ∧
  (∀ (s : State) (i : Fin 8) (m : UpMeas) (err : Bytes) (full : Bool), (s.isl i).up = true → (s.isl i).iLock = true →
    let got := s.sense i m
    let bs := withErr (got.2.upBytes i m (got.2.upFrame i m got.1.1 got.1.2)) err
    let v := (got.2.setIsl i Isl.sent).ssiSent i
    (s.glRuns = true → exec (.hubUplink i m err full) s = .next (v.receive i bs full)) ∧
    (s.glRuns = false → exec (.hubUplink i m err full) s = .next v)) ∧
  (∀ (s : State) (i : Fin 8) (bs : Bytes), frameSync upSync bs = true →
    let u := s.setIsl i fun x => { x with rxA := some (frameSafA bs), rxB := some (frameSafB bs) }
    let f := UpFrame.ofBytes bs
    s.receive i bs true = ((u.bump (SYS_QOVF_GL i)).fire 452 0).setIsl i (fun x => { x with upGood := 0 }) ∧
    (frameGood bs = false → s.receive i bs false =
      ((u.bump (ISL i 0xA)).setIsl i fun x => { x with upBad := true, upGood := 0 }).glError i) ∧
    (frameGood bs = true → s.bit (ISL i 0) 0 = true → s.receive i bs false = u.takeFrame i f) ∧
    (frameGood bs = true → s.bit (ISL i 0) 0 = false → (s.isl i).upGood < 7 → s.receive i bs false =
      (u.takeHdr i f).setIsl i fun x => { x with upGood := x.upGood + 1 }) ∧
    (frameGood bs = true → s.bit (ISL i 0) 0 = false → 7 ≤ (s.isl i).upGood → s.receive i bs false =
      (u.linkLock i f.structOk).takeFrame i f)) ∧
  (∀ (s : State) (i : Fin 8), (s.isl i).up = true → (s.isl i).iLock = true → ∃ t, exec (.islandLinkTimeout i) s = .next t ∧
    (t.isl i).iLock = false ∧ (t.isl i).tmo = (s.isl i).store.isSome ∧
    (t.isl i).rung = (if (s.isl i).fpwr = true then 0 else (s.isl i).rung) ∧
    (∀ k : Fin 4, (t.isl i).cells[k.val].cmdA = (s.isl i).cells[k.val].cmdA ∧
      (t.isl i).cells[k.val].cmdB = (s.isl i).cells[k.val].cmdB) ∧
    (∀ j, j ≠ i → t.isl j = s.isl j) ∧ t = { s with isls := t.isls }) ∧
  (∀ (s : State) (i : Fin 8), exec (.glDegradedClear i) s = .next
    ((if (s.isl i).errs = 0 then s.setBit (ISL i 0) 7 false else s).setIsl i fun x => { x with errs := 0 })) ∧
  (∀ (s : State) (i : Fin 8) (isB : Bool), ∃ t, exec (.islandSubframeLoss i isB) s = .next t ∧
    (∀ k : Fin 4, (if isB then (t.isl i).cells[k.val].cmdB else (t.isl i).cells[k.val].cmdA) = false) ∧
    (if isB then (t.isl i).lifeB else (t.isl i).lifeA) = none ∧ (∀ j, j ≠ i → t.isl j = s.isl j) ∧ t = { s with isls := t.isls })

/-- Structuring and loss of an island: the commit that the hub orders after the readback, retry, the discard of a field-powered island, and the loss of a link (R105, R140, R149, R330, R331). -/
def Obligations.Structuring : Prop :=
  (∀ (s : State) (i : Fin 8) (raw : List Nat), ((s.isl i).sPhase = 3 → (s.isl i).iLock = true → (s.isl i).commit = true →
      exec (.structureCommit i raw) s = .next ((s.structCommit i raw).awaitDone i)) ∧
    (((s.isl i).sPhase ≠ 3 ∨ (s.isl i).iLock = false ∨ (s.isl i).commit = false) →
      exec (.structureCommit i raw) s = .next s)) ∧
  (∀ (s : State) (i : Fin 8), (s.isl i).retry = true → s.bit (ISL i 0) 0 = true → (s.islBody i).isSome = true →
    exec (.structureRetry i) s = .next (s.setIsl i fun x =>
      { x with barred := false, commit := false, sPhase := 1, sWord := 0, sTry := 0, sAsk := none, retry := false })) ∧
  (∀ (s : State) (i : Fin 8), (s.isl i).fpwr = true → (s.isl i).iLock = false → exec (.structureDiscard i) s =
    .next ((s.setIsl i fun x => { x with words := [], store := none, tmo := false, cells := .replicate 4 .reset }).setBit (ISL i 0) 1
      false)) ∧
  (∀ (s : State) (i : Fin 8), (s.isl i).fpwr = false ∨ (s.isl i).iLock = true → exec (.structureDiscard i) s = .next s) ∧
  (∀ (s : State) (i : Fin 8) (osc : Bool), s.bit (ISL i 0) 0 = true → s.runs = true →
    let u := s.islandLoss i osc
    (u.repitch.phase = 0 ∨ u.repitch.isl ≠ i.val → exec (.islandLost i osc) s = .next u) ∧
    (u.repitch.phase ≠ 0 → u.repitch.phase ≤ 2 → u.repitch.isl = i.val → exec (.islandLost i osc) s =
      .next (u.abandonRepitch rejIslandLost ((u.repitch.cand.map (·.serial)).getD 0))) ∧
    (2 < u.repitch.phase → u.repitch.isl = i.val → exec (.islandLost i osc) s = .next ((((u.setRepitch fun _ =>
      RepitchSt.idle).setIsl i fun x => { x with await := true }).setBit (ISL i 0) 1 false).endOp stOK []))) ∧
  (∀ (s : State) (i : Fin 8) (osc : Bool), s.bit (ISL i 0) 0 = false ∨ s.runs = false → exec (.islandLost i osc) s = .next s)

/-- An output owned by the safety kernels is energised only while both kernels command it and no safe-state trigger of its island is active; a bad subframe, a missing one and a lost link take it off (R27, R28, R329, R359, R362). -/
def Obligations.SafetyOutputs : Prop :=
  (∀ (x : Isl) (k : Fin 4) (b : Bytes), x.store = some b → u8 (slice b (48 + 80 * k.val) 80) 2 = 3 → x.drive k ≠ none →
    let c := x.cells[k.val]
    x.up = true ∧ c.cmdA = true ∧ c.cmdB = true ∧ c.appl = false ∧ x.tmo = false ∧ c.lat5 = false ∧ c.lat6 = false ∧
      (needsVfld (slice b (48 + 80 * k.val) 80) = true → x.vlow = false) ∧ x.drive k = some 1) ∧
  (∀ (x : Isl) (i : Fin 8) (k : Fin 4) (b bs : Bytes) (now : RingTime), x.store = some b →
    u8 (slice b (48 + 80 * k.val) 80) 2 = 3 →
    ((∀ v, subTake false false i.val (frameSafA bs) = some v → lifeOk x.lifeA v.1 = false ∨ v.2.testBit k.val = false) ∨
      (∀ v, subTake false true i.val (frameSafB bs) = some v → lifeOk x.lifeB v.1 = false ∨ v.2.testBit k.val = false)) →
    (x.safety i bs now).drive k = none ∧ (x.receive i bs now).drive k = none) ∧
  (∀ (s t : State) (i : Fin 8) (k : Fin 4) (b : Bytes), (s.isl i).store = some b →
    u8 (slice b (48 + 80 * k.val) 80) 2 = 3 →
    ((∃ isB, exec (.islandSubframeLoss i isB) s = .next t) ∨
      ((s.isl i).up = true ∧ (s.isl i).iLock = true ∧ exec (.islandLinkTimeout i) s = .next t)) → (t.isl i).drive k = none)

/-- A kernel commands a pair on only with every condition of R112, its restart acknowledged, and every driving function in RUN; RUN needs its inputs (R112, R518, R519, R521, R524). -/
def Obligations.KernelPairs : Prop :=
  (∀ (s : State) (isB : Bool) (p : Fin 8), ((s.kern isB).pair p).cmd = false →
    (((State.pairCycle isB s p).kern isB).pair p).cmd = true →
    s.r112Ready = true ∧ s.restartAck = true ∧ s.saf.armed = true ∧ (s.kern isB).safen = true ∧
      ((s.kern isB).pair p).inter = false ∧ ((s.kern isB).pair p).pf = false ∧ (s.kern isB).drivers p ≠ [] ∧
      ∀ f ∈ (s.kern isB).drivers p, ((s.kern isB).fn f).st = 2) ∧
  (∀ (s : State) (isB : Bool) (p : Fin 8) (r : Bytes), (s.kern isB).pairRec p = some r →
    ((s.kern isB).pair p).cmd = true →
    (s.r112Ready = false ∨ s.restartAck = false ∨ s.saf.armed = false ∨ (s.kern isB).safen = false ∨
      ((s.kern isB).pair p).inter = true ∨ ((s.kern isB).pair p).pf = true) →
    (((State.pairCycle isB s p).kern isB).pair p).cmd = false) ∧
  (∀ (x : KFn) (auto : Bool) (ins : List (Fin 4)) (dem : Nat), x.st = 2 →
    ((∃ j ∈ ins, (x.inp j).d = false) → x.single auto ins dem = (4, 4)) ∧
    ((∀ j ∈ ins, (x.inp j).d = true) → (∃ j ∈ ins, (x.inp j).g = false) → x.single auto ins dem = (0, dem)) ∧
    ((∀ j ∈ ins, (x.inp j).d = true ∧ (x.inp j).g = true) → x.single auto ins dem = (2, 0))) ∧
  (∀ (x : KFn) (auto : Bool) (ins : List (Fin 4)) (dem : Nat), x.st ≠ 2 → (x.single auto ins dem).1 = 2 →
    x.st = 0 ∧ auto = true ∧ x.fsr = false ∧ ∀ j ∈ ins, (x.inp j).d = true ∧ (x.inp j).g = true) ∧
  (∀ (x : KFn) (dem : Nat), x.st ≠ 2 → (x.twoHand dem).1 = 2 → (x.st = 5 ∨ x.st = 6) ∧
    ∀ j : Fin 4, (x.inp j).d = true ∧ (x.inp j).g = true)

/-- The safety kernels' cycle step by step, and an uplink subframe that a kernel takes, finds bad or misses (R328, R329, R509, R511, R516, R517, R520, R524). -/
def Obligations.KernelCycle : Prop :=
  (∀ (s : State) (isB safen : Bool) (fault : Nat), s.kernelsRun = true → exec (.kernelCycle isB safen fault) s = .next (
    let a := if isB then s else (s.setSaf fun x => { x with acked := false }).setBit SYS_CLKSTAT 4 (decide (fault ≠ 13))
    let b := (a.safenCycle isB (safen && !a.underTest)).safenView
    let d := (List.finRange 16).foldl (State.fnCycle isB) (b.restartCycle isB)
    let e := (d.pairsNow isB).compareCycle isB
    let f := if 11 ≤ fault ∧ fault ≤ 13 then e.kernelFault fault 0 false else e
    if isB then f else f.safMirror)) ∧
  (∀ (s : State) (isB safen : Bool) (fault : Nat), s.kernelsRun = false → exec (.kernelCycle isB safen fault) s = .next s) ∧
  (∀ (s : State) (isB : Bool) (i : Fin 8) (eL eD eC : Nat), (if isB then (s.isl i).rxB else (s.isl i).rxA) = none →
    exec (.kernelSubframeIn isB i eL eD eC) s = .next s) ∧
  (∀ (s : State) (isB : Bool) (i : Fin 8) (eL eD eC : Nat) (got : Bytes), s.kernelsRun = true →
    (if isB then (s.isl i).rxB else (s.isl i).rxA) = some got →
    let bs := withErr got (subErr eL eD eC)
    let u := s.setIsl i fun x => if isB then { x with rxB := none } else { x with rxA := none }
    (subTake true isB i.val bs = none → exec (.kernelSubframeIn isB i eL eD eC) s = .next (u.bump (ISL i (0xC + b2n isB)))) ∧
    (∀ life data, subTake true isB i.val bs = some (life, data) →
      ((s.kern isB).life[i.val] = none → exec (.kernelSubframeIn isB i eL eD eC) s = .next (u.subframeTake isB i life data 1)) ∧
      (∀ p n, (s.kern isB).life[i.val] = some p → n = (life + 256 - p) % 256 →
        (1 ≤ n → n ≤ 3 → exec (.kernelSubframeIn isB i eL eD eC) s = .next (u.subframeTake isB i life data n)) ∧
        (n = 0 ∨ 3 < n → exec (.kernelSubframeIn isB i eL eD eC) s = .next ((u.bump (ISL i (0xC + b2n isB))).setKern isB fun k =>
          let k := k.mapInputs i fun _ _ x => { x with g := false, run := 0 }
          if safRestart (k.sec.getD []) / 4 = i.val then { k with press := none, inact := false } else k))))) ∧
  (∀ (s : State) (isB : Bool) (i : Fin 8), s.kernelsRun = true → s.saf.armed = false → ∃ t,
    exec (.kernelSubframeLoss isB i) s = .next t ∧ (t.kern isB).life[i.val] = none ∧ (t.kern isB).miss[i.val] = true ∧
    t = { s with saf := t.saf }) ∧
  (∀ (s : State) (isB : Bool) (i : Fin 8), s.kernelsRun = true → s.saf.armed = true → ∃ u : State,
    u = { s with saf := u.saf } ∧ (u.kern isB).miss[i.val] = true ∧ exec (.kernelSubframeLoss isB i) s =
      .next (((List.finRange 8).foldl (fun s p => match (s.kern isB).pairRec p with
        | some r => if u8 r 2 / 4 = i.val ∨ u8 r 3 / 4 = i.val then s.interlock isB p else s
        | none => s) u).publish isB))

/-- The kernels' timers: a confirmed input, discrepancy, two-hand synchronism, SS1 delay, test request, SAFEN's return, and the restart acknowledge (R113, R517, R518, R519, R520, R521, R522, R524). -/
def Obligations.KernelTimers : Prop :=
  (∀ (s : State) (isB : Bool) (f : Fin 16) (j : Fin 4) (r : Bytes), (s.kern isB).fnRec f = some r →
    25 * u16 r 8 ≤ (((s.kern isB).fn f).inp j).run → exec (.inputConfirm isB f j) s =
      .next (s.setKern isB fun k => k.setFn f fun x => { x with ins := updV x.ins j fun y => ⟨!y.g, y.d, 0⟩ })) ∧
  (∀ (s : State) (isB : Bool) (f : Fin 16) (r : Bytes), (s.kern isB).fnRec f = some r →
    let x := (s.kern isB).fn f
    (4 * u16 r 0xA ≤ x.d1 ∨ 4 * u16 r 0xA ≤ x.d2) → x.st ∉ [3, 4, 7] →
    exec (.discrepancyTimeout isB f) s = .next ((s.fnGo isB f 3 3).pairsNow isB)) ∧
  (∀ (s : State) (isB : Bool) (f : Fin 16), ((s.kern isB).fn f).st = 6 → 2000 ≤ ((s.kern isB).fn f).sync →
    exec (.twoHandSyncTimeout isB f) s = .next (s.fnGo isB f 0 6)) ∧
  (∀ (s : State) (isB : Bool) (p : Fin 8), ((s.kern isB).pair p).ss1 = some 0 →
    exec (.ss1DelayEnd isB p) s = .next ((s.pairGo isB p false true 0).publish isB)) ∧
  (∀ (s : State) (isB : Bool) (p : Fin 8) (r : Bytes), (s.kern isB).pairRec p = some r →
    ((s.kern isB).pair p).cmd = true → 4 * u8 r 6 ≤ ((s.kern isB).pair p).test → exec (.pairTestRequest isB p) s =
      .next (s.setKern isB fun k => k.setPair p fun x => { x with test := 0, req := true })) ∧
  (∀ (s : State) (isB : Bool), 40 ≤ (s.kern isB).run → (s.kern isB).safen = false →
    exec (.safenReassert isB) s = .next ((s.setKern isB fun k => { k with safen := true }).safenView)) ∧
  (∀ (s : State) (p : Port), s.asks p 0x15 [] → s.dev = .pitched → exec (.restartAck p) s =
    .next ((if s.r112Ready = true then s.ackAll s.saf.ka.waiting s.saf.kb.waiting else s).finish p stOK []))

/-- An input cell's own events: its filtered change, the chatter bin, diagnostics, sensor supply limit, retry and test pulse, and its input switch (R345, R346, R351, R355, R357, R358, R364, R377, R386, R454). -/
def Obligations.InputCells : Prop :=
  (∀ (s : State) (c : Fin 32) (st : Nat), (∃ q ∈ s.quadUses (chIsl c), q.a = chCell c ∨ q.b = chCell c ∨ q.z = some (chCell c)) →
    exec (.inputFilterChange c st) s = .next s) ∧
  (∀ (s : State) (c : Fin 32) (st : Nat), u8 (s.cellRec c) 0 ∈ [1, 2, 4] → (s.cell c).stp = 0 → st % 2 ≠ (s.cell c).filt →
    (∀ q ∈ s.quadUses (chIsl c), q.a ≠ chCell c ∧ q.b ≠ chCell c ∧ q.z ≠ some (chCell c)) → exec (.inputFilterChange c st) s =
      .next (s.setCell c fun y => { y with filt := st % 2, chg := y.chg + 1, tidx := s.tidxNow (chIsl c) })) ∧
  (∀ (s : State) (c : Fin 32) (st : Nat), u8 (s.cellRec c) 0 = 5 → (s.cell c).stp = 0 → st % 8 ≠ (s.cell c).filt →
    (∀ q ∈ s.quadUses (chIsl c), q.a ≠ chCell c ∧ q.b ≠ chCell c ∧ q.z ≠ some (chCell c)) → (∀ a, s.axCh a 7 ≠ some c) → exec (.inputFilterChange c st) s =
      .next (s.setCell c fun y =>
        { y.hallStep (st % 8) false with filt := st % 8, chg := (y.hallStep (st % 8) false).chg + 1, tidx := s.tidxNow (chIsl c) })) ∧
  (∀ (s : State) (c : Fin 32) (st : Nat), (s.cell c).stp ≠ 0 → exec (.inputFilterChange c st) s = .next s) ∧
  (∀ (s : State) (c : Fin 32), s.func c = 1 ∨ s.func c = 2 → exec (.chatterBin c) s =
    .next (((s.chatterEval c).setChan c fun x => { x with bins := (0 :: x.bins).take 255 }).chatterEval c)) ∧
  (∀ (s : State) (c : Fin 32) (d : Nat) (again : Bool), hasDiag (s.cellRec c) d = true →
    isOutput (u8 (s.cellRec c) 0) = false → exec (.diagSet c d again) s =
      .next (s.setCell c fun y => y.setDiag d s.time)) ∧
  (∀ (s : State) (c : Fin 32) (d : Nat) (again : Bool), hasDiag (s.cellRec c) d = false → exec (.diagSet c d again) s = .next s) ∧
  (∀ (s : State) (c : Fin 32) (d : Nat), d < 5 → (isOutput (u8 (s.cellRec c) 0) = false ∧ hasSupply (s.cellRec c) = false) ∨ d = 0 ∨ d = 3 →
    exec (.diagClear c d) s = .next (s.setCell c fun y => { y with diag := setBitN y.diag d false })) ∧
  (∀ (s : State) (c : Fin 32), (s.cell c).sup = true → isInput (u8 (s.cellRec c) 0) = true → exec (.supplyLimitOff c) s =
    .next (s.setCell c fun y => { y.setDiag 1 s.time with sup := false })) ∧
  (∀ (s : State) (c : Fin 32), (s.cell c).sup = false → isInput (u8 (s.cellRec c) 0) = true →
    exec (.supplyRetry c true) s = .next (s.setCell c fun y =>
      { y with sup := true, diag := setBitN (setBitN y.diag 1 false) 2 false }) ∧ exec (.supplyRetry c false) s = .next s) ∧
  (∀ (s : State) (c : Fin 32) (raw : Bool), u8 (s.cellRec c) 0 = 1 → u8 (s.cellRec c) 0x15 = 2 → (s.cell c).sup = true →
    (s.isl (chIsl c)).vlow = false → (s.cell c).stp = 0 →
    ((∀ k : Fin 4, (s.isl (chIsl c)).cells[k.val].stp = 0) → exec (.supplyTestPulse c raw) s =
      .next (s.setCell c fun y => { y with stp := 1 + b2n raw, stpWait := false })) ∧
    ((∃ k : Fin 4, (s.isl (chIsl c)).cells[k.val].stp ≠ 0) → exec (.supplyTestPulse c raw) s =
      .next (s.setCell c fun y => { y with stpWait := true }))) ∧
  (∀ (s : State) (c : Fin 32),
    ((s.cell c).stp = 1 → ∀ fell, exec (.supplyTestPulseEnd c fell) s = .next (s.setCell c fun y => { y with stp := 0 })) ∧
    (2 ≤ (s.cell c).stp → exec (.supplyTestPulseEnd c true) s =
      .next (s.setCell c fun y => { y with stp := 0, stpFails := 0, diag := setBitN y.diag 1 false })) ∧
    (2 ≤ (s.cell c).stp → (s.cell c).stpFails = 0 → exec (.supplyTestPulseEnd c false) s =
      .next (s.setCell c fun y => { y with stp := 0, stpFails := y.stpFails + 1 })) ∧
    (2 ≤ (s.cell c).stp → 1 ≤ (s.cell c).stpFails → exec (.supplyTestPulseEnd c false) s = .next (s.setCell c fun y =>
      { y.setDiag 1 s.time with stp := 0, stpFails := y.stpFails + 1 }))) ∧
  (∀ (s : State) (c : Fin 32), u8 (s.cellRec c) 0 = 0x10 → exec (.inputSwitchOpen c) s =
    .next (s.setCell c fun y => { y.setDiag 2 s.time with sw := true })) ∧
  (∀ (s : State) (c : Fin 32), exec (.inputSwitchRetry c) s = .next (s.setCell c fun y => { y with sw := false }))

/-- An output cell's own events: latched faults and their release, INRUSH, the island's overcurrent, and test pulses (R355, R356, R357, R358, R361, R362, R371). -/
def Obligations.OutputCells : Prop :=
  (∀ (s : State) (c : Fin 32) (d : Nat) (again : Bool), hasDiag (s.cellRec c) d = true →
    isOutput (u8 (s.cellRec c) 0) = true → ((s.cell c).inrush && hasInrush (s.cellRec c)) = false → (s.cell c).tp = 0 →
    ((d = 1 ∨ d = 2) → (s.cell c).lat5 = false → ∃ t, exec (.diagSet c d again) s = .next t ∧ t = s.setCell c fun y =>
      { y.setDiag d s.time with lat5 := true, lat5At := s.time, tp := 0, runs := (if again then y.runs + 1 else 1) }) ∧
    (d = 1 → (s.cell c).lat5 = true → exec (.diagSet c d again) s = .next (s.setCell c fun y => { y with hiZ := true })) ∧
    (d ≠ 1 → d ≠ 2 → exec (.diagSet c d again) s =
      .next (s.setCell c fun y => y.setDiag d s.time))) ∧
  (∀ (s : State) (c : Fin 32) (d : Nat) (again : Bool), isOutput (u8 (s.cellRec c) 0) = true →
    (((s.cell c).inrush && hasInrush (s.cellRec c)) = true ∨ (s.cell c).tp ≠ 0) → exec (.diagSet c d again) s = .next s) ∧
  (∀ (s : State) (c : Fin 32), exec (.inrushEnd c) s = .next (s.setCell c fun y => { y with inrush := false })) ∧
  (∀ (s : State) (c : Fin 32), isDigitalOut (u8 (s.cellRec c) 0) = true → u8 (s.cellRec c) 0x19 = 1 → (s.cell c).runs < 8 →
    exec (.faultAutoRetry c) s = .next (s.setCell c fun y => y.release false)) ∧
  (∀ (y : Cell), (y.lat5 = true ∨ y.lat6 = true) → (y.release false).lat5 = false ∧ (y.release false).lat6 = false ∧
    (y.release false).inrush = true ∧ (y.release false).hiZ = false ∧ (y.release false).runs = y.runs ∧
    (y.release true).runs = 0) ∧
  (∀ (s : State) (i : Fin 8) (again : Bool), ∃ t, exec (.islandOvercurrent i again) s = .next t ∧
    (∀ k : Fin 4, (u8 (s.cellRec (chOf i k)) 0 = 8 ∨ u8 (s.cellRec (chOf i k)) 0 = 0xA) → (t.cell (chOf i k)).lat6 = true) ∧
    (∀ k : Fin 4, hasSupply (s.cellRec (chOf i k)) = true →
      (t.cell (chOf i k)).sup = false) ∧ (∀ j, j ≠ i → t.isl j = s.isl j) ∧ t = { s with isls := t.isls }) ∧
  (∀ (s : State) (c : Fin 32), u8 (s.cellRec c) 0 = 0xA → (s.cell c).tp = 0 → (s.isl (chIsl c)).drive (chCell c) ≠ none →
    (u8 (s.cellRec c) 2 = 3 → (s.cell c).tpWait = true) →
    ((∀ k : Fin 4, (s.isl (chIsl c)).cells[k.val].tp = 0) → exec (.testPulseStart c) s = .next (s.setCell c fun y =>
      { y with tp := (if u8 (s.cellRec c) 1 = 1 ∧ y.tpLow = true then 2 else 1), tpLow := (u8 (s.cellRec c) 1 = 1 && !y.tpLow), tpWait := false, tpAt := s.time })) ∧
    ((∃ k : Fin 4, (s.isl (chIsl c)).cells[k.val].tp ≠ 0) → exec (.testPulseStart c) s =
      .next (s.setCell c fun y => { y with tpWait := true }))) ∧
  (∀ (s : State) (c : Fin 32) (again : Bool), (s.cell c).tp ≠ 0 →
    exec (.testPulseEnd c true again) s = .next (s.setCell c fun y => { y with tp := 0, tpFails := 0 }) ∧
    ((s.cell c).tpFails = 0 → exec (.testPulseEnd c false again) s =
      .next (s.setCell c fun y => { y with tp := 0, tpFails := y.tpFails + 1 })) ∧
    (1 ≤ (s.cell c).tpFails → exec (.testPulseEnd c false again) s = .next (s.setCell c fun y => { y.setDiag 4 s.time with
      lat5 := true, lat5At := s.time, tp := 0, runs := (if again then y.runs + 1 else 1), tpFails := y.tpFails + 1 })))

/-- DOZE, DEEP and MAINTENANCE requests: taken with their effects and OK, or refused with the reason of R89; and the wake from DOZE (R30, R34, R40, R41, R86, R88, R89, R94, R550). -/
def Obligations.SleepRequests : Prop :=
  (∀ (s : State) (p : Port) (asserted : Nat), s.asks p 5 [] → s.sleepReason asserted false = 0 →
    exec (.doze p asserted) s = .next (State.finish (s.observe (((State.setReg { s with sleep := { s.sleep with
      origin := s.dev } } SYS_WAKE_CAUSE 0).capStopAll.tenureOver).setDev .doze 5)) p stOK [])) ∧
  (∀ (s : State) (p : Port) (asserted : Nat), s.asks p 6 [] → s.sleepReason asserted true = 0 →
    ((s.sleep.phase = 1 ∨ s.sleep.phase = 2) → exec (.deep p asserted) s = .next (s.finish p stOK [])) ∧
    (s.sleep.phase ≠ 1 → s.sleep.phase ≠ 2 → exec (.deep p asserted) s = .next (State.finish { s with sleep := { s.sleep with
      origin := s.dev, phase := 1, port := p } } p stOK []))) ∧
  (∀ (s : State) (p : Port) (asserted : Nat) (deep : Bool), s.asks p (5 + b2n deep) [] →
    s.sleepReason asserted deep ≠ 0 →
    exec (if deep then .deep p asserted else .doze p asserted) s = .next (
      let t := s.setFld SYS_SLEEP_STAT 3 0 (s.sleepReason asserted deep)
      if s.sleepReason asserted deep = 1 then t.finish p stState [toWord s.dev.code]
      else t.finish p stSleepRefused [toWord (s.sleepReason asserted deep)])) ∧
  (∀ (s : State) (asserted : Nat) (deep : Bool),
    (s.sleepReason asserted deep = 1 ↔ s.dev ≠ .unpitched ∧ s.dev ≠ .pitched) ∧
    (s.sleepReason asserted deep = 0 ↔ (s.dev = .unpitched ∨ s.dev = .pitched) ∧ s.wakeSet asserted deep = 0 ∧
      s.repitch.phase = 0 ∧ (deep = true → s.saf.armed = false ∧ s.anyEnergised = false ∧ s.writesFlash = false))) ∧
  (∀ (s : State) (sources : Nat), s.dev = .doze → s.down = false →
    sources % 16 + ((sources % 128 / 16 * 16 + 128 * (sources / 128 &&& s.linesWord)) &&&
      (s.reg SYS_WAKE_MASK).toNat) = 0 → exec (.dozeWake sources) s = .next s) ∧
  (∀ (s : State) (sources src : Nat), s.dev = .doze → s.down = false → src ≠ 0 →
    src = sources % 16 + ((sources % 128 / 16 * 16 + 128 * (sources / 128 &&& s.linesWord)) &&&
      (s.reg SYS_WAKE_MASK).toNat) → exec (.dozeWake sources) s = .next (
      let t := ((s.setDev s.sleep.origin 0xFF).setReg SYS_WAKE_CAUSE (toWord src)).restartFine
      let u := t.logRec 0x004 0 (toWord src) 0
      s.observe (if u.dev = .pitched then u.fire 453 0 else u))) ∧
  (∀ (s : State) (p : Port), s.asks p 7 [] → (s.dev = .unpitched ∨ s.dev = .pitched ∨ s.dev = .safe) →
    exec (.maintenance p) s = .next (
      let a := s.abandonRepitch rejAborted ((s.repitch.cand.map (·.serial)).getD 0)
      State.finish (s.observe (((a.disarm.capStopAll.slcHaltAll.tenureOver).wdgMaintenance).setDev .maintenance 7))
        p stOK []))

/-- DEEP's entry and exit instant by instant: preparation, commit or refusal, retention, wake, core running, scrub, and PITCHED again (R32, R35, R39, R40, R74, R90, R92, R93, R94, R95, R560). -/
def Obligations.DeepSteps : Prop :=
  (∀ s : State, s.sleep.phase = 1 → s.down = false → s.dev = s.sleep.origin → exec .deepPrepared s = .next (
    let t := (s.capStopAll.slcHaltAll.tenureOver).snapAll
    State.logRec { t with sleep := { t.sleep with phase := 2 } } 0x004 1 0 0)) ∧
  (∀ s : State, s.sleep.phase ≠ 1 ∨ s.dev ≠ s.sleep.origin → exec .deepPrepared s = .next s) ∧
  (∀ (s : State) (asserted : Nat), s.sleep.phase = 2 → s.down = false → s.dev = s.sleep.origin →
    (s.wakeSet asserted true ≠ 0 → exec (.deepCommit asserted) s =
      .next (State.setFld { s with sleep := { s.sleep with phase := 0 } } SYS_SLEEP_STAT 3 0 5)) ∧
    (s.wakeSet asserted true = 0 → exec (.deepCommit asserted) s = .next (
      let t : State := { s with sleep := { s.sleep with phase := 3, limit := 0 } }
      s.observe ((t.setReg SYS_WAKE_CAUSE 0).setDev .deep 6).islandsOff))) ∧
  (∀ (s : State) (asserted : Nat), s.sleep.phase ≠ 2 ∨ s.dev ≠ s.sleep.origin →
    exec (.deepCommit asserted) s = .next s) ∧
  (∀ s : State, s.sleep.phase = 3 → exec .deepRetain s = .next (
    let t := ((s.wdgPause.setBit SYS_CLKSTAT 1 false).setDisc false).setBit RNG_STAT 2 false
    { t with sleep := { t.sleep with phase := 4 } })) ∧
  (∀ s : State, s.sleep.phase ≠ 3 → exec .deepRetain s = .next s) ∧
  (∀ (s : State) (sources w : Nat), s.dev = .deep →
    w = s.wakeSet sources true + 32768 * (if s.sleep.limit = 0 then 0 else 1) →
    (w = 0 → exec (.deepWake sources) s = .next s) ∧
    (w ≠ 0 → exec (.deepWake sources) s = .next (
      let t := ((s.setReg SYS_WAKE_CAUSE (toWord ((s.reg SYS_WAKE_CAUSE).toNat ||| w))).setBit SYS_WAKE_CAUSE 16 true).setBit
        SYS_CLKSTAT 1 true
      { t with sleep := { t.sleep with phase := 5 } }))) ∧
  (∀ s : State, s.sleep.phase = 5 → exec .wakeCoreRunning s = .next (
    let a : State := { s with sleep := { s.sleep with phase := 6, limit := 0 } }
    let b := (a.setDev (if s.sleep.origin = .pitched then .pitching else .unpitched) 0xFF).wdgResume
    let c := b.logRec 0x004 1 (b.reg SYS_WAKE_CAUSE) 0
    if s.sleep.limit = 0 then c else c.safeCause s.sleep.limit (if s.sleep.limit = 5 then c.sensor 0 else 0))) ∧
  (∀ s : State, s.sleep.phase ≠ 5 → exec .wakeCoreRunning s = .next s) ∧
  (∀ (s : State) (ue : Option Nat), s.sleep.phase = 6 → s.down = false →
    (s.dev ≠ .pitching → exec (.wakeScrubDone ue) s = .next (s.islandsOn 0)) ∧
    (s.dev = .pitching → ue = none → s.cfg.bad = [] → exec (.wakeScrubDone ue) s = .next (s.islandsOn 7)) ∧
    (s.dev = .pitching → ue = none → s.cfg.bad ≠ [] → exec (.wakeScrubDone ue) s = .next (s.wakeUnpitched.islandsOn 0)) ∧
    (∀ a, s.dev = .pitching → ue = some a → exec (.wakeScrubDone ue) s =
      .next (((s.cfgUe a).wakeUnpitched).islandsOn 0))) ∧
  (∀ s : State, s.wakeUnpitched.dev = .unpitched ∧ s.wakeUnpitched.saf.armed = false ∧ s.wakeUnpitched.cfg.img = none) ∧
  (∀ s : State, s.sleep.phase = 7 → s.dev = .pitching → (∀ i, s.structureDone i = true) → exec .wakeComplete s = .next (
    let a := State.setDev { s with sleep := { s.sleep with phase := 0 } } .pitched 0xFF
    let b := (List.finRange 8).foldl (fun s x => (s.setBit (POS x 2) 1 false).axisRestore x) a
    (s.observe ((State.fire { b with load := LoadSt.reset } 454 0).fire 453 0)).persFresh)) ∧
  (∀ s : State, s.sleep.phase ≠ 7 ∨ s.dev ≠ .pitching ∨ (∃ i, s.structureDone i = false) → exec .wakeComplete s = .next s)

/-- The filter's arithmetic: a sinc output is the exact sum over its taps although the registers wrap, the accumulator is the sum of products, rounding is to nearest with ties to even, and a stage's output is the clamped rounded sum (R408, R409, R411, R412, R413, R465). -/
def Obligations.FilterArithmetic : Prop :=
  (∀ (r m : Nat) (bs : List Bool), (r = 16 ∨ r = 4) → 3 ≤ m → bs.length = r * m →
    let z := bs.foldl (fun p b => ((p.1.feed r b).1, ((p.1.feed r b).2).or p.2)) ((Sinc.reset, none) : Sinc × Option Word)
    z.2.map BitVec.toInt = some ((List.range r).flatMap fun i => (List.range r).flatMap fun j => (List.range r).map fun k =>
      if bs.getD (bs.length - 1 - i - j - k) false then (1 : Int) else -1).sum) ∧
  (∀ (t : List Int) (x : List (Int × Bool)) (a : Int) (o : Option Bool),
    (macSum t x a o).1 = a + ((t.zip x).map fun p => p.1 * p.2.1).sum) ∧
  (∀ (n : Int) (d : Nat), 0 < d → (2 * (n - roundEven n d * d)).natAbs ≤ d ∧
    ((2 * (n - roundEven n d * d)).natAbs = d → roundEven n d % 2 = 0)) ∧
  (∀ (t : List Int) (x : List (Int × Bool)) (a : Int), (macSum t x a none).2 = none ↔
    ∀ k, 1 ≤ k → k ≤ (t.zip x).length → -140737488355328 ≤ a + (((t.zip x).take k).map fun p => p.1 * p.2.1).sum ∧
      a + (((t.zip x).take k).map fun p => p.1 * p.2.1).sum ≤ 140737488355327) ∧
  (∀ (st : Stage) (x1 x2 : Int × Bool) (h : List (Int × Bool)), let z := stageRun st [x1, x2] ⟨[], h, 0, false, 0⟩
    let w := (x2 :: x1 :: h).take 47
    z.hist = w ∧ z.outs.length = 1 ∧
    ((macSum st.taps w 0 none).2 = none → z.guards = 0 ∧ z.outs = [(clampTo (-8388608) 8388607
      (roundEven (macSum st.taps w 0 none).1 262144), (w.take st.taps.length).any (·.2))]) ∧
    (∀ up, (macSum st.taps w 0 none).2 = some up → z.guards = 1 ∧
      z.outs = [(if up then 8388607 else -8388608, true)]))

/-- A fine output, a Riffle value and a filter reset of a channel, and the captures that take what they publish (R332, R384, R391, R409, R414, R417, R419, R420, R421, R429). -/
def Obligations.FilterSteps : Prop :=
  (∀ (s : State) (c : Fin 32), isAI (s.func c) = false ∨ s.structured c = false ∨ s.dev = .doze ∨
    (s.filt c).inq.length < 2 ^ presetStages (s.presetNow c) → exec (.fineOutput c) s = .next s) ∧
  (∀ (s : State) (c : Fin 32) (n : Nat), isAI (s.func c) = true → s.structured c = true → s.dev ≠ .doze →
    n = 2 ^ presetStages (s.presetNow c) → n ≤ (s.filt c).inq.length → s.bit (FLT c 9) 1 = true →
    exec (.fineOutput c) s = .next (s.setFilt c fun f => { f with inq := f.inq.drop n })) ∧
  (∀ (s : State) (c : Fin 32) (n : Nat) (u : UserSet), isAI (s.func c) = true → s.structured c = true → s.dev ≠ .doze →
    n = 2 ^ presetStages (s.presetNow c) → n ≤ (s.filt c).inq.length → s.bit (FLT c 9) 1 = false → s.userSet c = some u →
    exec (.fineOutput c) s = .next (
      let z := stagesRun (u.stages.take (presetStages (s.presetNow c))) (s.filt c).hist
        (((s.filt c).inq.take n).map fun x => (x, false))
      let y := z.1.outs.getLastD (0, false)
      let a := ((s.setFilt c fun f => { f with inq := f.inq.drop n }).setFilt c fun f => { f with
        hist := z.2.1, wide := clampTo (-2147483648) 2147483647 (roundEven z.1.acc 1024) }).guards c z.2.2 0
      let b := a.publishFine c y.1 y.2 z.1.sat
      let t : RingTime := (b.1.reg (FLT c 3)).append (b.1.reg (FLT c 2))
      let d := b.1.captures c 0 t
      if b.2 then d.captures c 2 t else d)) ∧
  (∀ (s : State) (c : Fin 32) (n : Nat), isAI (s.func c) = true → s.structured c = true → s.dev ≠ .doze →
    n = 2 ^ presetStages (s.presetNow c) → n ≤ (s.filt c).inq.length → s.bit (FLT c 9) 1 = false → s.userSet c = none →
    exec (.fineOutput c) s = .next (
      let e := s.setFilt c fun f => { f with inq := f.inq.drop n }
      let r := (((s.filt c).inq.take n).reverse ++ (s.filt c).recent).take (e.reach c + 1)
      let q := Config.romOutput (s.presetNow c) (u8 (e.chRec c) 5) r
      let y := clampTo (-8388608) 8388607 q
      let w := clampTo (-2147483648) 2147483647 (Config.romOutput (s.presetNow c) (256 + u8 (e.chRec c) 5) r)
      let b := (e.setFilt c fun f => { f with recent := r, wide := w }).publishFine c y false (decide (y ≠ q))
      let t : RingTime := (b.1.reg (FLT c 3)).append (b.1.reg (FLT c 2))
      let d := b.1.captures c 0 t
      if b.2 then d.captures c 2 t else d)) ∧
  (∀ (s : State) (c : Fin 32), (s.filt c).rifq = [] ∨ s.dev = .doze → exec (.riffleValue c) s = .next s) ∧
  (∀ (s : State) (c : Fin 32) (v : Int) (vs : List Int), (s.filt c).rifq = v :: vs → s.dev ≠ .doze → (s.filt c).sincs < 2 →
    exec (.riffleValue c) s = .next (s.setFilt c fun f => { f with rifq := vs, sincs := (s.filt c).sincs + 1 })) ∧
  (∀ (s : State) (c : Fin 32) (v : Int) (vs : List Int), (s.filt c).rifq = v :: vs → s.dev ≠ .doze → 2 ≤ (s.filt c).sincs →
    exec (.riffleValue c) s = .next (
      let t := edgeTime (s.filt c).at0 (128 * ((s.filt c).sincs + 1))
      let a := s.setFilt c fun f => { f with rifq := vs, sincs := (s.filt c).sincs + 1 }
      let b := (a.setReg (FLT c 4) (codeWord v)).setBit (FLT c 5) 0 true
      let d := (((b.setBit (FLT c 5) 4 (a.chFault c)).setFld (FLT c 5) 23 16 (b.fld (FLT c 5) 23 16 + 1)).setTime (FLT c 6) t).setChan c fun x => { x with
        rif := (t, codeWord v) :: x.rif.filter fun y => decide ((t - y.1).toNat ≤ 500000) }
      let e := if a.chFault c then d else d.riffleWindow c v t
      e.captures c 1 ((e.reg (FLT c 7)).append (e.reg (FLT c 6))))) ∧
  (∀ (s : State) (c : Fin 32), exec (.filterReset c) s =
    .next (if (s.filt c).due = 0 then s else s.channelReset c (s.filt c).due)) ∧
  (∀ (s : State) (c : Fin 32) (n : Nat), isAI (s.func c) = true → (s.channelReset c n).filt c = { s.filt c with
    inq := [], rifq := [], recent := [], hist := [], at0 := s.time, outs := 0, sincs := 0, runKind := 0, run := 0, acc := 0, due := 0 })

/-- A capture trigger in each state of a sequence, and a block that completes (R302, R429, R430, R431, R432, R433, R436). -/
def Obligations.Captures : Prop :=
  (∀ (s : State) (q : Fin 16) (src : Nat), s.capRec q = none ∨ src = 0 ∨ s.fld (CAP q 1) 1 0 ≠ src →
    exec (.captureTrigger q src) s = .next s) ∧
  (∀ (s : State) (q : Fin 16) (src : Nat), s.capRec q ≠ none → src ≠ 0 → s.fld (CAP q 1) 1 0 = src →
    (s.capState q = 0 → exec (.captureTrigger q src) s = .next s) ∧
    (s.capState q = 1 → exec (.captureTrigger q src) s = .next (s.capBegin q false 0)) ∧
    (s.capState q = 2 → s.fld (CAP q 0) 4 3 = 0 → exec (.captureTrigger q src) s = .next (s.capMiss q 0)) ∧
    (s.capState q = 2 → s.fld (CAP q 0) 4 3 = 1 → (s.capt q).pendSets ≠ none →
      exec (.captureTrigger q src) s = .next (s.capMiss q 2)) ∧
    (s.capState q = 2 → s.fld (CAP q 0) 4 3 = 1 → (s.capt q).pendSets = none → exec (.captureTrigger q src) s =
      .next ((s.setBit (CAP q 5) 2 true).setCapt q fun b => { b with pendSets := some 0 })) ∧
    (s.capState q = 2 → 2 ≤ s.fld (CAP q 0) 4 3 → exec (.captureTrigger q src) s = .next (
      let t := (s.capFinish q true).capArm q
      if t.capState q = 3 then t.capMiss q 1 else t.capBegin q false 0)) ∧
    (s.capState q = 3 → exec (.captureTrigger q src) s = .next (s.capMiss q 1))) ∧
  (∀ (s : State) (q : Fin 16), s.capState q ≠ 2 ∨ (s.capt q).fired = true ∨ (s.capt q).got < (s.capt q).goal ∨
    (s.capt q).goal = 0 → exec (.captureBlockComplete q) s = .next s) ∧
  (∀ (s : State) (q : Fin 16), s.capState q = 2 → (s.capt q).fired = false → (s.capt q).goal ≤ (s.capt q).got →
    (s.capt q).goal ≠ 0 → ∃ t, t = s.capFinish q false ∧
      ((s.capt q).pendSets = none → exec (.captureBlockComplete q) s =
        .next (if t.bit (CAP q 0) 5 then t.capArm q else t.setCapState q 0)) ∧
      (∀ n, (s.capt q).pendSets = some n → exec (.captureBlockComplete q) s = .next (
        let u := ((t.setBit (CAP q 5) 2 false).setCapt q fun b => { b with pendSets := none }).capArm q
        if u.capState q = 3 then u.capMiss q 1 else u.capBegin q true (-(n : Int))))) ∧
  (∀ (s : State) (q : Fin 16) (b : Bool) (ofs : Int), ((s.capBegin q b ofs).capt q).fired = true ∧
    ((s.capBegin q b ofs).capt q).got = 0 ∧ ((s.capBegin q b ofs).capt q).no = (s.capt q).nextNo)

/-- An axis's own events: the quadrature count and its edge times, home input, homing timeout, limit release, standstill, an SSI word and the snapshots; and the ledger's escalation (R449, R456, R464, R465, R470, R474, R475, R480, R499). -/
def Obligations.AxisSteps : Prop :=
  (∀ (p : Pulse) (x : Isl) (q : QuadUse) (n d : Int), q.z = none → q.mode = 2 → (d = 1 ∨ d = -1) →
    (x.cells[q.a.val].filt.testBit 0, x.cells[q.b.val].filt.testBit 0) = quadLevels n →
    (p.fa.testBit q.a.val, p.fa.testBit q.b.val) = quadLevels (n + d) →
    ((Isl.quadPulse p x q).cells[q.a.val].pul.cnt : Int) =
      ((x.cells[q.a.val].pul.cnt : Int) + (if q.inv = true then -d else d)) % 65536) ∧
  (∀ (p : Pulse) (x : Isl) (q : QuadUse), q.z = none → p.fa.testBit q.a.val ≠ x.cells[q.a.val].filt.testBit 0 →
    p.fa.testBit q.b.val ≠ x.cells[q.b.val].filt.testBit 0 → (Isl.quadPulse p x q).cells[q.a.val].pul =
      { x.cells[q.a.val].pul with qerr := true }) ∧
  (∀ (mode : Nat) (inv a b a' b' : Bool), (mode = 0 → quadStep mode inv a b a' b' ≠ none → a = false ∧ a' = true) ∧
    (mode = 1 → quadStep mode inv a b a' b' ≠ none → a ≠ a') ∧
    (quadStep mode inv a b a' b' ≠ none → quadStep mode inv a b a' b' = some 1 ∨ quadStep mode inv a b a' b' = some (-1))) ∧
  (∀ (p : PulseCnt) (d : Int) (t n : Nat), p.fwd = decide (0 < d) → p.times ≠ [] →
    (p.edge d t).times = (t :: p.times).take 65 ∧ (1 ≤ n → n ≤ 64 → (p.edge d t).interval n =
      some (t - p.times.getD (min n p.times.length - 1) 0, min n p.times.length))) ∧
  (∀ (p : PulseCnt) (d : Int) (t n : Nat), p.fwd ≠ decide (0 < d) → (p.edge d t).times = [t] ∧ (p.edge d t).interval n = none) ∧
  (∀ t k : Nat, 1 ≤ k → k ≤ 64 → spanField none = 0 ∧
    (t ≤ 131071 → spanField (some (t, k)) = t + 262144 * (k - 1)) ∧
    (131071 < t → t ≤ 131071 * 64 → spanField (some (t, k)) = (t + 32) / 64 + 131072 + 262144 * (k - 1)) ∧
    (131071 * 64 < t → spanField (some (t, k)) = 0)) ∧
  (∀ (s : State) (a : Fin 8) (b : Bool), s.axisOn a = true → exec (.homeDebounce a b) s =
    .next (((s.setAxis a fun x => { x with home := b }).setBit (POS a 0xE) 5 b).homeEval a)) ∧
  (∀ (s : State) (a : Fin 8) (b : Bool), s.axisOn a = false → exec (.homeDebounce a b) s = .next s ∧
    exec (.standstillTimeout a) s = .next s) ∧
  (∀ (s : State) (a : Fin 8), (s.homeState a = 0 ∨ s.homeState a = 9 → exec (.homingTimeout a) s = .next s) ∧
    (s.homeState a ≠ 0 → s.homeState a ≠ 9 → exec (.homingTimeout a) s = .next ((s.setFld (POS a 0xF) 3 0 9).setAxis a
      fun x => { x with stored := 5 }))) ∧
  (∀ (s : State) (a : Fin 8) (pos : Bool), (s.bit (POS a 0xE) (if pos then 0 else 1) = true →
      exec (.limitRelease a pos) s = .next s) ∧
    (s.bit (POS a 0xE) (if pos then 0 else 1) = false → exec (.limitRelease a pos) s =
      .next (s.setBit (POS a 0xE) (if pos then 2 else 3) false))) ∧
  (∀ (s : State) (a : Fin 8), s.axisOn a = true → exec (.standstillTimeout a) s = .next
    ((((s.setReg (POS a 6) 0).setReg (POS a 7) 0xFFFFFF).setReg (POS a 8) 0).setBit (POS a 2) 5 true)) ∧
  (∀ (s : State) (a : Fin 8) (c : Fin 32) (idle after back : Bool) (word w code n : Nat), s.axCfg a 1 1 = 3 →
    s.axCh a 4 = some c → s.structured c = true → w = word % 2 ^ s.axCfg a 0x10 1 →
    code = (if idle = false then 1 else if after = true ∨ back = false then 2 else 0) → n = ((s.axis a).ssiNo + 1) % 4 →
    let err := if code = 0 then 0 else 2097152
    let h0 := toWord (w % 1048576 + err + n * 4194304)
    let h1 := toWord (w / 1048576 + code * 4096 + 1048576 + err + n * 4194304)
    exec (.ssiRead a idle word after back) s = .next (s.setAxis a fun x => { x with ssiOut := [h0, h1], ssiNo := n })) ∧
  (∀ (s : State) (a : Fin 8) (idle after back : Bool) (word : Nat), s.axCfg a 1 1 ≠ 3 ∨ s.axCh a 4 = none →
    exec (.ssiRead a idle word after back) s = .next s) ∧
  (∀ s : State, (s.dev = .pitched ∨ s.dev = .doze → exec .axisSnapshot s = .next s.snapAll) ∧
    (s.dev ≠ .pitched → s.dev ≠ .doze → exec .axisSnapshot s = .next s)) ∧
  (∀ (s : State) (a : Fin 8), (s.axisRec a = none → s.snapOne a = s) ∧ (∀ r, s.axisRec a = some r →
    let sn : AxisSnap := ⟨lo24 (s.posExt a), hi24 (s.posExt a), s.posExt2 a, crc32 r % 65536⟩
    s.snapOne a = { s with ember := { s.ember with snaps := updV s.ember.snaps a fun _ => some sn } })) ∧
  (∀ (s : State) (c : Fin 32) (k : Option (Fin 4)), k = some (chCell c) → s.bit (nrgStat (chIsl c) k) 0 = true →
    (u8 (s.chRec c) 8 = 1 ∨ u8 (s.chRec c) 8 = 2) → (s.scopeLed (chIsl c) k).since + 100000 ≤ s.upUs →
    (exceeds (s.nrgI (chIsl c) k) (s.nrgLimit (chIsl c) 0 k) = true ∨
      exceeds (s.scopeLed (chIsl c) k).e1 ((s.nrgLimit (chIsl c) 1 k).map (· * 1000)) = true ∨
      exceeds (s.scopeLed (chIsl c) k).e100 ((s.nrgLimit (chIsl c) 2 k).map (· * 1000)) = true) →
    exec (.nrgEscalate c) s = .next (s.setBit (nrgStat (chIsl c) k) 5 true)) ∧
  (∀ (s : State) (c : Fin 32), s.bit (nrgStat (chIsl c) (some (chCell c))) 0 = false ∨
    (u8 (s.chRec c) 8 ≠ 1 ∧ u8 (s.chRec c) 8 ≠ 2) ∨ s.upUs < (s.scopeLed (chIsl c) (some (chCell c))).since + 100000 →
    exec (.nrgEscalate c) s = .next s)

/-- A watchdog service needs its challenge's sequence number, an open window and the right token; every other answer but the previous one is a fault (R38, R550, R551, R553, R554, R555, R557, R560). -/
def Obligations.Watchdog : Prop :=
  (∀ (s : State) (v : Word), s.wdgRuns = true → bitsOf v 23 16 = s.fld WDG_CHAL 23 16 → s.bit WDG_STAT 4 = true →
    bitsOf v 15 0 = wdgToken s.wdg.seed (s.fld WDG_CHAL 15 0) →
    s.wdgServe v = (((s.bump WDG_SERVICES).setFld WDG_STAT 2 0 0).setBit WDG_STAT 3 false).wdgFresh) ∧
  (∀ (s : State) (v : Word), s.wdgRuns = true → bitsOf v 23 16 = (s.fld WDG_CHAL 23 16 + 255) % 256 →
    s.wdg.first = false → s.wdgServe v = s.bump WDG_STALE) ∧
  (∀ (s : State) (v : Word), s.wdgRuns = true → bitsOf v 23 16 ≠ s.fld WDG_CHAL 23 16 →
    (s.wdg.first = true ∨ bitsOf v 23 16 ≠ (s.fld WDG_CHAL 23 16 + 255) % 256) → s.wdgServe v = s.wdgFault 4) ∧
  (∀ (s : State) (v : Word), s.wdgRuns = true → bitsOf v 23 16 = s.fld WDG_CHAL 23 16 →
    (s.bit WDG_STAT 4 = false → s.wdgServe v = s.wdgFault 3) ∧
    (s.bit WDG_STAT 4 = true → bitsOf v 15 0 ≠ wdgToken s.wdg.seed (s.fld WDG_CHAL 15 0) → s.wdgServe v = s.wdgFault 2)) ∧
  (∀ s : State, s.wdgRuns = false → (∀ v, s.wdgServe v = s) ∧ exec .wdgWindowOpen s = .next s ∧
    exec .wdgWindowClose s = .next s ∧ ∀ b, exec (.wdgClockTrip b) s = .next s) ∧
  (∀ s : State, s.wdgRuns = true → (s.wdg.openLeft = 0 → exec .wdgWindowOpen s = .next (s.setBit WDG_STAT 4 true)) ∧
    (s.wdg.openLeft ≠ 0 → exec .wdgWindowOpen s = .next s) ∧
    (s.reg WDG_LEFT = 0 → exec .wdgWindowClose s = .next
      ((if s.wdg.bootLeft = 0 then s.setBit WDG_STAT 3 false else s).wdgFault 1)) ∧
    (s.reg WDG_LEFT ≠ 0 → exec .wdgWindowClose s = .next s)) ∧
  (∀ (s : State) (wosc : Bool), s.wdgRuns = true → ∃ (t : State) (n : Nat), n ≤ t.wdgSafeStep + 1 ∧ t.wdgSafeStep ≤ n ∧
    t = (((((s.setBit WDG_STAT 5 (!wosc)).setBit WDG_STAT 6 true).setBit SYS_CLKSTAT 5 false).fire 488 (toWord (b2n wosc))).logRec
      0x602 (toWord (b2n wosc)) 0 0) ∧ exec (.wdgClockTrip wosc) s = .next (t.wdgFaultTo 5 n)) ∧
  (∀ (s : State) (k : Nat), ∃ n, s.wdgFault k = s.wdgFaultTo k n ∧ n ≤ s.wdgStep + 1 ∧
    n ≤ s.wdgSafeStep + (if s.wdgResetEn = true then 1 else 0)) ∧
  (∀ x, x < 65536 → x ≠ 0 → lfsrNext x < 65536 ∧ lfsrNext x ≠ 0) ∧ (∀ x, lfsrNext x % 32768 = x / 2 % 32768) ∧
  (∀ seed c, wdgToken seed c < 65536) ∧
  (∀ (s : State) (k : Nat), s.wdgAct k s.wdgSafeStep = (((s.fire 487 (toWord (s.wdgSafeStep + 8 * k))).logRec 0x601
    (toWord (s.wdgSafeStep + 8 * k)) 0 0).safeCause 3 (toWord (s.wdgSafeStep + 8 * k))))

/-- The upkeep of the MSS: a configuration word scrubbed, a region repaired, a sensor's interval, the log flushed, and the load check (R570, R571, R572, R576, R588, R589, R625). -/
def Obligations.Upkeep : Prop :=
  (∀ (s : State) (addr ecc a : Nat), s.scrubOn = true → s.asleep = false → a = addr % 65536 → let t := (if a = 65535 then
      s.setFld SYS_CFG_STAT 23 8 (s.fld SYS_CFG_STAT 23 8 + 1) else s)
    (ecc = 1 → exec (.cfgScrubWord addr ecc) s = .next (t.bump SYS_CFG_CE)) ∧
    (ecc ≠ 1 → ecc ≠ 2 → exec (.cfgScrubWord addr ecc) s = .next t) ∧
    (ecc = 2 → t.cfg.seen.contains a = true → exec (.cfgScrubWord addr ecc) s = .next t) ∧
    (ecc = 2 → t.cfg.seen.contains a = false →
      exec (.cfgScrubWord addr ecc) s = .next (
        let u := t.cfgUe a
        let r := t.cfgRegion a
        let damaged := u.setCfg fun c => { c with bad := if c.bad.contains r then c.bad else c.bad ++ [r] }
        if u.cfgPitching then damaged else if r = 0xA0 then damaged.safeCause 1 (u.reg SYS_CFG_LAST)
        else if t.cfg.bad.contains r ∨ t.cfg.repair.contains r then u
        else u.setCfg fun c => { c with repair := c.repair ++ [r] }))) ∧
  (∀ (s : State) (ue : Option Nat), s.cfg.repair = [] ∨ s.mss.run = .none ∨ s.mss.halted = true →
    exec (.cfgRepairDone ue) s = .next s) ∧
  (∀ (s : State) (r : Nat) (rest : List Nat), s.cfg.repair = r :: rest → s.mss.run ≠ .none → s.mss.halted = false →
    let failed := fun (u : State) => (u.setCfg fun c => { c with repair := rest, bad := c.bad ++ [r], again := false }).cfgEcc r
      (u.fld SYS_CFG_LAST 15 0) 2
    (s.repairable r = false → ∀ ue, exec (.cfgRepairDone ue) s = .next (failed s)) ∧
    (s.repairable r = true → exec (.cfgRepairDone none) s = .next (((s.cfgRewritten r).setCfg fun c => { c with
      repair := rest, again := false }).cfgEcc r (s.fld SYS_CFG_LAST 15 0) 1)) ∧
    (s.repairable r = true → ∀ a, exec (.cfgRepairDone (some a)) s = .next (
      if (s.cfgUe a).cfg.again then failed (s.cfgUe a) else (s.cfgUe a).setCfg fun c => { c with again := true }))) ∧
  (∀ (s : State) (n : Fin 24) (m l h : Nat), s.mssRuns = true → n.val ≠ 7 →
    (s.sensLost n = true → exec (.sensorUpdate n m l h) s = .next (s.setBit (SYS_SENS n) 16 false)) ∧
    (s.sensLost n = false → exec (.sensorUpdate n m l h) s = .next ((s.setReg (SYS_SENS n) (sensWord m)).setMss
      fun x => { x with sensMin := updV x.sensMin n fun w => sensLow n w (sensWord l), sensMax := updV x.sensMax n fun w => sensHigh n w (sensWord h) }))) ∧
  (∀ s : State, s.mssRuns = true → (s.pfw = true → exec .logFlush s = .next s) ∧
    (s.pfw = false → exec .logFlush s = .next ((s.logStore.logLost false).logLost true))) ∧
  (∀ s : State, s.logStore.log.buf = [] ∧ s.logStore.flash.logCrit = (s.log.buf.filter fun r => logCritical r.code).foldl
    (ringPut 4) s.flash.logCrit ∧ s.logStore.flash.logGen = (s.log.buf.filter fun r => !logCritical r.code).foldl
    (ringPut 12) s.flash.logGen) ∧
  (∀ s : State, s.runs = true → exec .loadCheck s = .next (
    let runs := Vector.ofFn fun b : Fin 7 => if (s.load.now % 128).testBit b.val then min 1000 (s.load.runs[b.val] + 1) else 0
    (List.finRange 7).foldl (fun (x : State) (b : Fin 7) => if runs[b.val] = 1000 ∧ s.load.runs[b.val] < 1000 then
      (x.setBit SYS_LOAD_SUST b.val true).fire 492 (toWord b.val) else x)
      (State.setReg { s with load := ⟨0, runs⟩ } SYS_LOAD (toWord (s.load.now % 128)))))

/-- A submission sets PENDING with its TAG and copies the command; the end writes results and status, and MBX_DONE names session, node and TAG (R578, R579, R580, R585). -/
def Obligations.MailboxSubmits : Prop :=
  (∀ (s : State) (p : Port) (cmd : Word) (role : Nat) (t : State), (s.mbxOf p).status ≠ 1 → t = s.submit p cmd role →
    knownCmd (bitsOf cmd 7 0) = true →
    let args := (List.range (bitsOf cmd 14 8)).map fun k => (Sparse.find (s.mbxOf p).args k).getD 0
    t.mbxOf p = Mailbox.mk cmd 1 0 false (bitsOf cmd 23 16) (s.mbxOf p).args (s.mbxOf p).res
      (some ⟨bitsOf cmd 7 0, args, role, false, s.claimStatus p (bitsOf cmd 7 0) (bitsOf cmd 14 8)⟩) (s.mbxOf p).lastStatus (s.mbxOf p).lastRes ∧
    ∀ q, q ≠ p → t.mbxOf q = s.mbxOf q) ∧
  (∀ (s : State) (p : Port) (cmd : Word) (role : Nat), (s.mbxOf p).status ≠ 1 → knownCmd (bitsOf cmd 7 0) = false →
    ((s.submit p cmd role).mbxOf p).status = stUnknown ∧ ((s.submit p cmd role).mbxOf p).job = none) ∧
  (∀ (s : State) (p : Port) (st : Nat) (ws : List Word) (t : State), t = s.finish p st ws →
    (t.mbxOf p).status = st ∧ (t.mbxOf p).resWords = ws.length ∧ (t.mbxOf p).job = none ∧
    (t.mbxOf p).tag = (s.mbxOf p).tag ∧ (∀ q, q ≠ p → t.mbxOf q = s.mbxOf q) ∧
    ∀ k, k < ws.length → Sparse.get (fun _ => 0) (t.mbxOf p).res k = ws.getD k 0) ∧
  (∀ (m : Mailbox), m.status < 256 → m.resWords < 128 → m.tag < 256 → bitsOf m.statWord 7 0 = m.status ∧
    bitsOf m.statWord 14 8 = m.resWords ∧ bitOf m.statWord 15 = m.overrun ∧ bitsOf m.statWord 23 16 = m.tag) ∧
  (sessionNo .lpb = 0 ∧ sessionNo .spi = 1 ∧ sessionNo .modbus = 2 ∧ ∀ n, sessionNo (.ring n) = 3) ∧
  (∀ (n tag : Nat), n < 1024 → tag < 256 → bitsOf (mbxDoneWord (.ring n) tag) 2 0 = 3 ∧
    bitsOf (mbxDoneWord (.ring n) tag) 12 3 = n ∧ bitsOf (mbxDoneWord (.ring n) tag) 20 13 = tag)

/-- A submission while a command is pending is discarded: OVERRUN sets and the pending command continues unchanged (R586). -/
def Obligations.MailboxOverrun : Prop :=
  (∀ (s : State) (p : Port) (cmd : Word) (role : Nat) (t : State), (s.mbxOf p).status = 1 → t = s.submit p cmd role →
    t.mbxOf p = { s.mbxOf p with overrun := true } ∧ (∀ q, q ≠ p → t.mbxOf q = s.mbxOf q) ∧
    bitsOf (t.mbxOf p).statWord 7 0 = 1 ∧ (t.mbxOf p).job = (s.mbxOf p).job ∧ t.pending = s.pending ∧ t.regs = s.regs) ∧
  (∀ (s : State) (p : Port) (cmd : Word) (role : Nat) (t : State) (st : Nat) (ws : List Word), (s.mbxOf p).status = 1 →
    t = s.submit p cmd role → let u := t.finish p st ws
    (u.mbxOf p).status = st ∧ (u.mbxOf p).job = none ∧ (u.mbxOf p).cmd = (s.mbxOf p).cmd ∧
      (u.mbxOf p).tag = (s.mbxOf p).tag ∧ ∀ k, k < ws.length → Sparse.get (fun _ => 0) (u.mbxOf p).res k = ws.getD k 0)

/-- A mailbox command is turned away without SUPERVISOR, with wrong arguments, in a wrong state, or while a long operation runs, in this order (R580, R581, R582). -/
def Obligations.MailboxChecks : Prop :=
  let rows := fun (p : Port) (a : Nat) (o : Bool) => [(0x00, 0, Instr.poll p), (0x01, 0, .info p), (0x04, 1, .reset p),
    (0x05, 0, .doze p a), (0x06, 0, .deep p a), (0x07, 0, .maintenance p), (0x10, 1, .pitch p o), (0x11, 2, .repitch p),
    (0x12, 3, .imageStore p), (0x13, 1, .imageSelect p), (0x14, 3, .safetyAccept p), (0x20, 3, .fwStore p),
    (0x21, 0, .fwConfirm p), (0x30, 1, .settingRead p), (0x31, 2, .settingWrite p), (0x32, 2, .settingsPush p),
    (0x50, 3, .logRead p), (0x51, 3, .logWrite p), (0x52, 2, .sensorMinmax p), (0x60, 2, .rtcSet p), (0x61, 2, .rtcAlarm p)]
  let cals := fun (p : Port) => [(0x40, Instr.calPoint p), (0x41, .calCommit p), (0x42, .calClear p)]
  let keys := fun (p : Port) => [(1, Instr.keyEnrolFirst p), (2, .keyEnrolReplace p), (3, .keyEnrolRemove p)]
  (∀ (s : State) (p : Port) (j : Job) (a n : Nat) (o : Bool) (i : Instr), (s.mbxOf p).job = some j → j.taken = false →
    s.mssServes = true → (j.code, n, i) ∈ rows p a o →
    (j.role < 3 → exec i s = .next (s.finish p stNotSupervisor [])) ∧
    (3 ≤ j.role → j.args.length ≠ n → exec i s = .next (s.finish p stBadArgs [toWord (min j.args.length n)]))) ∧
  (∀ (s : State) (p : Port) (j : Job) (i : Instr), (s.mbxOf p).job = some j → j.taken = false → s.mssServes = true → j.role < 3 →
    (j.code, i) ∈ cals p → exec i s = .next (s.finish p stNotSupervisor [])) ∧
  (∀ (s : State) (p : Port) (j : Job) (i : Instr), (s.mbxOf p).job = some j → j.taken = false → s.mssServes = true → j.role < 3 →
    j.code = 0x16 → (j.arg 0, i) ∈ keys p → exec i s = .next (s.finish p stNotSupervisor [])) ∧
  (∀ (s : State) (p : Port) (a n c : Nat) (o : Bool) (i : Instr), (c, n, i) ∈ rows p a o →
    ((s.mbxOf p).job = none ∨ (∃ j, (s.mbxOf p).job = some j ∧ (j.code ≠ c ∨ j.taken = true)) ∨ s.mssServes = false) →
    exec i s = .next s) ∧
  (∀ (s : State) (p : Port), s.asks p 0x21 [] → s.dev ≠ .pitched →
    exec (.fwConfirm p) s = .next (s.finish p stState [toWord s.dev.code])) ∧
  (∀ (s : State) (p : Port), s.asks p 0x07 [] → s.dev = .maintenance →
    exec (.maintenance p) s = .next (s.finish p stState [toWord s.dev.code])) ∧
  (∀ (s : State) (p : Port) (x y : Word), s.asks p 0x60 [x, y] → y.toNat ≤ 255 → s.dev.servedNotMaint = true →
    s.busyOp = true → exec (.rtcSet p) s = .next (s.finish p stBusyOp [])) ∧
  (∀ (s : State) (p : Port), s.asks p 0x21 [] → s.dev = .pitched → s.busyOp = true →
    exec (.fwConfirm p) s = .next (s.finish p stBusyOp []))

/-- POLL, INFO, RESET, LOG_READ, LOG_WRITE, SENSOR_MINMAX, RTC_SET and RTC_ALARM, each asked with valid arguments by the SUPERVISOR (R53, R572, R573, R574, R580, R582, R608). -/
def Obligations.MgmtCommands : Prop :=
  (∀ (s : State) (p : Port), s.asks p 0 [] → exec (.poll p) s = .next (s.finish p
    (if (s.mbxOf p).lastStatus = 0 then stOK else (s.mbxOf p).lastStatus) (s.mbxOf p).lastRes)) ∧
  (∀ (s : State) (p : Port), s.asks p 1 [] → exec (.info p) s = .next (s.finish p stOK s.infoWords)) ∧
  (∀ (s : State) (p : Port), s.asks p 4 [0x00A55A] → exec (.reset p) s =
    .next ((s.setMss fun m => { m with resetDue := true }).finish p stOK [])) ∧
  (∀ (s : State) (p : Port) (x : Word), x ≠ 0x00A55A → s.asks p 4 [x] → exec (.reset p) s = .next (s.finish p stBadArgs [0])) ∧
  (∀ (s : State) (p : Port) (x n m : Word), s.asks p 0x50 [x, n, m] → 1 ≤ n.toNat → n.toNat ≤ 8 → m.toNat ≤ 255 →
    (s.logFind x.toNat n.toNat m.toNat = [] → exec (.logRead p) s = .next (s.finish p stNoRecord [])) ∧
    (s.logFind x.toNat n.toNat m.toNat ≠ [] → exec (.logRead p) s =
      .next (s.finish p stOK ((s.logFind x.toNat n.toNat m.toNat).flatMap LogRec.words)))) ∧
  (∀ (s : State) (p : Port) (x y z : Word), s.asks p 0x51 [x, y, z] → s.logRoom false = true →
    exec (.logWrite p) s = .next ((s.logRec 0x701 x y z).finish p stOK [s.ember.logSeq])) ∧
  (∀ (s : State) (p : Port) (x y z : Word), s.asks p 0x51 [x, y, z] → ∃ ws,
    exec (.logWrite p) s = .next ((s.logRec 0x701 x y z).finish p stOK ws)) ∧
  (∀ (s : State) (p : Port) (n : Fin 24) (f : Word), s.asks p 0x52 [toWord n.val, f] → exec (.sensorMinmax p) s = .next (
    let t := if f.toNat % 2 = 1 then s.setMss fun m =>
      { m with sensMin := updV m.sensMin n fun _ => 0, sensMax := updV m.sensMax n fun _ => 0 } else s
    t.finish p stOK [s.mss.sensMin[n.val], s.mss.sensMax[n.val]])) ∧
  (∀ (s : State) (p : Port) (x y : Word), s.asks p 0x60 [x, y] → y.toNat ≤ 255 → s.dev.servedNotMaint = true →
    s.busyOp = false → exec (.rtcSet p) s = .next (State.finish { s with ember := { s.ember with
      sec := x.toNat + 16777216 * y.toNat, ms := 0, us := 0, rtcValid := s.ember.oscOk } } p stOK [])) ∧
  (∀ (s : State) (p : Port) (x y : Word) (n : Nat), s.asks p 0x61 [x, y] → y.toNat ≤ 255 → s.dev.servedNotMaint = true →
    n = x.toNat + 16777216 * y.toNat → exec (.rtcAlarm p) s =
      .next (State.finish { s with ember := { s.ember with alarm := n, alarmEn := decide (n ≠ 0) } } p stOK []))

/-- IMAGE_STORE, IMAGE_SELECT, SAFETY_ACCEPT and KEY_ENROL: refused by their rules, or started as a long operation; and the end of an image store (R129, R130, R131, R132, R134, R144, R580, R582, R588, R594). -/
def Obligations.ImageCommands : Prop :=
  (∀ (s : State) (p : Port) (k a n : Word), s.asks p 0x12 [k, a, n] → k.toNat ≤ 1 → a.toNat ≤ 0xFFFFF → 1 ≤ n.toNat →
    a.toNat + stagedWords n.toNat ≤ 0x100000 → s.dev.stable = true → s.busyOp = false → s.imageBusy = false →
    (k.toNat = s.bootCtl.imgSlot → exec (.imageStore p) s = .next (s.refuseImage p rejProtected 3 0)) ∧
    (k.toNat ≠ s.bootCtl.imgSlot → 0x100000 < n.toNat → exec (.imageStore p) s = .next (s.refuseImage p rejLength 3 0)) ∧
    (k.toNat ≠ s.bootCtl.imgSlot → n.toNat ≤ 0x100000 → s.pfw = true → exec (.imageStore p) s =
      .next (s.finish p stAborted [])) ∧
    (k.toNat ≠ s.bootCtl.imgSlot → n.toNat ≤ 0x100000 → s.pfw = false → ∃ role claim, exec (.imageStore p) s =
      .next (s.startOp p ⟨0x12, [k, a, n], role, false, claim⟩))) ∧
  (∀ (s : State) (o : LongOp), s.mss.op = some o → o.code = 0x12 → s.mss.halted = false →
    (∀ e, exec (.imageStoreDone (some e)) s = .next (((s.setFlash (·.setImg (o.arg 0)
        (cutImage s.fresh (s.staged (o.arg 1) (o.arg 2))))).takeFree).endOp stFlashError [toWord e])) ∧
    (∀ t, t = s.setFlash (·.setImg (o.arg 0) (s.staged (o.arg 1) (o.arg 2))) →
      (∀ c, t.verifySource (o.arg 0 + 1) = .error c → exec (.imageStoreDone none) s =
        .next (t.rejectOp c 3 0 (t.serialOf (o.arg 0 + 1)))) ∧
      (∀ im, t.verifySource (o.arg 0 + 1) = .ok im → exec (.imageStoreDone none) s = .next (t.endOp stOK [])))) ∧
  (∀ (s : State) (e : Option Nat), s.mss.op = none ∨ s.mss.halted = true → exec (.imageStoreDone e) s = .next s) ∧
  (∀ (s : State) (p : Port) (k : Word), s.asks p 0x13 [k] → k.toNat ≤ 1 → s.dev.stable = true → s.busyOp = false →
    s.imageBusy = false →
    (∀ c, s.verifySource (k.toNat + 1) = .error c → exec (.imageSelect p) s = .next (
      let t := s.reject c 3 0 (s.serialOf (k.toNat + 1)) (sessionNo p)
      t.finish p stRejected [t.reg SYS_IMG_REJECT])) ∧
    (∀ im, s.verifySource (k.toNat + 1) = .ok im → ∃ role claim, exec (.imageSelect p) s =
      .next ((s.startOp p ⟨0x13, [k], role, false, claim⟩).storeOp (.bootCtl { s.bootCtl with imgSlot := k.toNat })))) ∧
  (∀ (s : State) (p : Port) (x y z : Word) (spc : Nat), s.asks p 0x14 [x, y, z] → y.toNat ≤ 255 → s.dev = .pitched →
    s.busyOp = false → s.imageBusy = false → spc = x.toNat + 16777216 * y.toNat →
    (s.saf.ka.sec.map crc32 = some spc → s.saf.kb.sec.map crc32 = some spc → z = s.reg SYS_IMG_SERIAL → ∃ role claim,
      exec (.safetyAccept p) s = .next (let t := s.startOp p ⟨0x14, [x, y, z], role, false, claim⟩
        t.storeOp (.settings { s.settings with spc := some (spc, z.toNat), schema := t.writeSchema }))) ∧
    ((s.saf.ka.sec.map crc32 ≠ some spc ∨ s.saf.kb.sec.map crc32 ≠ some spc ∨ z ≠ s.reg SYS_IMG_SERIAL) →
      exec (.safetyAccept p) s = .next (s.refuseImage p rejSpcMismatch 4 0))) ∧
  (∀ (s : State) (p : Port) (j : Job) (i : Instr) (allow proof : Bool) (new : Option PubKey),
    (s.mbxOf p).job = some j → j.code = 0x16 → j.taken = false → 3 ≤ j.role → s.mssServes = true → keyBad j = none →
    s.dev.keyOk = true → s.busyOp = false → ((i = .keyEnrolFirst p ∧ j.arg 0 = 1 ∧
      allow = (s.settings.key4.isNone && (decide (s.dev = .unpitched) || decide (s.dev = .maintenance))) ∧
      proof = j.proves (some (keyOf (j.bytes64 1))) (s.keyMessage j) ∧ new = some (keyOf (j.bytes64 1))) ∨
     (i = .keyEnrolReplace p ∧ j.arg 0 = 2 ∧ allow = s.settings.key4.isSome ∧
      proof = j.proves s.settings.key4 (s.keyMessage j) ∧ new = some (keyOf (j.bytes64 1))) ∨
     (i = .keyEnrolRemove p ∧ j.arg 0 = 3 ∧ allow = true ∧ proof = j.proves (s.flash.anchors.getD (j.arg 45) none)
      (Config.removalRecord s.flash.uid.toNat (j.bytes64 1)) ∧ new = none)) →
    (allow = false → exec i s = .next (s.finish p stState [toWord s.dev.code])) ∧
    (allow = true → proof = false → exec i s =
      .next ((s.logRec 0x302 (toWord (j.arg 0)) (toWord (sessionNo p)) 0).finish p stVerifyFail [1])) ∧
    (allow = true → proof = true → exec i s = .next ((s.startOp p j).storeOp (.settings { s.settings with
      key4 := new, schema := (s.startOp p j).writeSchema }))))

/-- A firmware update and its confirmation, the settings, and the end of a store: instant by instant (R580, R583, R588, R591, R592, R594, R596, R597, R598, R600, R601). -/
def Obligations.FirmwareStores : Prop :=
  (∀ (s : State) (p : Port) (a n f : Word), s.asks p 0x20 [a, n, f] → a.toNat ≤ 0xFFFFF → 1 ≤ n.toNat →
    a.toNat + stagedWords n.toNat ≤ 0x100000 → s.busyOp = false → ∃ role claim,
    exec (.fwStore p) s = .next (s.startOp p ⟨0x20, [a, n, f], role, false, claim⟩)) ∧
  (∀ (s : State) (o : LongOp) (b : Bytes), s.mss.op = some o → o.code = 0x20 → o.stage = 0 → s.mss.halted = false →
    b = s.staged (o.arg 0) (o.arg 1) →
    (∀ n, checkPackage s.flash.anchors b = some n → exec .fwVerifyDone s = .next (s.endOp stVerifyFail [toWord n])) ∧
    (checkPackage s.flash.anchors b = none → u16 b 0xC < s.bootCtl.minSec → exec .fwVerifyDone s =
      .next ((s.fwLog 6 (b2n s.fwTargetB) (pkgVersion b) 0).endOp stBadArgs [0])) ∧
    (checkPackage s.flash.anchors b = none → s.bootCtl.minSec ≤ u16 b 0xC → exec .fwVerifyDone s = .next (
      let t := s.setMss fun m => { m with pkg := b }
      if (if s.fwTargetB then s.flash.fwB else s.flash.fwA) = b then t.fwCtlStore o
      else if s.pfw then t.endOp stAborted [] else t.setMss fun m => { m with op := some { o with stage := 1 } }))) ∧
  (∀ (s : State) (o : LongOp), s.mss.op = some o → o.code = 0x20 → o.stage = 1 → s.mss.halted = false →
    (∀ e, exec (.fwProgramDone (some e)) s = .next ((s.setFlash (·.setFw s.fwTargetB [])).endOp stFlashError [toWord e])) ∧
    exec (.fwProgramDone none) s = .next ((s.setFlash (·.setFw s.fwTargetB s.mss.pkg)).fwCtlStore o)) ∧
  (∀ (s : State) (e : Option Nat), s.mss.op = none ∨ s.mss.halted = true → exec .fwVerifyDone s = .next s ∧
    exec (.fwProgramDone e) s = .next s) ∧
  (∀ (s : State) (p : Port), s.asks p 0x21 [] → s.dev = .pitched → s.busyOp = false →
    (s.fwState ≠ 1 → exec (.fwConfirm p) s = .next (s.finish p stOK [])) ∧
    (s.fwState = 1 → s.pfw = true → exec (.fwConfirm p) s = .next (s.finish p stAborted [])) ∧
    (s.fwState = 1 → s.pfw = false → ∃ role claim, exec (.fwConfirm p) s =
      .next (s.startOp p ⟨0x21, [], role, false, claim⟩).confirmStart)) ∧
  (∀ s : State, (s.mss.conf < 600000000 ∨ s.fwState ≠ 1 ∨ s.mss.reached = false ∨ s.mssServes = false ∨ s.busyOp = true ∨
      s.mss.store ≠ none ∨ s.pfw = true → exec .fwConfirmTimer s = .next s) ∧
    (600000000 ≤ s.mss.conf → s.fwState = 1 → s.mss.reached = true → s.mssServes = true → s.busyOp = false →
      s.mss.store = none → s.pfw = false → exec .fwConfirmTimer s = .next s.confirmStart)) ∧
  (∀ (s : State) (p : Port) (k : Word), s.asks p 0x30 [k] → k.toNat ∈ settingIds →
    exec (.settingRead p) s = .next (s.finish p stOK [toWord (s.setting k.toNat)])) ∧
  (∀ (s : State) (p : Port) (k v : Word), s.asks p 0x31 [k, v] → k.toNat ∈ settingIds →
    settingRange k.toNat v.toNat = true → s.busyOp = false → ∃ role claim, exec (.settingWrite p) s =
      .next (let t := s.startOp p ⟨0x31, [k, v], role, false, claim⟩
        t.storeOp (.settings { s.settings with vals := Sparse.put s.settings.vals k.toNat v.toNat, schema := t.writeSchema }))) ∧
  (∀ (s : State) (p : Port) (k v : Word), s.asks p 0x31 [k, v] → k.toNat ∈ settingIds →
    settingRange k.toNat v.toNat = false → exec (.settingWrite p) s = .next (s.finish p stBadArgs [1])) ∧
  (∀ (s : State) (p : Port) (a n : Word) (x : Option Settings), s.asks p 0x32 [a, n] → a.toNat ≤ 0xFFFFF → 1 ≤ n.toNat →
    a.toNat + stagedWords n.toNat ≤ 0x100000 → (s.dev = .unpitched ∨ s.dev = .maintenance) → s.busyOp = false →
    x = readBank (s.staged a.toNat n.toNat) →
    (x = none → exec (.settingsPush p) s = .next (s.finish p stVerifyFail [4])) ∧
    (∀ y, x = some y → s.mss.run ≠ .oxbow → readsSchema s.fwBytes y ≠ 0 →
      exec (.settingsPush p) s = .next (s.finish p stVerifyFail [4])) ∧
    (∀ y, x = some y → s.mss.run ≠ .oxbow → readsSchema s.fwBytes y = 0 → ∃ role claim, exec (.settingsPush p) s =
      .next (let t := s.startOp p ⟨0x32, [a, n], role, false, claim⟩
        t.storeOp (.settings { y with schema := t.writeSchema }))) ∧
    (∀ y, x = some y → s.mss.run = .oxbow → ∃ role claim, exec (.settingsPush p) s = .next (
      let t := (s.startOp p ⟨0x32, [a, n], role, false, claim⟩).storeOp (.settings y)
      if t.mss.op.isSome = true ∧ t.bootCtl.oxReq = true then
        t.setMss fun m => { m with storeNext := some (.bootCtl { t.bootCtl with oxReq := false }) }
      else t))) ∧
  (∀ (s : State) (e : Option Nat), s.mss.store = none ∨ s.mss.halted = true → exec (.bankStoreDone e) s = .next s) ∧
  (∀ (s : State) (w : StoreWhat), s.mss.store = some w → s.mss.halted = false →
    (∀ e, exec (.bankStoreDone (some e)) s = .next ((s.setMss fun m => { m with store := none, storeNext := none }).endOp
      stFlashError [toWord e])) ∧
    (∀ t : State, t = ((s.setFlash (·.mark w)).setMss fun m => { m with store := none, erase := m.erase ||| w.pair }).settingsChanged
        s.setting →
      (∀ w2, t.mss.storeNext = some w2 → exec (.bankStoreDone none) s =
        .next ((t.setMss fun m => { m with storeNext := none }).storeOp w2)) ∧
      (∀ o, t.mss.storeNext = none → t.mss.op = some o → exec (.bankStoreDone none) s = .next (t.opStored o)) ∧
      (t.mss.storeNext = none → t.mss.op = none → exec (.bankStoreDone none) s = .next (
        if w.pair = 1 then t.fwLog 3 t.mss.run.code t.fwVersion 2 else t)))) ∧
  (∀ s : State, (s.mss.halted = true ∨ s.mss.store ≠ none → exec .bankEraseDone s = .next s) ∧
    (s.mss.halted = false → s.mss.store = none → exec .bankEraseDone s =
      .next ((s.setFlash (·.erased s.mss.erase)).setMss fun m => { m with erase := 0 })))

/-- A calibration point set at once for an output or by averaging for an input, its end, and the trim committed, refused or cleared (R199, R394, R395, R404, R581, R604). -/
def Obligations.Calibration : Prop :=
  (∀ (s : State) (p : Port) (c : Fin 32) (k nom meas : Word), s.asks p 0x40 [toWord c.val, k, nom, meas] →
    isAnalogue (s.func c) = true → isOutput (s.func c) = true → k.toNat ≤ 1 → s.dev = .pitched → s.structured c = true →
    s.inRepitch (chIsl c) = false →
    exec (.calPoint p) s = .next ((s.setPoint c k.toNat (nom.toInt, meas.toInt)).finish p stOK [])) ∧
  (∀ (s : State) (p : Port) (c : Fin 32) (k nom : Word), s.asks p 0x40 [toWord c.val, k, nom] →
    isAnalogue (s.func c) = true → isOutput (s.func c) = false → k.toNat ≤ 1 → s.dev = .pitched → s.structured c = true →
    s.inRepitch (chIsl c) = false → exec (.calPoint p) s = .next ((s.takeJob p).setChan c fun x =>
      { x with cal := x.cal ++ [⟨p, k.toNat, nom.toInt, 0, 0⟩] })) ∧
  (∀ (s : State) (p : Port) (c : Fin 32) (i : Instr), isAnalogue (s.func c) = true → s.dev = .pitched →
    (s.structured c = false ∨ s.inRepitch (chIsl c) = true) → s.busyOp = false →
    ((s.asks p 0x41 [toWord c.val] ∧ i = .calCommit p) ∨ (s.asks p 0x42 [toWord c.val] ∧ i = .calClear p)) →
    exec i s = .next (s.finish p stState [toWord s.dev.code])) ∧
  (∀ (s : State) (p : Port) (c : Fin 32) (k : CalAvg), (s.chan c).cal.find? (fun k => decide (k.port = p)) = some k →
    (256 ≤ k.n → s.mss.halted = false → exec (.calPointDone p c) s = .next (((s.calDrop c p).setPoint c k.point
      (k.nominal, Config.calMean k.sum)).finish p stOK [codeWord (Config.calMean k.sum)])) ∧
    (k.n < 256 ∨ s.mss.halted = true → exec (.calPointDone p c) s = .next s)) ∧
  (∀ (s : State) (p : Port) (c : Fin 32), (s.chan c).cal.find? (fun k => decide (k.port = p)) = none →
    exec (.calPointDone p c) s = .next s) ∧
  (∀ (s : State) (p : Port) (j : Job), (s.mbxOf p).job = some j →
    (j.code = 0x40 → j.taken = true → s.mss.halted = false → exec (.calPointTimeout p) s =
      .next ((s.calDrop j.chan p).finish p stTimeout [])) ∧
    (j.code ≠ 0x40 ∨ j.taken = false ∨ s.mss.halted = true → exec (.calPointTimeout p) s = .next s)) ∧
  (∀ (s : State) (p : Port) (c : Fin 32), s.asks p 0x41 [toWord c.val] → isAnalogue (s.func c) = true → s.dev = .pitched →
    s.structured c = true → s.inRepitch (chIsl c) = false → s.busyOp = false →
    ∃ role claim, exec (.calCommit p) s = .next (match s.newTrim c with
      | .error n => s.finish p stCalLimit [toWord n]
      | .ok t => (s.startOp p ⟨0x41, [toWord c.val], role, false, claim⟩).storeOp (.calib (s.calWithout c ++
        [⟨c.val, s.func c, s.range c, codeWord t.1, codeWord t.2⟩])))) ∧
  (∀ (s : State) (c : Fin 32), ((s.chan c).pt0 = none ∨ (s.chan c).pt1 = none → s.newTrim c = .error 1) ∧
    ∀ a b, (s.chan c).pt0 = some a → (s.chan c).pt1 = some b →
      2 * (a.1 - b.1).natAbs < rbSpan (s.func c) → s.newTrim c = .error 2) ∧
  (∀ (s : State) (p : Port) (c : Fin 32), s.asks p 0x42 [toWord c.val] → isAnalogue (s.func c) = true → s.dev = .pitched →
    s.structured c = true → s.inRepitch (chIsl c) = false → s.busyOp = false → ∃ role claim, exec (.calClear p) s =
      .next ((s.startOp p ⟨0x42, [toWord c.val], role, false, claim⟩).storeOp (.calib (s.calWithout c))))

/-- The test access port: instructions loaded or taken as BYPASS, the captured instruction register, the device ID, and the boundary, island select and island scan registers captured and updated (R639, R640, R641, R642, R643, R645, R646, R647, R648). -/
def Obligations.TapSteps : Prop :=
  (∀ (s u : State), s.tapPowered = true →
    u = { s with tap := { s.tap with irc := 1 + 4 * b2n (s.bit SYS_STRAPS 4) } } →
    exec .tapReset s = .next (s.loadIr 2) ∧ exec .idcode s = .next (u.loadIr 2) ∧
    exec .samplePreload s = .next (u.loadIr 1) ∧ exec .bypass s = .next (u.loadIr 0xFF) ∧
    (∀ (i : Instr) (ir : Nat), (i, ir) ∈ [(Instr.extest, 0), (.clamp, 4), (.highz, 5), (.islSel, 0x20), (.islandScan, 0x21)] →
      exec i s = .next (if s.bit SYS_STRAPS 4 then u.loadIr ir else u.loadIr 0xFF))) ∧
  (∀ s t : State, s.tapPowered = true → (exec .tapReset s = .next t ∨ exec .idcode s = .next t) →
    t.drLen = 32 ∧ t.drCapture = 0x1328074B) ∧
  (∀ s t : State, s.tapPowered = true → exec .bypass s = .next t → t.drLen = 1 ∧ t.drCapture = 0) ∧
  (∀ (s : State) (i : Instr), s.tapPowered = false → i ∈ [Instr.tapReset, .extest, .samplePreload, .idcode, .clamp, .highz,
    .islSel, .islandScan, .bypass] → exec i s = .next s) ∧
  (∀ (s : State) (ir : Nat), (s.loadIr ir).tap.ir = ir) ∧
  (∀ (s : State) (ir : Nat), testIr ir = false → testIr s.tap.ir = false → s.tap.ir ≠ 0x21 →
    s.loadIr ir = { s with tap := { s.tap with ir := ir, idr := if ir = 2 then 0x1328074B else 0 } }) ∧
  (∀ (s : State) (ir : Nat), testIr ir = true → testIr s.tap.ir = false → s.tap.ir ≠ 0x21 →
    s.loadIr ir = { s with tap := { s.tap with ir := ir, idr := 0, before := some s.regs } }) ∧
  (∀ (s : State) (n : Nat), s.tapPowered = true → s.tap.ir ≤ 1 → exec (.boundaryCapture n) s =
    .next { s with tap := { s.tap with bcap := n % 2 ^ 179 } } ∧ exec (.boundaryUpdate n) s =
    .next { s with tap := { s.tap with bnd := n % 2 ^ 179 } }) ∧
  (∀ (s : State) (n : Nat), s.tapPowered = false ∨ 1 < s.tap.ir → exec (.boundaryCapture n) s = .next s ∧
    exec (.boundaryUpdate n) s = .next s) ∧
  (∀ (s : State) (n : Nat), s.tapPowered = true → s.tap.ir = 0x20 → exec (.islSelUpdate n) s =
    .next ((if n.testBit 3 then s else s.scanOff).setTap fun t => { t with sel := n % 16 })) ∧
  (∀ (s : State) (n : Nat), s.tapPowered = false ∨ s.tap.ir ≠ 0x20 → exec (.islSelUpdate n) s = .next s) ∧
  (∀ (s : State) (i : Fin 8) (w : Word), s.tapPowered = true → s.tap.ir = 0x21 → s.scanIsl = some i → (s.isl i).obs = some w →
    exec .islandScanCapture s = .next (s.setTap fun t =>
      { t with icap := scanWord (s.bit (ISL i 0) 0) w.toNat (s.isl i).drives })) ∧
  (∀ (s : State) (i : Fin 8), s.tapPowered = true → s.tap.ir = 0x21 → s.scanIsl = some i → (s.isl i).obs = none →
    exec .islandScanCapture s = .next (s.freeWord.2.setTap fun t =>
      { t with icap := scanWord (s.bit (ISL i 0) 0) s.freeWord.1.toNat (s.isl i).drives })) ∧
  (∀ (s : State) (i : Fin 8) (n : Nat), s.tapPowered = true → s.tap.ir = 0x21 → s.scanIsl = some i →
    exec (.islandScanUpdate n) s = .next (s.setIsl i fun x => { x with scanDue := true, scanData := scanDrives n })) ∧
  (∀ (s : State) (n : Nat), s.tapPowered = false ∨ s.tap.ir ≠ 0x21 ∨ s.scanIsl = none →
    exec .islandScanCapture s = .next s ∧ exec (.islandScanUpdate n) s = .next s) ∧
  (∀ (locked : Bool) (item drv : Nat) (j : Fin 12), (scanWord locked item drv).testBit 0 = locked ∧
    (scanWord locked item drv).testBit (4 + 3 * j.val) = (locked && item.testBit j.val) ∧
    (scanWord locked item drv).testBit (5 + 3 * j.val) = drv.testBit (2 * j.val) ∧
    (scanWord locked item drv).testBit (6 + 3 * j.val) = drv.testBit (2 * j.val + 1))
end

