-- ==== Sys2Proof/Laws/Bits.lean ====
section
/-!
SUPPORT. What reading a bit field of a word gives after a field of it has been written.
-/
namespace Sys2Proof.Machine

theorem bitsOf_testBit (w : Word) (hi lo k : Nat) : (bitsOf w hi lo).testBit k = (decide (k < hi + 1 - lo) && w.getLsbD (lo + k)) := by
  unfold bitsOf
  rw [Nat.testBit_mod_two_pow, Nat.testBit_shiftRight, BitVec.testBit_toNat]
theorem bitOf_putBits (w : Word) (hi lo v k : Nat) (hk : k < 24) (h : lo ≤ hi) :
    bitOf (putBits w hi lo v) k = if lo ≤ k ∧ k ≤ hi then v.testBit (k - lo) else bitOf w k := by
  unfold bitOf putBits
  simp only [BitVec.getLsbD_or, BitVec.getLsbD_and, BitVec.getLsbD_not, BitVec.getLsbD_shiftLeft, BitVec.getLsbD_ofNat,
    Nat.testBit_two_pow_sub_one]
  by_cases h1 : lo ≤ k <;> by_cases h2 : k ≤ hi <;> simp [h1, h2, hk] <;> grind
theorem bitsOf_putBits_same (w : Word) (hi lo v : Nat) (h : lo ≤ hi) (h24 : hi < 24) :
    bitsOf (putBits w hi lo v) hi lo = v % 2 ^ (hi + 1 - lo) := by
  refine Nat.eq_of_testBit_eq fun k => ?_
  rw [bitsOf_testBit, Nat.testBit_mod_two_pow]
  by_cases hk : k < hi + 1 - lo
  · have := bitOf_putBits w hi lo v (lo + k) (by omega) h
    unfold bitOf at this
    rw [this]
    simp [hk]
    omega
  · simp [hk]
theorem bitsOf_putBits_other (w : Word) (hi lo v hi' lo' : Nat) (h : lo ≤ hi) (h24 : hi' < 24) (hd : hi' < lo ∨ hi < lo') :
    bitsOf (putBits w hi lo v) hi' lo' = bitsOf w hi' lo' := by
  refine Nat.eq_of_testBit_eq fun k => ?_
  rw [bitsOf_testBit, bitsOf_testBit]
  by_cases hk : k < hi' + 1 - lo'
  · have := bitOf_putBits w hi lo v (lo' + k) (by omega) h
    unfold bitOf at this
    rw [this, if_neg (by omega)]
  · simp [hk]

end Sys2Proof.Machine
end

