-- ==== Sys2Proof/Laws/Sparse.lean ====
section
/-!
SUPPORT. Sparse stores: reading after writing, and the canonical form (R426).
-/
namespace Sys2Proof.Machine

theorem Sparse.find_put {α : Type} (m : List (Nat × α)) (a b : Nat) (v : α) :
    Sparse.find (Sparse.put m a v) b = if b = a then some v else Sparse.find m b := by
  induction m with
  | nil => simp [Sparse.put, Sparse.find]
  | cons x m ih =>
    obtain ⟨k, w⟩ := x
    simp only [Sparse.put]
    split
    · simp [Sparse.find]
    · split
      · subst_vars; by_cases h : b = k <;> simp [Sparse.find, h]
      · simp only [Sparse.find, ih]; split <;> split <;> simp_all

theorem Sparse.find_erase {α : Type} (m : List (Nat × α)) (a b : Nat) :
    Sparse.find (Sparse.erase m a) b = if b = a then none else Sparse.find m b := by
  induction m with
  | nil => simp [Sparse.erase, Sparse.find]
  | cons x m ih =>
    obtain ⟨k, w⟩ := x
    simp only [Sparse.erase] at ih ⊢
    by_cases h : k = a
    · subst h; simp only [List.filter, ne_eq, not_true_eq_false, decide_false, Sparse.find, ih]; split <;> simp_all
    · simp only [List.filter, ne_eq, h, not_false_eq_true, decide_true, Sparse.find, ih]; split <;> split <;> simp_all

/-- Reading after writing: the value written at its key, and every other key as before. -/
theorem Sparse.get_set {α : Type} [DecidableEq α] (d : Nat → α) (m : List (Nat × α)) (a b : Nat) (v : α) :
    Sparse.get d (Sparse.set d m a v) b = if b = a then v else Sparse.get d m b := by
  unfold Sparse.get Sparse.set
  split
  · rw [Sparse.find_erase]; split <;> simp_all
  · rw [Sparse.find_put]; split <;> simp_all

/-- The canonical form as two facts about the list. -/
theorem Sparse.wf_iff {α : Type} [DecidableEq α] (d : Nat → α) (m : List (Nat × α)) :
    Sparse.wf d m = true ↔ m.Pairwise (fun x y => x.1 < y.1) ∧ ∀ x ∈ m, x.2 ≠ d x.1 := by
  induction m with
  | nil => simp [Sparse.wf]
  | cons x m ih =>
    cases m with
    | nil => obtain ⟨a, v⟩ := x; simp [Sparse.wf]
    | cons y m =>
      obtain ⟨a, v⟩ := x
      obtain ⟨b, w⟩ := y
      simp only [Sparse.wf, Bool.and_eq_true, decide_eq_true_eq, ih]
      simp only [List.pairwise_cons, List.mem_cons, forall_eq_or_imp]
      constructor
      · rintro ⟨⟨h1, h2⟩, ⟨h3, h4⟩, h5, h6⟩
        exact ⟨⟨⟨h2, fun x hx => Nat.lt_trans h2 (h3 x hx)⟩, h3, h4⟩, h1, h5, h6⟩
      · rintro ⟨⟨⟨h2, _⟩, h3, h4⟩, h1, h5, h6⟩
        exact ⟨⟨h1, h2⟩, ⟨h3, h4⟩, h5, h6⟩

theorem Sparse.mem_put {α : Type} (m : List (Nat × α)) (a : Nat) (v : α) (x : Nat × α) (h : x ∈ Sparse.put m a v) :
    x = (a, v) ∨ x ∈ m := by
  induction m with
  | nil => simpa [Sparse.put] using h
  | cons y m ih =>
    obtain ⟨k, w⟩ := y
    simp only [Sparse.put] at h
    split at h
    · simpa using h
    · split at h
      · simp only [List.mem_cons] at h ⊢; tauto
      · simp only [List.mem_cons] at h ⊢; rcases h with h | h
        · tauto
        · rcases ih h with h | h <;> tauto

theorem Sparse.put_sorted {α : Type} (m : List (Nat × α)) (a : Nat) (v : α)
    (h : m.Pairwise (fun x y => x.1 < y.1)) : (Sparse.put m a v).Pairwise (fun x y => x.1 < y.1) := by
  induction m with
  | nil => simp [Sparse.put]
  | cons y m ih =>
    obtain ⟨k, w⟩ := y
    simp only [List.pairwise_cons] at h
    simp only [Sparse.put]
    split
    next hk =>
      simp only [List.pairwise_cons, List.mem_cons, forall_eq_or_imp]
      exact ⟨⟨hk, fun x hx => Nat.lt_trans hk (h.1 x hx)⟩, h.1, h.2⟩
    next hk =>
      split
      next he => subst he; exact List.pairwise_cons.mpr ⟨h.1, h.2⟩
      next he =>
        refine List.pairwise_cons.mpr ⟨fun x hx => ?_, ih h.2⟩
        rcases Sparse.mem_put m a v x hx with rfl | hx
        · simp only; omega
        · exact h.1 x hx

/-- A write keeps the canonical form. -/
theorem Sparse.set_wf {α : Type} [DecidableEq α] (d : Nat → α) (m : List (Nat × α)) (a : Nat) (v : α)
    (h : Sparse.wf d m = true) : Sparse.wf d (Sparse.set d m a v) = true := by
  rw [Sparse.wf_iff] at h ⊢
  unfold Sparse.set
  split
  · refine ⟨h.1.sublist List.filter_sublist, fun x hx => h.2 x (List.mem_of_mem_filter hx)⟩
  · refine ⟨Sparse.put_sorted m a v h.1, fun x hx => ?_⟩
    rcases Sparse.mem_put m a v x hx with rfl | hx
    · assumption
    · exact h.2 x hx

end Sys2Proof.Machine
end

