-- ==== Sys2Proof/Laws/State.lean ====
section
/-!
SUPPORT. What each update of the state leaves in each of its fields, and what a register reads as after a store.
-/
namespace Sys2Proof.Machine

@[simp] theorem State.setReg_fields (s : State) (a : Nat) (v : Word) :
    (s.setReg a v).pending = s.pending ∧ (s.setReg a v).dev = s.dev ∧ (s.setReg a v).snaps = s.snaps ∧
    (s.setReg a v).eddyPage = s.eddyPage ∧ (s.setReg a v).eddy = s.eddy ∧ (s.setReg a v).time = s.time ∧
    (s.setReg a v).upUs = s.upUs ∧ (s.setReg a v).fresh = s.fresh ∧ (s.setReg a v).hold = s.hold ∧
    (s.setReg a v).sleep = s.sleep ∧ (s.setReg a v).role = s.role ∧ (s.setReg a v).cfg = s.cfg ∧
    (s.setReg a v).pitch = s.pitch ∧ (s.setReg a v).repitch = s.repitch ∧ (s.setReg a v).ringImg = s.ringImg ∧
    (s.setReg a v).evt = s.evt ∧ (s.setReg a v).streams = s.streams ∧ (s.setReg a v).log = s.log ∧
    (s.setReg a v).mbx = s.mbx ∧ (s.setReg a v).slots = s.slots ∧ (s.setReg a v).mss = s.mss ∧
    (s.setReg a v).flash = s.flash ∧ (s.setReg a v).ember = s.ember ∧ (s.setReg a v).ring = s.ring ∧
    (s.setReg a v).isls = s.isls ∧ (s.setReg a v).chans = s.chans ∧ (s.setReg a v).filts = s.filts ∧
    (s.setReg a v).capts = s.capts ∧ (s.setReg a v).axes = s.axes ∧ (s.setReg a v).leds = s.leds ∧
    (s.setReg a v).iLeds = s.iLeds ∧ (s.setReg a v).sets = s.sets ∧ (s.setReg a v).coefBuf = s.coefBuf ∧
    (s.setReg a v).saf = s.saf ∧ (s.setReg a v).wdg = s.wdg ∧ (s.setReg a v).lpb = s.lpb ∧ (s.setReg a v).ten = s.ten ∧
    (s.setReg a v).spi = s.spi ∧ (s.setReg a v).mod = s.mod ∧ (s.setReg a v).load = s.load ∧ (s.setReg a v).tap = s.tap :=
  ⟨rfl, rfl, rfl, rfl, rfl, rfl, rfl, rfl, rfl, rfl, rfl, rfl, rfl, rfl, rfl, rfl, rfl, rfl, rfl, rfl, rfl, rfl, rfl, rfl, rfl, rfl, rfl, rfl, rfl, rfl, rfl, rfl, rfl, rfl, rfl, rfl, rfl, rfl, rfl, rfl, rfl⟩
@[simp] theorem State.setFld_fields (s : State) (a hi lo v : Nat) :
    (s.setFld a hi lo v).pending = s.pending ∧ (s.setFld a hi lo v).dev = s.dev ∧ (s.setFld a hi lo v).snaps = s.snaps ∧
    (s.setFld a hi lo v).eddyPage = s.eddyPage ∧ (s.setFld a hi lo v).eddy = s.eddy ∧ (s.setFld a hi lo v).time = s.time ∧
    (s.setFld a hi lo v).upUs = s.upUs ∧ (s.setFld a hi lo v).fresh = s.fresh ∧ (s.setFld a hi lo v).hold = s.hold ∧
    (s.setFld a hi lo v).sleep = s.sleep ∧ (s.setFld a hi lo v).role = s.role ∧ (s.setFld a hi lo v).cfg = s.cfg ∧
    (s.setFld a hi lo v).pitch = s.pitch ∧ (s.setFld a hi lo v).repitch = s.repitch ∧
    (s.setFld a hi lo v).ringImg = s.ringImg ∧ (s.setFld a hi lo v).evt = s.evt ∧
    (s.setFld a hi lo v).streams = s.streams ∧ (s.setFld a hi lo v).log = s.log ∧ (s.setFld a hi lo v).mbx = s.mbx ∧
    (s.setFld a hi lo v).slots = s.slots ∧ (s.setFld a hi lo v).mss = s.mss ∧ (s.setFld a hi lo v).flash = s.flash ∧
    (s.setFld a hi lo v).ember = s.ember ∧ (s.setFld a hi lo v).ring = s.ring ∧ (s.setFld a hi lo v).isls = s.isls ∧
    (s.setFld a hi lo v).chans = s.chans ∧ (s.setFld a hi lo v).filts = s.filts ∧ (s.setFld a hi lo v).capts = s.capts ∧
    (s.setFld a hi lo v).axes = s.axes ∧ (s.setFld a hi lo v).leds = s.leds ∧ (s.setFld a hi lo v).iLeds = s.iLeds ∧
    (s.setFld a hi lo v).sets = s.sets ∧ (s.setFld a hi lo v).coefBuf = s.coefBuf ∧ (s.setFld a hi lo v).saf = s.saf ∧
    (s.setFld a hi lo v).wdg = s.wdg ∧ (s.setFld a hi lo v).lpb = s.lpb ∧ (s.setFld a hi lo v).ten = s.ten ∧
    (s.setFld a hi lo v).spi = s.spi ∧ (s.setFld a hi lo v).mod = s.mod ∧ (s.setFld a hi lo v).load = s.load ∧
    (s.setFld a hi lo v).tap = s.tap :=
  ⟨rfl, rfl, rfl, rfl, rfl, rfl, rfl, rfl, rfl, rfl, rfl, rfl, rfl, rfl, rfl, rfl, rfl, rfl, rfl, rfl, rfl, rfl, rfl, rfl, rfl, rfl, rfl, rfl, rfl, rfl, rfl, rfl, rfl, rfl, rfl, rfl, rfl, rfl, rfl, rfl, rfl⟩
@[simp] theorem State.setBit_fields (s : State) (a b : Nat) (v : Bool) :
    (s.setBit a b v).pending = s.pending ∧ (s.setBit a b v).dev = s.dev ∧ (s.setBit a b v).snaps = s.snaps ∧
    (s.setBit a b v).eddyPage = s.eddyPage ∧ (s.setBit a b v).eddy = s.eddy ∧ (s.setBit a b v).time = s.time ∧
    (s.setBit a b v).upUs = s.upUs ∧ (s.setBit a b v).fresh = s.fresh ∧ (s.setBit a b v).hold = s.hold ∧
    (s.setBit a b v).sleep = s.sleep ∧ (s.setBit a b v).role = s.role ∧ (s.setBit a b v).cfg = s.cfg ∧
    (s.setBit a b v).pitch = s.pitch ∧ (s.setBit a b v).repitch = s.repitch ∧ (s.setBit a b v).ringImg = s.ringImg ∧
    (s.setBit a b v).evt = s.evt ∧ (s.setBit a b v).streams = s.streams ∧ (s.setBit a b v).log = s.log ∧
    (s.setBit a b v).mbx = s.mbx ∧ (s.setBit a b v).slots = s.slots ∧ (s.setBit a b v).mss = s.mss ∧
    (s.setBit a b v).flash = s.flash ∧ (s.setBit a b v).ember = s.ember ∧ (s.setBit a b v).ring = s.ring ∧
    (s.setBit a b v).isls = s.isls ∧ (s.setBit a b v).chans = s.chans ∧ (s.setBit a b v).filts = s.filts ∧
    (s.setBit a b v).capts = s.capts ∧ (s.setBit a b v).axes = s.axes ∧ (s.setBit a b v).leds = s.leds ∧
    (s.setBit a b v).iLeds = s.iLeds ∧ (s.setBit a b v).sets = s.sets ∧ (s.setBit a b v).coefBuf = s.coefBuf ∧
    (s.setBit a b v).saf = s.saf ∧ (s.setBit a b v).wdg = s.wdg ∧ (s.setBit a b v).lpb = s.lpb ∧
    (s.setBit a b v).ten = s.ten ∧ (s.setBit a b v).spi = s.spi ∧ (s.setBit a b v).mod = s.mod ∧
    (s.setBit a b v).load = s.load ∧ (s.setBit a b v).tap = s.tap :=
  ⟨rfl, rfl, rfl, rfl, rfl, rfl, rfl, rfl, rfl, rfl, rfl, rfl, rfl, rfl, rfl, rfl, rfl, rfl, rfl, rfl, rfl, rfl, rfl, rfl, rfl, rfl, rfl, rfl, rfl, rfl, rfl, rfl, rfl, rfl, rfl, rfl, rfl, rfl, rfl, rfl, rfl⟩
@[simp] theorem State.bump_fields (s : State) (a : Nat) :
    (s.bump a).pending = s.pending ∧ (s.bump a).dev = s.dev ∧ (s.bump a).snaps = s.snaps ∧
    (s.bump a).eddyPage = s.eddyPage ∧ (s.bump a).eddy = s.eddy ∧ (s.bump a).time = s.time ∧ (s.bump a).upUs = s.upUs ∧
    (s.bump a).fresh = s.fresh ∧ (s.bump a).hold = s.hold ∧ (s.bump a).sleep = s.sleep ∧ (s.bump a).role = s.role ∧
    (s.bump a).cfg = s.cfg ∧ (s.bump a).pitch = s.pitch ∧ (s.bump a).repitch = s.repitch ∧ (s.bump a).ringImg = s.ringImg ∧
    (s.bump a).evt = s.evt ∧ (s.bump a).streams = s.streams ∧ (s.bump a).log = s.log ∧ (s.bump a).mbx = s.mbx ∧
    (s.bump a).slots = s.slots ∧ (s.bump a).mss = s.mss ∧ (s.bump a).flash = s.flash ∧ (s.bump a).ember = s.ember ∧
    (s.bump a).ring = s.ring ∧ (s.bump a).isls = s.isls ∧ (s.bump a).chans = s.chans ∧ (s.bump a).filts = s.filts ∧
    (s.bump a).capts = s.capts ∧ (s.bump a).axes = s.axes ∧ (s.bump a).leds = s.leds ∧ (s.bump a).iLeds = s.iLeds ∧
    (s.bump a).sets = s.sets ∧ (s.bump a).coefBuf = s.coefBuf ∧ (s.bump a).saf = s.saf ∧ (s.bump a).wdg = s.wdg ∧
    (s.bump a).lpb = s.lpb ∧ (s.bump a).ten = s.ten ∧ (s.bump a).spi = s.spi ∧ (s.bump a).mod = s.mod ∧
    (s.bump a).load = s.load ∧ (s.bump a).tap = s.tap :=
  ⟨rfl, rfl, rfl, rfl, rfl, rfl, rfl, rfl, rfl, rfl, rfl, rfl, rfl, rfl, rfl, rfl, rfl, rfl, rfl, rfl, rfl, rfl, rfl, rfl, rfl, rfl, rfl, rfl, rfl, rfl, rfl, rfl, rfl, rfl, rfl, rfl, rfl, rfl, rfl, rfl, rfl⟩
@[simp] theorem State.bumpBy_fields (s : State) (a n : Nat) :
    (s.bumpBy a n).pending = s.pending ∧ (s.bumpBy a n).dev = s.dev ∧ (s.bumpBy a n).snaps = s.snaps ∧
    (s.bumpBy a n).eddyPage = s.eddyPage ∧ (s.bumpBy a n).eddy = s.eddy ∧ (s.bumpBy a n).time = s.time ∧
    (s.bumpBy a n).upUs = s.upUs ∧ (s.bumpBy a n).fresh = s.fresh ∧ (s.bumpBy a n).hold = s.hold ∧
    (s.bumpBy a n).sleep = s.sleep ∧ (s.bumpBy a n).role = s.role ∧ (s.bumpBy a n).cfg = s.cfg ∧
    (s.bumpBy a n).pitch = s.pitch ∧ (s.bumpBy a n).repitch = s.repitch ∧ (s.bumpBy a n).ringImg = s.ringImg ∧
    (s.bumpBy a n).evt = s.evt ∧ (s.bumpBy a n).streams = s.streams ∧ (s.bumpBy a n).log = s.log ∧
    (s.bumpBy a n).mbx = s.mbx ∧ (s.bumpBy a n).slots = s.slots ∧ (s.bumpBy a n).mss = s.mss ∧
    (s.bumpBy a n).flash = s.flash ∧ (s.bumpBy a n).ember = s.ember ∧ (s.bumpBy a n).ring = s.ring ∧
    (s.bumpBy a n).isls = s.isls ∧ (s.bumpBy a n).chans = s.chans ∧ (s.bumpBy a n).filts = s.filts ∧
    (s.bumpBy a n).capts = s.capts ∧ (s.bumpBy a n).axes = s.axes ∧ (s.bumpBy a n).leds = s.leds ∧
    (s.bumpBy a n).iLeds = s.iLeds ∧ (s.bumpBy a n).sets = s.sets ∧ (s.bumpBy a n).coefBuf = s.coefBuf ∧
    (s.bumpBy a n).saf = s.saf ∧ (s.bumpBy a n).wdg = s.wdg ∧ (s.bumpBy a n).lpb = s.lpb ∧ (s.bumpBy a n).ten = s.ten ∧
    (s.bumpBy a n).spi = s.spi ∧ (s.bumpBy a n).mod = s.mod ∧ (s.bumpBy a n).load = s.load ∧ (s.bumpBy a n).tap = s.tap :=
  ⟨rfl, rfl, rfl, rfl, rfl, rfl, rfl, rfl, rfl, rfl, rfl, rfl, rfl, rfl, rfl, rfl, rfl, rfl, rfl, rfl, rfl, rfl, rfl, rfl, rfl, rfl, rfl, rfl, rfl, rfl, rfl, rfl, rfl, rfl, rfl, rfl, rfl, rfl, rfl, rfl, rfl⟩
@[simp] theorem State.bumpFld_fields (s : State) (a hi lo : Nat) :
    (s.bumpFld a hi lo).pending = s.pending ∧ (s.bumpFld a hi lo).dev = s.dev ∧ (s.bumpFld a hi lo).snaps = s.snaps ∧
    (s.bumpFld a hi lo).eddyPage = s.eddyPage ∧ (s.bumpFld a hi lo).eddy = s.eddy ∧ (s.bumpFld a hi lo).time = s.time ∧
    (s.bumpFld a hi lo).upUs = s.upUs ∧ (s.bumpFld a hi lo).fresh = s.fresh ∧ (s.bumpFld a hi lo).hold = s.hold ∧
    (s.bumpFld a hi lo).sleep = s.sleep ∧ (s.bumpFld a hi lo).role = s.role ∧ (s.bumpFld a hi lo).cfg = s.cfg ∧
    (s.bumpFld a hi lo).pitch = s.pitch ∧ (s.bumpFld a hi lo).repitch = s.repitch ∧
    (s.bumpFld a hi lo).ringImg = s.ringImg ∧ (s.bumpFld a hi lo).evt = s.evt ∧ (s.bumpFld a hi lo).streams = s.streams ∧
    (s.bumpFld a hi lo).log = s.log ∧ (s.bumpFld a hi lo).mbx = s.mbx ∧ (s.bumpFld a hi lo).slots = s.slots ∧
    (s.bumpFld a hi lo).mss = s.mss ∧ (s.bumpFld a hi lo).flash = s.flash ∧ (s.bumpFld a hi lo).ember = s.ember ∧
    (s.bumpFld a hi lo).ring = s.ring ∧ (s.bumpFld a hi lo).isls = s.isls ∧ (s.bumpFld a hi lo).chans = s.chans ∧
    (s.bumpFld a hi lo).filts = s.filts ∧ (s.bumpFld a hi lo).capts = s.capts ∧ (s.bumpFld a hi lo).axes = s.axes ∧
    (s.bumpFld a hi lo).leds = s.leds ∧ (s.bumpFld a hi lo).iLeds = s.iLeds ∧ (s.bumpFld a hi lo).sets = s.sets ∧
    (s.bumpFld a hi lo).coefBuf = s.coefBuf ∧ (s.bumpFld a hi lo).saf = s.saf ∧ (s.bumpFld a hi lo).wdg = s.wdg ∧
    (s.bumpFld a hi lo).lpb = s.lpb ∧ (s.bumpFld a hi lo).ten = s.ten ∧ (s.bumpFld a hi lo).spi = s.spi ∧
    (s.bumpFld a hi lo).mod = s.mod ∧ (s.bumpFld a hi lo).load = s.load ∧ (s.bumpFld a hi lo).tap = s.tap :=
  ⟨rfl, rfl, rfl, rfl, rfl, rfl, rfl, rfl, rfl, rfl, rfl, rfl, rfl, rfl, rfl, rfl, rfl, rfl, rfl, rfl, rfl, rfl, rfl, rfl, rfl, rfl, rfl, rfl, rfl, rfl, rfl, rfl, rfl, rfl, rfl, rfl, rfl, rfl, rfl, rfl, rfl⟩
@[simp] theorem State.setTime_fields (s : State) (a : Nat) (t : RingTime) :
    (s.setTime a t).pending = s.pending ∧ (s.setTime a t).dev = s.dev ∧ (s.setTime a t).snaps = s.snaps ∧
    (s.setTime a t).eddyPage = s.eddyPage ∧ (s.setTime a t).eddy = s.eddy ∧ (s.setTime a t).time = s.time ∧
    (s.setTime a t).upUs = s.upUs ∧ (s.setTime a t).fresh = s.fresh ∧ (s.setTime a t).hold = s.hold ∧
    (s.setTime a t).sleep = s.sleep ∧ (s.setTime a t).role = s.role ∧ (s.setTime a t).cfg = s.cfg ∧
    (s.setTime a t).pitch = s.pitch ∧ (s.setTime a t).repitch = s.repitch ∧ (s.setTime a t).ringImg = s.ringImg ∧
    (s.setTime a t).evt = s.evt ∧ (s.setTime a t).streams = s.streams ∧ (s.setTime a t).log = s.log ∧
    (s.setTime a t).mbx = s.mbx ∧ (s.setTime a t).slots = s.slots ∧ (s.setTime a t).mss = s.mss ∧
    (s.setTime a t).flash = s.flash ∧ (s.setTime a t).ember = s.ember ∧ (s.setTime a t).ring = s.ring ∧
    (s.setTime a t).isls = s.isls ∧ (s.setTime a t).chans = s.chans ∧ (s.setTime a t).filts = s.filts ∧
    (s.setTime a t).capts = s.capts ∧ (s.setTime a t).axes = s.axes ∧ (s.setTime a t).leds = s.leds ∧
    (s.setTime a t).iLeds = s.iLeds ∧ (s.setTime a t).sets = s.sets ∧ (s.setTime a t).coefBuf = s.coefBuf ∧
    (s.setTime a t).saf = s.saf ∧ (s.setTime a t).wdg = s.wdg ∧ (s.setTime a t).lpb = s.lpb ∧ (s.setTime a t).ten = s.ten ∧
    (s.setTime a t).spi = s.spi ∧ (s.setTime a t).mod = s.mod ∧ (s.setTime a t).load = s.load ∧ (s.setTime a t).tap = s.tap :=
  ⟨rfl, rfl, rfl, rfl, rfl, rfl, rfl, rfl, rfl, rfl, rfl, rfl, rfl, rfl, rfl, rfl, rfl, rfl, rfl, rfl, rfl, rfl, rfl, rfl, rfl, rfl, rfl, rfl, rfl, rfl, rfl, rfl, rfl, rfl, rfl, rfl, rfl, rfl, rfl, rfl, rfl⟩
@[simp] theorem State.setEddy_fields (s : State) (a : Nat) (w : Word) :
    (s.setEddy a w).pending = s.pending ∧ (s.setEddy a w).dev = s.dev ∧ (s.setEddy a w).regs = s.regs ∧
    (s.setEddy a w).snaps = s.snaps ∧ (s.setEddy a w).eddyPage = s.eddyPage ∧ (s.setEddy a w).time = s.time ∧
    (s.setEddy a w).upUs = s.upUs ∧ (s.setEddy a w).fresh = s.fresh ∧ (s.setEddy a w).hold = s.hold ∧
    (s.setEddy a w).sleep = s.sleep ∧ (s.setEddy a w).role = s.role ∧ (s.setEddy a w).cfg = s.cfg ∧
    (s.setEddy a w).pitch = s.pitch ∧ (s.setEddy a w).repitch = s.repitch ∧ (s.setEddy a w).ringImg = s.ringImg ∧
    (s.setEddy a w).evt = s.evt ∧ (s.setEddy a w).streams = s.streams ∧ (s.setEddy a w).log = s.log ∧
    (s.setEddy a w).mbx = s.mbx ∧ (s.setEddy a w).slots = s.slots ∧ (s.setEddy a w).mss = s.mss ∧
    (s.setEddy a w).flash = s.flash ∧ (s.setEddy a w).ember = s.ember ∧ (s.setEddy a w).ring = s.ring ∧
    (s.setEddy a w).isls = s.isls ∧ (s.setEddy a w).chans = s.chans ∧ (s.setEddy a w).filts = s.filts ∧
    (s.setEddy a w).capts = s.capts ∧ (s.setEddy a w).axes = s.axes ∧ (s.setEddy a w).leds = s.leds ∧
    (s.setEddy a w).iLeds = s.iLeds ∧ (s.setEddy a w).sets = s.sets ∧ (s.setEddy a w).coefBuf = s.coefBuf ∧
    (s.setEddy a w).saf = s.saf ∧ (s.setEddy a w).wdg = s.wdg ∧ (s.setEddy a w).lpb = s.lpb ∧ (s.setEddy a w).ten = s.ten ∧
    (s.setEddy a w).spi = s.spi ∧ (s.setEddy a w).mod = s.mod ∧ (s.setEddy a w).load = s.load ∧ (s.setEddy a w).tap = s.tap :=
  ⟨rfl, rfl, rfl, rfl, rfl, rfl, rfl, rfl, rfl, rfl, rfl, rfl, rfl, rfl, rfl, rfl, rfl, rfl, rfl, rfl, rfl, rfl, rfl, rfl, rfl, rfl, rfl, rfl, rfl, rfl, rfl, rfl, rfl, rfl, rfl, rfl, rfl, rfl, rfl, rfl, rfl⟩
@[simp] theorem State.setEddy_reg (s : State) (a : Nat) (w : Word) (x : Nat) : (s.setEddy a w).reg x = s.reg x := rfl
@[simp] theorem State.setEddy_fld (s : State) (a : Nat) (w : Word) (x hi lo : Nat) : (s.setEddy a w).fld x hi lo = s.fld x hi lo := rfl
@[simp] theorem State.setEddy_bit (s : State) (a : Nat) (w : Word) (x b : Nat) : (s.setEddy a w).bit x b = s.bit x b := rfl
@[simp] theorem State.deficit_fields (s : State) (b : Nat) :
    (s.deficit b).pending = s.pending ∧ (s.deficit b).dev = s.dev ∧ (s.deficit b).regs = s.regs ∧
    (s.deficit b).snaps = s.snaps ∧ (s.deficit b).eddyPage = s.eddyPage ∧ (s.deficit b).eddy = s.eddy ∧
    (s.deficit b).time = s.time ∧ (s.deficit b).upUs = s.upUs ∧ (s.deficit b).fresh = s.fresh ∧
    (s.deficit b).hold = s.hold ∧ (s.deficit b).sleep = s.sleep ∧ (s.deficit b).role = s.role ∧ (s.deficit b).cfg = s.cfg ∧
    (s.deficit b).pitch = s.pitch ∧ (s.deficit b).repitch = s.repitch ∧ (s.deficit b).ringImg = s.ringImg ∧
    (s.deficit b).evt = s.evt ∧ (s.deficit b).streams = s.streams ∧ (s.deficit b).log = s.log ∧ (s.deficit b).mbx = s.mbx ∧
    (s.deficit b).slots = s.slots ∧ (s.deficit b).mss = s.mss ∧ (s.deficit b).flash = s.flash ∧
    (s.deficit b).ember = s.ember ∧ (s.deficit b).ring = s.ring ∧ (s.deficit b).isls = s.isls ∧
    (s.deficit b).chans = s.chans ∧ (s.deficit b).filts = s.filts ∧ (s.deficit b).capts = s.capts ∧
    (s.deficit b).axes = s.axes ∧ (s.deficit b).leds = s.leds ∧ (s.deficit b).iLeds = s.iLeds ∧
    (s.deficit b).sets = s.sets ∧ (s.deficit b).coefBuf = s.coefBuf ∧ (s.deficit b).saf = s.saf ∧
    (s.deficit b).wdg = s.wdg ∧ (s.deficit b).lpb = s.lpb ∧ (s.deficit b).ten = s.ten ∧ (s.deficit b).spi = s.spi ∧
    (s.deficit b).mod = s.mod ∧ (s.deficit b).tap = s.tap :=
  ⟨rfl, rfl, rfl, rfl, rfl, rfl, rfl, rfl, rfl, rfl, rfl, rfl, rfl, rfl, rfl, rfl, rfl, rfl, rfl, rfl, rfl, rfl, rfl, rfl, rfl, rfl, rfl, rfl, rfl, rfl, rfl, rfl, rfl, rfl, rfl, rfl, rfl, rfl, rfl, rfl, rfl⟩
@[simp] theorem State.deficit_reg (s : State) (n : Nat) (x : Nat) : (s.deficit n).reg x = s.reg x := rfl
@[simp] theorem State.deficit_fld (s : State) (n : Nat) (x hi lo : Nat) : (s.deficit n).fld x hi lo = s.fld x hi lo := rfl
@[simp] theorem State.deficit_bit (s : State) (n : Nat) (x b : Nat) : (s.deficit n).bit x b = s.bit x b := rfl
@[simp] theorem State.setIsl_fields (s : State) (i : Fin 8) (f : Isl → Isl) :
    (s.setIsl i f).pending = s.pending ∧ (s.setIsl i f).dev = s.dev ∧ (s.setIsl i f).regs = s.regs ∧
    (s.setIsl i f).snaps = s.snaps ∧ (s.setIsl i f).eddyPage = s.eddyPage ∧ (s.setIsl i f).eddy = s.eddy ∧
    (s.setIsl i f).time = s.time ∧ (s.setIsl i f).upUs = s.upUs ∧ (s.setIsl i f).fresh = s.fresh ∧
    (s.setIsl i f).hold = s.hold ∧ (s.setIsl i f).sleep = s.sleep ∧ (s.setIsl i f).role = s.role ∧
    (s.setIsl i f).cfg = s.cfg ∧ (s.setIsl i f).pitch = s.pitch ∧ (s.setIsl i f).repitch = s.repitch ∧
    (s.setIsl i f).ringImg = s.ringImg ∧ (s.setIsl i f).evt = s.evt ∧ (s.setIsl i f).streams = s.streams ∧
    (s.setIsl i f).log = s.log ∧ (s.setIsl i f).mbx = s.mbx ∧ (s.setIsl i f).slots = s.slots ∧ (s.setIsl i f).mss = s.mss ∧
    (s.setIsl i f).flash = s.flash ∧ (s.setIsl i f).ember = s.ember ∧ (s.setIsl i f).ring = s.ring ∧
    (s.setIsl i f).chans = s.chans ∧ (s.setIsl i f).filts = s.filts ∧ (s.setIsl i f).capts = s.capts ∧
    (s.setIsl i f).axes = s.axes ∧ (s.setIsl i f).leds = s.leds ∧ (s.setIsl i f).iLeds = s.iLeds ∧
    (s.setIsl i f).sets = s.sets ∧ (s.setIsl i f).coefBuf = s.coefBuf ∧ (s.setIsl i f).saf = s.saf ∧
    (s.setIsl i f).wdg = s.wdg ∧ (s.setIsl i f).lpb = s.lpb ∧ (s.setIsl i f).ten = s.ten ∧ (s.setIsl i f).spi = s.spi ∧
    (s.setIsl i f).mod = s.mod ∧ (s.setIsl i f).load = s.load ∧ (s.setIsl i f).tap = s.tap ∧
    (s.setIsl i f).isls = updV s.isls i f :=
  ⟨rfl, rfl, rfl, rfl, rfl, rfl, rfl, rfl, rfl, rfl, rfl, rfl, rfl, rfl, rfl, rfl, rfl, rfl, rfl, rfl, rfl, rfl, rfl, rfl, rfl, rfl, rfl, rfl, rfl, rfl, rfl, rfl, rfl, rfl, rfl, rfl, rfl, rfl, rfl, rfl, rfl, rfl⟩
@[simp] theorem State.setIsl_reg (s : State) (i : Fin 8) (f : Isl → Isl) (x : Nat) : (s.setIsl i f).reg x = s.reg x := rfl
@[simp] theorem State.setIsl_fld (s : State) (i : Fin 8) (f : Isl → Isl) (x hi lo : Nat) : (s.setIsl i f).fld x hi lo = s.fld x hi lo := rfl
@[simp] theorem State.setIsl_bit (s : State) (i : Fin 8) (f : Isl → Isl) (x b : Nat) : (s.setIsl i f).bit x b = s.bit x b := rfl
@[simp] theorem State.setCell_fields (s : State) (c : Fin 32) (f : Cell → Cell) :
    (s.setCell c f).pending = s.pending ∧ (s.setCell c f).dev = s.dev ∧ (s.setCell c f).regs = s.regs ∧
    (s.setCell c f).snaps = s.snaps ∧ (s.setCell c f).eddyPage = s.eddyPage ∧ (s.setCell c f).eddy = s.eddy ∧
    (s.setCell c f).time = s.time ∧ (s.setCell c f).upUs = s.upUs ∧ (s.setCell c f).fresh = s.fresh ∧
    (s.setCell c f).hold = s.hold ∧ (s.setCell c f).sleep = s.sleep ∧ (s.setCell c f).role = s.role ∧
    (s.setCell c f).cfg = s.cfg ∧ (s.setCell c f).pitch = s.pitch ∧ (s.setCell c f).repitch = s.repitch ∧
    (s.setCell c f).ringImg = s.ringImg ∧ (s.setCell c f).evt = s.evt ∧ (s.setCell c f).streams = s.streams ∧
    (s.setCell c f).log = s.log ∧ (s.setCell c f).mbx = s.mbx ∧ (s.setCell c f).slots = s.slots ∧
    (s.setCell c f).mss = s.mss ∧ (s.setCell c f).flash = s.flash ∧ (s.setCell c f).ember = s.ember ∧
    (s.setCell c f).ring = s.ring ∧ (s.setCell c f).chans = s.chans ∧ (s.setCell c f).filts = s.filts ∧
    (s.setCell c f).capts = s.capts ∧ (s.setCell c f).axes = s.axes ∧ (s.setCell c f).leds = s.leds ∧
    (s.setCell c f).iLeds = s.iLeds ∧ (s.setCell c f).sets = s.sets ∧ (s.setCell c f).coefBuf = s.coefBuf ∧
    (s.setCell c f).saf = s.saf ∧ (s.setCell c f).wdg = s.wdg ∧ (s.setCell c f).lpb = s.lpb ∧ (s.setCell c f).ten = s.ten ∧
    (s.setCell c f).spi = s.spi ∧ (s.setCell c f).mod = s.mod ∧ (s.setCell c f).load = s.load ∧ (s.setCell c f).tap = s.tap :=
  ⟨rfl, rfl, rfl, rfl, rfl, rfl, rfl, rfl, rfl, rfl, rfl, rfl, rfl, rfl, rfl, rfl, rfl, rfl, rfl, rfl, rfl, rfl, rfl, rfl, rfl, rfl, rfl, rfl, rfl, rfl, rfl, rfl, rfl, rfl, rfl, rfl, rfl, rfl, rfl, rfl, rfl⟩
@[simp] theorem State.setCell_reg (s : State) (c : Fin 32) (f : Cell → Cell) (x : Nat) : (s.setCell c f).reg x = s.reg x := rfl
@[simp] theorem State.setCell_fld (s : State) (c : Fin 32) (f : Cell → Cell) (x hi lo : Nat) : (s.setCell c f).fld x hi lo = s.fld x hi lo := rfl
@[simp] theorem State.setCell_bit (s : State) (c : Fin 32) (f : Cell → Cell) (x b : Nat) : (s.setCell c f).bit x b = s.bit x b := rfl
@[simp] theorem State.setChan_fields (s : State) (c : Fin 32) (f : Chan → Chan) :
    (s.setChan c f).pending = s.pending ∧ (s.setChan c f).dev = s.dev ∧ (s.setChan c f).regs = s.regs ∧
    (s.setChan c f).snaps = s.snaps ∧ (s.setChan c f).eddyPage = s.eddyPage ∧ (s.setChan c f).eddy = s.eddy ∧
    (s.setChan c f).time = s.time ∧ (s.setChan c f).upUs = s.upUs ∧ (s.setChan c f).fresh = s.fresh ∧
    (s.setChan c f).hold = s.hold ∧ (s.setChan c f).sleep = s.sleep ∧ (s.setChan c f).role = s.role ∧
    (s.setChan c f).cfg = s.cfg ∧ (s.setChan c f).pitch = s.pitch ∧ (s.setChan c f).repitch = s.repitch ∧
    (s.setChan c f).ringImg = s.ringImg ∧ (s.setChan c f).evt = s.evt ∧ (s.setChan c f).streams = s.streams ∧
    (s.setChan c f).log = s.log ∧ (s.setChan c f).mbx = s.mbx ∧ (s.setChan c f).slots = s.slots ∧
    (s.setChan c f).mss = s.mss ∧ (s.setChan c f).flash = s.flash ∧ (s.setChan c f).ember = s.ember ∧
    (s.setChan c f).ring = s.ring ∧ (s.setChan c f).isls = s.isls ∧ (s.setChan c f).filts = s.filts ∧
    (s.setChan c f).capts = s.capts ∧ (s.setChan c f).axes = s.axes ∧ (s.setChan c f).leds = s.leds ∧
    (s.setChan c f).iLeds = s.iLeds ∧ (s.setChan c f).sets = s.sets ∧ (s.setChan c f).coefBuf = s.coefBuf ∧
    (s.setChan c f).saf = s.saf ∧ (s.setChan c f).wdg = s.wdg ∧ (s.setChan c f).lpb = s.lpb ∧ (s.setChan c f).ten = s.ten ∧
    (s.setChan c f).spi = s.spi ∧ (s.setChan c f).mod = s.mod ∧ (s.setChan c f).load = s.load ∧
    (s.setChan c f).tap = s.tap ∧ (s.setChan c f).chans = updV s.chans c f :=
  ⟨rfl, rfl, rfl, rfl, rfl, rfl, rfl, rfl, rfl, rfl, rfl, rfl, rfl, rfl, rfl, rfl, rfl, rfl, rfl, rfl, rfl, rfl, rfl, rfl, rfl, rfl, rfl, rfl, rfl, rfl, rfl, rfl, rfl, rfl, rfl, rfl, rfl, rfl, rfl, rfl, rfl, rfl⟩
@[simp] theorem State.setChan_reg (s : State) (c : Fin 32) (f : Chan → Chan) (x : Nat) : (s.setChan c f).reg x = s.reg x := rfl
@[simp] theorem State.setChan_fld (s : State) (c : Fin 32) (f : Chan → Chan) (x hi lo : Nat) : (s.setChan c f).fld x hi lo = s.fld x hi lo := rfl
@[simp] theorem State.setChan_bit (s : State) (c : Fin 32) (f : Chan → Chan) (x b : Nat) : (s.setChan c f).bit x b = s.bit x b := rfl
@[simp] theorem State.setFilt_fields (s : State) (c : Fin 32) (f : Filt → Filt) :
    (s.setFilt c f).pending = s.pending ∧ (s.setFilt c f).dev = s.dev ∧ (s.setFilt c f).regs = s.regs ∧
    (s.setFilt c f).snaps = s.snaps ∧ (s.setFilt c f).eddyPage = s.eddyPage ∧ (s.setFilt c f).eddy = s.eddy ∧
    (s.setFilt c f).time = s.time ∧ (s.setFilt c f).upUs = s.upUs ∧ (s.setFilt c f).fresh = s.fresh ∧
    (s.setFilt c f).hold = s.hold ∧ (s.setFilt c f).sleep = s.sleep ∧ (s.setFilt c f).role = s.role ∧
    (s.setFilt c f).cfg = s.cfg ∧ (s.setFilt c f).pitch = s.pitch ∧ (s.setFilt c f).repitch = s.repitch ∧
    (s.setFilt c f).ringImg = s.ringImg ∧ (s.setFilt c f).evt = s.evt ∧ (s.setFilt c f).streams = s.streams ∧
    (s.setFilt c f).log = s.log ∧ (s.setFilt c f).mbx = s.mbx ∧ (s.setFilt c f).slots = s.slots ∧
    (s.setFilt c f).mss = s.mss ∧ (s.setFilt c f).flash = s.flash ∧ (s.setFilt c f).ember = s.ember ∧
    (s.setFilt c f).ring = s.ring ∧ (s.setFilt c f).isls = s.isls ∧ (s.setFilt c f).chans = s.chans ∧
    (s.setFilt c f).capts = s.capts ∧ (s.setFilt c f).axes = s.axes ∧ (s.setFilt c f).leds = s.leds ∧
    (s.setFilt c f).iLeds = s.iLeds ∧ (s.setFilt c f).sets = s.sets ∧ (s.setFilt c f).coefBuf = s.coefBuf ∧
    (s.setFilt c f).saf = s.saf ∧ (s.setFilt c f).wdg = s.wdg ∧ (s.setFilt c f).lpb = s.lpb ∧ (s.setFilt c f).ten = s.ten ∧
    (s.setFilt c f).spi = s.spi ∧ (s.setFilt c f).mod = s.mod ∧ (s.setFilt c f).load = s.load ∧
    (s.setFilt c f).tap = s.tap ∧ (s.setFilt c f).filts = updV s.filts c f :=
  ⟨rfl, rfl, rfl, rfl, rfl, rfl, rfl, rfl, rfl, rfl, rfl, rfl, rfl, rfl, rfl, rfl, rfl, rfl, rfl, rfl, rfl, rfl, rfl, rfl, rfl, rfl, rfl, rfl, rfl, rfl, rfl, rfl, rfl, rfl, rfl, rfl, rfl, rfl, rfl, rfl, rfl, rfl⟩
@[simp] theorem State.setFilt_reg (s : State) (c : Fin 32) (f : Filt → Filt) (x : Nat) : (s.setFilt c f).reg x = s.reg x := rfl
@[simp] theorem State.setFilt_fld (s : State) (c : Fin 32) (f : Filt → Filt) (x hi lo : Nat) : (s.setFilt c f).fld x hi lo = s.fld x hi lo := rfl
@[simp] theorem State.setFilt_bit (s : State) (c : Fin 32) (f : Filt → Filt) (x b : Nat) : (s.setFilt c f).bit x b = s.bit x b := rfl
@[simp] theorem State.setAxis_fields (s : State) (a : Fin 8) (f : Axis → Axis) :
    (s.setAxis a f).pending = s.pending ∧ (s.setAxis a f).dev = s.dev ∧ (s.setAxis a f).regs = s.regs ∧
    (s.setAxis a f).snaps = s.snaps ∧ (s.setAxis a f).eddyPage = s.eddyPage ∧ (s.setAxis a f).eddy = s.eddy ∧
    (s.setAxis a f).time = s.time ∧ (s.setAxis a f).upUs = s.upUs ∧ (s.setAxis a f).fresh = s.fresh ∧
    (s.setAxis a f).hold = s.hold ∧ (s.setAxis a f).sleep = s.sleep ∧ (s.setAxis a f).role = s.role ∧
    (s.setAxis a f).cfg = s.cfg ∧ (s.setAxis a f).pitch = s.pitch ∧ (s.setAxis a f).repitch = s.repitch ∧
    (s.setAxis a f).ringImg = s.ringImg ∧ (s.setAxis a f).evt = s.evt ∧ (s.setAxis a f).streams = s.streams ∧
    (s.setAxis a f).log = s.log ∧ (s.setAxis a f).mbx = s.mbx ∧ (s.setAxis a f).slots = s.slots ∧
    (s.setAxis a f).mss = s.mss ∧ (s.setAxis a f).flash = s.flash ∧ (s.setAxis a f).ember = s.ember ∧
    (s.setAxis a f).ring = s.ring ∧ (s.setAxis a f).isls = s.isls ∧ (s.setAxis a f).chans = s.chans ∧
    (s.setAxis a f).filts = s.filts ∧ (s.setAxis a f).capts = s.capts ∧ (s.setAxis a f).leds = s.leds ∧
    (s.setAxis a f).iLeds = s.iLeds ∧ (s.setAxis a f).sets = s.sets ∧ (s.setAxis a f).coefBuf = s.coefBuf ∧
    (s.setAxis a f).saf = s.saf ∧ (s.setAxis a f).wdg = s.wdg ∧ (s.setAxis a f).lpb = s.lpb ∧ (s.setAxis a f).ten = s.ten ∧
    (s.setAxis a f).spi = s.spi ∧ (s.setAxis a f).mod = s.mod ∧ (s.setAxis a f).load = s.load ∧
    (s.setAxis a f).tap = s.tap ∧ (s.setAxis a f).axes = updV s.axes a f :=
  ⟨rfl, rfl, rfl, rfl, rfl, rfl, rfl, rfl, rfl, rfl, rfl, rfl, rfl, rfl, rfl, rfl, rfl, rfl, rfl, rfl, rfl, rfl, rfl, rfl, rfl, rfl, rfl, rfl, rfl, rfl, rfl, rfl, rfl, rfl, rfl, rfl, rfl, rfl, rfl, rfl, rfl, rfl⟩
@[simp] theorem State.setAxis_reg (s : State) (a : Fin 8) (f : Axis → Axis) (x : Nat) : (s.setAxis a f).reg x = s.reg x := rfl
@[simp] theorem State.setAxis_fld (s : State) (a : Fin 8) (f : Axis → Axis) (x hi lo : Nat) : (s.setAxis a f).fld x hi lo = s.fld x hi lo := rfl
@[simp] theorem State.setAxis_bit (s : State) (a : Fin 8) (f : Axis → Axis) (x b : Nat) : (s.setAxis a f).bit x b = s.bit x b := rfl
@[simp] theorem State.setLed_fields (s : State) (c : Fin 32) (f : Led → Led) :
    (s.setLed c f).pending = s.pending ∧ (s.setLed c f).dev = s.dev ∧ (s.setLed c f).regs = s.regs ∧
    (s.setLed c f).snaps = s.snaps ∧ (s.setLed c f).eddyPage = s.eddyPage ∧ (s.setLed c f).eddy = s.eddy ∧
    (s.setLed c f).time = s.time ∧ (s.setLed c f).upUs = s.upUs ∧ (s.setLed c f).fresh = s.fresh ∧
    (s.setLed c f).hold = s.hold ∧ (s.setLed c f).sleep = s.sleep ∧ (s.setLed c f).role = s.role ∧
    (s.setLed c f).cfg = s.cfg ∧ (s.setLed c f).pitch = s.pitch ∧ (s.setLed c f).repitch = s.repitch ∧
    (s.setLed c f).ringImg = s.ringImg ∧ (s.setLed c f).evt = s.evt ∧ (s.setLed c f).streams = s.streams ∧
    (s.setLed c f).log = s.log ∧ (s.setLed c f).mbx = s.mbx ∧ (s.setLed c f).slots = s.slots ∧ (s.setLed c f).mss = s.mss ∧
    (s.setLed c f).flash = s.flash ∧ (s.setLed c f).ember = s.ember ∧ (s.setLed c f).ring = s.ring ∧
    (s.setLed c f).isls = s.isls ∧ (s.setLed c f).chans = s.chans ∧ (s.setLed c f).filts = s.filts ∧
    (s.setLed c f).capts = s.capts ∧ (s.setLed c f).axes = s.axes ∧ (s.setLed c f).iLeds = s.iLeds ∧
    (s.setLed c f).sets = s.sets ∧ (s.setLed c f).coefBuf = s.coefBuf ∧ (s.setLed c f).saf = s.saf ∧
    (s.setLed c f).wdg = s.wdg ∧ (s.setLed c f).lpb = s.lpb ∧ (s.setLed c f).ten = s.ten ∧ (s.setLed c f).spi = s.spi ∧
    (s.setLed c f).mod = s.mod ∧ (s.setLed c f).load = s.load ∧ (s.setLed c f).tap = s.tap ∧
    (s.setLed c f).leds = updV s.leds c f :=
  ⟨rfl, rfl, rfl, rfl, rfl, rfl, rfl, rfl, rfl, rfl, rfl, rfl, rfl, rfl, rfl, rfl, rfl, rfl, rfl, rfl, rfl, rfl, rfl, rfl, rfl, rfl, rfl, rfl, rfl, rfl, rfl, rfl, rfl, rfl, rfl, rfl, rfl, rfl, rfl, rfl, rfl, rfl⟩
@[simp] theorem State.setLed_reg (s : State) (c : Fin 32) (f : Led → Led) (x : Nat) : (s.setLed c f).reg x = s.reg x := rfl
@[simp] theorem State.setLed_fld (s : State) (c : Fin 32) (f : Led → Led) (x hi lo : Nat) : (s.setLed c f).fld x hi lo = s.fld x hi lo := rfl
@[simp] theorem State.setLed_bit (s : State) (c : Fin 32) (f : Led → Led) (x b : Nat) : (s.setLed c f).bit x b = s.bit x b := rfl
@[simp] theorem State.setILed_fields (s : State) (i : Fin 8) (f : Led → Led) :
    (s.setILed i f).pending = s.pending ∧ (s.setILed i f).dev = s.dev ∧ (s.setILed i f).regs = s.regs ∧
    (s.setILed i f).snaps = s.snaps ∧ (s.setILed i f).eddyPage = s.eddyPage ∧ (s.setILed i f).eddy = s.eddy ∧
    (s.setILed i f).time = s.time ∧ (s.setILed i f).upUs = s.upUs ∧ (s.setILed i f).fresh = s.fresh ∧
    (s.setILed i f).hold = s.hold ∧ (s.setILed i f).sleep = s.sleep ∧ (s.setILed i f).role = s.role ∧
    (s.setILed i f).cfg = s.cfg ∧ (s.setILed i f).pitch = s.pitch ∧ (s.setILed i f).repitch = s.repitch ∧
    (s.setILed i f).ringImg = s.ringImg ∧ (s.setILed i f).evt = s.evt ∧ (s.setILed i f).streams = s.streams ∧
    (s.setILed i f).log = s.log ∧ (s.setILed i f).mbx = s.mbx ∧ (s.setILed i f).slots = s.slots ∧
    (s.setILed i f).mss = s.mss ∧ (s.setILed i f).flash = s.flash ∧ (s.setILed i f).ember = s.ember ∧
    (s.setILed i f).ring = s.ring ∧ (s.setILed i f).isls = s.isls ∧ (s.setILed i f).chans = s.chans ∧
    (s.setILed i f).filts = s.filts ∧ (s.setILed i f).capts = s.capts ∧ (s.setILed i f).axes = s.axes ∧
    (s.setILed i f).leds = s.leds ∧ (s.setILed i f).sets = s.sets ∧ (s.setILed i f).coefBuf = s.coefBuf ∧
    (s.setILed i f).saf = s.saf ∧ (s.setILed i f).wdg = s.wdg ∧ (s.setILed i f).lpb = s.lpb ∧ (s.setILed i f).ten = s.ten ∧
    (s.setILed i f).spi = s.spi ∧ (s.setILed i f).mod = s.mod ∧ (s.setILed i f).load = s.load ∧
    (s.setILed i f).tap = s.tap ∧ (s.setILed i f).iLeds = updV s.iLeds i f :=
  ⟨rfl, rfl, rfl, rfl, rfl, rfl, rfl, rfl, rfl, rfl, rfl, rfl, rfl, rfl, rfl, rfl, rfl, rfl, rfl, rfl, rfl, rfl, rfl, rfl, rfl, rfl, rfl, rfl, rfl, rfl, rfl, rfl, rfl, rfl, rfl, rfl, rfl, rfl, rfl, rfl, rfl, rfl⟩
@[simp] theorem State.setILed_reg (s : State) (i : Fin 8) (f : Led → Led) (x : Nat) : (s.setILed i f).reg x = s.reg x := rfl
@[simp] theorem State.setILed_fld (s : State) (i : Fin 8) (f : Led → Led) (x hi lo : Nat) : (s.setILed i f).fld x hi lo = s.fld x hi lo := rfl
@[simp] theorem State.setILed_bit (s : State) (i : Fin 8) (f : Led → Led) (x b : Nat) : (s.setILed i f).bit x b = s.bit x b := rfl
@[simp] theorem State.setCapt_fields (s : State) (q : Fin 16) (f : Capt → Capt) :
    (s.setCapt q f).pending = s.pending ∧ (s.setCapt q f).dev = s.dev ∧ (s.setCapt q f).regs = s.regs ∧
    (s.setCapt q f).snaps = s.snaps ∧ (s.setCapt q f).eddyPage = s.eddyPage ∧ (s.setCapt q f).eddy = s.eddy ∧
    (s.setCapt q f).time = s.time ∧ (s.setCapt q f).upUs = s.upUs ∧ (s.setCapt q f).fresh = s.fresh ∧
    (s.setCapt q f).hold = s.hold ∧ (s.setCapt q f).sleep = s.sleep ∧ (s.setCapt q f).role = s.role ∧
    (s.setCapt q f).cfg = s.cfg ∧ (s.setCapt q f).pitch = s.pitch ∧ (s.setCapt q f).repitch = s.repitch ∧
    (s.setCapt q f).ringImg = s.ringImg ∧ (s.setCapt q f).evt = s.evt ∧ (s.setCapt q f).streams = s.streams ∧
    (s.setCapt q f).log = s.log ∧ (s.setCapt q f).mbx = s.mbx ∧ (s.setCapt q f).slots = s.slots ∧
    (s.setCapt q f).mss = s.mss ∧ (s.setCapt q f).flash = s.flash ∧ (s.setCapt q f).ember = s.ember ∧
    (s.setCapt q f).ring = s.ring ∧ (s.setCapt q f).isls = s.isls ∧ (s.setCapt q f).chans = s.chans ∧
    (s.setCapt q f).filts = s.filts ∧ (s.setCapt q f).axes = s.axes ∧ (s.setCapt q f).leds = s.leds ∧
    (s.setCapt q f).iLeds = s.iLeds ∧ (s.setCapt q f).sets = s.sets ∧ (s.setCapt q f).coefBuf = s.coefBuf ∧
    (s.setCapt q f).saf = s.saf ∧ (s.setCapt q f).wdg = s.wdg ∧ (s.setCapt q f).lpb = s.lpb ∧ (s.setCapt q f).ten = s.ten ∧
    (s.setCapt q f).spi = s.spi ∧ (s.setCapt q f).mod = s.mod ∧ (s.setCapt q f).load = s.load ∧
    (s.setCapt q f).tap = s.tap ∧ (s.setCapt q f).capts = updV s.capts q f :=
  ⟨rfl, rfl, rfl, rfl, rfl, rfl, rfl, rfl, rfl, rfl, rfl, rfl, rfl, rfl, rfl, rfl, rfl, rfl, rfl, rfl, rfl, rfl, rfl, rfl, rfl, rfl, rfl, rfl, rfl, rfl, rfl, rfl, rfl, rfl, rfl, rfl, rfl, rfl, rfl, rfl, rfl, rfl⟩
@[simp] theorem State.setCapt_reg (s : State) (q : Fin 16) (f : Capt → Capt) (x : Nat) : (s.setCapt q f).reg x = s.reg x := rfl
@[simp] theorem State.setCapt_fld (s : State) (q : Fin 16) (f : Capt → Capt) (x hi lo : Nat) : (s.setCapt q f).fld x hi lo = s.fld x hi lo := rfl
@[simp] theorem State.setCapt_bit (s : State) (q : Fin 16) (f : Capt → Capt) (x b : Nat) : (s.setCapt q f).bit x b = s.bit x b := rfl
@[simp] theorem State.setStream_fields (s : State) (k : Fin 8) (f : Stream → Stream) :
    (s.setStream k f).pending = s.pending ∧ (s.setStream k f).dev = s.dev ∧ (s.setStream k f).regs = s.regs ∧
    (s.setStream k f).snaps = s.snaps ∧ (s.setStream k f).eddyPage = s.eddyPage ∧ (s.setStream k f).eddy = s.eddy ∧
    (s.setStream k f).time = s.time ∧ (s.setStream k f).upUs = s.upUs ∧ (s.setStream k f).fresh = s.fresh ∧
    (s.setStream k f).hold = s.hold ∧ (s.setStream k f).sleep = s.sleep ∧ (s.setStream k f).role = s.role ∧
    (s.setStream k f).cfg = s.cfg ∧ (s.setStream k f).pitch = s.pitch ∧ (s.setStream k f).repitch = s.repitch ∧
    (s.setStream k f).ringImg = s.ringImg ∧ (s.setStream k f).evt = s.evt ∧ (s.setStream k f).log = s.log ∧
    (s.setStream k f).mbx = s.mbx ∧ (s.setStream k f).slots = s.slots ∧ (s.setStream k f).mss = s.mss ∧
    (s.setStream k f).flash = s.flash ∧ (s.setStream k f).ember = s.ember ∧ (s.setStream k f).ring = s.ring ∧
    (s.setStream k f).isls = s.isls ∧ (s.setStream k f).chans = s.chans ∧ (s.setStream k f).filts = s.filts ∧
    (s.setStream k f).capts = s.capts ∧ (s.setStream k f).axes = s.axes ∧ (s.setStream k f).leds = s.leds ∧
    (s.setStream k f).iLeds = s.iLeds ∧ (s.setStream k f).sets = s.sets ∧ (s.setStream k f).coefBuf = s.coefBuf ∧
    (s.setStream k f).saf = s.saf ∧ (s.setStream k f).wdg = s.wdg ∧ (s.setStream k f).lpb = s.lpb ∧
    (s.setStream k f).ten = s.ten ∧ (s.setStream k f).spi = s.spi ∧ (s.setStream k f).mod = s.mod ∧
    (s.setStream k f).load = s.load ∧ (s.setStream k f).tap = s.tap ∧ (s.setStream k f).streams = updV s.streams k f :=
  ⟨rfl, rfl, rfl, rfl, rfl, rfl, rfl, rfl, rfl, rfl, rfl, rfl, rfl, rfl, rfl, rfl, rfl, rfl, rfl, rfl, rfl, rfl, rfl, rfl, rfl, rfl, rfl, rfl, rfl, rfl, rfl, rfl, rfl, rfl, rfl, rfl, rfl, rfl, rfl, rfl, rfl, rfl⟩
@[simp] theorem State.setStream_reg (s : State) (k : Fin 8) (f : Stream → Stream) (x : Nat) : (s.setStream k f).reg x = s.reg x := rfl
@[simp] theorem State.setStream_fld (s : State) (k : Fin 8) (f : Stream → Stream) (x hi lo : Nat) : (s.setStream k f).fld x hi lo = s.fld x hi lo := rfl
@[simp] theorem State.setStream_bit (s : State) (k : Fin 8) (f : Stream → Stream) (x b : Nat) : (s.setStream k f).bit x b = s.bit x b := rfl
@[simp] theorem State.setMbx_fields (s : State) (p : Port) (m : Mailbox) :
    (s.setMbx p m).pending = s.pending ∧ (s.setMbx p m).dev = s.dev ∧ (s.setMbx p m).regs = s.regs ∧
    (s.setMbx p m).snaps = s.snaps ∧ (s.setMbx p m).eddyPage = s.eddyPage ∧ (s.setMbx p m).eddy = s.eddy ∧
    (s.setMbx p m).time = s.time ∧ (s.setMbx p m).upUs = s.upUs ∧ (s.setMbx p m).fresh = s.fresh ∧
    (s.setMbx p m).hold = s.hold ∧ (s.setMbx p m).sleep = s.sleep ∧ (s.setMbx p m).role = s.role ∧
    (s.setMbx p m).cfg = s.cfg ∧ (s.setMbx p m).pitch = s.pitch ∧ (s.setMbx p m).repitch = s.repitch ∧
    (s.setMbx p m).ringImg = s.ringImg ∧ (s.setMbx p m).evt = s.evt ∧ (s.setMbx p m).streams = s.streams ∧
    (s.setMbx p m).log = s.log ∧ (s.setMbx p m).slots = s.slots ∧ (s.setMbx p m).mss = s.mss ∧
    (s.setMbx p m).flash = s.flash ∧ (s.setMbx p m).ember = s.ember ∧ (s.setMbx p m).ring = s.ring ∧
    (s.setMbx p m).isls = s.isls ∧ (s.setMbx p m).chans = s.chans ∧ (s.setMbx p m).filts = s.filts ∧
    (s.setMbx p m).capts = s.capts ∧ (s.setMbx p m).axes = s.axes ∧ (s.setMbx p m).leds = s.leds ∧
    (s.setMbx p m).iLeds = s.iLeds ∧ (s.setMbx p m).sets = s.sets ∧ (s.setMbx p m).coefBuf = s.coefBuf ∧
    (s.setMbx p m).saf = s.saf ∧ (s.setMbx p m).wdg = s.wdg ∧ (s.setMbx p m).lpb = s.lpb ∧ (s.setMbx p m).ten = s.ten ∧
    (s.setMbx p m).spi = s.spi ∧ (s.setMbx p m).mod = s.mod ∧ (s.setMbx p m).load = s.load ∧ (s.setMbx p m).tap = s.tap :=
  ⟨rfl, rfl, rfl, rfl, rfl, rfl, rfl, rfl, rfl, rfl, rfl, rfl, rfl, rfl, rfl, rfl, rfl, rfl, rfl, rfl, rfl, rfl, rfl, rfl, rfl, rfl, rfl, rfl, rfl, rfl, rfl, rfl, rfl, rfl, rfl, rfl, rfl, rfl, rfl, rfl, rfl⟩
@[simp] theorem State.setMbx_reg (s : State) (p : Port) (m : Mailbox) (x : Nat) : (s.setMbx p m).reg x = s.reg x := rfl
@[simp] theorem State.setMbx_fld (s : State) (p : Port) (m : Mailbox) (x hi lo : Nat) : (s.setMbx p m).fld x hi lo = s.fld x hi lo := rfl
@[simp] theorem State.setMbx_bit (s : State) (p : Port) (m : Mailbox) (x b : Nat) : (s.setMbx p m).bit x b = s.bit x b := rfl
theorem State.setKern_eq (s : State) (isB : Bool) (f : Kern → Kern) : ∃ g, s.setKern isB f = s.setSaf g := by
  cases isB <;> exact ⟨_, rfl⟩
@[simp] theorem State.setKern_fields (s : State) (isB : Bool) (f : Kern → Kern) :
    (s.setKern isB f).pending = s.pending ∧ (s.setKern isB f).dev = s.dev ∧ (s.setKern isB f).regs = s.regs ∧
    (s.setKern isB f).snaps = s.snaps ∧ (s.setKern isB f).eddyPage = s.eddyPage ∧ (s.setKern isB f).eddy = s.eddy ∧
    (s.setKern isB f).time = s.time ∧ (s.setKern isB f).upUs = s.upUs ∧ (s.setKern isB f).fresh = s.fresh ∧
    (s.setKern isB f).hold = s.hold ∧ (s.setKern isB f).sleep = s.sleep ∧ (s.setKern isB f).role = s.role ∧
    (s.setKern isB f).cfg = s.cfg ∧ (s.setKern isB f).pitch = s.pitch ∧ (s.setKern isB f).repitch = s.repitch ∧
    (s.setKern isB f).ringImg = s.ringImg ∧ (s.setKern isB f).evt = s.evt ∧ (s.setKern isB f).streams = s.streams ∧
    (s.setKern isB f).log = s.log ∧ (s.setKern isB f).mbx = s.mbx ∧ (s.setKern isB f).slots = s.slots ∧
    (s.setKern isB f).mss = s.mss ∧ (s.setKern isB f).flash = s.flash ∧ (s.setKern isB f).ember = s.ember ∧
    (s.setKern isB f).ring = s.ring ∧ (s.setKern isB f).isls = s.isls ∧ (s.setKern isB f).chans = s.chans ∧
    (s.setKern isB f).filts = s.filts ∧ (s.setKern isB f).capts = s.capts ∧ (s.setKern isB f).axes = s.axes ∧
    (s.setKern isB f).leds = s.leds ∧ (s.setKern isB f).iLeds = s.iLeds ∧ (s.setKern isB f).sets = s.sets ∧
    (s.setKern isB f).coefBuf = s.coefBuf ∧ (s.setKern isB f).wdg = s.wdg ∧ (s.setKern isB f).lpb = s.lpb ∧
    (s.setKern isB f).ten = s.ten ∧ (s.setKern isB f).spi = s.spi ∧ (s.setKern isB f).mod = s.mod ∧
    (s.setKern isB f).load = s.load ∧ (s.setKern isB f).tap = s.tap :=
  by
  cases isB <;> exact ⟨rfl, rfl, rfl, rfl, rfl, rfl, rfl, rfl, rfl, rfl, rfl, rfl, rfl, rfl, rfl, rfl, rfl, rfl, rfl, rfl, rfl, rfl, rfl, rfl, rfl, rfl, rfl, rfl, rfl, rfl, rfl, rfl, rfl, rfl, rfl, rfl, rfl, rfl, rfl, rfl, rfl⟩
@[simp] theorem State.setKern_reg (s : State) (isB : Bool) (f : Kern → Kern) (x : Nat) : (s.setKern isB f).reg x = s.reg x := by
  cases isB <;> rfl
@[simp] theorem State.setKern_fld (s : State) (isB : Bool) (f : Kern → Kern) (x hi lo : Nat) : (s.setKern isB f).fld x hi lo = s.fld x hi lo := by
  cases isB <;> rfl
@[simp] theorem State.setKern_bit (s : State) (isB : Bool) (f : Kern → Kern) (x b : Nat) : (s.setKern isB f).bit x b = s.bit x b := by
  cases isB <;> rfl
@[simp] theorem State.setSaf_fields (s : State) (f : SafSt → SafSt) :
    (s.setSaf f).pending = s.pending ∧ (s.setSaf f).dev = s.dev ∧ (s.setSaf f).regs = s.regs ∧
    (s.setSaf f).snaps = s.snaps ∧ (s.setSaf f).eddyPage = s.eddyPage ∧ (s.setSaf f).eddy = s.eddy ∧
    (s.setSaf f).time = s.time ∧ (s.setSaf f).upUs = s.upUs ∧ (s.setSaf f).fresh = s.fresh ∧ (s.setSaf f).hold = s.hold ∧
    (s.setSaf f).sleep = s.sleep ∧ (s.setSaf f).role = s.role ∧ (s.setSaf f).cfg = s.cfg ∧ (s.setSaf f).pitch = s.pitch ∧
    (s.setSaf f).repitch = s.repitch ∧ (s.setSaf f).ringImg = s.ringImg ∧ (s.setSaf f).evt = s.evt ∧
    (s.setSaf f).streams = s.streams ∧ (s.setSaf f).log = s.log ∧ (s.setSaf f).mbx = s.mbx ∧ (s.setSaf f).slots = s.slots ∧
    (s.setSaf f).mss = s.mss ∧ (s.setSaf f).flash = s.flash ∧ (s.setSaf f).ember = s.ember ∧ (s.setSaf f).ring = s.ring ∧
    (s.setSaf f).isls = s.isls ∧ (s.setSaf f).chans = s.chans ∧ (s.setSaf f).filts = s.filts ∧
    (s.setSaf f).capts = s.capts ∧ (s.setSaf f).axes = s.axes ∧ (s.setSaf f).leds = s.leds ∧ (s.setSaf f).iLeds = s.iLeds ∧
    (s.setSaf f).sets = s.sets ∧ (s.setSaf f).coefBuf = s.coefBuf ∧ (s.setSaf f).wdg = s.wdg ∧ (s.setSaf f).lpb = s.lpb ∧
    (s.setSaf f).ten = s.ten ∧ (s.setSaf f).spi = s.spi ∧ (s.setSaf f).mod = s.mod ∧ (s.setSaf f).load = s.load ∧
    (s.setSaf f).tap = s.tap ∧ (s.setSaf f).saf = f s.saf :=
  ⟨rfl, rfl, rfl, rfl, rfl, rfl, rfl, rfl, rfl, rfl, rfl, rfl, rfl, rfl, rfl, rfl, rfl, rfl, rfl, rfl, rfl, rfl, rfl, rfl, rfl, rfl, rfl, rfl, rfl, rfl, rfl, rfl, rfl, rfl, rfl, rfl, rfl, rfl, rfl, rfl, rfl, rfl⟩
@[simp] theorem State.setSaf_reg (s : State) (f : SafSt → SafSt) (x : Nat) : (s.setSaf f).reg x = s.reg x := rfl
@[simp] theorem State.setSaf_fld (s : State) (f : SafSt → SafSt) (x hi lo : Nat) : (s.setSaf f).fld x hi lo = s.fld x hi lo := rfl
@[simp] theorem State.setSaf_bit (s : State) (f : SafSt → SafSt) (x b : Nat) : (s.setSaf f).bit x b = s.bit x b := rfl
@[simp] theorem State.setMod_fields (s : State) (f : ModSt → ModSt) :
    (s.setMod f).pending = s.pending ∧ (s.setMod f).dev = s.dev ∧ (s.setMod f).regs = s.regs ∧
    (s.setMod f).snaps = s.snaps ∧ (s.setMod f).eddyPage = s.eddyPage ∧ (s.setMod f).eddy = s.eddy ∧
    (s.setMod f).time = s.time ∧ (s.setMod f).upUs = s.upUs ∧ (s.setMod f).fresh = s.fresh ∧ (s.setMod f).hold = s.hold ∧
    (s.setMod f).sleep = s.sleep ∧ (s.setMod f).role = s.role ∧ (s.setMod f).cfg = s.cfg ∧ (s.setMod f).pitch = s.pitch ∧
    (s.setMod f).repitch = s.repitch ∧ (s.setMod f).ringImg = s.ringImg ∧ (s.setMod f).evt = s.evt ∧
    (s.setMod f).streams = s.streams ∧ (s.setMod f).log = s.log ∧ (s.setMod f).mbx = s.mbx ∧ (s.setMod f).slots = s.slots ∧
    (s.setMod f).mss = s.mss ∧ (s.setMod f).flash = s.flash ∧ (s.setMod f).ember = s.ember ∧ (s.setMod f).ring = s.ring ∧
    (s.setMod f).isls = s.isls ∧ (s.setMod f).chans = s.chans ∧ (s.setMod f).filts = s.filts ∧
    (s.setMod f).capts = s.capts ∧ (s.setMod f).axes = s.axes ∧ (s.setMod f).leds = s.leds ∧ (s.setMod f).iLeds = s.iLeds ∧
    (s.setMod f).sets = s.sets ∧ (s.setMod f).coefBuf = s.coefBuf ∧ (s.setMod f).saf = s.saf ∧ (s.setMod f).wdg = s.wdg ∧
    (s.setMod f).lpb = s.lpb ∧ (s.setMod f).ten = s.ten ∧ (s.setMod f).spi = s.spi ∧ (s.setMod f).load = s.load ∧
    (s.setMod f).tap = s.tap ∧ (s.setMod f).mod = f s.mod :=
  ⟨rfl, rfl, rfl, rfl, rfl, rfl, rfl, rfl, rfl, rfl, rfl, rfl, rfl, rfl, rfl, rfl, rfl, rfl, rfl, rfl, rfl, rfl, rfl, rfl, rfl, rfl, rfl, rfl, rfl, rfl, rfl, rfl, rfl, rfl, rfl, rfl, rfl, rfl, rfl, rfl, rfl, rfl⟩
@[simp] theorem State.setMod_reg (s : State) (f : ModSt → ModSt) (x : Nat) : (s.setMod f).reg x = s.reg x := rfl
@[simp] theorem State.setMod_fld (s : State) (f : ModSt → ModSt) (x hi lo : Nat) : (s.setMod f).fld x hi lo = s.fld x hi lo := rfl
@[simp] theorem State.setMod_bit (s : State) (f : ModSt → ModSt) (x b : Nat) : (s.setMod f).bit x b = s.bit x b := rfl
@[simp] theorem State.setLpb_fields (s : State) (f : LpbSt → LpbSt) :
    (s.setLpb f).pending = s.pending ∧ (s.setLpb f).dev = s.dev ∧ (s.setLpb f).regs = s.regs ∧
    (s.setLpb f).snaps = s.snaps ∧ (s.setLpb f).eddyPage = s.eddyPage ∧ (s.setLpb f).eddy = s.eddy ∧
    (s.setLpb f).time = s.time ∧ (s.setLpb f).upUs = s.upUs ∧ (s.setLpb f).fresh = s.fresh ∧ (s.setLpb f).hold = s.hold ∧
    (s.setLpb f).sleep = s.sleep ∧ (s.setLpb f).role = s.role ∧ (s.setLpb f).cfg = s.cfg ∧ (s.setLpb f).pitch = s.pitch ∧
    (s.setLpb f).repitch = s.repitch ∧ (s.setLpb f).ringImg = s.ringImg ∧ (s.setLpb f).evt = s.evt ∧
    (s.setLpb f).streams = s.streams ∧ (s.setLpb f).log = s.log ∧ (s.setLpb f).mbx = s.mbx ∧ (s.setLpb f).slots = s.slots ∧
    (s.setLpb f).mss = s.mss ∧ (s.setLpb f).flash = s.flash ∧ (s.setLpb f).ember = s.ember ∧ (s.setLpb f).ring = s.ring ∧
    (s.setLpb f).isls = s.isls ∧ (s.setLpb f).chans = s.chans ∧ (s.setLpb f).filts = s.filts ∧
    (s.setLpb f).capts = s.capts ∧ (s.setLpb f).axes = s.axes ∧ (s.setLpb f).leds = s.leds ∧ (s.setLpb f).iLeds = s.iLeds ∧
    (s.setLpb f).sets = s.sets ∧ (s.setLpb f).coefBuf = s.coefBuf ∧ (s.setLpb f).saf = s.saf ∧ (s.setLpb f).wdg = s.wdg ∧
    (s.setLpb f).ten = s.ten ∧ (s.setLpb f).spi = s.spi ∧ (s.setLpb f).mod = s.mod ∧ (s.setLpb f).load = s.load ∧
    (s.setLpb f).tap = s.tap ∧ (s.setLpb f).lpb = f s.lpb :=
  ⟨rfl, rfl, rfl, rfl, rfl, rfl, rfl, rfl, rfl, rfl, rfl, rfl, rfl, rfl, rfl, rfl, rfl, rfl, rfl, rfl, rfl, rfl, rfl, rfl, rfl, rfl, rfl, rfl, rfl, rfl, rfl, rfl, rfl, rfl, rfl, rfl, rfl, rfl, rfl, rfl, rfl, rfl⟩
@[simp] theorem State.setLpb_reg (s : State) (f : LpbSt → LpbSt) (x : Nat) : (s.setLpb f).reg x = s.reg x := rfl
@[simp] theorem State.setLpb_fld (s : State) (f : LpbSt → LpbSt) (x hi lo : Nat) : (s.setLpb f).fld x hi lo = s.fld x hi lo := rfl
@[simp] theorem State.setLpb_bit (s : State) (f : LpbSt → LpbSt) (x b : Nat) : (s.setLpb f).bit x b = s.bit x b := rfl
@[simp] theorem State.setPitch_fields (s : State) (f : PitchSt → PitchSt) :
    (s.setPitch f).pending = s.pending ∧ (s.setPitch f).dev = s.dev ∧ (s.setPitch f).regs = s.regs ∧
    (s.setPitch f).snaps = s.snaps ∧ (s.setPitch f).eddyPage = s.eddyPage ∧ (s.setPitch f).eddy = s.eddy ∧
    (s.setPitch f).time = s.time ∧ (s.setPitch f).upUs = s.upUs ∧ (s.setPitch f).fresh = s.fresh ∧
    (s.setPitch f).hold = s.hold ∧ (s.setPitch f).sleep = s.sleep ∧ (s.setPitch f).role = s.role ∧
    (s.setPitch f).cfg = s.cfg ∧ (s.setPitch f).repitch = s.repitch ∧ (s.setPitch f).ringImg = s.ringImg ∧
    (s.setPitch f).evt = s.evt ∧ (s.setPitch f).streams = s.streams ∧ (s.setPitch f).log = s.log ∧
    (s.setPitch f).mbx = s.mbx ∧ (s.setPitch f).slots = s.slots ∧ (s.setPitch f).mss = s.mss ∧
    (s.setPitch f).flash = s.flash ∧ (s.setPitch f).ember = s.ember ∧ (s.setPitch f).ring = s.ring ∧
    (s.setPitch f).isls = s.isls ∧ (s.setPitch f).chans = s.chans ∧ (s.setPitch f).filts = s.filts ∧
    (s.setPitch f).capts = s.capts ∧ (s.setPitch f).axes = s.axes ∧ (s.setPitch f).leds = s.leds ∧
    (s.setPitch f).iLeds = s.iLeds ∧ (s.setPitch f).sets = s.sets ∧ (s.setPitch f).coefBuf = s.coefBuf ∧
    (s.setPitch f).saf = s.saf ∧ (s.setPitch f).wdg = s.wdg ∧ (s.setPitch f).lpb = s.lpb ∧ (s.setPitch f).ten = s.ten ∧
    (s.setPitch f).spi = s.spi ∧ (s.setPitch f).mod = s.mod ∧ (s.setPitch f).load = s.load ∧ (s.setPitch f).tap = s.tap ∧
    (s.setPitch f).pitch = f s.pitch :=
  ⟨rfl, rfl, rfl, rfl, rfl, rfl, rfl, rfl, rfl, rfl, rfl, rfl, rfl, rfl, rfl, rfl, rfl, rfl, rfl, rfl, rfl, rfl, rfl, rfl, rfl, rfl, rfl, rfl, rfl, rfl, rfl, rfl, rfl, rfl, rfl, rfl, rfl, rfl, rfl, rfl, rfl, rfl⟩
@[simp] theorem State.setPitch_reg (s : State) (f : PitchSt → PitchSt) (x : Nat) : (s.setPitch f).reg x = s.reg x := rfl
@[simp] theorem State.setPitch_fld (s : State) (f : PitchSt → PitchSt) (x hi lo : Nat) : (s.setPitch f).fld x hi lo = s.fld x hi lo := rfl
@[simp] theorem State.setPitch_bit (s : State) (f : PitchSt → PitchSt) (x b : Nat) : (s.setPitch f).bit x b = s.bit x b := rfl
@[simp] theorem State.setRepitch_fields (s : State) (f : RepitchSt → RepitchSt) :
    (s.setRepitch f).pending = s.pending ∧ (s.setRepitch f).dev = s.dev ∧ (s.setRepitch f).regs = s.regs ∧
    (s.setRepitch f).snaps = s.snaps ∧ (s.setRepitch f).eddyPage = s.eddyPage ∧ (s.setRepitch f).eddy = s.eddy ∧
    (s.setRepitch f).time = s.time ∧ (s.setRepitch f).upUs = s.upUs ∧ (s.setRepitch f).fresh = s.fresh ∧
    (s.setRepitch f).hold = s.hold ∧ (s.setRepitch f).sleep = s.sleep ∧ (s.setRepitch f).role = s.role ∧
    (s.setRepitch f).cfg = s.cfg ∧ (s.setRepitch f).pitch = s.pitch ∧ (s.setRepitch f).ringImg = s.ringImg ∧
    (s.setRepitch f).evt = s.evt ∧ (s.setRepitch f).streams = s.streams ∧ (s.setRepitch f).log = s.log ∧
    (s.setRepitch f).mbx = s.mbx ∧ (s.setRepitch f).slots = s.slots ∧ (s.setRepitch f).mss = s.mss ∧
    (s.setRepitch f).flash = s.flash ∧ (s.setRepitch f).ember = s.ember ∧ (s.setRepitch f).ring = s.ring ∧
    (s.setRepitch f).isls = s.isls ∧ (s.setRepitch f).chans = s.chans ∧ (s.setRepitch f).filts = s.filts ∧
    (s.setRepitch f).capts = s.capts ∧ (s.setRepitch f).axes = s.axes ∧ (s.setRepitch f).leds = s.leds ∧
    (s.setRepitch f).iLeds = s.iLeds ∧ (s.setRepitch f).sets = s.sets ∧ (s.setRepitch f).coefBuf = s.coefBuf ∧
    (s.setRepitch f).saf = s.saf ∧ (s.setRepitch f).wdg = s.wdg ∧ (s.setRepitch f).lpb = s.lpb ∧
    (s.setRepitch f).ten = s.ten ∧ (s.setRepitch f).spi = s.spi ∧ (s.setRepitch f).mod = s.mod ∧
    (s.setRepitch f).load = s.load ∧ (s.setRepitch f).tap = s.tap ∧ (s.setRepitch f).repitch = f s.repitch :=
  ⟨rfl, rfl, rfl, rfl, rfl, rfl, rfl, rfl, rfl, rfl, rfl, rfl, rfl, rfl, rfl, rfl, rfl, rfl, rfl, rfl, rfl, rfl, rfl, rfl, rfl, rfl, rfl, rfl, rfl, rfl, rfl, rfl, rfl, rfl, rfl, rfl, rfl, rfl, rfl, rfl, rfl, rfl⟩
@[simp] theorem State.setRepitch_reg (s : State) (f : RepitchSt → RepitchSt) (x : Nat) : (s.setRepitch f).reg x = s.reg x := rfl
@[simp] theorem State.setRepitch_fld (s : State) (f : RepitchSt → RepitchSt) (x hi lo : Nat) : (s.setRepitch f).fld x hi lo = s.fld x hi lo := rfl
@[simp] theorem State.setRepitch_bit (s : State) (f : RepitchSt → RepitchSt) (x b : Nat) : (s.setRepitch f).bit x b = s.bit x b := rfl
@[simp] theorem State.setRing_fields (s : State) (f : RingSt → RingSt) :
    (s.setRing f).pending = s.pending ∧ (s.setRing f).dev = s.dev ∧ (s.setRing f).regs = s.regs ∧
    (s.setRing f).snaps = s.snaps ∧ (s.setRing f).eddyPage = s.eddyPage ∧ (s.setRing f).eddy = s.eddy ∧
    (s.setRing f).time = s.time ∧ (s.setRing f).upUs = s.upUs ∧ (s.setRing f).fresh = s.fresh ∧
    (s.setRing f).hold = s.hold ∧ (s.setRing f).sleep = s.sleep ∧ (s.setRing f).role = s.role ∧ (s.setRing f).cfg = s.cfg ∧
    (s.setRing f).pitch = s.pitch ∧ (s.setRing f).repitch = s.repitch ∧ (s.setRing f).ringImg = s.ringImg ∧
    (s.setRing f).evt = s.evt ∧ (s.setRing f).streams = s.streams ∧ (s.setRing f).log = s.log ∧ (s.setRing f).mbx = s.mbx ∧
    (s.setRing f).slots = s.slots ∧ (s.setRing f).mss = s.mss ∧ (s.setRing f).flash = s.flash ∧
    (s.setRing f).ember = s.ember ∧ (s.setRing f).isls = s.isls ∧ (s.setRing f).chans = s.chans ∧
    (s.setRing f).filts = s.filts ∧ (s.setRing f).capts = s.capts ∧ (s.setRing f).axes = s.axes ∧
    (s.setRing f).leds = s.leds ∧ (s.setRing f).iLeds = s.iLeds ∧ (s.setRing f).sets = s.sets ∧
    (s.setRing f).coefBuf = s.coefBuf ∧ (s.setRing f).saf = s.saf ∧ (s.setRing f).wdg = s.wdg ∧ (s.setRing f).lpb = s.lpb ∧
    (s.setRing f).ten = s.ten ∧ (s.setRing f).spi = s.spi ∧ (s.setRing f).mod = s.mod ∧ (s.setRing f).load = s.load ∧
    (s.setRing f).tap = s.tap ∧ (s.setRing f).ring = f s.ring :=
  ⟨rfl, rfl, rfl, rfl, rfl, rfl, rfl, rfl, rfl, rfl, rfl, rfl, rfl, rfl, rfl, rfl, rfl, rfl, rfl, rfl, rfl, rfl, rfl, rfl, rfl, rfl, rfl, rfl, rfl, rfl, rfl, rfl, rfl, rfl, rfl, rfl, rfl, rfl, rfl, rfl, rfl, rfl⟩
@[simp] theorem State.setRing_reg (s : State) (f : RingSt → RingSt) (x : Nat) : (s.setRing f).reg x = s.reg x := rfl
@[simp] theorem State.setRing_fld (s : State) (f : RingSt → RingSt) (x hi lo : Nat) : (s.setRing f).fld x hi lo = s.fld x hi lo := rfl
@[simp] theorem State.setRing_bit (s : State) (f : RingSt → RingSt) (x b : Nat) : (s.setRing f).bit x b = s.bit x b := rfl
@[simp] theorem State.setCfg_fields (s : State) (f : CfgSram → CfgSram) :
    (s.setCfg f).pending = s.pending ∧ (s.setCfg f).dev = s.dev ∧ (s.setCfg f).regs = s.regs ∧
    (s.setCfg f).snaps = s.snaps ∧ (s.setCfg f).eddyPage = s.eddyPage ∧ (s.setCfg f).eddy = s.eddy ∧
    (s.setCfg f).time = s.time ∧ (s.setCfg f).upUs = s.upUs ∧ (s.setCfg f).fresh = s.fresh ∧ (s.setCfg f).hold = s.hold ∧
    (s.setCfg f).sleep = s.sleep ∧ (s.setCfg f).role = s.role ∧ (s.setCfg f).pitch = s.pitch ∧
    (s.setCfg f).repitch = s.repitch ∧ (s.setCfg f).ringImg = s.ringImg ∧ (s.setCfg f).evt = s.evt ∧
    (s.setCfg f).streams = s.streams ∧ (s.setCfg f).log = s.log ∧ (s.setCfg f).mbx = s.mbx ∧ (s.setCfg f).slots = s.slots ∧
    (s.setCfg f).mss = s.mss ∧ (s.setCfg f).flash = s.flash ∧ (s.setCfg f).ember = s.ember ∧ (s.setCfg f).ring = s.ring ∧
    (s.setCfg f).isls = s.isls ∧ (s.setCfg f).chans = s.chans ∧ (s.setCfg f).filts = s.filts ∧
    (s.setCfg f).capts = s.capts ∧ (s.setCfg f).axes = s.axes ∧ (s.setCfg f).leds = s.leds ∧ (s.setCfg f).iLeds = s.iLeds ∧
    (s.setCfg f).sets = s.sets ∧ (s.setCfg f).coefBuf = s.coefBuf ∧ (s.setCfg f).saf = s.saf ∧ (s.setCfg f).wdg = s.wdg ∧
    (s.setCfg f).lpb = s.lpb ∧ (s.setCfg f).ten = s.ten ∧ (s.setCfg f).spi = s.spi ∧ (s.setCfg f).mod = s.mod ∧
    (s.setCfg f).load = s.load ∧ (s.setCfg f).tap = s.tap ∧ (s.setCfg f).cfg = f s.cfg :=
  ⟨rfl, rfl, rfl, rfl, rfl, rfl, rfl, rfl, rfl, rfl, rfl, rfl, rfl, rfl, rfl, rfl, rfl, rfl, rfl, rfl, rfl, rfl, rfl, rfl, rfl, rfl, rfl, rfl, rfl, rfl, rfl, rfl, rfl, rfl, rfl, rfl, rfl, rfl, rfl, rfl, rfl, rfl⟩
@[simp] theorem State.setCfg_reg (s : State) (f : CfgSram → CfgSram) (x : Nat) : (s.setCfg f).reg x = s.reg x := rfl
@[simp] theorem State.setCfg_fld (s : State) (f : CfgSram → CfgSram) (x hi lo : Nat) : (s.setCfg f).fld x hi lo = s.fld x hi lo := rfl
@[simp] theorem State.setCfg_bit (s : State) (f : CfgSram → CfgSram) (x b : Nat) : (s.setCfg f).bit x b = s.bit x b := rfl
@[simp] theorem State.setTen_fields (s : State) (f : TenSt → TenSt) :
    (s.setTen f).pending = s.pending ∧ (s.setTen f).dev = s.dev ∧ (s.setTen f).regs = s.regs ∧
    (s.setTen f).snaps = s.snaps ∧ (s.setTen f).eddyPage = s.eddyPage ∧ (s.setTen f).eddy = s.eddy ∧
    (s.setTen f).time = s.time ∧ (s.setTen f).upUs = s.upUs ∧ (s.setTen f).fresh = s.fresh ∧ (s.setTen f).hold = s.hold ∧
    (s.setTen f).sleep = s.sleep ∧ (s.setTen f).role = s.role ∧ (s.setTen f).cfg = s.cfg ∧ (s.setTen f).pitch = s.pitch ∧
    (s.setTen f).repitch = s.repitch ∧ (s.setTen f).ringImg = s.ringImg ∧ (s.setTen f).evt = s.evt ∧
    (s.setTen f).streams = s.streams ∧ (s.setTen f).log = s.log ∧ (s.setTen f).mbx = s.mbx ∧ (s.setTen f).slots = s.slots ∧
    (s.setTen f).mss = s.mss ∧ (s.setTen f).flash = s.flash ∧ (s.setTen f).ember = s.ember ∧ (s.setTen f).ring = s.ring ∧
    (s.setTen f).isls = s.isls ∧ (s.setTen f).chans = s.chans ∧ (s.setTen f).filts = s.filts ∧
    (s.setTen f).capts = s.capts ∧ (s.setTen f).axes = s.axes ∧ (s.setTen f).leds = s.leds ∧ (s.setTen f).iLeds = s.iLeds ∧
    (s.setTen f).sets = s.sets ∧ (s.setTen f).coefBuf = s.coefBuf ∧ (s.setTen f).saf = s.saf ∧ (s.setTen f).wdg = s.wdg ∧
    (s.setTen f).lpb = s.lpb ∧ (s.setTen f).spi = s.spi ∧ (s.setTen f).mod = s.mod ∧ (s.setTen f).load = s.load ∧
    (s.setTen f).tap = s.tap ∧ (s.setTen f).ten = f s.ten :=
  ⟨rfl, rfl, rfl, rfl, rfl, rfl, rfl, rfl, rfl, rfl, rfl, rfl, rfl, rfl, rfl, rfl, rfl, rfl, rfl, rfl, rfl, rfl, rfl, rfl, rfl, rfl, rfl, rfl, rfl, rfl, rfl, rfl, rfl, rfl, rfl, rfl, rfl, rfl, rfl, rfl, rfl, rfl⟩
@[simp] theorem State.setTen_reg (s : State) (f : TenSt → TenSt) (x : Nat) : (s.setTen f).reg x = s.reg x := rfl
@[simp] theorem State.setTen_fld (s : State) (f : TenSt → TenSt) (x hi lo : Nat) : (s.setTen f).fld x hi lo = s.fld x hi lo := rfl
@[simp] theorem State.setTen_bit (s : State) (f : TenSt → TenSt) (x b : Nat) : (s.setTen f).bit x b = s.bit x b := rfl
@[simp] theorem State.setSpi_fields (s : State) (f : SpiSt → SpiSt) :
    (s.setSpi f).pending = s.pending ∧ (s.setSpi f).dev = s.dev ∧ (s.setSpi f).regs = s.regs ∧
    (s.setSpi f).snaps = s.snaps ∧ (s.setSpi f).eddyPage = s.eddyPage ∧ (s.setSpi f).eddy = s.eddy ∧
    (s.setSpi f).time = s.time ∧ (s.setSpi f).upUs = s.upUs ∧ (s.setSpi f).fresh = s.fresh ∧ (s.setSpi f).hold = s.hold ∧
    (s.setSpi f).sleep = s.sleep ∧ (s.setSpi f).role = s.role ∧ (s.setSpi f).cfg = s.cfg ∧ (s.setSpi f).pitch = s.pitch ∧
    (s.setSpi f).repitch = s.repitch ∧ (s.setSpi f).ringImg = s.ringImg ∧ (s.setSpi f).evt = s.evt ∧
    (s.setSpi f).streams = s.streams ∧ (s.setSpi f).log = s.log ∧ (s.setSpi f).mbx = s.mbx ∧ (s.setSpi f).slots = s.slots ∧
    (s.setSpi f).mss = s.mss ∧ (s.setSpi f).flash = s.flash ∧ (s.setSpi f).ember = s.ember ∧ (s.setSpi f).ring = s.ring ∧
    (s.setSpi f).isls = s.isls ∧ (s.setSpi f).chans = s.chans ∧ (s.setSpi f).filts = s.filts ∧
    (s.setSpi f).capts = s.capts ∧ (s.setSpi f).axes = s.axes ∧ (s.setSpi f).leds = s.leds ∧ (s.setSpi f).iLeds = s.iLeds ∧
    (s.setSpi f).sets = s.sets ∧ (s.setSpi f).coefBuf = s.coefBuf ∧ (s.setSpi f).saf = s.saf ∧ (s.setSpi f).wdg = s.wdg ∧
    (s.setSpi f).lpb = s.lpb ∧ (s.setSpi f).ten = s.ten ∧ (s.setSpi f).mod = s.mod ∧ (s.setSpi f).load = s.load ∧
    (s.setSpi f).tap = s.tap ∧ (s.setSpi f).spi = f s.spi :=
  ⟨rfl, rfl, rfl, rfl, rfl, rfl, rfl, rfl, rfl, rfl, rfl, rfl, rfl, rfl, rfl, rfl, rfl, rfl, rfl, rfl, rfl, rfl, rfl, rfl, rfl, rfl, rfl, rfl, rfl, rfl, rfl, rfl, rfl, rfl, rfl, rfl, rfl, rfl, rfl, rfl, rfl, rfl⟩
@[simp] theorem State.setSpi_reg (s : State) (f : SpiSt → SpiSt) (x : Nat) : (s.setSpi f).reg x = s.reg x := rfl
@[simp] theorem State.setSpi_fld (s : State) (f : SpiSt → SpiSt) (x hi lo : Nat) : (s.setSpi f).fld x hi lo = s.fld x hi lo := rfl
@[simp] theorem State.setSpi_bit (s : State) (f : SpiSt → SpiSt) (x b : Nat) : (s.setSpi f).bit x b = s.bit x b := rfl
@[simp] theorem State.setMss_fields (s : State) (f : MssSt → MssSt) :
    (s.setMss f).pending = s.pending ∧ (s.setMss f).dev = s.dev ∧ (s.setMss f).regs = s.regs ∧
    (s.setMss f).snaps = s.snaps ∧ (s.setMss f).eddyPage = s.eddyPage ∧ (s.setMss f).eddy = s.eddy ∧
    (s.setMss f).time = s.time ∧ (s.setMss f).upUs = s.upUs ∧ (s.setMss f).fresh = s.fresh ∧ (s.setMss f).hold = s.hold ∧
    (s.setMss f).sleep = s.sleep ∧ (s.setMss f).role = s.role ∧ (s.setMss f).cfg = s.cfg ∧ (s.setMss f).pitch = s.pitch ∧
    (s.setMss f).repitch = s.repitch ∧ (s.setMss f).ringImg = s.ringImg ∧ (s.setMss f).evt = s.evt ∧
    (s.setMss f).streams = s.streams ∧ (s.setMss f).log = s.log ∧ (s.setMss f).mbx = s.mbx ∧ (s.setMss f).slots = s.slots ∧
    (s.setMss f).flash = s.flash ∧ (s.setMss f).ember = s.ember ∧ (s.setMss f).ring = s.ring ∧ (s.setMss f).isls = s.isls ∧
    (s.setMss f).chans = s.chans ∧ (s.setMss f).filts = s.filts ∧ (s.setMss f).capts = s.capts ∧
    (s.setMss f).axes = s.axes ∧ (s.setMss f).leds = s.leds ∧ (s.setMss f).iLeds = s.iLeds ∧ (s.setMss f).sets = s.sets ∧
    (s.setMss f).coefBuf = s.coefBuf ∧ (s.setMss f).saf = s.saf ∧ (s.setMss f).wdg = s.wdg ∧ (s.setMss f).lpb = s.lpb ∧
    (s.setMss f).ten = s.ten ∧ (s.setMss f).spi = s.spi ∧ (s.setMss f).mod = s.mod ∧ (s.setMss f).load = s.load ∧
    (s.setMss f).tap = s.tap ∧ (s.setMss f).mss = f s.mss :=
  ⟨rfl, rfl, rfl, rfl, rfl, rfl, rfl, rfl, rfl, rfl, rfl, rfl, rfl, rfl, rfl, rfl, rfl, rfl, rfl, rfl, rfl, rfl, rfl, rfl, rfl, rfl, rfl, rfl, rfl, rfl, rfl, rfl, rfl, rfl, rfl, rfl, rfl, rfl, rfl, rfl, rfl, rfl⟩
@[simp] theorem State.setMss_reg (s : State) (f : MssSt → MssSt) (x : Nat) : (s.setMss f).reg x = s.reg x := rfl
@[simp] theorem State.setMss_fld (s : State) (f : MssSt → MssSt) (x hi lo : Nat) : (s.setMss f).fld x hi lo = s.fld x hi lo := rfl
@[simp] theorem State.setMss_bit (s : State) (f : MssSt → MssSt) (x b : Nat) : (s.setMss f).bit x b = s.bit x b := rfl
@[simp] theorem State.setFlash_fields (s : State) (f : Flash → Flash) :
    (s.setFlash f).pending = s.pending ∧ (s.setFlash f).dev = s.dev ∧ (s.setFlash f).regs = s.regs ∧
    (s.setFlash f).snaps = s.snaps ∧ (s.setFlash f).eddyPage = s.eddyPage ∧ (s.setFlash f).eddy = s.eddy ∧
    (s.setFlash f).time = s.time ∧ (s.setFlash f).upUs = s.upUs ∧ (s.setFlash f).fresh = s.fresh ∧
    (s.setFlash f).hold = s.hold ∧ (s.setFlash f).sleep = s.sleep ∧ (s.setFlash f).role = s.role ∧
    (s.setFlash f).cfg = s.cfg ∧ (s.setFlash f).pitch = s.pitch ∧ (s.setFlash f).repitch = s.repitch ∧
    (s.setFlash f).ringImg = s.ringImg ∧ (s.setFlash f).evt = s.evt ∧ (s.setFlash f).streams = s.streams ∧
    (s.setFlash f).log = s.log ∧ (s.setFlash f).mbx = s.mbx ∧ (s.setFlash f).slots = s.slots ∧ (s.setFlash f).mss = s.mss ∧
    (s.setFlash f).ember = s.ember ∧ (s.setFlash f).ring = s.ring ∧ (s.setFlash f).isls = s.isls ∧
    (s.setFlash f).chans = s.chans ∧ (s.setFlash f).filts = s.filts ∧ (s.setFlash f).capts = s.capts ∧
    (s.setFlash f).axes = s.axes ∧ (s.setFlash f).leds = s.leds ∧ (s.setFlash f).iLeds = s.iLeds ∧
    (s.setFlash f).sets = s.sets ∧ (s.setFlash f).coefBuf = s.coefBuf ∧ (s.setFlash f).saf = s.saf ∧
    (s.setFlash f).wdg = s.wdg ∧ (s.setFlash f).lpb = s.lpb ∧ (s.setFlash f).ten = s.ten ∧ (s.setFlash f).spi = s.spi ∧
    (s.setFlash f).mod = s.mod ∧ (s.setFlash f).load = s.load ∧ (s.setFlash f).tap = s.tap ∧
    (s.setFlash f).flash = f s.flash :=
  ⟨rfl, rfl, rfl, rfl, rfl, rfl, rfl, rfl, rfl, rfl, rfl, rfl, rfl, rfl, rfl, rfl, rfl, rfl, rfl, rfl, rfl, rfl, rfl, rfl, rfl, rfl, rfl, rfl, rfl, rfl, rfl, rfl, rfl, rfl, rfl, rfl, rfl, rfl, rfl, rfl, rfl, rfl⟩
@[simp] theorem State.setFlash_reg (s : State) (f : Flash → Flash) (x : Nat) : (s.setFlash f).reg x = s.reg x := rfl
@[simp] theorem State.setFlash_fld (s : State) (f : Flash → Flash) (x hi lo : Nat) : (s.setFlash f).fld x hi lo = s.fld x hi lo := rfl
@[simp] theorem State.setFlash_bit (s : State) (f : Flash → Flash) (x b : Nat) : (s.setFlash f).bit x b = s.bit x b := rfl
@[simp] theorem State.setTap_fields (s : State) (f : TapSt → TapSt) :
    (s.setTap f).pending = s.pending ∧ (s.setTap f).dev = s.dev ∧ (s.setTap f).regs = s.regs ∧
    (s.setTap f).snaps = s.snaps ∧ (s.setTap f).eddyPage = s.eddyPage ∧ (s.setTap f).eddy = s.eddy ∧
    (s.setTap f).time = s.time ∧ (s.setTap f).upUs = s.upUs ∧ (s.setTap f).fresh = s.fresh ∧ (s.setTap f).hold = s.hold ∧
    (s.setTap f).sleep = s.sleep ∧ (s.setTap f).role = s.role ∧ (s.setTap f).cfg = s.cfg ∧ (s.setTap f).pitch = s.pitch ∧
    (s.setTap f).repitch = s.repitch ∧ (s.setTap f).ringImg = s.ringImg ∧ (s.setTap f).evt = s.evt ∧
    (s.setTap f).streams = s.streams ∧ (s.setTap f).log = s.log ∧ (s.setTap f).mbx = s.mbx ∧ (s.setTap f).slots = s.slots ∧
    (s.setTap f).mss = s.mss ∧ (s.setTap f).flash = s.flash ∧ (s.setTap f).ember = s.ember ∧ (s.setTap f).ring = s.ring ∧
    (s.setTap f).isls = s.isls ∧ (s.setTap f).chans = s.chans ∧ (s.setTap f).filts = s.filts ∧
    (s.setTap f).capts = s.capts ∧ (s.setTap f).axes = s.axes ∧ (s.setTap f).leds = s.leds ∧ (s.setTap f).iLeds = s.iLeds ∧
    (s.setTap f).sets = s.sets ∧ (s.setTap f).coefBuf = s.coefBuf ∧ (s.setTap f).saf = s.saf ∧ (s.setTap f).wdg = s.wdg ∧
    (s.setTap f).lpb = s.lpb ∧ (s.setTap f).ten = s.ten ∧ (s.setTap f).spi = s.spi ∧ (s.setTap f).mod = s.mod ∧
    (s.setTap f).load = s.load ∧ (s.setTap f).tap = f s.tap :=
  ⟨rfl, rfl, rfl, rfl, rfl, rfl, rfl, rfl, rfl, rfl, rfl, rfl, rfl, rfl, rfl, rfl, rfl, rfl, rfl, rfl, rfl, rfl, rfl, rfl, rfl, rfl, rfl, rfl, rfl, rfl, rfl, rfl, rfl, rfl, rfl, rfl, rfl, rfl, rfl, rfl, rfl, rfl⟩
@[simp] theorem State.setTap_reg (s : State) (f : TapSt → TapSt) (x : Nat) : (s.setTap f).reg x = s.reg x := rfl
@[simp] theorem State.setTap_fld (s : State) (f : TapSt → TapSt) (x hi lo : Nat) : (s.setTap f).fld x hi lo = s.fld x hi lo := rfl
@[simp] theorem State.setTap_bit (s : State) (f : TapSt → TapSt) (x b : Nat) : (s.setTap f).bit x b = s.bit x b := rfl

@[simp] theorem State.reg_setReg (s : State) (a b : Nat) (v : Word) : (s.setReg a v).reg b = if b = a then v else s.reg b :=
  Sparse.get_set resetWord s.regs a b v
@[simp] theorem State.eddyAt_setEddy (s : State) (a b : Nat) (v : Word) :
    (s.setEddy a v).eddyAt b = if b = a then v else s.eddyAt b := Sparse.get_set (fun _ => 0) s.eddy a b v
@[simp] theorem State.reg_setFld (s : State) (a hi lo v b : Nat) :
    (s.setFld a hi lo v).reg b = if b = a then putBits (s.reg a) hi lo v else s.reg b := s.reg_setReg a b _
@[simp] theorem State.reg_setBit (s : State) (a k b : Nat) (v : Bool) :
    (s.setBit a k v).reg b = if b = a then putBits (s.reg a) k k (b2n v) else s.reg b := s.reg_setReg a b _
@[simp] theorem State.reg_bump (s : State) (a b : Nat) :
    (s.bump a).reg b = if b = a then (if s.reg a = 0xFFFFFF then 0xFFFFFF else s.reg a + 1) else s.reg b := s.reg_setReg a b _
theorem State.fld_setFld_same (s : State) (a hi lo v : Nat) (h : lo ≤ hi) (h24 : hi < 24) :
    (s.setFld a hi lo v).fld a hi lo = v % 2 ^ (hi + 1 - lo) := by
  simp only [State.fld, State.reg_setFld, if_true]; exact bitsOf_putBits_same _ _ _ _ h h24
theorem State.fld_setFld_other (s : State) (a hi lo v b hi' lo' : Nat) (h : lo ≤ hi) (h24 : hi' < 24)
    (hd : b ≠ a ∨ hi' < lo ∨ hi < lo') : (s.setFld a hi lo v).fld b hi' lo' = s.fld b hi' lo' := by
  simp only [State.fld, State.reg_setFld]
  split
  · rename_i e; subst e
    exact bitsOf_putBits_other _ _ _ _ _ _ h h24 (hd.resolve_left (fun n => n rfl))
  · rfl
theorem State.bit_setFld (s : State) (a hi lo v b k : Nat) (h : lo ≤ hi) (hk : k < 24) :
    (s.setFld a hi lo v).bit b k = if b = a ∧ lo ≤ k ∧ k ≤ hi then v.testBit (k - lo) else s.bit b k := by
  simp only [State.bit, State.reg_setFld]
  by_cases e : b = a
  · subst e; rw [if_pos rfl, bitOf_putBits _ _ _ _ _ hk h]; simp
  · simp [e]
@[simp] theorem State.bit_setReg (s : State) (a b k : Nat) (v : Word) :
    (s.setReg a v).bit b k = if b = a then bitOf v k else s.bit b k := by
  simp only [State.bit, State.reg_setReg]; split <;> rfl
theorem State.bit_setBit (s : State) (a j b k : Nat) (v : Bool) (hk : k < 24) :
    (s.setBit a j v).bit b k = if b = a ∧ k = j then v else s.bit b k := by
  unfold State.setBit
  rw [State.bit_setFld s a j j _ b k (Nat.le_refl j) hk]
  by_cases e : b = a ∧ k = j
  · obtain ⟨rfl, rfl⟩ := e; cases v <;> simp [b2n]
  · rw [if_neg (by omega), if_neg e]

theorem State.logRec_quiet (s : State) (c : Nat) (a b d : Word) (h : s.mss.run = .none) :
    s.logRec c a b d = { s with log := (s.logRec c a b d).log } := by
  unfold State.logRec
  by_cases e : s.mss.halted = true ∨ s.sleep.phase = 4 ∨ s.sleep.phase = 5
  · simp only [if_pos e]
  · simp only [if_neg e, if_pos h]
theorem State.setDev_quiet (s : State) (d : Dev) (n : Nat) (h : s.mss.run = .none) :
    s.setDev d n = { s with dev := d, sleep := (s.setDev d n).sleep, log := (s.setDev d n).log } := by
  unfold State.setDev
  by_cases e : s.dev = d
  · simp only [if_pos e]; subst e; rfl
  · simp only [if_neg e]
    rw [State.logRec_quiet { s with dev := d, sleep := s.sleep.leave } _ _ _ _ h]
theorem State.logRec_frame (s : State) (c : Nat) (a b d : Word) :
    s.logRec c a b d = { s with
      log := (s.logRec c a b d).log
      regs := (s.logRec c a b d).regs
      ember := (s.logRec c a b d).ember
      load := (s.logRec c a b d).load } := by
  unfold State.logRec
  split
  · rfl
  · split
    · rfl
    · split
      · rfl
      · split <;> rfl
/-- An occurrence touches event state and registers alone. -/
theorem State.occur_frame (s : State) (src : Nat) (t : RingTime) (w : Word) :
    s.occur src t w = { s with evt := (s.occur src t w).evt, regs := (s.occur src t w).regs } := by
  unfold State.occur
  split
  · unfold State.record; dsimp only
    split
    · rfl
    · split
      · rfl
      · split <;> rfl
  · rfl
theorem State.fireN_frame (n : Nat) (s : State) (src : Nat) (t : RingTime) (w : Word) :
    State.fireN n s src t w =
      { s with evt := (State.fireN n s src t w).evt, regs := (State.fireN n s src t w).regs } := by
  induction n generalizing s src t w with
  | zero => exact s.occur_frame src t w
  | succ n ih =>
    unfold State.fireN; dsimp only
    have e := s.occur_frame src t w
    generalize s.occur src t w = x at e ⊢
    split
    · exact e
    · rename_i k _
      by_cases c : x.evt.strTok[k.val] < 1000
      · simp only [if_pos c]
        split
        · rw [ih]; rw [e]; rfl
        · rw [e]; rfl
      · simp only [if_neg c]
        split
        · rw [ih]; rw [e]; rfl
        · exact e
theorem State.fire_frame (s : State) (src : Nat) (w : Word) :
    s.fire src w = { s with evt := (s.fire src w).evt, regs := (s.fire src w).regs } := by
  unfold State.fire State.fireAt
  split
  · exact State.fireN_frame 8 s src s.time w
  · rfl
@[simp] theorem State.logRec_fields (s : State) (c : Nat) (a b d : Word) :
    (s.logRec c a b d).pending = s.pending ∧ (s.logRec c a b d).dev = s.dev ∧ (s.logRec c a b d).snaps = s.snaps ∧
    (s.logRec c a b d).eddyPage = s.eddyPage ∧ (s.logRec c a b d).eddy = s.eddy ∧ (s.logRec c a b d).time = s.time ∧
    (s.logRec c a b d).upUs = s.upUs ∧ (s.logRec c a b d).fresh = s.fresh ∧ (s.logRec c a b d).hold = s.hold ∧
    (s.logRec c a b d).sleep = s.sleep ∧ (s.logRec c a b d).role = s.role ∧ (s.logRec c a b d).cfg = s.cfg ∧
    (s.logRec c a b d).pitch = s.pitch ∧ (s.logRec c a b d).repitch = s.repitch ∧ (s.logRec c a b d).ringImg = s.ringImg ∧
    (s.logRec c a b d).evt = s.evt ∧ (s.logRec c a b d).streams = s.streams ∧ (s.logRec c a b d).mbx = s.mbx ∧
    (s.logRec c a b d).slots = s.slots ∧ (s.logRec c a b d).mss = s.mss ∧ (s.logRec c a b d).flash = s.flash ∧
    (s.logRec c a b d).ring = s.ring ∧ (s.logRec c a b d).isls = s.isls ∧ (s.logRec c a b d).chans = s.chans ∧
    (s.logRec c a b d).filts = s.filts ∧ (s.logRec c a b d).capts = s.capts ∧ (s.logRec c a b d).axes = s.axes ∧
    (s.logRec c a b d).leds = s.leds ∧ (s.logRec c a b d).iLeds = s.iLeds ∧ (s.logRec c a b d).sets = s.sets ∧
    (s.logRec c a b d).coefBuf = s.coefBuf ∧ (s.logRec c a b d).saf = s.saf ∧ (s.logRec c a b d).wdg = s.wdg ∧
    (s.logRec c a b d).lpb = s.lpb ∧ (s.logRec c a b d).ten = s.ten ∧ (s.logRec c a b d).spi = s.spi ∧
    (s.logRec c a b d).mod = s.mod ∧ (s.logRec c a b d).tap = s.tap := by
  have e := s.logRec_frame c a b d
  generalize s.logRec c a b d = x at e ⊢
  rw [e]
  exact ⟨rfl, rfl, rfl, rfl, rfl, rfl, rfl, rfl, rfl, rfl, rfl, rfl, rfl, rfl, rfl, rfl, rfl, rfl, rfl, rfl, rfl, rfl, rfl, rfl, rfl, rfl, rfl, rfl, rfl, rfl, rfl, rfl, rfl, rfl, rfl, rfl, rfl, rfl⟩
@[simp] theorem State.fire_fields (s : State) (src : Nat) (w : Word) :
    (s.fire src w).pending = s.pending ∧ (s.fire src w).dev = s.dev ∧ (s.fire src w).snaps = s.snaps ∧
    (s.fire src w).eddyPage = s.eddyPage ∧ (s.fire src w).eddy = s.eddy ∧ (s.fire src w).time = s.time ∧
    (s.fire src w).upUs = s.upUs ∧ (s.fire src w).fresh = s.fresh ∧ (s.fire src w).hold = s.hold ∧
    (s.fire src w).sleep = s.sleep ∧ (s.fire src w).role = s.role ∧ (s.fire src w).cfg = s.cfg ∧
    (s.fire src w).pitch = s.pitch ∧ (s.fire src w).repitch = s.repitch ∧ (s.fire src w).ringImg = s.ringImg ∧
    (s.fire src w).streams = s.streams ∧ (s.fire src w).log = s.log ∧ (s.fire src w).mbx = s.mbx ∧
    (s.fire src w).slots = s.slots ∧ (s.fire src w).mss = s.mss ∧ (s.fire src w).flash = s.flash ∧
    (s.fire src w).ember = s.ember ∧ (s.fire src w).ring = s.ring ∧ (s.fire src w).isls = s.isls ∧
    (s.fire src w).chans = s.chans ∧ (s.fire src w).filts = s.filts ∧ (s.fire src w).capts = s.capts ∧
    (s.fire src w).axes = s.axes ∧ (s.fire src w).leds = s.leds ∧ (s.fire src w).iLeds = s.iLeds ∧
    (s.fire src w).sets = s.sets ∧ (s.fire src w).coefBuf = s.coefBuf ∧ (s.fire src w).saf = s.saf ∧
    (s.fire src w).wdg = s.wdg ∧ (s.fire src w).lpb = s.lpb ∧ (s.fire src w).ten = s.ten ∧ (s.fire src w).spi = s.spi ∧
    (s.fire src w).mod = s.mod ∧ (s.fire src w).load = s.load ∧ (s.fire src w).tap = s.tap := by
  have e := s.fire_frame src w
  generalize s.fire src w = x at e ⊢
  rw [e]
  exact ⟨rfl, rfl, rfl, rfl, rfl, rfl, rfl, rfl, rfl, rfl, rfl, rfl, rfl, rfl, rfl, rfl, rfl, rfl, rfl, rfl, rfl, rfl, rfl, rfl, rfl, rfl, rfl, rfl, rfl, rfl, rfl, rfl, rfl, rfl, rfl, rfl, rfl, rfl, rfl, rfl⟩
@[simp] theorem State.setDev_fields (s : State) (d : Dev) (n : Nat) :
    (s.setDev d n).dev = d ∧ (s.setDev d n).pending = s.pending ∧ (s.setDev d n).snaps = s.snaps ∧
    (s.setDev d n).eddyPage = s.eddyPage ∧ (s.setDev d n).eddy = s.eddy ∧ (s.setDev d n).time = s.time ∧
    (s.setDev d n).upUs = s.upUs ∧ (s.setDev d n).fresh = s.fresh ∧ (s.setDev d n).hold = s.hold ∧
    (s.setDev d n).role = s.role ∧ (s.setDev d n).cfg = s.cfg ∧
    (s.setDev d n).pitch = s.pitch ∧ (s.setDev d n).repitch = s.repitch ∧ (s.setDev d n).ringImg = s.ringImg ∧
    (s.setDev d n).evt = s.evt ∧ (s.setDev d n).streams = s.streams ∧ (s.setDev d n).mbx = s.mbx ∧
    (s.setDev d n).slots = s.slots ∧ (s.setDev d n).mss = s.mss ∧ (s.setDev d n).flash = s.flash ∧
    (s.setDev d n).ring = s.ring ∧ (s.setDev d n).isls = s.isls ∧ (s.setDev d n).chans = s.chans ∧
    (s.setDev d n).filts = s.filts ∧ (s.setDev d n).capts = s.capts ∧ (s.setDev d n).axes = s.axes ∧
    (s.setDev d n).leds = s.leds ∧ (s.setDev d n).iLeds = s.iLeds ∧ (s.setDev d n).sets = s.sets ∧
    (s.setDev d n).coefBuf = s.coefBuf ∧ (s.setDev d n).saf = s.saf ∧ (s.setDev d n).wdg = s.wdg ∧
    (s.setDev d n).lpb = s.lpb ∧ (s.setDev d n).ten = s.ten ∧ (s.setDev d n).spi = s.spi ∧ (s.setDev d n).mod = s.mod ∧
    (s.setDev d n).tap = s.tap := by
  unfold State.setDev
  split
  · exact ⟨‹_›, rfl, rfl, rfl, rfl, rfl, rfl, rfl, rfl, rfl, rfl, rfl, rfl, rfl, rfl, rfl, rfl, rfl, rfl, rfl, rfl, rfl, rfl, rfl, rfl, rfl, rfl, rfl, rfl, rfl, rfl, rfl, rfl, rfl, rfl, rfl, rfl⟩
  · simp only [State.logRec_fields, and_self]

end Sys2Proof.Machine
end

