-- ==== Sys2Proof/Laws/Access.lean ====
section
/-!
SUPPORT. What a read of a native word returns outside the views of the personality, and in the Eddy window.
-/
namespace Sys2Proof.Machine

theorem State.peek_plain (s : State) (p : Port) (a : Nat) (h1 : a ≠ 0x00511) (h2 : a < 0x05800 ∨ 0x05A00 ≤ a) :
    s.peek p a = s.plain p a := by
  have h3 : ¬ (0x05800 ≤ a ∧ a < 0x05A00) := by omega
  have h4 : s.rdRefused p a = false := by
    have h5 : (decide (0x05800 ≤ a) && decide (a < 0x05A00)) = false := by
      rw [← Bool.not_eq_true, Bool.and_eq_true, decide_eq_true_eq, decide_eq_true_eq]; exact h3
    unfold State.rdRefused; rw [h5, decide_eq_false h1]; rfl
  unfold State.peek
  rw [show (513 : Nat) = 512 + 1 from rfl, State.peekN.eq_2]
  rw [if_neg (by rw [h4]; exact Bool.false_ne_true)]
  dsimp only
  rw [if_neg h1, if_neg h3]
theorem State.peek_eddy (s : State) (p : Port) (a : Nat) (h1 : 0x80000 ≤ a) (h2 : a < 0x100000) :
    s.peek p a = s.eddyAt (s.eddyOf p a) := by
  rw [State.peek_plain s p a (by omega) (by omega)]
  unfold State.plain
  rw [if_pos h1, if_pos h2]

end Sys2Proof.Machine
end

