-- ==== Sys2Proof/Laws/Sound/Ops.lean ====
section
/-!
SUPPORT. The operations of Machine/Ops.lean keep a sound state sound: registers and Eddy in their one form, factory data as it
is.
-/
namespace Sys2Proof.Machine
set_option linter.unusedSimpArgs false
set_option linter.unusedTactic false
set_option linter.unreachableTactic false
set_option linter.unusedVariables false

@[simp] theorem State.sound_ite {F : Flash} {c : Prop} [Decidable c] (a b : State) :
    (if c then a else b).sound F = if c then a.sound F else b.sound F := by split <;> rfl
theorem State.ite_sound {F : Flash} {c : Prop} [Decidable c] {a b : State} (ha : c → a.sound F) (hb : ¬c → b.sound F) :
    (if c then a else b).sound F := by split <;> simp_all
/-- Soundness as a property of the three fields it is about. -/
def soundCore (F : Flash) (r : List (Nat × Word)) (e : List (Nat × Word)) (f : Flash) : Prop :=
  (Sparse.wf resetWord r = true ∧ Memory.wf e = true) ∧ f.sameFactory F
@[simp] theorem State.sound_mk {F : Flash} {pending dev regs snaps eddyPage eddy time upUs fresh hold sleep role cfg pitch repitch ringImg evt streams log mbx slots mss flash ember ring isls chans filts capts axes leds iLeds sets coefBuf saf wdg lpb ten spi mod load tap} : State.sound F ⟨pending, dev, regs, snaps, eddyPage, eddy, time, upUs, fresh, hold, sleep, role, cfg, pitch, repitch, ringImg, evt, streams, log, mbx, slots, mss, flash, ember, ring, isls, chans, filts, capts, axes, leds, iLeds, sets, coefBuf, saf, wdg, lpb, ten, spi, mod, load, tap⟩ = soundCore F regs eddy flash := propext ⟨fun h => h, fun h => h⟩
@[simp] theorem soundCore_self {F : Flash} {s : State} (h : s.sound F) : soundCore F s.regs s.eddy s.flash := h
@[simp] theorem soundCore_flash {F f : Flash} {s : State} (h : s.sound F) (hf : f.sameFactory s.flash) :
    soundCore F s.regs s.eddy f :=
  ⟨h.1, hf.1.trans h.2.1, hf.2.1.trans h.2.2.1, hf.2.2.1.trans h.2.2.2.1, hf.2.2.2.trans h.2.2.2.2⟩
@[simp] theorem Flash.sameFactory_self (f : Flash) : f.sameFactory f := ⟨rfl, rfl, rfl, rfl⟩
theorem State.foldl_sound {F : Flash} {α : Type} (f : State → α → State) (l : List α) {s : State}
    (hf : ∀ s x, s.sound F → (f s x).sound F) (h : s.sound F) : (l.foldl f s).sound F := by
  induction l generalizing s with
  | nil => exact h
  | cons x l ih => exact ih (hf s x h)
@[simp] theorem State.setReg_sound {F : Flash} {s : State} {a : Nat} {v : Word} (h : s.sound F) : (s.setReg a v).sound F :=
  ⟨⟨Sparse.set_wf _ _ _ _ h.1.1, h.1.2⟩, h.2⟩
@[simp] theorem State.setFld_sound {F : Flash} (s : State) (a hi lo v : Nat) (h : s.sound F) :
    (State.setFld s a hi lo v).sound F := by
  simp only [State.setFld, State.setReg_sound, *]
@[simp] theorem State.setBit_sound {F : Flash} (s : State) (a b : Nat) (v : Bool) (h : s.sound F) :
    (State.setBit s a b v).sound F := by
  simp only [State.setBit, State.setFld_sound, *]
@[simp] theorem State.bump_sound {F : Flash} (s : State) (a : Nat) (h : s.sound F) :
    (State.bump s a).sound F := by
  simp only [State.bump, State.setReg_sound, *]
@[simp] theorem State.bumpBy_sound {F : Flash} (s : State) (a n : Nat) (h : s.sound F) :
    (State.bumpBy s a n).sound F := by
  simp only [State.bumpBy, State.setReg_sound, *]
@[simp] theorem State.bumpFld_sound {F : Flash} (s : State) (a hi lo : Nat) (h : s.sound F) :
    (State.bumpFld s a hi lo).sound F := by
  simp only [State.bumpFld, State.setFld_sound, *]
@[simp] theorem State.clearImg_sound {F : Flash} (s : State) (h : s.sound F) :
    (State.clearImg s).sound F := by
  unfold State.clearImg
  simp (maxDischargeDepth := 60) (maxSteps := 30000) +contextual only [State.setReg_sound, State.foldl_sound, State.sound_ite, State.sound_mk, soundCore_self, soundCore_flash, Flash.sameFactory_self, if_true_left, if_true_right, ite_self, implies_true, *]
@[simp] theorem State.setTime_sound {F : Flash} (s : State) (a : Nat) (t : RingTime) (h : s.sound F) :
    (State.setTime s a t).sound F := by
  simp only [State.setTime, State.setReg_sound, *]
theorem State.when_sound {F : Flash} {s : State} (c : Bool) (f : State → State) (hf : ∀ s, s.sound F → (f s).sound F)
    (h : s.sound F) : (s.when c f).sound F := by
  unfold State.when; split
  · exact hf s h
  · exact h
@[simp] theorem State.setRing_sound {F : Flash} (s : State) (f : RingSt → RingSt) (h : s.sound F) :
    (State.setRing s f).sound F := by
  unfold State.setRing
  simp (maxDischargeDepth := 60) (maxSteps := 30000) +contextual only [State.sound_ite, State.sound_mk, soundCore_self, soundCore_flash, Flash.sameFactory_self, if_true_left, if_true_right, ite_self, implies_true, *]
@[simp] theorem State.deficit_sound {F : Flash} (s : State) (b : Nat) (h : s.sound F) :
    (State.deficit s b).sound F := by
  unfold State.deficit
  simp (maxDischargeDepth := 60) (maxSteps := 30000) +contextual only [State.sound_ite, State.sound_mk, soundCore_self, soundCore_flash, Flash.sameFactory_self, if_true_left, if_true_right, ite_self, implies_true, *]
@[simp] theorem State.setEddy_sound {F : Flash} {s : State} {a : Nat} {w : Word} (h : s.sound F) : (s.setEddy a w).sound F :=
  ⟨⟨h.1.1, Sparse.set_wf _ _ _ _ h.1.2⟩, h.2⟩
@[simp] theorem State.setEddyWords_sound {F : Flash} {s : State} {a : Nat} {ws : List Word} (h : s.sound F) :
    (s.setEddyWords a ws).sound F := by
  induction ws generalizing s a with
  | nil => exact h
  | cons w ws ih => exact ih (State.setEddy_sound h)

end Sys2Proof.Machine
end

