-- ==== Sys2Proof/Laws/Sound/Events.lean ====
section
/-!
SUPPORT. The operations of Machine/Events.lean keep a sound state sound: registers and Eddy in their one form, factory data as it
is.
-/
namespace Sys2Proof.Machine
set_option linter.unusedSimpArgs false
set_option linter.unusedTactic false
set_option linter.unreachableTactic false
set_option linter.unusedVariables false

@[simp] theorem State.record_sound {F : Flash} (s : State) (src : Nat) (stamp : RingTime) (data : Word) (h : s.sound F) :
    (State.record s src stamp data).sound F := by
  unfold State.record
  simp (maxDischargeDepth := 60) (maxSteps := 30000) +contextual only [State.setFld_sound, State.bump_sound, State.sound_ite, State.sound_mk, soundCore_self, soundCore_flash, Flash.sameFactory_self, if_true_left, if_true_right, ite_self, implies_true, *]
@[simp] theorem State.occur_sound {F : Flash} (s : State) (src : Nat) (stamp : RingTime) (data : Word) (h : s.sound F) :
    (State.occur s src stamp data).sound F := by
  unfold State.occur
  simp (maxDischargeDepth := 60) (maxSteps := 30000) +contextual only [State.setBit_sound, State.record_sound, State.sound_ite, State.sound_mk, soundCore_self, soundCore_flash, Flash.sameFactory_self, if_true_left, if_true_right, ite_self, implies_true, *]
@[simp] theorem State.markDef_sound {F : Flash} (s : State) (k : Fin 8) (h : s.sound F) :
    (State.markDef s k).sound F := by
  unfold State.markDef
  simp (maxDischargeDepth := 60) (maxSteps := 30000) +contextual only [State.sound_ite, State.sound_mk, soundCore_self, soundCore_flash, Flash.sameFactory_self, if_true_left, if_true_right, ite_self, implies_true, *]
@[simp] theorem State.fireN_sound {F : Flash} (n : Nat) (s : State) (src : Nat) (t : RingTime) (w : Word) (h : s.sound F) :
    (State.fireN n s src t w).sound F := by
  induction n generalizing s src t w with
  | zero => exact State.occur_sound _ _ _ _ h
  | succ n ih =>
    unfold State.fireN; dsimp only
    have hx := State.occur_sound s src t w h
    generalize State.occur s src t w = x at hx ⊢
    have next : ∀ (y : State) (k : Fin 8), y.sound F → (if y.wantsLag k then
        State.fireN n ((y.setBit (SLC k 1) 1 true).markDef k) 469 y.time (toWord (k.val + 8)) else y).sound F := fun y k hy =>
      State.ite_sound (fun _ => ih _ _ _ _ (State.markDef_sound _ _ (State.setBit_sound _ _ _ _ hy))) fun _ => hy
    split
    · exact hx
    · rename_i k _
      by_cases c : x.evt.strTok[k.val] < 1000
      · simp only [if_pos c]; exact next _ _ (State.markDef_sound _ _ hx)
      · simp only [if_neg c]; exact next _ _ hx
@[simp] theorem State.fireAt_sound {F : Flash} (s : State) (src : Nat) (stamp : RingTime) (data : Word) (h : s.sound F) :
    (State.fireAt s src stamp data).sound F := by
  unfold State.fireAt
  simp (maxDischargeDepth := 60) (maxSteps := 30000) +contextual only [State.fireN_sound, State.sound_ite, State.sound_mk, soundCore_self, soundCore_flash, Flash.sameFactory_self, if_true_left, if_true_right, ite_self, implies_true, *]
@[simp] theorem State.fire_sound {F : Flash} (s : State) (src : Nat) (data : Word) (h : s.sound F) :
    (State.fire s src data).sound F := by
  simp only [State.fire, State.fireAt_sound, *]
@[simp] theorem State.logPut_sound {F : Flash} (s : State) (code : Nat) (d0 d1 d2 : Word) (h : s.sound F) :
    (State.logPut s code d0 d1 d2).sound F := by
  unfold State.logPut
  simp (maxDischargeDepth := 60) (maxSteps := 30000) +contextual only [State.sound_ite, State.sound_mk, soundCore_self, soundCore_flash, Flash.sameFactory_self, if_true_left, if_true_right, ite_self, implies_true, *]
@[simp] theorem State.logRec_sound {F : Flash} (s : State) (code : Nat) (d0 d1 d2 : Word) (h : s.sound F) :
    (State.logRec s code d0 d1 d2).sound F := by
  unfold State.logRec
  simp (maxDischargeDepth := 60) (maxSteps := 30000) +contextual only [State.bump_sound, State.deficit_sound, State.logPut_sound, State.sound_ite, State.sound_mk, soundCore_self, soundCore_flash, Flash.sameFactory_self, if_true_left, if_true_right, ite_self, implies_true, *]

end Sys2Proof.Machine
end

