-- ==== Sys2Proof/Laws/Sound/Mailbox.lean ====
section
/-!
SUPPORT. The operations of Machine/Mailbox.lean keep a sound state sound: registers and Eddy in their one form, factory data as it
is.
-/
namespace Sys2Proof.Machine
set_option linter.unusedSimpArgs false
set_option linter.unusedTactic false
set_option linter.unreachableTactic false
set_option linter.unusedVariables false

@[simp] theorem State.setMbx_sound {F : Flash} (s : State) (p : Port) (m : Mailbox) (h : s.sound F) :
    (State.setMbx s p m).sound F := by
  unfold State.setMbx
  simp (maxDischargeDepth := 60) (maxSteps := 30000) +contextual only [State.sound_ite, State.sound_mk, soundCore_self, soundCore_flash, Flash.sameFactory_self, if_true_left, if_true_right, ite_self, implies_true, *]
@[simp] theorem State.sendMail_sound {F : Flash} (s : State) (m : Mail) (h : s.sound F) :
    (State.sendMail s m).sound F := by
  unfold State.sendMail
  simp (maxDischargeDepth := 60) (maxSteps := 30000) +contextual only [State.deficit_sound, State.sound_ite, State.sound_mk, soundCore_self, soundCore_flash, Flash.sameFactory_self, if_true_left, if_true_right, ite_self, implies_true, *]
@[simp] theorem State.answerMail_sound {F : Flash} (s : State) (node tag : Nat) (kind : MailKind) (status detail hint : Nat) (ws : List Word) (h : s.sound F) :
    (State.answerMail s node tag kind status detail hint ws).sound F := by
  simp only [State.answerMail, State.sendMail_sound, *]
@[simp] theorem State.ringMbxAnswer_sound {F : Flash} (s : State) (p : Port) (ws : List Word) (h : s.sound F) :
    (State.ringMbxAnswer s p ws).sound F := by
  unfold State.ringMbxAnswer
  repeat' (first | (simp (maxDischargeDepth := 60) (maxSteps := 30000) +contextual only [State.answerMail_sound, State.sound_ite, State.sound_mk, soundCore_self, soundCore_flash, Flash.sameFactory_self, if_true_left, if_true_right, ite_self, implies_true, *]; done) | split)
@[simp] theorem State.finish_sound {F : Flash} (s : State) (p : Port) (status : Nat) (ws : List Word) (h : s.sound F) :
    (State.finish s p status ws).sound F := by
  unfold State.finish
  simp (maxDischargeDepth := 60) (maxSteps := 30000) +contextual only [State.fire_sound, State.setMbx_sound, State.ringMbxAnswer_sound, State.sound_ite, State.sound_mk, soundCore_self, soundCore_flash, Flash.sameFactory_self, if_true_left, if_true_right, ite_self, implies_true, *]
@[simp] theorem State.setHolder_sound {F : Flash} (s : State) (new : Option Port) (h : s.sound F) :
    (State.setHolder s new).sound F := by
  unfold State.setHolder
  simp (maxDischargeDepth := 60) (maxSteps := 30000) +contextual only [State.bumpFld_sound, State.fire_sound, State.logRec_sound, State.sound_ite, State.sound_mk, soundCore_self, soundCore_flash, Flash.sameFactory_self, if_true_left, if_true_right, ite_self, implies_true, *]
@[simp] theorem State.claimTake_sound {F : Flash} (s : State) (p : Port) (code st : Nat) (h : s.sound F) :
    (State.claimTake s p code st).sound F := by
  unfold State.claimTake
  simp (maxDischargeDepth := 60) (maxSteps := 30000) +contextual only [State.setHolder_sound, State.sound_ite, State.sound_mk, soundCore_self, soundCore_flash, Flash.sameFactory_self, if_true_left, if_true_right, ite_self, implies_true, *]
@[simp] theorem State.submit_sound {F : Flash} (s : State) (p : Port) (cmd : Word) (role : Nat) (h : s.sound F) :
    (State.submit s p cmd role).sound F := by
  unfold State.submit
  simp (maxDischargeDepth := 60) (maxSteps := 30000) +contextual only [State.deficit_sound, State.setMbx_sound, State.finish_sound, State.claimTake_sound, State.sound_ite, State.sound_mk, soundCore_self, soundCore_flash, Flash.sameFactory_self, if_true_left, if_true_right, ite_self, implies_true, *]
@[simp] theorem State.takeJob_sound {F : Flash} (s : State) (p : Port) (h : s.sound F) :
    (State.takeJob s p).sound F := by
  simp only [State.takeJob, State.setMbx_sound, *]
@[simp] theorem State.startOp_sound {F : Flash} (s : State) (p : Port) (j : Job) (h : s.sound F) :
    (State.startOp s p j).sound F := by
  unfold State.startOp
  simp (maxDischargeDepth := 60) (maxSteps := 30000) +contextual only [State.takeJob_sound, State.sound_ite, State.sound_mk, soundCore_self, soundCore_flash, Flash.sameFactory_self, if_true_left, if_true_right, ite_self, implies_true, *]
@[simp] theorem State.endOp_sound {F : Flash} (s : State) (status : Nat) (ws : List Word) (h : s.sound F) :
    (State.endOp s status ws).sound F := by
  unfold State.endOp
  repeat' (first | (simp (maxDischargeDepth := 60) (maxSteps := 30000) +contextual only [State.finish_sound, State.sound_ite, State.sound_mk, soundCore_self, soundCore_flash, Flash.sameFactory_self, if_true_left, if_true_right, ite_self, implies_true, *]; done) | split)
@[simp] theorem State.command_sound {F : Flash} (s : State) (p : Port) (code : Nat) (long : Bool) (bad : Job → Option Nat)
    (ok : Bool) (body : Job → State → State) (h : s.sound F) (hb : ∀ j s, s.sound F → (body j s).sound F) :
    (s.command p code long bad ok body).sound F := by
  unfold State.command
  repeat' (first | (simp (maxDischargeDepth := 60) only [State.finish_sound, State.sound_ite, ite_self, h, hb, if_true_left, if_true_right, implies_true]; done) | split)

end Sys2Proof.Machine
end

