-- ==== Sys2Proof/Laws/Sound/Cells.lean ====
section
/-!
SUPPORT. The operations of Machine/Cells.lean keep a sound state sound: registers and Eddy in their one form, factory data as it
is.
-/
namespace Sys2Proof.Machine
set_option linter.unusedSimpArgs false
set_option linter.unusedTactic false
set_option linter.unreachableTactic false
set_option linter.unusedVariables false

@[simp] theorem State.setIsl_sound {F : Flash} (s : State) (i : Fin 8) (f : Isl → Isl) (h : s.sound F) :
    (State.setIsl s i f).sound F := by
  unfold State.setIsl
  simp (maxDischargeDepth := 60) (maxSteps := 30000) +contextual only [State.sound_ite, State.sound_mk, soundCore_self, soundCore_flash, Flash.sameFactory_self, if_true_left, if_true_right, ite_self, implies_true, *]
@[simp] theorem State.setCell_sound {F : Flash} (s : State) (c : Fin 32) (f : Cell → Cell) (h : s.sound F) :
    (State.setCell s c f).sound F := by
  simp only [State.setCell, State.setIsl_sound, *]
@[simp] theorem State.setChan_sound {F : Flash} (s : State) (c : Fin 32) (f : Chan → Chan) (h : s.sound F) :
    (State.setChan s c f).sound F := by
  unfold State.setChan
  simp (maxDischargeDepth := 60) (maxSteps := 30000) +contextual only [State.sound_ite, State.sound_mk, soundCore_self, soundCore_flash, Flash.sameFactory_self, if_true_left, if_true_right, ite_self, implies_true, *]
@[simp] theorem State.setFilt_sound {F : Flash} (s : State) (c : Fin 32) (f : Filt → Filt) (h : s.sound F) :
    (State.setFilt s c f).sound F := by
  unfold State.setFilt
  simp (maxDischargeDepth := 60) (maxSteps := 30000) +contextual only [State.sound_ite, State.sound_mk, soundCore_self, soundCore_flash, Flash.sameFactory_self, if_true_left, if_true_right, ite_self, implies_true, *]
@[simp] theorem State.setAxis_sound {F : Flash} (s : State) (a : Fin 8) (f : Axis → Axis) (h : s.sound F) :
    (State.setAxis s a f).sound F := by
  unfold State.setAxis
  simp (maxDischargeDepth := 60) (maxSteps := 30000) +contextual only [State.sound_ite, State.sound_mk, soundCore_self, soundCore_flash, Flash.sameFactory_self, if_true_left, if_true_right, ite_self, implies_true, *]

end Sys2Proof.Machine
end

