-- ==== Sys2Proof/Laws/Sound/Filter.lean ====
section
/-!
SUPPORT. The operations of Machine/Filter.lean keep a sound state sound: registers and Eddy in their one form, factory data as it
is.
-/
namespace Sys2Proof.Machine
set_option linter.unusedSimpArgs false
set_option linter.unusedTactic false
set_option linter.unreachableTactic false
set_option linter.unusedVariables false

@[simp] theorem State.channelReset_sound {F : Flash} (s : State) (c : Fin 32) (cause : Nat) (h : s.sound F) :
    (State.channelReset s c cause).sound F := by
  unfold State.channelReset
  simp (maxDischargeDepth := 60) (maxSteps := 30000) +contextual only [State.setReg_sound, State.setFld_sound, State.setBit_sound, State.setChan_sound, State.setFilt_sound, State.sound_ite, State.sound_mk, soundCore_self, soundCore_flash, Flash.sameFactory_self, if_true_left, if_true_right, ite_self, implies_true, *]
@[simp] theorem State.requestReset_sound {F : Flash} (s : State) (c : Fin 32) (cause : Nat) (h : s.sound F) :
    (State.requestReset s c cause).sound F := by
  unfold State.requestReset
  simp (maxDischargeDepth := 60) (maxSteps := 30000) +contextual only [State.setFilt_sound, State.sound_ite, State.sound_mk, soundCore_self, soundCore_flash, Flash.sameFactory_self, if_true_left, if_true_right, ite_self, implies_true, *]
@[simp] theorem State.setClass_sound {F : Flash} (s : State) (c : Fin 32) (k : Nat) (t : RingTime) (h : s.sound F) :
    (State.setClass s c k t).sound F := by
  unfold State.setClass
  simp (maxDischargeDepth := 60) (maxSteps := 30000) +contextual only [State.setFld_sound, State.fireAt_sound, State.setChan_sound, State.sound_ite, State.sound_mk, soundCore_self, soundCore_flash, Flash.sameFactory_self, if_true_left, if_true_right, ite_self, implies_true, *]
@[simp] theorem State.classify_sound {F : Flash} (s : State) (c : Fin 32) (v : Int) (t : RingTime) (h : s.sound F) :
    (State.classify s c v t).sound F := by
  unfold State.classify
  simp (maxDischargeDepth := 60) (maxSteps := 30000) +contextual only [State.setChan_sound, State.setClass_sound, State.sound_ite, State.sound_mk, soundCore_self, soundCore_flash, Flash.sameFactory_self, if_true_left, if_true_right, ite_self, implies_true, *]
@[simp] theorem State.scale_sound {F : Flash} (s : State) (c : Fin 32) (v : Int) (h : s.sound F) :
    (State.scale s c v).sound F := by
  simp only [State.scale, State.setReg_sound, *]
@[simp] theorem State.limitCheck_sound {F : Flash} (s : State) (c : Fin 32) (v : Int) (t : RingTime) (h : s.sound F) :
    (State.limitCheck s c v t).sound F := by
  unfold State.limitCheck
  simp (maxDischargeDepth := 60) (maxSteps := 30000) +contextual only [State.setBit_sound, State.fireAt_sound, State.setChan_sound, State.sound_ite, State.sound_mk, soundCore_self, soundCore_flash, Flash.sameFactory_self, if_true_left, if_true_right, ite_self, implies_true, *]
@[simp] theorem State.average_sound {F : Flash} (s : State) (c : Fin 32) (v : Int) (good : Bool) (t : RingTime) (h : s.sound F) :
    (State.average s c v good t).1.sound F := by
  unfold State.average
  repeat' (first
    | (intro x; first
        | (have hx : State.sound F x := by
            simp only [x]
            repeat' (first
              | (simp (maxDischargeDepth := 60) (maxSteps := 30000) +contextual only [State.setReg_sound, State.setFld_sound, State.setTime_sound, State.setFilt_sound, State.sound_ite, State.sound_mk, soundCore_self, soundCore_flash, Flash.sameFactory_self, if_true_left, if_true_right, ite_self, implies_true, *]; done)
              | split
              | (refine State.foldl_sound _ _ ?_ ?_ <;> intros)
              | (refine State.when_sound _ _ ?_ ?_ <;> intros))
           clear_value x)
        | clear_value x
        | skip)
    | lift_lets
    | (simp (maxDischargeDepth := 60) (maxSteps := 30000) +contextual only [State.setReg_sound, State.setFld_sound, State.setTime_sound, State.setFilt_sound, State.sound_ite, State.sound_mk, soundCore_self, soundCore_flash, Flash.sameFactory_self, if_true_left, if_true_right, ite_self, implies_true, *]; done)
    | split
    | (refine State.foldl_sound _ _ ?_ ?_ <;> intros)
    | (refine State.when_sound _ _ ?_ ?_ <;> intros)
    | dsimp only)
@[simp] theorem State.calTake_sound {F : Flash} (s : State) (c : Fin 32) (v : Int) (good : Bool) (h : s.sound F) :
    (State.calTake s c v good).sound F := by
  unfold State.calTake
  simp (maxDischargeDepth := 60) (maxSteps := 30000) +contextual only [State.setChan_sound, State.sound_ite, State.sound_mk, soundCore_self, soundCore_flash, Flash.sameFactory_self, if_true_left, if_true_right, ite_self, implies_true, *]
@[simp] theorem State.publishFine_sound {F : Flash} (s : State) (c : Fin 32) (y : Int) (bad sat : Bool) (h : s.sound F) :
    (State.publishFine s c y bad sat).1.sound F := by
  unfold State.publishFine
  simp (maxDischargeDepth := 60) (maxSteps := 30000) +contextual only [State.setReg_sound, State.setFld_sound, State.setBit_sound, State.setTime_sound, State.setChan_sound, State.setFilt_sound, State.classify_sound, State.scale_sound, State.limitCheck_sound, State.average_sound, State.calTake_sound, State.sound_ite, State.sound_mk, soundCore_self, soundCore_flash, Flash.sameFactory_self, if_true_left, if_true_right, ite_self, implies_true, *]
@[simp] theorem State.guards_sound {F : Flash} (s : State) (c : Fin 32) (gs : List Nat) (k : Nat) (h : s.sound F) :
    (s.guards c gs k).sound F := by
  induction gs generalizing s k with
  | nil => exact h
  | cons g gs ih =>
    exact ih _ _ (State.when_sound _ _ (fun s h => State.foldl_sound _ _ (fun _ _ h => State.fire_sound _ _ _ h)
      (State.bumpBy_sound _ _ _ (State.setBit_sound _ _ _ _ h))) h)
@[simp] theorem State.fineOutput_sound {F : Flash} (s : State) (c : Fin 32) (h : s.sound F) :
    (State.fineOutput s c).1.sound F := by
  unfold State.fineOutput
  repeat' (first
    | (intro x; first
        | (have hx : State.sound F x := by
            simp only [x]
            repeat' (first
              | (simp (maxDischargeDepth := 60) (maxSteps := 30000) +contextual only [State.setFilt_sound, State.publishFine_sound, State.guards_sound, State.sound_ite, State.sound_mk, soundCore_self, soundCore_flash, Flash.sameFactory_self, if_true_left, if_true_right, ite_self, implies_true, *]; done)
              | split
              | (refine State.foldl_sound _ _ ?_ ?_ <;> intros)
              | (refine State.when_sound _ _ ?_ ?_ <;> intros))
           clear_value x)
        | (have hx : State.sound F x.2 := by
            simp only [x]
            repeat' (first
              | (simp (maxDischargeDepth := 60) (maxSteps := 30000) +contextual only [State.setFilt_sound, State.publishFine_sound, State.guards_sound, State.sound_ite, State.sound_mk, soundCore_self, soundCore_flash, Flash.sameFactory_self, if_true_left, if_true_right, ite_self, implies_true, *]; done)
              | split
              | (refine State.foldl_sound _ _ ?_ ?_ <;> intros)
              | (refine State.when_sound _ _ ?_ ?_ <;> intros))
           clear_value x)
        | (have hx : State.sound F x.1 := by
            simp only [x]
            repeat' (first
              | (simp (maxDischargeDepth := 60) (maxSteps := 30000) +contextual only [State.setFilt_sound, State.publishFine_sound, State.guards_sound, State.sound_ite, State.sound_mk, soundCore_self, soundCore_flash, Flash.sameFactory_self, if_true_left, if_true_right, ite_self, implies_true, *]; done)
              | split
              | (refine State.foldl_sound _ _ ?_ ?_ <;> intros)
              | (refine State.when_sound _ _ ?_ ?_ <;> intros))
           clear_value x)
        | clear_value x
        | skip)
    | lift_lets
    | (simp (maxDischargeDepth := 60) (maxSteps := 30000) +contextual only [State.setFilt_sound, State.publishFine_sound, State.guards_sound, State.sound_ite, State.sound_mk, soundCore_self, soundCore_flash, Flash.sameFactory_self, if_true_left, if_true_right, ite_self, implies_true, *]; done)
    | split
    | (refine State.foldl_sound _ _ ?_ ?_ <;> intros)
    | (refine State.when_sound _ _ ?_ ?_ <;> intros)
    | dsimp only)
@[simp] theorem State.riffleWindow_sound {F : Flash} (s : State) (c : Fin 32) (v : Int) (t : RingTime) (h : s.sound F) :
    (State.riffleWindow s c v t).sound F := by
  unfold State.riffleWindow
  simp (maxDischargeDepth := 60) (maxSteps := 30000) +contextual only [State.setFld_sound, State.fireAt_sound, State.setFilt_sound, State.sound_ite, State.sound_mk, soundCore_self, soundCore_flash, Flash.sameFactory_self, if_true_left, if_true_right, ite_self, implies_true, *]
@[simp] theorem State.riffleValue_sound {F : Flash} (s : State) (c : Fin 32) (h : s.sound F) :
    (State.riffleValue s c).1.sound F := by
  unfold State.riffleValue
  repeat' (first
    | (intro x; first
        | (have hx : State.sound F x := by
            simp only [x]
            repeat' (first
              | (simp (maxDischargeDepth := 60) (maxSteps := 30000) +contextual only [State.setReg_sound, State.setFld_sound, State.setBit_sound, State.setTime_sound, State.setChan_sound, State.setFilt_sound, State.riffleWindow_sound, State.sound_ite, State.sound_mk, soundCore_self, soundCore_flash, Flash.sameFactory_self, if_true_left, if_true_right, ite_self, implies_true, *]; done)
              | split
              | (refine State.foldl_sound _ _ ?_ ?_ <;> intros)
              | (refine State.when_sound _ _ ?_ ?_ <;> intros))
           clear_value x)
        | (have hx : State.sound F x.2 := by
            simp only [x]
            repeat' (first
              | (simp (maxDischargeDepth := 60) (maxSteps := 30000) +contextual only [State.setReg_sound, State.setFld_sound, State.setBit_sound, State.setTime_sound, State.setChan_sound, State.setFilt_sound, State.riffleWindow_sound, State.sound_ite, State.sound_mk, soundCore_self, soundCore_flash, Flash.sameFactory_self, if_true_left, if_true_right, ite_self, implies_true, *]; done)
              | split
              | (refine State.foldl_sound _ _ ?_ ?_ <;> intros)
              | (refine State.when_sound _ _ ?_ ?_ <;> intros))
           clear_value x)
        | (have hx : State.sound F x.1 := by
            simp only [x]
            repeat' (first
              | (simp (maxDischargeDepth := 60) (maxSteps := 30000) +contextual only [State.setReg_sound, State.setFld_sound, State.setBit_sound, State.setTime_sound, State.setChan_sound, State.setFilt_sound, State.riffleWindow_sound, State.sound_ite, State.sound_mk, soundCore_self, soundCore_flash, Flash.sameFactory_self, if_true_left, if_true_right, ite_self, implies_true, *]; done)
              | split
              | (refine State.foldl_sound _ _ ?_ ?_ <;> intros)
              | (refine State.when_sound _ _ ?_ ?_ <;> intros))
           clear_value x)
        | clear_value x
        | skip)
    | lift_lets
    | (simp (maxDischargeDepth := 60) (maxSteps := 30000) +contextual only [State.setReg_sound, State.setFld_sound, State.setBit_sound, State.setTime_sound, State.setChan_sound, State.setFilt_sound, State.riffleWindow_sound, State.sound_ite, State.sound_mk, soundCore_self, soundCore_flash, Flash.sameFactory_self, if_true_left, if_true_right, ite_self, implies_true, *]; done)
    | split
    | (refine State.foldl_sound _ _ ?_ ?_ <;> intros)
    | (refine State.when_sound _ _ ?_ ?_ <;> intros)
    | (dsimp only; split)
    | dsimp only)
@[simp] theorem State.coefCommit_sound {F : Flash} (s : State) (h : s.sound F) :
    (State.coefCommit s).sound F := by
  unfold State.coefCommit
  simp (maxDischargeDepth := 60) (maxSteps := 30000) +contextual only [State.setReg_sound, State.setFld_sound, State.sound_ite, State.sound_mk, soundCore_self, soundCore_flash, Flash.sameFactory_self, if_true_left, if_true_right, ite_self, implies_true, *]

end Sys2Proof.Machine
end

