-- ==== Sys2Proof/Laws/Sound/Streams.lean ====
section
/-!
SUPPORT. The operations of Machine/Streams.lean keep a sound state sound: registers and Eddy in their one form, factory data as it
is.
-/
namespace Sys2Proof.Machine
set_option linter.unusedSimpArgs false
set_option linter.unusedTactic false
set_option linter.unreachableTactic false
set_option linter.unusedVariables false

@[simp] theorem State.setStream_sound {F : Flash} (s : State) (k : Fin 8) (f : Stream → Stream) (h : s.sound F) :
    (State.setStream s k f).sound F := by
  unfold State.setStream
  simp (maxDischargeDepth := 60) (maxSteps := 30000) +contextual only [State.sound_ite, State.sound_mk, soundCore_self, soundCore_flash, Flash.sameFactory_self, if_true_left, if_true_right, ite_self, implies_true, *]
@[simp] theorem State.slcMark_sound {F : Flash} (s : State) (k : Fin 8) (h : s.sound F) :
    (State.slcMark s k).sound F := by
  unfold State.slcMark
  simp (maxDischargeDepth := 60) (maxSteps := 30000) +contextual only [State.markDef_sound, State.sound_ite, State.sound_mk, soundCore_self, soundCore_flash, Flash.sameFactory_self, if_true_left, if_true_right, ite_self, implies_true, *]
@[simp] theorem State.slcSetLag_sound {F : Flash} (s : State) (k : Fin 8) (b : Bool) (h : s.sound F) :
    (State.slcSetLag s k b).sound F := by
  unfold State.slcSetLag
  simp (maxDischargeDepth := 60) (maxSteps := 30000) +contextual only [State.setBit_sound, State.markDef_sound, State.fire_sound, State.sound_ite, State.sound_mk, soundCore_self, soundCore_flash, Flash.sameFactory_self, if_true_left, if_true_right, ite_self, implies_true, *]
@[simp] theorem State.slcEval_sound {F : Flash} (s : State) (k : Fin 8) (h : s.sound F) :
    (State.slcEval s k).sound F := by
  unfold State.slcEval
  simp (maxDischargeDepth := 60) (maxSteps := 30000) +contextual only [State.slcMark_sound, State.slcSetLag_sound, State.sound_ite, State.sound_mk, soundCore_self, soundCore_flash, Flash.sameFactory_self, if_true_left, if_true_right, ite_self, implies_true, *]
@[simp] theorem State.slcLose_sound {F : Flash} (s : State) (k : Fin 8) (n : Nat) (h : s.sound F) :
    (State.slcLose s k n).sound F := by
  unfold State.slcLose
  simp (maxDischargeDepth := 60) (maxSteps := 30000) +contextual only [State.bumpBy_sound, State.setStream_sound, State.sound_ite, State.sound_mk, soundCore_self, soundCore_flash, Flash.sameFactory_self, if_true_left, if_true_right, ite_self, implies_true, *]
@[simp] theorem State.slcOffer_sound {F : Flash} (s : State) (q : Fin 16) (blk : Nat × Nat × Nat × Bool) (h : s.sound F) :
    (State.slcOffer s q blk).sound F := by
  unfold State.slcOffer
  simp (maxDischargeDepth := 60) (maxSteps := 30000) +contextual only [State.setStream_sound, State.slcEval_sound, State.slcLose_sound, State.foldl_sound, State.sound_ite, State.sound_mk, soundCore_self, soundCore_flash, Flash.sameFactory_self, if_true_left, if_true_right, ite_self, implies_true, *]
@[simp] theorem State.slcOverrun_sound {F : Flash} (s : State) (q : Fin 16) (nos : List Nat) (h : s.sound F) :
    (State.slcOverrun s q nos).sound F := by
  unfold State.slcOverrun
  simp (maxDischargeDepth := 60) (maxSteps := 30000) +contextual only [State.setStream_sound, State.slcLose_sound, State.foldl_sound, State.sound_ite, State.sound_mk, soundCore_self, soundCore_flash, Flash.sameFactory_self, if_true_left, if_true_right, ite_self, implies_true, *]

end Sys2Proof.Machine
end

