-- ==== Sys2Proof/Laws/Sound/Capture.lean ====
section
/-!
SUPPORT. The operations of Machine/Capture.lean keep a sound state sound: registers and Eddy in their one form, factory data as it
is.
-/
namespace Sys2Proof.Machine
set_option linter.unusedSimpArgs false
set_option linter.unusedTactic false
set_option linter.unreachableTactic false
set_option linter.unusedVariables false

@[simp] theorem State.eddyUncorrectable_sound {F : Flash} (s : State) (a : Nat) (h : s.sound F) :
    (State.eddyUncorrectable s a).sound F := by
  unfold State.eddyUncorrectable
  simp (maxDischargeDepth := 60) (maxSteps := 30000) +contextual only [State.setFld_sound, State.bump_sound, State.fire_sound, State.logRec_sound, State.sound_ite, State.sound_mk, soundCore_self, soundCore_flash, Flash.sameFactory_self, if_true_left, if_true_right, ite_self, implies_true, *]
@[simp] theorem State.setCapt_sound {F : Flash} (s : State) (q : Fin 16) (f : Capt → Capt) (h : s.sound F) :
    (State.setCapt s q f).sound F := by
  unfold State.setCapt
  simp (maxDischargeDepth := 60) (maxSteps := 30000) +contextual only [State.sound_ite, State.sound_mk, soundCore_self, soundCore_flash, Flash.sameFactory_self, if_true_left, if_true_right, ite_self, implies_true, *]
@[simp] theorem State.setCapState_sound {F : Flash} (s : State) (q : Fin 16) (n : Nat) (h : s.sound F) :
    (State.setCapState s q n).sound F := by
  simp only [State.setCapState, State.setFld_sound, *]
@[simp] theorem State.capArm_sound {F : Flash} (s : State) (q : Fin 16) (h : s.sound F) :
    (State.capArm s q).sound F := by
  simp only [State.capArm, State.setFld_sound, State.setCapState_sound, *]
@[simp] theorem State.capMiss_sound {F : Flash} (s : State) (q : Fin 16) (reason : Nat) (h : s.sound F) :
    (State.capMiss s q reason).sound F := by
  unfold State.capMiss
  simp (maxDischargeDepth := 60) (maxSteps := 30000) +contextual only [State.bump_sound, State.deficit_sound, State.fire_sound, State.sound_ite, State.sound_mk, soundCore_self, soundCore_flash, Flash.sameFactory_self, if_true_left, if_true_right, ite_self, implies_true, *]
@[simp] theorem State.capStore_sound {F : Flash} (s : State) (q : Fin 16) (x : SampleSet) (h : s.sound F) :
    (State.capStore s q x).sound F := by
  simp only [State.capStore, State.setEddyWords_sound, State.setCapt_sound, *]
@[simp] theorem State.capOpen_sound {F : Flash} (s : State) (q : Fin 16) (h : s.sound F) :
    (State.capOpen s q).sound F := by
  unfold State.capOpen
  simp (maxDischargeDepth := 60) (maxSteps := 30000) +contextual only [State.setFld_sound, State.bumpBy_sound, State.deficit_sound, State.setEddy_sound, State.slcOverrun_sound, State.setCapt_sound, State.when_sound, State.sound_ite, State.sound_mk, soundCore_self, soundCore_flash, Flash.sameFactory_self, if_true_left, if_true_right, ite_self, implies_true, *]
@[simp] theorem State.capOffer_sound {F : Flash} (s : State) (q : Fin 16) (b : Block) (h : s.sound F) :
    (State.capOffer s q b).sound F := by
  simp only [State.capOffer, State.slcOffer_sound, *]
@[simp] theorem State.capFinish_sound {F : Flash} (s : State) (q : Fin 16) (aborted : Bool) (h : s.sound F) :
    (State.capFinish s q aborted).sound F := by
  unfold State.capFinish
  simp (maxDischargeDepth := 60) (maxSteps := 30000) +contextual only [State.setFld_sound, State.setEddyWords_sound, State.fire_sound, State.setCapt_sound, State.capOffer_sound, State.sound_ite, State.sound_mk, soundCore_self, soundCore_flash, Flash.sameFactory_self, if_true_left, if_true_right, ite_self, implies_true, *]
@[simp] theorem State.capBegin_sound {F : Flash} (s : State) (q : Fin 16) (queued : Bool) (ofs : Int) (h : s.sound F) :
    (State.capBegin s q queued ofs).sound F := by
  simp only [State.capBegin, State.setCapt_sound, State.setCapState_sound, *]
@[simp] theorem State.capTrigger_sound {F : Flash} (s : State) (q : Fin 16) (h : s.sound F) :
    (State.capTrigger s q).sound F := by
  unfold State.capTrigger
  repeat' (first | (simp (maxDischargeDepth := 60) (maxSteps := 30000) +contextual only [State.setBit_sound, State.setCapt_sound, State.capArm_sound, State.capMiss_sound, State.capFinish_sound, State.capBegin_sound, State.sound_ite, State.sound_mk, soundCore_self, soundCore_flash, Flash.sameFactory_self, if_true_left, if_true_right, ite_self, implies_true, *]; done) | split)
@[simp] theorem State.capTake_sound {F : Flash} (s : State) (q : Fin 16) (lead : Fin 32) (t : RingTime) (h : s.sound F) :
    (State.capTake s q lead t).sound F := by
  unfold State.capTake
  simp (maxDischargeDepth := 60) (maxSteps := 30000) +contextual only [State.setCapt_sound, State.capStore_sound, State.capOpen_sound, State.foldl_sound, State.sound_ite, State.sound_mk, soundCore_self, soundCore_flash, Flash.sameFactory_self, if_true_left, if_true_right, ite_self, implies_true, *]
@[simp] theorem State.captures_sound {F : Flash} (s : State) (c : Fin 32) (src : Nat) (t : RingTime) (h : s.sound F) :
    (State.captures s c src t).sound F := by
  unfold State.captures
  simp (maxDischargeDepth := 60) (maxSteps := 30000) +contextual only [State.capTake_sound, State.foldl_sound, State.sound_ite, State.sound_mk, soundCore_self, soundCore_flash, Flash.sameFactory_self, if_true_left, if_true_right, ite_self, implies_true, *]
@[simp] theorem State.capArmCmd_sound {F : Flash} (s : State) (q : Fin 16) (h : s.sound F) :
    (State.capArmCmd s q).sound F := by
  unfold State.capArmCmd
  simp (maxDischargeDepth := 60) (maxSteps := 30000) +contextual only [State.setBit_sound, State.setCapt_sound, State.capArm_sound, State.sound_ite, State.sound_mk, soundCore_self, soundCore_flash, Flash.sameFactory_self, if_true_left, if_true_right, ite_self, implies_true, *]
@[simp] theorem State.capDisarm_sound {F : Flash} (s : State) (q : Fin 16) (h : s.sound F) :
    (State.capDisarm s q).sound F := by
  unfold State.capDisarm
  simp (maxDischargeDepth := 60) (maxSteps := 30000) +contextual only [State.setBit_sound, State.setCapt_sound, State.setCapState_sound, State.capFinish_sound, State.sound_ite, State.sound_mk, soundCore_self, soundCore_flash, Flash.sameFactory_self, if_true_left, if_true_right, ite_self, implies_true, *]
@[simp] theorem State.capStopAll_sound {F : Flash} (s : State) (h : s.sound F) :
    (State.capStopAll s).sound F := by
  unfold State.capStopAll
  simp (maxDischargeDepth := 60) (maxSteps := 30000) +contextual only [State.capDisarm_sound, State.foldl_sound, State.sound_ite, State.sound_mk, soundCore_self, soundCore_flash, Flash.sameFactory_self, if_true_left, if_true_right, ite_self, implies_true, *]
@[simp] theorem State.capRelease_sound {F : Flash} (s : State) (q : Fin 16) (n : Nat) (h : s.sound F) :
    (State.capRelease s q n).sound F := by
  unfold State.capRelease
  simp (maxDischargeDepth := 60) (maxSteps := 30000) +contextual only [State.setCapt_sound, State.capArm_sound, State.sound_ite, State.sound_mk, soundCore_self, soundCore_flash, Flash.sameFactory_self, if_true_left, if_true_right, ite_self, implies_true, *]
@[simp] theorem State.capReleaseNo_sound {F : Flash} (s : State) (q : Fin 16) (no : Nat) (h : s.sound F) :
    (State.capReleaseNo s q no).sound F := by
  unfold State.capReleaseNo
  simp (maxDischargeDepth := 60) (maxSteps := 30000) +contextual only [State.setCapt_sound, State.capArm_sound, State.sound_ite, State.sound_mk, soundCore_self, soundCore_flash, Flash.sameFactory_self, if_true_left, if_true_right, ite_self, implies_true, *]
@[simp] theorem State.capPop_sound {F : Flash} (s : State) (q : Fin 16) (h : s.sound F) :
    (State.capPop s q).2.sound F := by
  unfold State.capPop
  repeat' (first
    | (intro x; first
        | (have hx : State.sound F x := by
            simp only [x]
            repeat' (first
              | (simp (maxDischargeDepth := 60) (maxSteps := 30000) +contextual only [State.setCapt_sound, State.capReleaseNo_sound, State.sound_ite, State.sound_mk, soundCore_self, soundCore_flash, Flash.sameFactory_self, if_true_left, if_true_right, ite_self, implies_true, *]; done)
              | split
              | (refine State.foldl_sound _ _ ?_ ?_ <;> intros)
              | (refine State.when_sound _ _ ?_ ?_ <;> intros))
           clear_value x)
        | clear_value x
        | skip)
    | lift_lets
    | (simp (maxDischargeDepth := 60) (maxSteps := 30000) +contextual only [State.setCapt_sound, State.capReleaseNo_sound, State.sound_ite, State.sound_mk, soundCore_self, soundCore_flash, Flash.sameFactory_self, if_true_left, if_true_right, ite_self, implies_true, *]; done)
    | split
    | (refine State.foldl_sound _ _ ?_ ?_ <;> intros)
    | (refine State.when_sound _ _ ?_ ?_ <;> intros)
    | dsimp only)

end Sys2Proof.Machine
end

