-- ==== Sys2Proof/Laws/Sound/AxisOps.lean ====
section
/-!
SUPPORT. The operations of Machine/AxisOps.lean keep a sound state sound: registers and Eddy in their one form, factory data as it
is.
-/
namespace Sys2Proof.Machine
set_option linter.unusedSimpArgs false
set_option linter.unusedTactic false
set_option linter.unreachableTactic false
set_option linter.unusedVariables false

@[simp] theorem State.axisEvent_sound {F : Flash} (s : State) (a : Fin 8) (id d : Nat) (h : s.sound F) :
    (State.axisEvent s a id d).sound F := by
  simp only [State.axisEvent, State.fire_sound, *]
@[simp] theorem State.axisCount_sound {F : Flash} (s : State) (a : Fin 8) (n : Int) (h : s.sound F) :
    (State.axisCount s a n).sound F := by
  unfold State.axisCount
  simp (maxDischargeDepth := 60) (maxSteps := 30000) +contextual only [State.setReg_sound, State.setBit_sound, State.axisEvent_sound, State.sound_ite, State.sound_mk, soundCore_self, soundCore_flash, Flash.sameFactory_self, if_true_left, if_true_right, ite_self, implies_true, *]
@[simp] theorem State.axisLoad_sound {F : Flash} (s : State) (a : Fin 8) (pos rev : Int) (h : s.sound F) :
    (State.axisLoad s a pos rev).sound F := by
  unfold State.axisLoad
  simp (maxDischargeDepth := 60) (maxSteps := 30000) +contextual only [State.setReg_sound, State.setFld_sound, State.sound_ite, State.sound_mk, soundCore_self, soundCore_flash, Flash.sameFactory_self, if_true_left, if_true_right, ite_self, implies_true, *]
@[simp] theorem State.axisDir_sound {F : Flash} (s : State) (a : Fin 8) (n : Int) (h : s.sound F) :
    (State.axisDir s a n).sound F := by
  unfold State.axisDir
  simp (maxDischargeDepth := 60) (maxSteps := 30000) +contextual only [State.setBit_sound, State.bump_sound, State.setAxis_sound, State.axisEvent_sound, State.sound_ite, State.sound_mk, soundCore_self, soundCore_flash, Flash.sameFactory_self, if_true_left, if_true_right, ite_self, implies_true, *]
@[simp] theorem State.standstill_sound {F : Flash} (s : State) (a : Fin 8) (h : s.sound F) :
    (State.standstill s a).sound F := by
  unfold State.standstill
  simp (maxDischargeDepth := 60) (maxSteps := 30000) +contextual only [State.setReg_sound, State.setBit_sound, State.sound_ite, State.sound_mk, soundCore_self, soundCore_flash, Flash.sameFactory_self, if_true_left, if_true_right, ite_self, implies_true, *]
@[simp] theorem State.setSpeed_sound {F : Flash} (s : State) (a : Fin 8) (d : Int) (k t : Nat) (h : s.sound F) :
    (State.setSpeed s a d k t).sound F := by
  unfold State.setSpeed
  simp (maxDischargeDepth := 60) (maxSteps := 30000) +contextual only [State.setReg_sound, State.setFld_sound, State.setBit_sound, State.sound_ite, State.sound_mk, soundCore_self, soundCore_flash, Flash.sameFactory_self, if_true_left, if_true_right, ite_self, implies_true, *]
@[simp] theorem State.axisMove_sound {F : Flash} (s : State) (a : Fin 8) (n : Int) (h : s.sound F) :
    (State.axisMove s a n).sound F := by
  unfold State.axisMove
  simp (maxDischargeDepth := 60) (maxSteps := 30000) +contextual only [State.setFld_sound, State.setBit_sound, State.bumpBy_sound, State.setAxis_sound, State.axisEvent_sound, State.axisCount_sound, State.axisDir_sound, State.when_sound, State.sound_ite, State.sound_mk, soundCore_self, soundCore_flash, Flash.sameFactory_self, if_true_left, if_true_right, ite_self, implies_true, *]
@[simp] theorem State.homeIdle_sound {F : Flash} (s : State) (a : Fin 8) (res : Nat) (h : s.sound F) :
    (State.homeIdle s a res).sound F := by
  unfold State.homeIdle
  simp (maxDischargeDepth := 60) (maxSteps := 30000) +contextual only [State.setReg_sound, State.setFld_sound, State.setAxis_sound, State.axisEvent_sound, State.sound_ite, State.sound_mk, soundCore_self, soundCore_flash, Flash.sameFactory_self, if_true_left, if_true_right, ite_self, implies_true, *]
@[simp] theorem State.homeEnding_sound {F : Flash} (s : State) (a : Fin 8) (res : Nat) (h : s.sound F) :
    (State.homeEnding s a res).sound F := by
  simp only [State.homeEnding, State.setFld_sound, State.setAxis_sound, *]
@[simp] theorem State.homeGo_sound {F : Flash} (s : State) (a : Fin 8) (st : Nat) (h : s.sound F) :
    (State.homeGo s a st).sound F := by
  simp only [State.homeGo, State.setFld_sound, *]
@[simp] theorem State.homeEval_sound {F : Flash} (s : State) (a : Fin 8) (h : s.sound F) : (State.homeEval s a).sound F := by
  unfold State.homeEval
  dsimp only
  have hx : (s.when (decide (s.homeState a = 3) && (s.axis a).home) fun s => s.setAxis a fun x => { x with homeSeen := true }).sound F :=
    State.when_sound _ _ (fun _ h => State.setAxis_sound _ _ _ h) h
  generalize (s.when (decide (s.homeState a = 3) && (s.axis a).home) fun s => s.setAxis a fun x => { x with homeSeen := true }) = t at hx ⊢
  repeat' (first
    | with_reducible exact hx
    | with_reducible exact State.homeIdle_sound _ _ _ hx
    | with_reducible exact State.homeEnding_sound _ _ _ hx
    | with_reducible exact State.homeGo_sound _ _ _ hx
    | with_reducible exact State.setAxis_sound _ _ _ (State.homeGo_sound _ _ _ hx)
    | with_reducible exact State.homeGo_sound _ _ _ (State.axisLoad_sound _ _ _ _ hx)
    | with_reducible refine State.ite_sound (fun _ => ?_) fun _ => ?_)
@[simp] theorem State.homeStep_sound {F : Flash} (s : State) (a : Fin 8) (h : s.sound F) :
    (State.homeStep s a).sound F := by
  unfold State.homeStep
  repeat' (first
    | (intro x; first
        | (have hx : State.sound F x := by
            simp only [x]
            repeat' (first
              | (simp (maxDischargeDepth := 60) (maxSteps := 30000) +contextual only [State.setAxis_sound, State.homeIdle_sound, State.homeGo_sound, State.sound_ite, State.sound_mk, soundCore_self, soundCore_flash, Flash.sameFactory_self, if_true_left, if_true_right, ite_self, implies_true, *]; done)
              | split
              | (refine State.foldl_sound _ _ ?_ ?_ <;> intros)
              | (refine State.when_sound _ _ ?_ ?_ <;> intros))
           clear_value x)
        | clear_value x
        | skip)
    | lift_lets
    | (simp (maxDischargeDepth := 60) (maxSteps := 30000) +contextual only [State.setAxis_sound, State.homeIdle_sound, State.homeGo_sound, State.sound_ite, State.sound_mk, soundCore_self, soundCore_flash, Flash.sameFactory_self, if_true_left, if_true_right, ite_self, implies_true, *]; done)
    | split
    | (refine State.foldl_sound _ _ ?_ ?_ <;> intros)
    | (refine State.when_sound _ _ ?_ ?_ <;> intros)
    | dsimp only)
@[simp] theorem State.fbCheck_sound {F : Flash} (s : State) (a : Fin 8) (h : s.sound F) :
    (State.fbCheck s a).sound F := by
  unfold State.fbCheck
  simp (maxDischargeDepth := 60) (maxSteps := 30000) +contextual only [State.setFld_sound, State.setBit_sound, State.setAxis_sound, State.axisEvent_sound, State.standstill_sound, State.homeEval_sound, State.sound_ite, State.sound_mk, soundCore_self, soundCore_flash, Flash.sameFactory_self, if_true_left, if_true_right, ite_self, implies_true, *]
@[simp] theorem State.limitEval_sound {F : Flash} (s : State) (a : Fin 8) (h : s.sound F) :
    (State.limitEval s a).sound F := by
  unfold State.limitEval
  repeat' (first
    | (intro x; first
        | (have hx : State.sound F x := by
            simp only [x]
            repeat' (first
              | (simp (maxDischargeDepth := 60) (maxSteps := 30000) +contextual only [State.setBit_sound, State.axisEvent_sound, State.homeEval_sound, State.sound_ite, State.sound_mk, soundCore_self, soundCore_flash, Flash.sameFactory_self, if_true_left, if_true_right, ite_self, implies_true, *]; done)
              | split
              | (refine State.foldl_sound _ _ ?_ ?_ <;> intros)
              | (refine State.when_sound _ _ ?_ ?_ <;> intros))
           clear_value x)
        | (have hx : State.sound F x.2 := by
            simp only [x]
            repeat' (first
              | (simp (maxDischargeDepth := 60) (maxSteps := 30000) +contextual only [State.setBit_sound, State.axisEvent_sound, State.homeEval_sound, State.sound_ite, State.sound_mk, soundCore_self, soundCore_flash, Flash.sameFactory_self, if_true_left, if_true_right, ite_self, implies_true, *]; done)
              | split
              | (refine State.foldl_sound _ _ ?_ ?_ <;> intros)
              | (refine State.when_sound _ _ ?_ ?_ <;> intros))
           clear_value x)
        | (have hx : State.sound F x.1 := by
            simp only [x]
            repeat' (first
              | (simp (maxDischargeDepth := 60) (maxSteps := 30000) +contextual only [State.setBit_sound, State.axisEvent_sound, State.homeEval_sound, State.sound_ite, State.sound_mk, soundCore_self, soundCore_flash, Flash.sameFactory_self, if_true_left, if_true_right, ite_self, implies_true, *]; done)
              | split
              | (refine State.foldl_sound _ _ ?_ ?_ <;> intros)
              | (refine State.when_sound _ _ ?_ ?_ <;> intros))
           clear_value x)
        | (have hx : ∀ s, State.sound F s → State.sound F (x s) := by
            intro s hs
            simp only [x]
            repeat' (first
              | (simp (maxDischargeDepth := 60) (maxSteps := 30000) +contextual only [State.setBit_sound, State.axisEvent_sound, State.homeEval_sound, State.sound_ite, State.sound_mk, soundCore_self, soundCore_flash, Flash.sameFactory_self, if_true_left, if_true_right, ite_self, implies_true, *]; done)
              | split
              | (refine State.foldl_sound _ _ ?_ ?_ <;> intros)
              | (refine State.when_sound _ _ ?_ ?_ <;> intros))
           clear_value x)
        | (have hx : ∀ s p, State.sound F s → State.sound F (x s p) := by
            intro s p hs
            simp only [x]
            repeat' (first
              | (simp (maxDischargeDepth := 60) (maxSteps := 30000) +contextual only [State.setBit_sound, State.axisEvent_sound, State.homeEval_sound, State.sound_ite, State.sound_mk, soundCore_self, soundCore_flash, Flash.sameFactory_self, if_true_left, if_true_right, ite_self, implies_true, *]; done)
              | split
              | (refine State.foldl_sound _ _ ?_ ?_ <;> intros)
              | (refine State.when_sound _ _ ?_ ?_ <;> intros))
           clear_value x)
        | (have hx : ∀ s p q, State.sound F s → State.sound F (x s p q) := by
            intro s p q hs
            simp only [x]
            repeat' (first
              | (simp (maxDischargeDepth := 60) (maxSteps := 30000) +contextual only [State.setBit_sound, State.axisEvent_sound, State.homeEval_sound, State.sound_ite, State.sound_mk, soundCore_self, soundCore_flash, Flash.sameFactory_self, if_true_left, if_true_right, ite_self, implies_true, *]; done)
              | split
              | (refine State.foldl_sound _ _ ?_ ?_ <;> intros)
              | (refine State.when_sound _ _ ?_ ?_ <;> intros))
           clear_value x)
        | (have hx : ∀ p, State.sound F (x p) := by
            intro p
            simp only [x]
            repeat' (first
              | (simp (maxDischargeDepth := 60) (maxSteps := 30000) +contextual only [State.setBit_sound, State.axisEvent_sound, State.homeEval_sound, State.sound_ite, State.sound_mk, soundCore_self, soundCore_flash, Flash.sameFactory_self, if_true_left, if_true_right, ite_self, implies_true, *]; done)
              | split
              | (refine State.foldl_sound _ _ ?_ ?_ <;> intros)
              | (refine State.when_sound _ _ ?_ ?_ <;> intros))
           clear_value x)
        | (have hx : ∀ p q, State.sound F (x p q) := by
            intro p q
            simp only [x]
            repeat' (first
              | (simp (maxDischargeDepth := 60) (maxSteps := 30000) +contextual only [State.setBit_sound, State.axisEvent_sound, State.homeEval_sound, State.sound_ite, State.sound_mk, soundCore_self, soundCore_flash, Flash.sameFactory_self, if_true_left, if_true_right, ite_self, implies_true, *]; done)
              | split
              | (refine State.foldl_sound _ _ ?_ ?_ <;> intros)
              | (refine State.when_sound _ _ ?_ ?_ <;> intros))
           clear_value x)
        | clear_value x
        | skip)
    | lift_lets
    | (simp (maxDischargeDepth := 60) (maxSteps := 30000) +contextual only [State.setBit_sound, State.axisEvent_sound, State.homeEval_sound, State.sound_ite, State.sound_mk, soundCore_self, soundCore_flash, Flash.sameFactory_self, if_true_left, if_true_right, ite_self, implies_true, *]; done)
    | split
    | (refine State.foldl_sound _ _ ?_ ?_ <;> intros)
    | (refine State.when_sound _ _ ?_ ?_ <;> intros)
    | dsimp only)
@[simp] theorem State.homeStart_sound {F : Flash} (s : State) (a : Fin 8) (h : s.sound F) :
    (State.homeStart s a).sound F := by
  unfold State.homeStart
  simp (maxDischargeDepth := 60) (maxSteps := 30000) +contextual only [State.setFld_sound, State.setAxis_sound, State.axisEvent_sound, State.homeGo_sound, State.homeEval_sound, State.sound_ite, State.sound_mk, soundCore_self, soundCore_flash, Flash.sameFactory_self, if_true_left, if_true_right, ite_self, implies_true, *]
@[simp] theorem State.homeAbort_sound {F : Flash} (s : State) (a : Fin 8) (h : s.sound F) :
    (State.homeAbort s a).sound F := by
  unfold State.homeAbort
  simp (maxDischargeDepth := 60) (maxSteps := 30000) +contextual only [State.homeEnding_sound, State.sound_ite, State.sound_mk, soundCore_self, soundCore_flash, Flash.sameFactory_self, if_true_left, if_true_right, ite_self, implies_true, *]
@[simp] theorem State.pdEnable_sound {F : Flash} (s : State) (a : Fin 8) (h : s.sound F) :
    (State.pdEnable s a).sound F := by
  simp only [State.pdEnable, State.setReg_sound, State.setAxis_sound, *]
@[simp] theorem State.snapOne_sound {F : Flash} (s : State) (a : Fin 8) (h : s.sound F) :
    (State.snapOne s a).sound F := by
  unfold State.snapOne
  repeat' (first | (simp (maxDischargeDepth := 60) (maxSteps := 30000) +contextual only [State.sound_ite, State.sound_mk, soundCore_self, soundCore_flash, Flash.sameFactory_self, if_true_left, if_true_right, ite_self, implies_true, *]; done) | split)
@[simp] theorem State.snapAll_sound {F : Flash} (s : State) (h : s.sound F) :
    (State.snapAll s).sound F := by
  unfold State.snapAll
  simp (maxDischargeDepth := 60) (maxSteps := 30000) +contextual only [State.snapOne_sound, State.foldl_sound, State.sound_ite, State.sound_mk, soundCore_self, soundCore_flash, Flash.sameFactory_self, if_true_left, if_true_right, ite_self, implies_true, *]
@[simp] theorem State.axisRestore_sound {F : Flash} (s : State) (a : Fin 8) (h : s.sound F) :
    (State.axisRestore s a).sound F := by
  unfold State.axisRestore
  try dsimp only
  grind (splits := 60) [State.setBit_sound, State.axisLoad_sound, State.sound_mk, soundCore_self, soundCore_flash, Flash.sameFactory_self]
@[simp] theorem State.axisRestart_sound {F : Flash} (s : State) (a : Fin 8) (h : s.sound F) :
    (State.axisRestart s a).sound F := by
  unfold State.axisRestart
  simp (maxDischargeDepth := 60) (maxSteps := 30000) +contextual only [State.setReg_sound, State.setFld_sound, State.setAxis_sound, State.standstill_sound, State.foldl_sound, State.sound_ite, State.sound_mk, soundCore_self, soundCore_flash, Flash.sameFactory_self, if_true_left, if_true_right, ite_self, implies_true, *]
@[simp] theorem State.observeCh_sound {F : Flash} (old : State) (s : State) (c : Fin 32) (hold : old.sound F) (h : s.sound F) :
    (State.observeCh old s c).sound F := by
  unfold State.observeCh
  lift_lets
  intro d0 d1 new t0 t1 ev s1 s2 s3 s4 s5 s6 s7 s8
  have e : ∀ s : State, s.sound F → ∀ b e d, (ev s b e d).sound F := fun s h b e d =>
    State.when_sound _ _ (fun _ h => State.fireAt_sound _ _ _ _ h) h
  have h2 : s2.sound F := State.when_sound _ _ (fun _ h => State.bump_sound _ _ h)
    (State.when_sound _ _ (fun _ h => State.setReg_sound h) h)
  have h8 : s8.sound F := State.foldl_sound _ _ (fun _ _ h => State.fireAt_sound _ _ _ _ h)
    (e _ (e _ (e _ (e _ (e _ h2 _ _ _) _ _ _) _ _ _) _ _ _) _ _ _)
  split
  · split
    · split
      · exact State.homeEval_sound _ _ (State.setBit_sound _ _ _ _ (State.setReg_sound h8))
      · exact h8
    · exact h8
  · exact h8
@[simp] theorem State.observe_sound {F : Flash} (old s : State) (h : old.sound F) (h1 : s.sound F) :
    (State.observe old s).sound F := by
  unfold State.observe
  simp (maxDischargeDepth := 60) (maxSteps := 30000) +contextual only [State.fbCheck_sound, State.limitEval_sound, State.observeCh_sound, State.foldl_sound, State.sound_ite, State.sound_mk, soundCore_self, soundCore_flash, Flash.sameFactory_self, if_true_left, if_true_right, ite_self, implies_true, *]

end Sys2Proof.Machine
end

