-- ==== Sys2Proof/Laws/Sound/Energy.lean ====
section
/-!
SUPPORT. The operations of Machine/Energy.lean keep a sound state sound: registers and Eddy in their one form, factory data as it
is.
-/
namespace Sys2Proof.Machine
set_option linter.unusedSimpArgs false
set_option linter.unusedTactic false
set_option linter.unreachableTactic false
set_option linter.unusedVariables false

@[simp] theorem State.setLed_sound {F : Flash} (s : State) (c : Fin 32) (f : Led → Led) (h : s.sound F) :
    (State.setLed s c f).sound F := by
  unfold State.setLed
  simp (maxDischargeDepth := 60) (maxSteps := 30000) +contextual only [State.sound_ite, State.sound_mk, soundCore_self, soundCore_flash, Flash.sameFactory_self, if_true_left, if_true_right, ite_self, implies_true, *]
@[simp] theorem State.setILed_sound {F : Flash} (s : State) (i : Fin 8) (f : Led → Led) (h : s.sound F) :
    (State.setILed s i f).sound F := by
  unfold State.setILed
  simp (maxDischargeDepth := 60) (maxSteps := 30000) +contextual only [State.sound_ite, State.sound_mk, soundCore_self, soundCore_flash, Flash.sameFactory_self, if_true_left, if_true_right, ite_self, implies_true, *]
@[simp] theorem State.nrgCause_sound {F : Flash} (s : State) (i : Fin 8) (k : Option (Fin 4)) (c : Nat) (h : s.sound F) :
    (State.nrgCause s i k c).sound F := by
  unfold State.nrgCause
  repeat' (first | (simp (maxDischargeDepth := 60) (maxSteps := 30000) +contextual only [State.setBit_sound, State.bump_sound, State.fire_sound, State.setLed_sound, State.setILed_sound, State.sound_ite, State.sound_mk, soundCore_self, soundCore_flash, Flash.sameFactory_self, if_true_left, if_true_right, ite_self, implies_true, *]; done) | split)
@[simp] theorem State.nrgWarn_sound {F : Flash} (s : State) (i : Fin 8) (k : Option (Fin 4)) (h : s.sound F) :
    (State.nrgWarn s i k).sound F := by
  unfold State.nrgWarn
  repeat' (first | (simp (maxDischargeDepth := 60) (maxSteps := 30000) +contextual only [State.setBit_sound, State.fire_sound, State.sound_ite, State.sound_mk, soundCore_self, soundCore_flash, Flash.sameFactory_self, if_true_left, if_true_right, ite_self, implies_true, *]; done) | split)
@[simp] theorem State.nrgEnd_sound {F : Flash} (s : State) (i : Fin 8) (k : Option (Fin 4)) (h : s.sound F) :
    (State.nrgEnd s i k).sound F := by
  unfold State.nrgEnd
  repeat' (first | (simp (maxDischargeDepth := 60) (maxSteps := 30000) +contextual only [State.setFld_sound, State.setBit_sound, State.sound_ite, State.sound_mk, soundCore_self, soundCore_flash, Flash.sameFactory_self, if_true_left, if_true_right, ite_self, implies_true, *]; done) | split)
@[simp] theorem State.nrgRelease_sound {F : Flash} (s : State) (i : Fin 8) (h : s.sound F) :
    (State.nrgRelease s i).sound F := by
  unfold State.nrgRelease
  simp (maxDischargeDepth := 60) (maxSteps := 30000) +contextual only [State.nrgEnd_sound, State.foldl_sound, State.sound_ite, State.sound_mk, soundCore_self, soundCore_flash, Flash.sameFactory_self, if_true_left, if_true_right, ite_self, implies_true, *]
@[simp] theorem State.nrgReleaseCmd_sound {F : Flash} (s : State) (i : Fin 8) (h : s.sound F) :
    (State.nrgReleaseCmd s i).sound F := by
  simp only [State.nrgReleaseCmd, State.setBit_sound, State.nrgRelease_sound, *]
@[simp] theorem State.nrgShow_sound {F : Flash} (s : State) (i : Fin 8) (k : Option (Fin 4)) (h : s.sound F) :
    (State.nrgShow s i k).sound F := by
  unfold State.nrgShow
  repeat' (first | (simp (maxDischargeDepth := 60) (maxSteps := 30000) +contextual only [State.setReg_sound, State.sound_ite, State.sound_mk, soundCore_self, soundCore_flash, Flash.sameFactory_self, if_true_left, if_true_right, ite_self, implies_true, *]; done) | split)
@[simp] theorem State.nrgEval_sound {F : Flash} (s : State) (i : Fin 8) (k : Option (Fin 4)) (h : s.sound F) :
    (State.nrgEval s i k).sound F := by
  unfold State.nrgEval
  simp (maxDischargeDepth := 60) (maxSteps := 30000) +contextual only [State.nrgCause_sound, State.nrgWarn_sound, State.nrgShow_sound, State.foldl_sound, State.sound_ite, State.sound_mk, soundCore_self, soundCore_flash, Flash.sameFactory_self, if_true_left, if_true_right, ite_self, implies_true, *]
@[simp] theorem State.nrgUpdate_sound {F : Flash} (s : State) (i : Fin 8) (missed : Bool) (h : s.sound F) :
    (State.nrgUpdate s i missed).sound F := by
  unfold State.nrgUpdate
  repeat' (first | (simp (maxDischargeDepth := 60) (maxSteps := 30000) +contextual only [State.setReg_sound, State.setLed_sound, State.setILed_sound, State.nrgRelease_sound, State.nrgEval_sound, State.foldl_sound, State.sound_ite, State.sound_mk, soundCore_self, soundCore_flash, Flash.sameFactory_self, if_true_left, if_true_right, ite_self, implies_true, *]; done) | split)
@[simp] theorem State.nrgVolt_sound {F : Flash} (s : State) (i : Fin 8) (u st : Bool) (h : s.sound F) :
    (State.nrgVolt s i u st).sound F := by
  simp only [State.nrgVolt, State.setReg_sound, State.setILed_sound, *]
@[simp] theorem State.nrgStructured_sound {F : Flash} (s : State) (i : Fin 8) (trips : Bool) (h : s.sound F) :
    (State.nrgStructured s i trips).sound F := by
  unfold State.nrgStructured
  simp (maxDischargeDepth := 60) (maxSteps := 30000) +contextual only [State.setReg_sound, State.setLed_sound, State.setILed_sound, State.nrgShow_sound, State.foldl_sound, State.when_sound, State.sound_ite, State.sound_mk, soundCore_self, soundCore_flash, Flash.sameFactory_self, if_true_left, if_true_right, ite_self, implies_true, *]

end Sys2Proof.Machine
end

