-- ==== Sys2Proof/Laws/Sound/Sense.lean ====
section
/-!
SUPPORT. The operations of Machine/Sense.lean keep a sound state sound: registers and Eddy in their one form, factory data as it
is.
-/
namespace Sys2Proof.Machine
set_option linter.unusedSimpArgs false
set_option linter.unusedTactic false
set_option linter.unreachableTactic false
set_option linter.unusedVariables false

@[simp] theorem State.sense_sound {F : Flash} (s : State) (i : Fin 8) (m : UpMeas) (h : s.sound F) :
    (State.sense s i m).2.sound F := by
  unfold State.sense
  simp (maxDischargeDepth := 60) (maxSteps := 30000) +contextual only [State.setIsl_sound, State.foldl_sound, State.sound_ite, State.sound_mk, soundCore_self, soundCore_flash, Flash.sameFactory_self, if_true_left, if_true_right, ite_self, implies_true, *]
@[simp] theorem State.ssiSent_sound {F : Flash} (s : State) (i : Fin 8) (h : s.sound F) :
    (State.ssiSent s i).sound F := by
  unfold State.ssiSent
  simp (maxDischargeDepth := 60) (maxSteps := 30000) +contextual only [State.setAxis_sound, State.foldl_sound, State.sound_ite, State.sound_mk, soundCore_self, soundCore_flash, Flash.sameFactory_self, if_true_left, if_true_right, ite_self, implies_true, *]

end Sys2Proof.Machine
end

