-- ==== Sys2Proof/Laws/Sound/Guyline.lean ====
section
/-!
SUPPORT. The operations of Machine/Guyline.lean keep a sound state sound: registers and Eddy in their one form, factory data as it
is.
-/
namespace Sys2Proof.Machine
set_option linter.unusedSimpArgs false
set_option linter.unusedTactic false
set_option linter.unreachableTactic false
set_option linter.unusedVariables false

@[simp] theorem State.noteSent_sound {F : Flash} (s : State) (c : Fin 32) (v : Word) (sl : Bool) (h : s.sound F) :
    (State.noteSent s c v sl).sound F := by
  unfold State.noteSent
  simp (maxDischargeDepth := 60) (maxSteps := 30000) +contextual only [State.setReg_sound, State.setBit_sound, State.setChan_sound, State.sound_ite, State.sound_mk, soundCore_self, soundCore_flash, Flash.sameFactory_self, if_true_left, if_true_right, ite_self, implies_true, *]
@[simp] theorem State.axisSlot_sound {F : Flash} (s : State) (i : Fin 8) (a : Fin 8) (h : s.sound F) :
    (State.axisSlot s i a).sound F := by
  unfold State.axisSlot
  repeat' (first
    | (intro x; first
        | (have hx : State.sound F x := by
            simp only [x]
            repeat' (first
              | (simp (maxDischargeDepth := 60) (maxSteps := 30000) +contextual only [State.setFld_sound, State.setBit_sound, State.setAxis_sound, State.homeEval_sound, State.homeStep_sound, State.when_sound, State.sound_ite, State.sound_mk, soundCore_self, soundCore_flash, Flash.sameFactory_self, if_true_left, if_true_right, ite_self, implies_true, *]; done)
              | split
              | (refine State.foldl_sound _ _ ?_ ?_ <;> intros)
              | (refine State.when_sound _ _ ?_ ?_ <;> intros))
           clear_value x)
        | clear_value x
        | skip)
    | lift_lets
    | (simp (maxDischargeDepth := 60) (maxSteps := 30000) +contextual only [State.setFld_sound, State.setBit_sound, State.setAxis_sound, State.homeEval_sound, State.homeStep_sound, State.when_sound, State.sound_ite, State.sound_mk, soundCore_self, soundCore_flash, Flash.sameFactory_self, if_true_left, if_true_right, ite_self, implies_true, *]; done)
    | split
    | (refine State.foldl_sound _ _ ?_ ?_ <;> intros)
    | (refine State.when_sound _ _ ?_ ?_ <;> intros)
    | dsimp only)
@[simp] theorem State.msSlot_sound {F : Flash} (s : State) (i : Fin 8) (h : s.sound F) :
    (State.msSlot s i).sound F := by
  unfold State.msSlot
  simp (maxDischargeDepth := 60) (maxSteps := 30000) +contextual only [State.setFld_sound, State.setAxis_sound, State.homeEval_sound, State.setLed_sound, State.setILed_sound, State.foldl_sound, State.sound_ite, State.sound_mk, soundCore_self, soundCore_flash, Flash.sameFactory_self, if_true_left, if_true_right, ite_self, implies_true, *]
@[simp] theorem State.cfgOp_sound {F : Flash} (s : State) (i : Fin 8) (h : s.sound F) :
    (State.cfgOp s i).2.sound F := by
  unfold State.cfgOp
  repeat' (first
    | (intro x; first
        | (have hx : State.sound F x := by
            simp only [x]
            repeat' (first
              | (simp (maxDischargeDepth := 60) (maxSteps := 30000) +contextual only [State.setIsl_sound, State.sound_ite, State.sound_mk, soundCore_self, soundCore_flash, Flash.sameFactory_self, if_true_left, if_true_right, ite_self, implies_true, *]; done)
              | split
              | (refine State.foldl_sound _ _ ?_ ?_ <;> intros)
              | (refine State.when_sound _ _ ?_ ?_ <;> intros))
           clear_value x)
        | (have hx : State.sound F x.2 := by
            simp only [x]
            repeat' (first
              | (simp (maxDischargeDepth := 60) (maxSteps := 30000) +contextual only [State.setIsl_sound, State.sound_ite, State.sound_mk, soundCore_self, soundCore_flash, Flash.sameFactory_self, if_true_left, if_true_right, ite_self, implies_true, *]; done)
              | split
              | (refine State.foldl_sound _ _ ?_ ?_ <;> intros)
              | (refine State.when_sound _ _ ?_ ?_ <;> intros))
           clear_value x)
        | (have hx : State.sound F x.1 := by
            simp only [x]
            repeat' (first
              | (simp (maxDischargeDepth := 60) (maxSteps := 30000) +contextual only [State.setIsl_sound, State.sound_ite, State.sound_mk, soundCore_self, soundCore_flash, Flash.sameFactory_self, if_true_left, if_true_right, ite_self, implies_true, *]; done)
              | split
              | (refine State.foldl_sound _ _ ?_ ?_ <;> intros)
              | (refine State.when_sound _ _ ?_ ?_ <;> intros))
           clear_value x)
        | clear_value x
        | skip)
    | lift_lets
    | (simp (maxDischargeDepth := 60) (maxSteps := 30000) +contextual only [State.setIsl_sound, State.sound_ite, State.sound_mk, soundCore_self, soundCore_flash, Flash.sameFactory_self, if_true_left, if_true_right, ite_self, implies_true, *]; done)
    | split
    | (refine State.foldl_sound _ _ ?_ ?_ <;> intros)
    | (refine State.when_sound _ _ ?_ ?_ <;> intros)
    | (dsimp only; split)
    | dsimp only)
@[simp] theorem State.slotWork_sound {F : Flash} (s : State) (i : Fin 8) (n : Nat) (h : s.sound F) :
    (State.slotWork s i n).sound F := by
  unfold State.slotWork
  simp (maxDischargeDepth := 60) (maxSteps := 30000) +contextual only [State.observe_sound, State.nrgUpdate_sound, State.axisSlot_sound, State.msSlot_sound, State.foldl_sound, State.sound_ite, State.sound_mk, soundCore_self, soundCore_flash, Flash.sameFactory_self, if_true_left, if_true_right, ite_self, implies_true, *]
@[simp] theorem State.sendFrame_sound {F : Flash} (s : State) (i : Fin 8) (n : Nat) (h : s.sound F) :
    (State.sendFrame s i n).sound F := by
  unfold State.sendFrame
  simp (maxDischargeDepth := 60) (maxSteps := 30000) +contextual only [State.setIsl_sound, State.setChan_sound, State.noteSent_sound, State.cfgOp_sound, State.foldl_sound, State.sound_ite, State.sound_mk, soundCore_self, soundCore_flash, Flash.sameFactory_self, if_true_left, if_true_right, ite_self, implies_true, *]
@[simp] theorem State.glError_sound {F : Flash} (s : State) (i : Fin 8) (h : s.sound F) :
    (State.glError s i).sound F := by
  unfold State.glError
  simp (maxDischargeDepth := 60) (maxSteps := 30000) +contextual only [State.setBit_sound, State.fire_sound, State.setIsl_sound, State.sound_ite, State.sound_mk, soundCore_self, soundCore_flash, Flash.sameFactory_self, if_true_left, if_true_right, ite_self, implies_true, *]
@[simp] theorem State.startStructure_sound {F : Flash} (s : State) (i : Fin 8) (relock kept : Bool) (h : s.sound F) :
    (State.startStructure s i relock kept).sound F := by
  unfold State.startStructure
  simp (maxDischargeDepth := 60) (maxSteps := 30000) +contextual only [State.setBit_sound, State.when_sound, State.setIsl_sound, State.sound_ite, State.sound_mk, soundCore_self, soundCore_flash, Flash.sameFactory_self, if_true_left, if_true_right, ite_self, implies_true, *]
@[simp] theorem State.linkLock_sound {F : Flash} (s : State) (i : Fin 8) (kept : Bool) (h : s.sound F) :
    (State.linkLock s i kept).sound F := by
  unfold State.linkLock
  simp (maxDischargeDepth := 60) (maxSteps := 30000) +contextual only [State.setFld_sound, State.setBit_sound, State.fire_sound, State.setIsl_sound, State.startStructure_sound, State.sound_ite, State.sound_mk, soundCore_self, soundCore_flash, Flash.sameFactory_self, if_true_left, if_true_right, ite_self, implies_true, *]
@[simp] theorem State.lossMark_sound {F : Flash} (s : State) (i : Fin 8) (cause : Nat) (h : s.sound F) :
    (State.lossMark s i cause).sound F := by
  unfold State.lossMark
  simp (maxDischargeDepth := 60) (maxSteps := 30000) +contextual only [State.setFld_sound, State.bump_sound, State.fire_sound, State.logRec_sound, State.setIsl_sound, State.sound_ite, State.sound_mk, soundCore_self, soundCore_flash, Flash.sameFactory_self, if_true_left, if_true_right, ite_self, implies_true, *]
@[simp] theorem State.readbackFail_sound {F : Flash} (s : State) (i : Fin 8) (h : s.sound F) :
    (State.readbackFail s i).sound F := by
  unfold State.readbackFail
  simp (maxDischargeDepth := 60) (maxSteps := 30000) +contextual only [State.setIsl_sound, State.lossMark_sound, State.sound_ite, State.sound_mk, soundCore_self, soundCore_flash, Flash.sameFactory_self, if_true_left, if_true_right, ite_self, implies_true, *]
@[simp] theorem State.structAnswer_sound {F : Flash} (s : State) (i : Fin 8) (f : UpFrame) (h : s.sound F) :
    (State.structAnswer s i f).sound F := by
  unfold State.structAnswer
  repeat' (first
    | (intro x; first
        | (have hx : State.sound F x := by
            simp only [x]
            repeat' (first
              | (simp (maxDischargeDepth := 60) (maxSteps := 30000) +contextual only [State.setIsl_sound, State.readbackFail_sound, State.sound_ite, State.sound_mk, soundCore_self, soundCore_flash, Flash.sameFactory_self, if_true_left, if_true_right, ite_self, implies_true, *]; done)
              | split
              | (refine State.foldl_sound _ _ ?_ ?_ <;> intros)
              | (refine State.when_sound _ _ ?_ ?_ <;> intros))
           clear_value x)
        | (have hx : State.sound F x.2 := by
            simp only [x]
            repeat' (first
              | (simp (maxDischargeDepth := 60) (maxSteps := 30000) +contextual only [State.setIsl_sound, State.readbackFail_sound, State.sound_ite, State.sound_mk, soundCore_self, soundCore_flash, Flash.sameFactory_self, if_true_left, if_true_right, ite_self, implies_true, *]; done)
              | split
              | (refine State.foldl_sound _ _ ?_ ?_ <;> intros)
              | (refine State.when_sound _ _ ?_ ?_ <;> intros))
           clear_value x)
        | (have hx : State.sound F x.1 := by
            simp only [x]
            repeat' (first
              | (simp (maxDischargeDepth := 60) (maxSteps := 30000) +contextual only [State.setIsl_sound, State.readbackFail_sound, State.sound_ite, State.sound_mk, soundCore_self, soundCore_flash, Flash.sameFactory_self, if_true_left, if_true_right, ite_self, implies_true, *]; done)
              | split
              | (refine State.foldl_sound _ _ ?_ ?_ <;> intros)
              | (refine State.when_sound _ _ ?_ ?_ <;> intros))
           clear_value x)
        | clear_value x
        | skip)
    | lift_lets
    | (simp (maxDischargeDepth := 60) (maxSteps := 30000) +contextual only [State.setIsl_sound, State.readbackFail_sound, State.sound_ite, State.sound_mk, soundCore_self, soundCore_flash, Flash.sameFactory_self, if_true_left, if_true_right, ite_self, implies_true, *]; done)
    | split
    | (refine State.foldl_sound _ _ ?_ ?_ <;> intros)
    | (refine State.when_sound _ _ ?_ ?_ <;> intros)
    | (dsimp only; split)
    | dsimp only)
@[simp] theorem State.vfldFlags_sound {F : Flash} (s : State) (i : Fin 8) (h : s.sound F) :
    (State.vfldFlags s i).sound F := by
  unfold State.vfldFlags
  simp (maxDischargeDepth := 60) (maxSteps := 30000) +contextual only [State.setBit_sound, State.when_sound, State.fireAt_sound, State.fire_sound, State.setIsl_sound, State.sound_ite, State.sound_mk, soundCore_self, soundCore_flash, Flash.sameFactory_self, if_true_left, if_true_right, ite_self, implies_true, *]
@[simp] theorem State.takeDiag_sound {F : Flash} (s : State) (c : Fin 32) (d : Nat) (w : Word) (h : s.sound F) :
    (State.takeDiag s c d w).sound F := by
  unfold State.takeDiag
  simp (maxDischargeDepth := 60) (maxSteps := 30000) +contextual only [State.setReg_sound, State.setFld_sound, State.setBit_sound, State.sound_ite, State.sound_mk, soundCore_self, soundCore_flash, Flash.sameFactory_self, if_true_left, if_true_right, ite_self, implies_true, *]
@[simp] theorem State.chatterEval_sound {F : Flash} (s : State) (c : Fin 32) (h : s.sound F) :
    (State.chatterEval s c).sound F := by
  unfold State.chatterEval
  simp (maxDischargeDepth := 60) (maxSteps := 30000) +contextual only [State.setBit_sound, State.fire_sound, State.sound_ite, State.sound_mk, soundCore_self, soundCore_flash, Flash.sameFactory_self, if_true_left, if_true_right, ite_self, implies_true, *]
@[simp] theorem State.takeChanges_sound {F : Flash} (s : State) (c : Fin 32) (w : Word) (named : Bool) (h : s.sound F) :
    (State.takeChanges s c w named).sound F := by
  unfold State.takeChanges
  simp (maxDischargeDepth := 60) (maxSteps := 30000) +contextual only [State.setFld_sound, State.bumpBy_sound, State.setTime_sound, State.fireAt_sound, State.setChan_sound, State.setAxis_sound, State.homeEval_sound, State.chatterEval_sound, State.foldl_sound, State.sound_ite, State.sound_mk, soundCore_self, soundCore_flash, Flash.sameFactory_self, if_true_left, if_true_right, ite_self, implies_true, *]
@[simp] theorem State.showVal_sound {F : Flash} (s : State) (c : Fin 32) (v : Word) (h : s.sound F) :
    (State.showVal s c v).sound F := by
  unfold State.showVal
  simp only [State.setReg_sound, State.sound_ite, ite_self, implies_true, *]
@[simp] theorem State.takeCnt_sound {F : Flash} (s : State) (c : Fin 32) (w : Word) (h : s.sound F) :
    (State.takeCnt s c w).sound F := by
  unfold State.takeCnt
  repeat' (first | (simp (maxDischargeDepth := 60) (maxSteps := 30000) +contextual only [State.bumpFld_sound, State.fireAt_sound, State.setChan_sound, State.showVal_sound, State.sound_ite, State.sound_mk, soundCore_self, soundCore_flash, Flash.sameFactory_self, if_true_left, if_true_right, ite_self, implies_true, *]; done) | split | (refine State.foldl_sound _ _ ?_ ?_ <;> intros) | (refine State.when_sound _ _ ?_ ?_ <;> intros))
@[simp] theorem State.axisTake_sound {F : Flash} (s : State) (a : Fin 8) (d : Int) (h : s.sound F) :
    (State.axisTake s a d).sound F := by
  unfold State.axisTake
  simp (maxDischargeDepth := 60) (maxSteps := 30000) +contextual only [State.axisMove_sound, State.sound_ite, State.sound_mk, soundCore_self, soundCore_flash, Flash.sameFactory_self, if_true_left, if_true_right, ite_self, implies_true, *]
@[simp] theorem State.takeQuad_sound {F : Flash} (s : State) (a : Fin 8) (wa wb : Word) (wz : Option Word) (h : s.sound F) :
    (State.takeQuad s a wa wb wz).sound F := by
  unfold State.takeQuad
  repeat' (first
    | (intro x; first
        | (have hx : State.sound F x := by
            simp only [x]
            repeat' (first
              | (simp (maxDischargeDepth := 60) (maxSteps := 30000) +contextual only [State.setReg_sound, State.setBit_sound, State.bump_sound, State.setAxis_sound, State.axisEvent_sound, State.axisCount_sound, State.axisLoad_sound, State.standstill_sound, State.setSpeed_sound, State.homeGo_sound, State.axisTake_sound, State.when_sound, State.sound_ite, State.sound_mk, soundCore_self, soundCore_flash, Flash.sameFactory_self, if_true_left, if_true_right, ite_self, implies_true, *]; done)
              | split
              | (refine State.foldl_sound _ _ ?_ ?_ <;> intros)
              | (refine State.when_sound _ _ ?_ ?_ <;> intros))
           clear_value x)
        | clear_value x
        | skip)
    | lift_lets
    | (simp (maxDischargeDepth := 60) (maxSteps := 30000) +contextual only [State.setReg_sound, State.setBit_sound, State.bump_sound, State.setAxis_sound, State.axisEvent_sound, State.axisCount_sound, State.axisLoad_sound, State.standstill_sound, State.setSpeed_sound, State.homeGo_sound, State.axisTake_sound, State.when_sound, State.sound_ite, State.sound_mk, soundCore_self, soundCore_flash, Flash.sameFactory_self, if_true_left, if_true_right, ite_self, implies_true, *]; done)
    | split
    | (refine State.foldl_sound _ _ ?_ ?_ <;> intros)
    | (refine State.when_sound _ _ ?_ ?_ <;> intros)
    | dsimp only)
@[simp] theorem State.indexNext_sound {F : Flash} (s : State) (a : Fin 8) (h : s.sound F) :
    (State.indexNext s a).sound F := by
  simp only [State.indexNext, State.setAxis_sound, *]
@[simp] theorem State.takeHall_sound {F : Flash} (s : State) (a : Fin 8) (c : Fin 32) (w : Word) (h : s.sound F) :
    (State.takeHall s a c w).sound F := by
  unfold State.takeHall
  repeat' (first
    | (intro x; first
        | (have hx : State.sound F x := by
            simp only [x]
            repeat' (first
              | (simp (maxDischargeDepth := 60) (maxSteps := 30000) +contextual only [State.setReg_sound, State.bump_sound, State.when_sound, State.setAxis_sound, State.axisEvent_sound, State.setSpeed_sound, State.axisTake_sound, State.sound_ite, State.sound_mk, soundCore_self, soundCore_flash, Flash.sameFactory_self, if_true_left, if_true_right, ite_self, implies_true, *]; done)
              | split
              | (refine State.foldl_sound _ _ ?_ ?_ <;> intros)
              | (refine State.when_sound _ _ ?_ ?_ <;> intros))
           clear_value x)
        | (have hx : State.sound F x.2 := by
            simp only [x]
            repeat' (first
              | (simp (maxDischargeDepth := 60) (maxSteps := 30000) +contextual only [State.setReg_sound, State.bump_sound, State.when_sound, State.setAxis_sound, State.axisEvent_sound, State.setSpeed_sound, State.axisTake_sound, State.sound_ite, State.sound_mk, soundCore_self, soundCore_flash, Flash.sameFactory_self, if_true_left, if_true_right, ite_self, implies_true, *]; done)
              | split
              | (refine State.foldl_sound _ _ ?_ ?_ <;> intros)
              | (refine State.when_sound _ _ ?_ ?_ <;> intros))
           clear_value x)
        | (have hx : State.sound F x.1 := by
            simp only [x]
            repeat' (first
              | (simp (maxDischargeDepth := 60) (maxSteps := 30000) +contextual only [State.setReg_sound, State.bump_sound, State.when_sound, State.setAxis_sound, State.axisEvent_sound, State.setSpeed_sound, State.axisTake_sound, State.sound_ite, State.sound_mk, soundCore_self, soundCore_flash, Flash.sameFactory_self, if_true_left, if_true_right, ite_self, implies_true, *]; done)
              | split
              | (refine State.foldl_sound _ _ ?_ ?_ <;> intros)
              | (refine State.when_sound _ _ ?_ ?_ <;> intros))
           clear_value x)
        | clear_value x
        | skip)
    | lift_lets
    | (simp (maxDischargeDepth := 60) (maxSteps := 30000) +contextual only [State.setReg_sound, State.bump_sound, State.when_sound, State.setAxis_sound, State.axisEvent_sound, State.setSpeed_sound, State.axisTake_sound, State.sound_ite, State.sound_mk, soundCore_self, soundCore_flash, Flash.sameFactory_self, if_true_left, if_true_right, ite_self, implies_true, *]; done)
    | split
    | (refine State.foldl_sound _ _ ?_ ?_ <;> intros)
    | (refine State.when_sound _ _ ?_ ?_ <;> intros)
    | (dsimp only; split)
    | dsimp only)
@[simp] theorem State.ssiMiss_sound {F : Flash} (s : State) (a : Fin 8) (h : s.sound F) :
    (State.ssiMiss s a).sound F := by
  unfold State.ssiMiss
  simp (maxDischargeDepth := 60) (maxSteps := 30000) +contextual only [State.setAxis_sound, State.fbCheck_sound, State.sound_ite, State.sound_mk, soundCore_self, soundCore_flash, Flash.sameFactory_self, if_true_left, if_true_right, ite_self, implies_true, *]
@[simp] theorem State.ssiFail_sound {F : Flash} (s : State) (a : Fin 8) (h : s.sound F) :
    (State.ssiFail s a).sound F := by
  unfold State.ssiFail
  simp (maxDischargeDepth := 60) (maxSteps := 30000) +contextual only [State.setBit_sound, State.bump_sound, State.axisEvent_sound, State.ssiMiss_sound, State.sound_ite, State.sound_mk, soundCore_self, soundCore_flash, Flash.sameFactory_self, if_true_left, if_true_right, ite_self, implies_true, *]
@[simp] theorem State.ssiWord_sound {F : Flash} (s : State) (a : Fin 8) (g : Nat) (h : s.sound F) :
    (State.ssiWord s a g).sound F := by
  unfold State.ssiWord
  repeat' (first
    | (intro x; first
        | (have hx : State.sound F x := by
            simp only [x]
            repeat' (first
              | (simp (maxDischargeDepth := 60) (maxSteps := 30000) +contextual only [State.setReg_sound, State.setAxis_sound, State.axisLoad_sound, State.standstill_sound, State.setSpeed_sound, State.fbCheck_sound, State.axisTake_sound, State.ssiFail_sound, State.foldl_sound, State.sound_ite, State.sound_mk, soundCore_self, soundCore_flash, Flash.sameFactory_self, if_true_left, if_true_right, ite_self, implies_true, *]; done)
              | split
              | (refine State.foldl_sound _ _ ?_ ?_ <;> intros)
              | (refine State.when_sound _ _ ?_ ?_ <;> intros))
           clear_value x)
        | clear_value x
        | skip)
    | lift_lets
    | (simp (maxDischargeDepth := 60) (maxSteps := 30000) +contextual only [State.setReg_sound, State.setAxis_sound, State.axisLoad_sound, State.standstill_sound, State.setSpeed_sound, State.fbCheck_sound, State.axisTake_sound, State.ssiFail_sound, State.foldl_sound, State.sound_ite, State.sound_mk, soundCore_self, soundCore_flash, Flash.sameFactory_self, if_true_left, if_true_right, ite_self, implies_true, *]; done)
    | split
    | (refine State.foldl_sound _ _ ?_ ?_ <;> intros)
    | (refine State.when_sound _ _ ?_ ?_ <;> intros)
    | dsimp only)
@[simp] theorem State.takeSsi_sound {F : Flash} (s : State) (a : Fin 8) (h : Word) (hs : s.sound F) :
    (State.takeSsi s a h).sound F := by
  unfold State.takeSsi
  repeat' (first | (simp (maxDischargeDepth := 60) (maxSteps := 30000) +contextual only [State.setAxis_sound, State.ssiMiss_sound, State.ssiFail_sound, State.ssiWord_sound, State.sound_ite, State.sound_mk, soundCore_self, soundCore_flash, Flash.sameFactory_self, if_true_left, if_true_right, ite_self, implies_true, *]; done) | split | (refine State.foldl_sound _ _ ?_ ?_ <;> intros) | (refine State.when_sound _ _ ?_ ?_ <;> intros))
@[simp] theorem State.takeInput_sound {F : Flash} (s : State) (c : Fin 32) (w : Word) (h : s.sound F) :
    (State.takeInput s c w).sound F := by
  unfold State.takeInput
  simp (maxDischargeDepth := 60) (maxSteps := 30000) +contextual only [State.takeChanges_sound, State.showVal_sound, State.takeCnt_sound, State.sound_ite, State.sound_mk, soundCore_self, soundCore_flash, Flash.sameFactory_self, if_true_left, if_true_right, ite_self, implies_true, *]
@[simp] theorem State.takeItem_sound {F : Flash} (s : State) (i : Fin 8) (n : Nat) (v : Word) (h : s.sound F) :
    (State.takeItem s i n v).sound F := by
  unfold State.takeItem
  simp (maxDischargeDepth := 60) (maxSteps := 30000) +contextual only [State.setReg_sound, State.setFld_sound, State.setIsl_sound, State.scale_sound, State.nrgVolt_sound, State.sound_ite, State.sound_mk, soundCore_self, soundCore_flash, Flash.sameFactory_self, if_true_left, if_true_right, ite_self, implies_true, *]
@[simp] theorem State.rbJudge_sound {F : Flash} (s : State) (c : Fin 32) (dev : Nat) (fail : Bool) (h : s.sound F) :
    (State.rbJudge s c dev fail).sound F := by
  unfold State.rbJudge
  simp (maxDischargeDepth := 60) (maxSteps := 30000) +contextual only [State.setReg_sound, State.setBit_sound, State.setChan_sound, State.sound_ite, State.sound_mk, soundCore_self, soundCore_flash, Flash.sameFactory_self, if_true_left, if_true_right, ite_self, implies_true, *]
@[simp] theorem State.rbCompare_sound {F : Flash} (s : State) (c : Fin 32) (xs : List Int) (h : s.sound F) :
    (State.rbCompare s c xs).sound F := by
  unfold State.rbCompare
  simp (maxDischargeDepth := 60) (maxSteps := 30000) +contextual only [State.rbJudge_sound, State.foldl_sound, State.sound_ite, State.sound_mk, soundCore_self, soundCore_flash, Flash.sameFactory_self, if_true_left, if_true_right, ite_self, implies_true, *]
@[simp] theorem State.takeOutput_sound {F : Flash} (s : State) (c : Fin 32) (w : Word) (h : s.sound F) :
    (State.takeOutput s c w).sound F := by
  unfold State.takeOutput
  simp (maxDischargeDepth := 60) (maxSteps := 30000) +contextual only [State.setReg_sound, State.setFld_sound, State.setBit_sound, State.sound_ite, State.sound_mk, soundCore_self, soundCore_flash, Flash.sameFactory_self, if_true_left, if_true_right, ite_self, implies_true, *]
@[simp] theorem State.takeCell_sound {F : Flash} (f : UpFrame) (s : State) (c : Fin 32) (h : s.sound F) :
    (State.takeCell f s c).sound F := by
  unfold State.takeCell
  simp (maxDischargeDepth := 60) (maxSteps := 30000) +contextual only [State.setBit_sound, State.setFilt_sound, State.takeDiag_sound, State.takeInput_sound, State.takeOutput_sound, State.sound_ite, State.sound_mk, soundCore_self, soundCore_flash, Flash.sameFactory_self, if_true_left, if_true_right, ite_self, implies_true, *]
@[simp] theorem State.takeAxis_sound {F : Flash} (i : Fin 8) (f : UpFrame) (s : State) (a : Fin 8) (h : s.sound F) :
    (State.takeAxis i f s a).sound F := by
  unfold State.takeAxis
  repeat' (first
    | (intro x; first
        | (have hx : State.sound F x := by
            simp only [x]
            repeat' (first
              | (simp (maxDischargeDepth := 60) (maxSteps := 30000) +contextual only [State.showVal_sound, State.takeQuad_sound, State.indexNext_sound, State.takeHall_sound, State.takeSsi_sound, State.sound_ite, State.sound_mk, soundCore_self, soundCore_flash, Flash.sameFactory_self, if_true_left, if_true_right, ite_self, implies_true, *]; done)
              | split
              | (refine State.foldl_sound _ _ ?_ ?_ <;> intros)
              | (refine State.when_sound _ _ ?_ ?_ <;> intros))
           clear_value x)
        | (have hx : State.sound F x.2 := by
            simp only [x]
            repeat' (first
              | (simp (maxDischargeDepth := 60) (maxSteps := 30000) +contextual only [State.showVal_sound, State.takeQuad_sound, State.indexNext_sound, State.takeHall_sound, State.takeSsi_sound, State.sound_ite, State.sound_mk, soundCore_self, soundCore_flash, Flash.sameFactory_self, if_true_left, if_true_right, ite_self, implies_true, *]; done)
              | split
              | (refine State.foldl_sound _ _ ?_ ?_ <;> intros)
              | (refine State.when_sound _ _ ?_ ?_ <;> intros))
           clear_value x)
        | (have hx : State.sound F x.1 := by
            simp only [x]
            repeat' (first
              | (simp (maxDischargeDepth := 60) (maxSteps := 30000) +contextual only [State.showVal_sound, State.takeQuad_sound, State.indexNext_sound, State.takeHall_sound, State.takeSsi_sound, State.sound_ite, State.sound_mk, soundCore_self, soundCore_flash, Flash.sameFactory_self, if_true_left, if_true_right, ite_self, implies_true, *]; done)
              | split
              | (refine State.foldl_sound _ _ ?_ ?_ <;> intros)
              | (refine State.when_sound _ _ ?_ ?_ <;> intros))
           clear_value x)
        | clear_value x
        | skip)
    | lift_lets
    | (simp (maxDischargeDepth := 60) (maxSteps := 30000) +contextual only [State.showVal_sound, State.takeQuad_sound, State.indexNext_sound, State.takeHall_sound, State.takeSsi_sound, State.sound_ite, State.sound_mk, soundCore_self, soundCore_flash, Flash.sameFactory_self, if_true_left, if_true_right, ite_self, implies_true, *]; done)
    | split
    | (refine State.foldl_sound _ _ ?_ ?_ <;> intros)
    | (refine State.when_sound _ _ ?_ ?_ <;> intros)
    | (dsimp only; split)
    | dsimp only)
@[simp] theorem State.takeHdr_sound {F : Flash} (s : State) (i : Fin 8) (f : UpFrame) (h : s.sound F) :
    (State.takeHdr s i f).sound F := by
  unfold State.takeHdr
  simp (maxDischargeDepth := 60) (maxSteps := 30000) +contextual only [State.setFld_sound, State.bump_sound, State.when_sound, State.glError_sound, State.sound_ite, State.sound_mk, soundCore_self, soundCore_flash, Flash.sameFactory_self, if_true_left, if_true_right, ite_self, implies_true, *]
@[simp] theorem State.takeFrame_sound {F : Flash} (s : State) (i : Fin 8) (f : UpFrame) (h : s.sound F) :
    (State.takeFrame s i f).sound F := by
  unfold State.takeFrame
  simp (maxDischargeDepth := 60) (maxSteps := 30000) +contextual only [State.setFld_sound, State.when_sound, State.setIsl_sound, State.observe_sound, State.nrgUpdate_sound, State.structAnswer_sound, State.vfldFlags_sound, State.takeItem_sound, State.rbCompare_sound, State.takeCell_sound, State.takeAxis_sound, State.takeHdr_sound, State.foldl_sound, State.sound_ite, State.sound_mk, soundCore_self, soundCore_flash, Flash.sameFactory_self, if_true_left, if_true_right, ite_self, implies_true, *]
@[simp] theorem State.receive_sound {F : Flash} (s : State) (i : Fin 8) (bs : Bytes) (full : Bool) (h : s.sound F) :
    (State.receive s i bs full).sound F := by
  unfold State.receive
  repeat' (first | (simp (maxDischargeDepth := 60) (maxSteps := 30000) +contextual only [State.bump_sound, State.fire_sound, State.setIsl_sound, State.glError_sound, State.linkLock_sound, State.takeHdr_sound, State.takeFrame_sound, State.sound_ite, State.sound_mk, soundCore_self, soundCore_flash, Flash.sameFactory_self, if_true_left, if_true_right, ite_self, implies_true, *]; done) | split | (refine State.foldl_sound _ _ ?_ ?_ <;> intros) | (refine State.when_sound _ _ ?_ ?_ <;> intros))

end Sys2Proof.Machine
end

