-- ==== Sys2Proof/Laws/Sound/Island.lean ====
section
/-!
SUPPORT. The operations of Machine/Island.lean keep a sound state sound: registers and Eddy in their one form, factory data as it
is.
-/
namespace Sys2Proof.Machine
set_option linter.unusedSimpArgs false
set_option linter.unusedTactic false
set_option linter.unreachableTactic false
set_option linter.unusedVariables false

@[simp] theorem State.structCommit_sound {F : Flash} (s : State) (i : Fin 8) (raw : List Nat) (h : s.sound F) :
    (State.structCommit s i raw).sound F := by
  unfold State.structCommit
  repeat' (first | (simp (maxDischargeDepth := 60) (maxSteps := 30000) +contextual only [State.setReg_sound, State.setFld_sound, State.setBit_sound, State.when_sound, State.logRec_sound, State.setIsl_sound, State.setChan_sound, State.setFilt_sound, State.setAxis_sound, State.setClass_sound, State.observe_sound, State.nrgStructured_sound, State.foldl_sound, State.sound_ite, State.sound_mk, soundCore_self, soundCore_flash, Flash.sameFactory_self, if_true_left, if_true_right, ite_self, implies_true, *]; done) | split | (refine State.foldl_sound _ _ ?_ ?_ <;> intros) | (refine State.when_sound _ _ ?_ ?_ <;> intros))
@[simp] theorem State.islandLoss_sound {F : Flash} (s : State) (i : Fin 8) (osc : Bool) (h : s.sound F) :
    (State.islandLoss s i osc).sound F := by
  unfold State.islandLoss
  simp (maxDischargeDepth := 60) (maxSteps := 30000) +contextual only [State.setBit_sound, State.bump_sound, State.fire_sound, State.setIsl_sound, State.setClass_sound, State.observe_sound, State.lossMark_sound, State.foldl_sound, State.sound_ite, State.sound_mk, soundCore_self, soundCore_flash, Flash.sameFactory_self, if_true_left, if_true_right, ite_self, implies_true, *]
@[simp] theorem State.xferOn_sound {F : Flash} (s : State) (i : Fin 8) (h : s.sound F) :
    (State.xferOn s i).sound F := by
  unfold State.xferOn
  simp (maxDischargeDepth := 60) (maxSteps := 30000) +contextual only [State.setFld_sound, State.setBit_sound, State.setIsl_sound, State.sound_ite, State.sound_mk, soundCore_self, soundCore_flash, Flash.sameFactory_self, if_true_left, if_true_right, ite_self, implies_true, *]
@[simp] theorem State.loopReset_sound {F : Flash} (s : State) (i : Fin 8) (h : s.sound F) :
    (State.loopReset s i).sound F := by
  unfold State.loopReset
  simp (maxDischargeDepth := 60) (maxSteps := 30000) +contextual only [State.setCell_sound, State.channelReset_sound, State.foldl_sound, State.sound_ite, State.sound_mk, soundCore_self, soundCore_flash, Flash.sameFactory_self, if_true_left, if_true_right, ite_self, implies_true, *]

end Sys2Proof.Machine
end

