-- ==== Sys2Proof/Laws/Sound/Device.lean ====
section
/-!
SUPPORT. The operations of Machine/Device.lean keep a sound state sound: registers and Eddy in their one form, factory data as it
is.
-/
namespace Sys2Proof.Machine
set_option linter.unusedSimpArgs false
set_option linter.unusedTactic false
set_option linter.unreachableTactic false
set_option linter.unusedVariables false

@[simp] theorem State.setDev_sound {F : Flash} (s : State) (d : Dev) (trig : Nat) (h : s.sound F) :
    (State.setDev s d trig).sound F := by
  unfold State.setDev
  simp (maxDischargeDepth := 60) (maxSteps := 30000) +contextual only [State.logRec_sound, State.sound_ite, State.sound_mk, soundCore_self, soundCore_flash, Flash.sameFactory_self, if_true_left, if_true_right, ite_self, implies_true, *]
@[simp] theorem State.reject_sound {F : Flash} (s : State) (code scope isl serial session : Nat) (h : s.sound F) :
    (State.reject s code scope isl serial session).sound F := by
  unfold State.reject
  simp (maxDischargeDepth := 60) (maxSteps := 30000) +contextual only [State.setReg_sound, State.setFld_sound, State.fire_sound, State.logRec_sound, State.sound_ite, State.sound_mk, soundCore_self, soundCore_flash, Flash.sameFactory_self, if_true_left, if_true_right, ite_self, implies_true, *]
@[simp] theorem State.endRejected_sound {F : Flash} (s : State) (h : s.sound F) :
    (State.endRejected s).sound F := by
  simp only [State.endRejected, State.endOp_sound, *]
@[simp] theorem State.disarm_sound {F : Flash} (s : State) (h : s.sound F) :
    (State.disarm s).sound F := by
  unfold State.disarm
  simp (maxDischargeDepth := 60) (maxSteps := 30000) +contextual only [State.setReg_sound, State.setFld_sound, State.setIsl_sound, State.foldl_sound, State.sound_ite, State.sound_mk, soundCore_self, soundCore_flash, Flash.sameFactory_self, if_true_left, if_true_right, ite_self, implies_true, *]
@[simp] theorem State.unstructureAll_sound {F : Flash} (s : State) (h : s.sound F) :
    (State.unstructureAll s).sound F := by
  unfold State.unstructureAll
  simp (maxDischargeDepth := 60) (maxSteps := 30000) +contextual only [State.setBit_sound, State.setIsl_sound, State.foldl_sound, State.sound_ite, State.sound_mk, soundCore_self, soundCore_flash, Flash.sameFactory_self, if_true_left, if_true_right, ite_self, implies_true, *]
@[simp] theorem State.dropRing_sound {F : Flash} (s : State) (h : s.sound F) :
    (State.dropRing s).sound F := by
  unfold State.dropRing
  simp (maxDischargeDepth := 60) (maxSteps := 30000) +contextual only [State.setRing_sound, State.sound_ite, State.sound_mk, soundCore_self, soundCore_flash, Flash.sameFactory_self, if_true_left, if_true_right, ite_self, implies_true, *]
@[simp] theorem State.endPitch_sound {F : Flash} (s : State) (code : Nat) (keep : Bool) (h : s.sound F) :
    (State.endPitch s code keep).sound F := by
  unfold State.endPitch
  simp (maxDischargeDepth := 60) (maxSteps := 30000) +contextual only [State.setReg_sound, State.setFld_sound, State.clearImg_sound, State.when_sound, State.setDev_sound, State.reject_sound, State.endRejected_sound, State.disarm_sound, State.unstructureAll_sound, State.dropRing_sound, State.sound_ite, State.sound_mk, soundCore_self, soundCore_flash, Flash.sameFactory_self, if_true_left, if_true_right, ite_self, implies_true, *]
@[simp] theorem State.abandonRepitch_sound {F : Flash} (s : State) (code serial : Nat) (h : s.sound F) :
    (State.abandonRepitch s code serial).sound F := by
  unfold State.abandonRepitch
  simp (maxDischargeDepth := 60) (maxSteps := 30000) +contextual only [State.setBit_sound, State.setIsl_sound, State.reject_sound, State.endRejected_sound, State.sound_ite, State.sound_mk, soundCore_self, soundCore_flash, Flash.sameFactory_self, if_true_left, if_true_right, ite_self, implies_true, *]
@[simp] theorem State.restartFine_sound {F : Flash} (s : State) (h : s.sound F) :
    (State.restartFine s).sound F := by
  unfold State.restartFine
  simp (maxDischargeDepth := 60) (maxSteps := 30000) +contextual only [State.requestReset_sound, State.foldl_sound, State.sound_ite, State.sound_mk, soundCore_self, soundCore_flash, Flash.sameFactory_self, if_true_left, if_true_right, ite_self, implies_true, *]
@[simp] theorem State.safeCause_sound {F : Flash} (s : State) (cause : Nat) (detail : Word) (h : s.sound F) :
    (State.safeCause s cause detail).sound F := by
  unfold State.safeCause
  repeat' (first
    | (intro x; first
        | (have hx : State.sound F x := by
            simp only [x]
            repeat' (first
              | (simp (maxDischargeDepth := 60) (maxSteps := 30000) +contextual only [State.logRec_sound, State.endOp_sound, State.observe_sound, State.setDev_sound, State.endPitch_sound, State.abandonRepitch_sound, State.restartFine_sound, State.sound_ite, State.sound_mk, soundCore_self, soundCore_flash, Flash.sameFactory_self, if_true_left, if_true_right, ite_self, implies_true, *]; done)
              | split
              | (refine State.foldl_sound _ _ ?_ ?_ <;> intros)
              | (refine State.when_sound _ _ ?_ ?_ <;> intros))
           clear_value x)
        | (have hx : State.sound F x.2 := by
            simp only [x]
            repeat' (first
              | (simp (maxDischargeDepth := 60) (maxSteps := 30000) +contextual only [State.logRec_sound, State.endOp_sound, State.observe_sound, State.setDev_sound, State.endPitch_sound, State.abandonRepitch_sound, State.restartFine_sound, State.sound_ite, State.sound_mk, soundCore_self, soundCore_flash, Flash.sameFactory_self, if_true_left, if_true_right, ite_self, implies_true, *]; done)
              | split
              | (refine State.foldl_sound _ _ ?_ ?_ <;> intros)
              | (refine State.when_sound _ _ ?_ ?_ <;> intros))
           clear_value x)
        | (have hx : State.sound F x.1 := by
            simp only [x]
            repeat' (first
              | (simp (maxDischargeDepth := 60) (maxSteps := 30000) +contextual only [State.logRec_sound, State.endOp_sound, State.observe_sound, State.setDev_sound, State.endPitch_sound, State.abandonRepitch_sound, State.restartFine_sound, State.sound_ite, State.sound_mk, soundCore_self, soundCore_flash, Flash.sameFactory_self, if_true_left, if_true_right, ite_self, implies_true, *]; done)
              | split
              | (refine State.foldl_sound _ _ ?_ ?_ <;> intros)
              | (refine State.when_sound _ _ ?_ ?_ <;> intros))
           clear_value x)
        | (have hx : ∀ s, State.sound F s → State.sound F (x s) := by
            intro s hs
            simp only [x]
            repeat' (first
              | (simp (maxDischargeDepth := 60) (maxSteps := 30000) +contextual only [State.logRec_sound, State.endOp_sound, State.observe_sound, State.setDev_sound, State.endPitch_sound, State.abandonRepitch_sound, State.restartFine_sound, State.sound_ite, State.sound_mk, soundCore_self, soundCore_flash, Flash.sameFactory_self, if_true_left, if_true_right, ite_self, implies_true, *]; done)
              | split
              | (refine State.foldl_sound _ _ ?_ ?_ <;> intros)
              | (refine State.when_sound _ _ ?_ ?_ <;> intros))
           clear_value x)
        | (have hx : ∀ s p, State.sound F s → State.sound F (x s p) := by
            intro s p hs
            simp only [x]
            repeat' (first
              | (simp (maxDischargeDepth := 60) (maxSteps := 30000) +contextual only [State.logRec_sound, State.endOp_sound, State.observe_sound, State.setDev_sound, State.endPitch_sound, State.abandonRepitch_sound, State.restartFine_sound, State.sound_ite, State.sound_mk, soundCore_self, soundCore_flash, Flash.sameFactory_self, if_true_left, if_true_right, ite_self, implies_true, *]; done)
              | split
              | (refine State.foldl_sound _ _ ?_ ?_ <;> intros)
              | (refine State.when_sound _ _ ?_ ?_ <;> intros))
           clear_value x)
        | (have hx : ∀ s p q, State.sound F s → State.sound F (x s p q) := by
            intro s p q hs
            simp only [x]
            repeat' (first
              | (simp (maxDischargeDepth := 60) (maxSteps := 30000) +contextual only [State.logRec_sound, State.endOp_sound, State.observe_sound, State.setDev_sound, State.endPitch_sound, State.abandonRepitch_sound, State.restartFine_sound, State.sound_ite, State.sound_mk, soundCore_self, soundCore_flash, Flash.sameFactory_self, if_true_left, if_true_right, ite_self, implies_true, *]; done)
              | split
              | (refine State.foldl_sound _ _ ?_ ?_ <;> intros)
              | (refine State.when_sound _ _ ?_ ?_ <;> intros))
           clear_value x)
        | (have hx : ∀ p, State.sound F (x p) := by
            intro p
            simp only [x]
            repeat' (first
              | (simp (maxDischargeDepth := 60) (maxSteps := 30000) +contextual only [State.logRec_sound, State.endOp_sound, State.observe_sound, State.setDev_sound, State.endPitch_sound, State.abandonRepitch_sound, State.restartFine_sound, State.sound_ite, State.sound_mk, soundCore_self, soundCore_flash, Flash.sameFactory_self, if_true_left, if_true_right, ite_self, implies_true, *]; done)
              | split
              | (refine State.foldl_sound _ _ ?_ ?_ <;> intros)
              | (refine State.when_sound _ _ ?_ ?_ <;> intros))
           clear_value x)
        | (have hx : ∀ p q, State.sound F (x p q) := by
            intro p q
            simp only [x]
            repeat' (first
              | (simp (maxDischargeDepth := 60) (maxSteps := 30000) +contextual only [State.logRec_sound, State.endOp_sound, State.observe_sound, State.setDev_sound, State.endPitch_sound, State.abandonRepitch_sound, State.restartFine_sound, State.sound_ite, State.sound_mk, soundCore_self, soundCore_flash, Flash.sameFactory_self, if_true_left, if_true_right, ite_self, implies_true, *]; done)
              | split
              | (refine State.foldl_sound _ _ ?_ ?_ <;> intros)
              | (refine State.when_sound _ _ ?_ ?_ <;> intros))
           clear_value x)
        | clear_value x
        | skip)
    | lift_lets
    | (simp (maxDischargeDepth := 60) (maxSteps := 30000) +contextual only [State.logRec_sound, State.endOp_sound, State.observe_sound, State.setDev_sound, State.endPitch_sound, State.abandonRepitch_sound, State.restartFine_sound, State.sound_ite, State.sound_mk, soundCore_self, soundCore_flash, Flash.sameFactory_self, if_true_left, if_true_right, ite_self, implies_true, *]; done)
    | split
    | (refine State.foldl_sound _ _ ?_ ?_ <;> intros)
    | (refine State.when_sound _ _ ?_ ?_ <;> intros)
    | dsimp only)
@[simp] theorem State.holdReset_sound {F : Flash} (s : State) (cause : Nat) (h : s.sound F) :
    (State.holdReset s cause).sound F := by
  unfold State.holdReset
  simp (maxDischargeDepth := 60) (maxSteps := 30000) +contextual only [State.sound_ite, State.sound_mk, soundCore_self, soundCore_flash, Flash.sameFactory_self, if_true_left, if_true_right, ite_self, implies_true, *]

end Sys2Proof.Machine
end

