-- ==== Sys2Proof/Laws/Sound/Kernel.lean ====
section
/-!
SUPPORT. The operations of Machine/Kernel.lean keep a sound state sound: registers and Eddy in their one form, factory data as it
is.
-/
namespace Sys2Proof.Machine
set_option linter.unusedSimpArgs false
set_option linter.unusedTactic false
set_option linter.unreachableTactic false
set_option linter.unusedVariables false

@[simp] theorem State.setSaf_sound {F : Flash} (s : State) (f : SafSt → SafSt) (h : s.sound F) :
    (State.setSaf s f).sound F := by
  unfold State.setSaf
  simp (maxDischargeDepth := 60) (maxSteps := 30000) +contextual only [State.sound_ite, State.sound_mk, soundCore_self, soundCore_flash, Flash.sameFactory_self, if_true_left, if_true_right, ite_self, implies_true, *]
@[simp] theorem State.setKern_sound {F : Flash} (s : State) (isB : Bool) (f : Kern → Kern) (h : s.sound F) :
    (State.setKern s isB f).sound F := by
  simp only [State.setKern, State.setSaf_sound, *]
@[simp] theorem State.noteCause_sound {F : Flash} (s : State) (cause unit : Nat) (pair : Bool) (h : s.sound F) :
    (State.noteCause s cause unit pair).sound F := by
  simp only [State.noteCause, State.setSaf_sound, *]
@[simp] theorem State.safFault_sound {F : Flash} (s : State) (cause unit : Nat) (pair : Bool) (h : s.sound F) :
    (State.safFault s cause unit pair).sound F := by
  unfold State.safFault
  simp (maxDischargeDepth := 60) (maxSteps := 30000) +contextual only [State.bump_sound, State.fire_sound, State.logRec_sound, State.noteCause_sound, State.sound_ite, State.sound_mk, soundCore_self, soundCore_flash, Flash.sameFactory_self, if_true_left, if_true_right, ite_self, implies_true, *]
@[simp] theorem State.kernelFault_sound {F : Flash} (s : State) (cause unit : Nat) (pair : Bool) (h : s.sound F) :
    (State.kernelFault s cause unit pair).sound F := by
  simp only [State.kernelFault, State.safeCause_sound, State.safFault_sound, *]
@[simp] theorem State.safTrip_sound {F : Flash} (s : State) (f : Fin 16) (cause : Nat) (h : s.sound F) :
    (State.safTrip s f cause).sound F := by
  unfold State.safTrip
  simp (maxDischargeDepth := 60) (maxSteps := 30000) +contextual only [State.bump_sound, State.fire_sound, State.logRec_sound, State.setSaf_sound, State.noteCause_sound, State.sound_ite, State.sound_mk, soundCore_self, soundCore_flash, Flash.sameFactory_self, if_true_left, if_true_right, ite_self, implies_true, *]
@[simp] theorem State.safEnter_sound {F : Flash} (s : State) (f : Fin 16) (h : s.sound F) :
    (State.safEnter s f).sound F := by
  simp only [State.safEnter, State.setSaf_sound, *]
@[simp] theorem State.fnGo_sound {F : Flash} (s : State) (isB : Bool) (f : Fin 16) (st cause : Nat) (h : s.sound F) :
    (State.fnGo s isB f st cause).sound F := by
  unfold State.fnGo
  repeat' (first
    | (intro x; first
        | (have hx : State.sound F x := by
            simp only [x]
            repeat' (first
              | (simp (maxDischargeDepth := 60) (maxSteps := 30000) +contextual only [State.fire_sound, State.setKern_sound, State.noteCause_sound, State.safFault_sound, State.safTrip_sound, State.safEnter_sound, State.sound_ite, State.sound_mk, soundCore_self, soundCore_flash, Flash.sameFactory_self, if_true_left, if_true_right, ite_self, implies_true, *]; done)
              | split
              | (refine State.foldl_sound _ _ ?_ ?_ <;> intros)
              | (refine State.when_sound _ _ ?_ ?_ <;> intros))
           clear_value x)
        | clear_value x
        | skip)
    | lift_lets
    | (simp (maxDischargeDepth := 60) (maxSteps := 30000) +contextual only [State.fire_sound, State.setKern_sound, State.noteCause_sound, State.safFault_sound, State.safTrip_sound, State.safEnter_sound, State.sound_ite, State.sound_mk, soundCore_self, soundCore_flash, Flash.sameFactory_self, if_true_left, if_true_right, ite_self, implies_true, *]; done)
    | split
    | (refine State.foldl_sound _ _ ?_ ?_ <;> intros)
    | (refine State.when_sound _ _ ?_ ?_ <;> intros)
    | dsimp only)
@[simp] theorem State.fnCycle_sound {F : Flash} (isB : Bool) (s : State) (f : Fin 16) (h : s.sound F) :
    (State.fnCycle isB s f).sound F := by
  unfold State.fnCycle
  repeat' (first
    | (intro x; first
        | (have hx : State.sound F x := by
            simp only [x]
            repeat' (first
              | (simp (maxDischargeDepth := 60) (maxSteps := 30000) +contextual only [State.setKern_sound, State.fnGo_sound, State.sound_ite, State.sound_mk, soundCore_self, soundCore_flash, Flash.sameFactory_self, if_true_left, if_true_right, ite_self, implies_true, *]; done)
              | split
              | (refine State.foldl_sound _ _ ?_ ?_ <;> intros)
              | (refine State.when_sound _ _ ?_ ?_ <;> intros))
           clear_value x)
        | clear_value x
        | skip)
    | lift_lets
    | (simp (maxDischargeDepth := 60) (maxSteps := 30000) +contextual only [State.setKern_sound, State.fnGo_sound, State.sound_ite, State.sound_mk, soundCore_self, soundCore_flash, Flash.sameFactory_self, if_true_left, if_true_right, ite_self, implies_true, *]; done)
    | split
    | (refine State.foldl_sound _ _ ?_ ?_ <;> intros)
    | (refine State.when_sound _ _ ?_ ?_ <;> intros)
    | dsimp only)
@[simp] theorem State.pairGo_sound {F : Flash} (s : State) (isB : Bool) (p : Fin 8) (on timed : Bool) (cause : Nat) (h : s.sound F) :
    (State.pairGo s isB p on timed cause).sound F := by
  unfold State.pairGo
  simp (maxDischargeDepth := 60) (maxSteps := 30000) +contextual only [State.fire_sound, State.setKern_sound, State.sound_ite, State.sound_mk, soundCore_self, soundCore_flash, Flash.sameFactory_self, if_true_left, if_true_right, ite_self, implies_true, *]
@[simp] theorem State.pairFault_sound {F : Flash} (s : State) (isB : Bool) (p : Fin 8) (cause : Nat) (h : s.sound F) :
    (State.pairFault s isB p cause).sound F := by
  unfold State.pairFault
  simp (maxDischargeDepth := 60) (maxSteps := 30000) +contextual only [State.setKern_sound, State.safFault_sound, State.pairGo_sound, State.sound_ite, State.sound_mk, soundCore_self, soundCore_flash, Flash.sameFactory_self, if_true_left, if_true_right, ite_self, implies_true, *]
@[simp] theorem State.interlock_sound {F : Flash} (s : State) (isB : Bool) (p : Fin 8) (h : s.sound F) :
    (State.interlock s isB p).sound F := by
  unfold State.interlock
  simp (maxDischargeDepth := 60) (maxSteps := 30000) +contextual only [State.fire_sound, State.setKern_sound, State.noteCause_sound, State.pairGo_sound, State.sound_ite, State.sound_mk, soundCore_self, soundCore_flash, Flash.sameFactory_self, if_true_left, if_true_right, ite_self, implies_true, *]
@[simp] theorem State.ss1Start_sound {F : Flash} (s : State) (isB : Bool) (p : Fin 8) (ms cause : Nat) (h : s.sound F) :
    (State.ss1Start s isB p ms cause).sound F := by
  unfold State.ss1Start
  simp (maxDischargeDepth := 60) (maxSteps := 30000) +contextual only [State.fire_sound, State.setKern_sound, State.sound_ite, State.sound_mk, soundCore_self, soundCore_flash, Flash.sameFactory_self, if_true_left, if_true_right, ite_self, implies_true, *]
@[simp] theorem State.pairCycle_sound {F : Flash} (isB : Bool) (s : State) (p : Fin 8) (h : s.sound F) :
    (State.pairCycle isB s p).sound F := by
  unfold State.pairCycle
  repeat' (first
    | (intro x; first
        | (have hx : State.sound F x := by
            simp only [x]
            repeat' (first
              | (simp (maxDischargeDepth := 60) (maxSteps := 30000) +contextual only [State.setKern_sound, State.pairGo_sound, State.ss1Start_sound, State.sound_ite, State.sound_mk, soundCore_self, soundCore_flash, Flash.sameFactory_self, if_true_left, if_true_right, ite_self, implies_true, *]; done)
              | split
              | (refine State.foldl_sound _ _ ?_ ?_ <;> intros)
              | (refine State.when_sound _ _ ?_ ?_ <;> intros))
           clear_value x)
        | clear_value x
        | skip)
    | lift_lets
    | (simp (maxDischargeDepth := 60) (maxSteps := 30000) +contextual only [State.setKern_sound, State.pairGo_sound, State.ss1Start_sound, State.sound_ite, State.sound_mk, soundCore_self, soundCore_flash, Flash.sameFactory_self, if_true_left, if_true_right, ite_self, implies_true, *]; done)
    | split
    | (refine State.foldl_sound _ _ ?_ ?_ <;> intros)
    | (refine State.when_sound _ _ ?_ ?_ <;> intros)
    | dsimp only)
@[simp] theorem State.ackUnit_sound {F : Flash} (isB : Bool) (s : State) (u : Nat) (h : s.sound F) :
    (State.ackUnit isB s u).sound F := by
  unfold State.ackUnit
  repeat' (first
    | (intro x; first
        | (have hx : State.sound F x := by
            simp only [x]
            repeat' (first
              | (simp (maxDischargeDepth := 60) (maxSteps := 30000) +contextual only [State.setKern_sound, State.fnGo_sound, State.sound_ite, State.sound_mk, soundCore_self, soundCore_flash, Flash.sameFactory_self, if_true_left, if_true_right, ite_self, implies_true, *]; done)
              | split
              | (refine State.foldl_sound _ _ ?_ ?_ <;> intros)
              | (refine State.when_sound _ _ ?_ ?_ <;> intros))
           clear_value x)
        | clear_value x
        | skip)
    | lift_lets
    | (simp (maxDischargeDepth := 60) (maxSteps := 30000) +contextual only [State.setKern_sound, State.fnGo_sound, State.sound_ite, State.sound_mk, soundCore_self, soundCore_flash, Flash.sameFactory_self, if_true_left, if_true_right, ite_self, implies_true, *]; done)
    | split
    | (refine State.foldl_sound _ _ ?_ ?_ <;> intros)
    | (refine State.when_sound _ _ ?_ ?_ <;> intros)
    | dsimp only)
@[simp] theorem State.ackAll_sound {F : Flash} (s : State) (ua ub : List Nat) (h : s.sound F) :
    (State.ackAll s ua ub).sound F := by
  unfold State.ackAll
  simp (maxDischargeDepth := 60) (maxSteps := 30000) +contextual only [State.setBit_sound, State.bump_sound, State.setSaf_sound, State.ackUnit_sound, State.foldl_sound, State.sound_ite, State.sound_mk, soundCore_self, soundCore_flash, Flash.sameFactory_self, if_true_left, if_true_right, ite_self, implies_true, *]
@[simp] theorem State.restartCycle_sound {F : Flash} (s : State) (isB : Bool) (h : s.sound F) :
    (State.restartCycle s isB).sound F := by
  unfold State.restartCycle
  repeat' (first
    | (intro x; first
        | (have hx : State.sound F x := by
            simp only [x]
            repeat' (first
              | (simp (maxDischargeDepth := 60) (maxSteps := 30000) +contextual only [State.setKern_sound, State.ackAll_sound, State.sound_ite, State.sound_mk, soundCore_self, soundCore_flash, Flash.sameFactory_self, if_true_left, if_true_right, ite_self, implies_true, *]; done)
              | split
              | (refine State.foldl_sound _ _ ?_ ?_ <;> intros)
              | (refine State.when_sound _ _ ?_ ?_ <;> intros))
           clear_value x)
        | clear_value x
        | skip)
    | lift_lets
    | (simp (maxDischargeDepth := 60) (maxSteps := 30000) +contextual only [State.setKern_sound, State.ackAll_sound, State.sound_ite, State.sound_mk, soundCore_self, soundCore_flash, Flash.sameFactory_self, if_true_left, if_true_right, ite_self, implies_true, *]; done)
    | split
    | (refine State.foldl_sound _ _ ?_ ?_ <;> intros)
    | (refine State.when_sound _ _ ?_ ?_ <;> intros)
    | dsimp only)
@[simp] theorem State.safenCycle_sound {F : Flash} (s : State) (isB high : Bool) (h : s.sound F) :
    (State.safenCycle s isB high).sound F := by
  unfold State.safenCycle
  simp (maxDischargeDepth := 60) (maxSteps := 30000) +contextual only [State.setBit_sound, State.setSaf_sound, State.setKern_sound, State.noteCause_sound, State.pairGo_sound, State.foldl_sound, State.sound_ite, State.sound_mk, soundCore_self, soundCore_flash, Flash.sameFactory_self, if_true_left, if_true_right, ite_self, implies_true, *]
@[simp] theorem State.safenView_sound {F : Flash} (s : State) (h : s.sound F) :
    (State.safenView s).sound F := by
  unfold State.safenView
  simp (maxDischargeDepth := 60) (maxSteps := 30000) +contextual only [State.fire_sound, State.setSaf_sound, State.sound_ite, State.sound_mk, soundCore_self, soundCore_flash, Flash.sameFactory_self, if_true_left, if_true_right, ite_self, implies_true, *]
@[simp] theorem State.compareCycle_sound {F : Flash} (s : State) (isB : Bool) (h : s.sound F) :
    (State.compareCycle s isB).sound F := by
  unfold State.compareCycle
  simp (maxDischargeDepth := 60) (maxSteps := 30000) +contextual only [State.bump_sound, State.setKern_sound, State.kernelFault_sound, State.foldl_sound, State.sound_ite, State.sound_mk, soundCore_self, soundCore_flash, Flash.sameFactory_self, if_true_left, if_true_right, ite_self, implies_true, *]
@[simp] theorem State.safMirror_sound {F : Flash} (s : State) (h : s.sound F) :
    (State.safMirror s).sound F := by
  unfold State.safMirror
  repeat' (first
    | (intro x; first
        | (have hx : State.sound F x := by
            simp only [x]
            repeat' (first
              | (simp (maxDischargeDepth := 60) (maxSteps := 30000) +contextual only [State.setReg_sound, State.foldl_sound, State.sound_ite, State.sound_mk, soundCore_self, soundCore_flash, Flash.sameFactory_self, if_true_left, if_true_right, ite_self, implies_true, *]; done)
              | split
              | (refine State.foldl_sound _ _ ?_ ?_ <;> intros)
              | (refine State.when_sound _ _ ?_ ?_ <;> intros))
           clear_value x)
        | clear_value x
        | skip)
    | lift_lets
    | (simp (maxDischargeDepth := 60) (maxSteps := 30000) +contextual only [State.setReg_sound, State.foldl_sound, State.sound_ite, State.sound_mk, soundCore_self, soundCore_flash, Flash.sameFactory_self, if_true_left, if_true_right, ite_self, implies_true, *]; done)
    | split
    | (refine State.foldl_sound _ _ ?_ ?_ <;> intros)
    | (refine State.when_sound _ _ ?_ ?_ <;> intros)
    | dsimp only)
@[simp] theorem State.publish_sound {F : Flash} (s : State) (isB : Bool) (h : s.sound F) :
    (State.publish s isB).sound F := by
  unfold State.publish
  simp (maxDischargeDepth := 60) (maxSteps := 30000) +contextual only [State.setIsl_sound, State.setKern_sound, State.foldl_sound, State.sound_ite, State.sound_mk, soundCore_self, soundCore_flash, Flash.sameFactory_self, if_true_left, if_true_right, ite_self, implies_true, *]
@[simp] theorem State.pairsNow_sound {F : Flash} (s : State) (isB : Bool) (h : s.sound F) :
    (State.pairsNow s isB).sound F := by
  unfold State.pairsNow
  simp (maxDischargeDepth := 60) (maxSteps := 30000) +contextual only [State.pairCycle_sound, State.publish_sound, State.foldl_sound, State.sound_ite, State.sound_mk, soundCore_self, soundCore_flash, Flash.sameFactory_self, if_true_left, if_true_right, ite_self, implies_true, *]
@[simp] theorem State.pairReadback_sound {F : Flash} (isB : Bool) (i : Fin 8) (data n : Nat) (s : State) (p : Fin 8) (h : s.sound F) :
    (State.pairReadback isB i data n s p).sound F := by
  unfold State.pairReadback
  repeat' (first
    | (intro x; first
        | (have hx : State.sound F x := by
            simp only [x]
            repeat' (first
              | (simp (maxDischargeDepth := 60) (maxSteps := 30000) +contextual only [State.setKern_sound, State.pairFault_sound, State.publish_sound, State.sound_ite, State.sound_mk, soundCore_self, soundCore_flash, Flash.sameFactory_self, if_true_left, if_true_right, ite_self, implies_true, *]; done)
              | split
              | (refine State.foldl_sound _ _ ?_ ?_ <;> intros)
              | (refine State.when_sound _ _ ?_ ?_ <;> intros))
           clear_value x)
        | (have hx : State.sound F x.2 := by
            simp only [x]
            repeat' (first
              | (simp (maxDischargeDepth := 60) (maxSteps := 30000) +contextual only [State.setKern_sound, State.pairFault_sound, State.publish_sound, State.sound_ite, State.sound_mk, soundCore_self, soundCore_flash, Flash.sameFactory_self, if_true_left, if_true_right, ite_self, implies_true, *]; done)
              | split
              | (refine State.foldl_sound _ _ ?_ ?_ <;> intros)
              | (refine State.when_sound _ _ ?_ ?_ <;> intros))
           clear_value x)
        | (have hx : State.sound F x.1 := by
            simp only [x]
            repeat' (first
              | (simp (maxDischargeDepth := 60) (maxSteps := 30000) +contextual only [State.setKern_sound, State.pairFault_sound, State.publish_sound, State.sound_ite, State.sound_mk, soundCore_self, soundCore_flash, Flash.sameFactory_self, if_true_left, if_true_right, ite_self, implies_true, *]; done)
              | split
              | (refine State.foldl_sound _ _ ?_ ?_ <;> intros)
              | (refine State.when_sound _ _ ?_ ?_ <;> intros))
           clear_value x)
        | (have hx : ∀ s, State.sound F s → State.sound F (x s) := by
            intro s hs
            simp only [x]
            repeat' (first
              | (simp (maxDischargeDepth := 60) (maxSteps := 30000) +contextual only [State.setKern_sound, State.pairFault_sound, State.publish_sound, State.sound_ite, State.sound_mk, soundCore_self, soundCore_flash, Flash.sameFactory_self, if_true_left, if_true_right, ite_self, implies_true, *]; done)
              | split
              | (refine State.foldl_sound _ _ ?_ ?_ <;> intros)
              | (refine State.when_sound _ _ ?_ ?_ <;> intros))
           clear_value x)
        | (have hx : ∀ s p, State.sound F s → State.sound F (x s p) := by
            intro s p hs
            simp only [x]
            repeat' (first
              | (simp (maxDischargeDepth := 60) (maxSteps := 30000) +contextual only [State.setKern_sound, State.pairFault_sound, State.publish_sound, State.sound_ite, State.sound_mk, soundCore_self, soundCore_flash, Flash.sameFactory_self, if_true_left, if_true_right, ite_self, implies_true, *]; done)
              | split
              | (refine State.foldl_sound _ _ ?_ ?_ <;> intros)
              | (refine State.when_sound _ _ ?_ ?_ <;> intros))
           clear_value x)
        | (have hx : ∀ s p q, State.sound F s → State.sound F (x s p q) := by
            intro s p q hs
            simp only [x]
            repeat' (first
              | (simp (maxDischargeDepth := 60) (maxSteps := 30000) +contextual only [State.setKern_sound, State.pairFault_sound, State.publish_sound, State.sound_ite, State.sound_mk, soundCore_self, soundCore_flash, Flash.sameFactory_self, if_true_left, if_true_right, ite_self, implies_true, *]; done)
              | split
              | (refine State.foldl_sound _ _ ?_ ?_ <;> intros)
              | (refine State.when_sound _ _ ?_ ?_ <;> intros))
           clear_value x)
        | (have hx : ∀ p, State.sound F (x p) := by
            intro p
            simp only [x]
            repeat' (first
              | (simp (maxDischargeDepth := 60) (maxSteps := 30000) +contextual only [State.setKern_sound, State.pairFault_sound, State.publish_sound, State.sound_ite, State.sound_mk, soundCore_self, soundCore_flash, Flash.sameFactory_self, if_true_left, if_true_right, ite_self, implies_true, *]; done)
              | split
              | (refine State.foldl_sound _ _ ?_ ?_ <;> intros)
              | (refine State.when_sound _ _ ?_ ?_ <;> intros))
           clear_value x)
        | (have hx : ∀ p q, State.sound F (x p q) := by
            intro p q
            simp only [x]
            repeat' (first
              | (simp (maxDischargeDepth := 60) (maxSteps := 30000) +contextual only [State.setKern_sound, State.pairFault_sound, State.publish_sound, State.sound_ite, State.sound_mk, soundCore_self, soundCore_flash, Flash.sameFactory_self, if_true_left, if_true_right, ite_self, implies_true, *]; done)
              | split
              | (refine State.foldl_sound _ _ ?_ ?_ <;> intros)
              | (refine State.when_sound _ _ ?_ ?_ <;> intros))
           clear_value x)
        | clear_value x
        | skip)
    | lift_lets
    | (simp (maxDischargeDepth := 60) (maxSteps := 30000) +contextual only [State.setKern_sound, State.pairFault_sound, State.publish_sound, State.sound_ite, State.sound_mk, soundCore_self, soundCore_flash, Flash.sameFactory_self, if_true_left, if_true_right, ite_self, implies_true, *]; done)
    | split
    | (refine State.foldl_sound _ _ ?_ ?_ <;> intros)
    | (refine State.when_sound _ _ ?_ ?_ <;> intros)
    | dsimp only)
@[simp] theorem State.subframeBad_sound {F : Flash} (s : State) (isB : Bool) (i : Fin 8) (h : s.sound F) :
    (State.subframeBad s isB i).sound F := by
  simp only [State.subframeBad, State.bump_sound, *]
@[simp] theorem State.subframeTake_sound {F : Flash} (s : State) (isB : Bool) (i : Fin 8) (life data n : Nat) (h : s.sound F) :
    (State.subframeTake s isB i life data n).sound F := by
  unfold State.subframeTake
  simp (maxDischargeDepth := 60) (maxSteps := 30000) +contextual only [State.setKern_sound, State.pairReadback_sound, State.foldl_sound, State.sound_ite, State.sound_mk, soundCore_self, soundCore_flash, Flash.sameFactory_self, if_true_left, if_true_right, ite_self, implies_true, *]
@[simp] theorem State.subframeStep_sound {F : Flash} (s : State) (isB : Bool) (i : Fin 8) (h : s.sound F) :
    (State.subframeStep s isB i).sound F := by
  unfold State.subframeStep
  simp (maxDischargeDepth := 60) (maxSteps := 30000) +contextual only [State.setKern_sound, State.subframeBad_sound, State.sound_ite, State.sound_mk, soundCore_self, soundCore_flash, Flash.sameFactory_self, if_true_left, if_true_right, ite_self, implies_true, *]
@[simp] theorem State.subframeIn_sound {F : Flash} (s : State) (isB : Bool) (i : Fin 8) (bs : Bytes) (h : s.sound F) :
    (State.subframeIn s isB i bs).sound F := by
  unfold State.subframeIn
  repeat' (first | (simp (maxDischargeDepth := 60) (maxSteps := 30000) +contextual only [State.subframeBad_sound, State.subframeTake_sound, State.subframeStep_sound, State.sound_ite, State.sound_mk, soundCore_self, soundCore_flash, Flash.sameFactory_self, if_true_left, if_true_right, ite_self, implies_true, *]; done) | split | (refine State.foldl_sound _ _ ?_ ?_ <;> intros) | (refine State.when_sound _ _ ?_ ?_ <;> intros))

end Sys2Proof.Machine
end

