-- ==== Sys2Proof/Laws/Sound/Reset.lean ====
section
/-!
SUPPORT. The operations of Machine/Reset.lean keep a sound state sound: registers and Eddy in their one form, factory data as it
is.
-/
namespace Sys2Proof.Machine
set_option linter.unusedSimpArgs false
set_option linter.unusedTactic false
set_option linter.unreachableTactic false
set_option linter.unusedVariables false

theorem State.cutFlash_factory (s : State) : s.cutFlash.sameFactory s.flash := by
  unfold State.cutFlash Flash.setImg Flash.setFw
  repeat' (first | exact Flash.sameFactory_self _ | split | exact ⟨rfl, rfl, rfl, rfl⟩)
@[simp] theorem State.takeFree_sound {F : Flash} (s : State) (h : s.sound F) :
    (State.takeFree s).sound F := by
  unfold State.takeFree
  simp (maxDischargeDepth := 60) (maxSteps := 30000) +contextual only [State.sound_ite, State.sound_mk, soundCore_self, soundCore_flash, Flash.sameFactory_self, if_true_left, if_true_right, ite_self, implies_true, *]
@[simp] theorem State.hubResetTo_sound {F : Flash} (s : State) (d : Dev) (cause : Nat) (multi : Bool) (h : s.sound F) :
    (State.hubResetTo s d cause multi).sound F := by
  have hc := s.cutFlash_factory
  have hf : s.cutFlash.sameFactory F :=
    ⟨hc.1.trans h.2.1, hc.2.1.trans h.2.2.1, hc.2.2.1.trans h.2.2.2.1, hc.2.2.2.trans h.2.2.2.2⟩
  unfold State.hubResetTo
  refine State.setDev_sound _ _ _ (State.setReg_sound (State.setReg_sound (State.setReg_sound ?_)))
  exact ⟨⟨rfl, rfl⟩, hf⟩
@[simp] theorem State.hubReset_sound {F : Flash} (s : State) (cause : Nat) (multi : Bool) (h : s.sound F) :
    (State.hubReset s cause multi).sound F := by
  simp only [State.hubReset, State.hubResetTo_sound, *]

end Sys2Proof.Machine
end

