-- ==== Sys2Proof/Laws/Sound/Watchdog.lean ====
section
/-!
SUPPORT. The operations of Machine/Watchdog.lean keep a sound state sound: registers and Eddy in their one form, factory data as it
is.
-/
namespace Sys2Proof.Machine
set_option linter.unusedSimpArgs false
set_option linter.unusedTactic false
set_option linter.unreachableTactic false
set_option linter.unusedVariables false

@[simp] theorem State.wdgDefaults_sound {F : Flash} (s : State) (h : s.sound F) :
    (State.wdgDefaults s).sound F := by
  unfold State.wdgDefaults
  simp (maxDischargeDepth := 60) (maxSteps := 30000) +contextual only [State.setReg_sound, State.sound_ite, State.sound_mk, soundCore_self, soundCore_flash, Flash.sameFactory_self, if_true_left, if_true_right, ite_self, implies_true, *]
@[simp] theorem State.wdgChallenge_sound {F : Flash} (s : State) (left opens : Nat) (h : s.sound F) :
    (State.wdgChallenge s left opens).sound F := by
  unfold State.wdgChallenge
  simp (maxDischargeDepth := 60) (maxSteps := 30000) +contextual only [State.setReg_sound, State.setBit_sound, State.sound_ite, State.sound_mk, soundCore_self, soundCore_flash, Flash.sameFactory_self, if_true_left, if_true_right, ite_self, implies_true, *]
@[simp] theorem State.wdgFresh_sound {F : Flash} (s : State) (h : s.sound F) :
    (State.wdgFresh s).sound F := by
  unfold State.wdgFresh
  simp (maxDischargeDepth := 60) (maxSteps := 30000) +contextual only [State.when_sound, State.wdgDefaults_sound, State.wdgChallenge_sound, State.sound_ite, State.sound_mk, soundCore_self, soundCore_flash, Flash.sameFactory_self, if_true_left, if_true_right, ite_self, implies_true, *]
@[simp] theorem State.wdgBootEnd_sound {F : Flash} (s : State) (h : s.sound F) :
    (State.wdgBootEnd s).sound F := by
  unfold State.wdgBootEnd
  simp (maxDischargeDepth := 60) (maxSteps := 30000) +contextual only [State.setBit_sound, State.when_sound, State.sound_ite, State.sound_mk, soundCore_self, soundCore_flash, Flash.sameFactory_self, if_true_left, if_true_right, ite_self, implies_true, *]
@[simp] theorem State.wdgAct_sound {F : Flash} (s : State) (kind step : Nat) (h : s.sound F) :
    (State.wdgAct s kind step).sound F := by
  unfold State.wdgAct
  simp (maxDischargeDepth := 60) (maxSteps := 30000) +contextual only [State.fire_sound, State.logRec_sound, State.safeCause_sound, State.hubReset_sound, State.sound_ite, State.sound_mk, soundCore_self, soundCore_flash, Flash.sameFactory_self, if_true_left, if_true_right, ite_self, implies_true, *]
@[simp] theorem State.wdgFaultTo_sound {F : Flash} (s : State) (kind step : Nat) (h : s.sound F) :
    (State.wdgFaultTo s kind step).sound F := by
  unfold State.wdgFaultTo
  simp (maxDischargeDepth := 60) (maxSteps := 30000) +contextual only [State.setFld_sound, State.bump_sound, State.wdgFresh_sound, State.wdgAct_sound, State.sound_ite, State.sound_mk, soundCore_self, soundCore_flash, Flash.sameFactory_self, if_true_left, if_true_right, ite_self, implies_true, *]
@[simp] theorem State.wdgFault_sound {F : Flash} (s : State) (kind : Nat) (h : s.sound F) :
    (State.wdgFault s kind).sound F := by
  simp only [State.wdgFault, State.wdgFaultTo_sound, *]
@[simp] theorem State.wdgServe_sound {F : Flash} (s : State) (v : Word) (h : s.sound F) :
    (State.wdgServe s v).sound F := by
  unfold State.wdgServe
  simp (maxDischargeDepth := 60) (maxSteps := 30000) +contextual only [State.setFld_sound, State.setBit_sound, State.bump_sound, State.wdgFresh_sound, State.wdgFault_sound, State.sound_ite, State.sound_mk, soundCore_self, soundCore_flash, Flash.sameFactory_self, if_true_left, if_true_right, ite_self, implies_true, *]
@[simp] theorem State.wdgPitch_sound {F : Flash} (s : State) (b : Bytes) (h : s.sound F) :
    (State.wdgPitch s b).sound F := by
  unfold State.wdgPitch
  simp (maxDischargeDepth := 60) (maxSteps := 30000) +contextual only [State.setReg_sound, State.setFld_sound, State.setBit_sound, State.wdgChallenge_sound, State.sound_ite, State.sound_mk, soundCore_self, soundCore_flash, Flash.sameFactory_self, if_true_left, if_true_right, ite_self, implies_true, *]
@[simp] theorem State.wdgMaintenance_sound {F : Flash} (s : State) (h : s.sound F) :
    (State.wdgMaintenance s).sound F := by
  unfold State.wdgMaintenance
  simp (maxDischargeDepth := 60) (maxSteps := 30000) +contextual only [State.sound_ite, State.sound_mk, soundCore_self, soundCore_flash, Flash.sameFactory_self, if_true_left, if_true_right, ite_self, implies_true, *]
@[simp] theorem State.wdgPause_sound {F : Flash} (s : State) (h : s.sound F) :
    (State.wdgPause s).sound F := by
  simp only [State.wdgPause, State.setBit_sound, *]
@[simp] theorem State.wdgResume_sound {F : Flash} (s : State) (h : s.sound F) :
    (State.wdgResume s).sound F := by
  unfold State.wdgResume
  simp (maxDischargeDepth := 60) (maxSteps := 30000) +contextual only [State.setBit_sound, State.when_sound, State.wdgDefaults_sound, State.wdgChallenge_sound, State.sound_ite, State.sound_mk, soundCore_self, soundCore_flash, Flash.sameFactory_self, if_true_left, if_true_right, ite_self, implies_true, *]
@[simp] theorem State.wdgTick_sound {F : Flash} (s : State) (h : s.sound F) :
    (State.wdgTick s).sound F := by
  unfold State.wdgTick
  simp (maxDischargeDepth := 60) (maxSteps := 30000) +contextual only [State.setReg_sound, State.wdgBootEnd_sound, State.sound_ite, State.sound_mk, soundCore_self, soundCore_flash, Flash.sameFactory_self, if_true_left, if_true_right, ite_self, implies_true, *]

end Sys2Proof.Machine
end

