-- ==== Sys2Proof/Laws/Sound/Sluice.lean ====
section
/-!
SUPPORT. The operations of Machine/Sluice.lean keep a sound state sound: registers and Eddy in their one form, factory data as it
is.
-/
namespace Sys2Proof.Machine
set_option linter.unusedSimpArgs false
set_option linter.unusedTactic false
set_option linter.unreachableTactic false
set_option linter.unusedVariables false

@[simp] theorem State.setTen_sound {F : Flash} (s : State) (f : TenSt → TenSt) (h : s.sound F) :
    (State.setTen s f).sound F := by
  unfold State.setTen
  simp (maxDischargeDepth := 60) (maxSteps := 30000) +contextual only [State.sound_ite, State.sound_mk, soundCore_self, soundCore_flash, Flash.sameFactory_self, if_true_left, if_true_right, ite_self, implies_true, *]
@[simp] theorem State.tenureOver_sound {F : Flash} (s : State) (h : s.sound F) :
    (State.tenureOver s).sound F := by
  unfold State.tenureOver
  simp (maxDischargeDepth := 60) (maxSteps := 30000) +contextual only [State.setStream_sound, State.setTen_sound, State.sound_ite, State.sound_mk, soundCore_self, soundCore_flash, Flash.sameFactory_self, if_true_left, if_true_right, ite_self, implies_true, *]
@[simp] theorem State.slcFault_sound {F : Flash} (s : State) (k : Fin 8) (code : Nat) (h : s.sound F) :
    (State.slcFault s k code).sound F := by
  unfold State.slcFault
  simp (maxDischargeDepth := 60) (maxSteps := 30000) +contextual only [State.setReg_sound, State.setBit_sound, State.fire_sound, State.setStream_sound, State.slcLose_sound, State.sound_ite, State.sound_mk, soundCore_self, soundCore_flash, Flash.sameFactory_self, if_true_left, if_true_right, ite_self, implies_true, *]
@[simp] theorem State.slcIdle_sound {F : Flash} (s : State) (k : Fin 8) (h : s.sound F) :
    (State.slcIdle s k).sound F := by
  unfold State.slcIdle
  simp (maxDischargeDepth := 60) (maxSteps := 30000) +contextual only [State.setBit_sound, State.setStream_sound, State.slcSetLag_sound, State.sound_ite, State.sound_mk, soundCore_self, soundCore_flash, Flash.sameFactory_self, if_true_left, if_true_right, ite_self, implies_true, *]
@[simp] theorem State.slcReturned_sound {F : Flash} (s : State) (k : Fin 8) (h : s.sound F) :
    (State.slcReturned s k).sound F := by
  unfold State.slcReturned
  repeat' (first | (simp (maxDischargeDepth := 60) (maxSteps := 30000) +contextual only [State.setFld_sound, State.bump_sound, State.fire_sound, State.setStream_sound, State.slcEval_sound, State.capReleaseNo_sound, State.slcIdle_sound, State.sound_ite, State.sound_mk, soundCore_self, soundCore_flash, Flash.sameFactory_self, if_true_left, if_true_right, ite_self, implies_true, *]; done) | split | (refine State.foldl_sound _ _ ?_ ?_ <;> intros) | (refine State.when_sound _ _ ?_ ?_ <;> intros))
@[simp] theorem State.slcComplete_sound {F : Flash} (s : State) (k : Fin 8) (stop : Bool) (h : s.sound F) :
    (State.slcComplete s k stop).sound F := by
  unfold State.slcComplete
  simp (maxDischargeDepth := 60) (maxSteps := 30000) +contextual only [State.setStream_sound, State.sound_ite, State.sound_mk, soundCore_self, soundCore_flash, Flash.sameFactory_self, if_true_left, if_true_right, ite_self, implies_true, *]
@[simp] theorem State.slcStart_sound {F : Flash} (s : State) (k : Fin 8) (h : s.sound F) :
    (State.slcStart s k).sound F := by
  unfold State.slcStart
  simp (maxDischargeDepth := 60) (maxSteps := 30000) +contextual only [State.setReg_sound, State.setStream_sound, State.slcEval_sound, State.slcFault_sound, State.sound_ite, State.sound_mk, soundCore_self, soundCore_flash, Flash.sameFactory_self, if_true_left, if_true_right, ite_self, implies_true, *]
@[simp] theorem State.slcStop_sound {F : Flash} (s : State) (k : Fin 8) (h : s.sound F) :
    (State.slcStop s k).sound F := by
  unfold State.slcStop
  simp (maxDischargeDepth := 60) (maxSteps := 30000) +contextual only [State.slcIdle_sound, State.slcComplete_sound, State.sound_ite, State.sound_mk, soundCore_self, soundCore_flash, Flash.sameFactory_self, if_true_left, if_true_right, ite_self, implies_true, *]
@[simp] theorem State.slcFlush_sound {F : Flash} (s : State) (k : Fin 8) (h : s.sound F) :
    (State.slcFlush s k).sound F := by
  unfold State.slcFlush
  simp (maxDischargeDepth := 60) (maxSteps := 30000) +contextual only [State.slcComplete_sound, State.sound_ite, State.sound_mk, soundCore_self, soundCore_flash, Flash.sameFactory_self, if_true_left, if_true_right, ite_self, implies_true, *]
@[simp] theorem State.slcHalt_sound {F : Flash} (s : State) (k : Fin 8) (h : s.sound F) : (State.slcHalt s k).sound F := by
  unfold State.slcHalt
  split
  · exact h
  · refine State.setStream_sound _ _ _ (State.slcIdle_sound _ _ (State.slcLose_sound _ _ _ ?_))
    split
    · exact State.slcReturned_sound _ _ (State.setStream_sound _ _ _ (show State.sound F (State.setTen _ _) from State.slcComplete_sound s k true h))
    · exact State.slcComplete_sound _ _ _ h
@[simp] theorem State.slcHaltAll_sound {F : Flash} (s : State) (h : s.sound F) : (State.slcHaltAll s).sound F :=
  State.foldl_sound _ _ (fun _ _ h => State.slcHalt_sound _ _ h) (show State.sound F (State.setTen _ _) from State.tenureOver_sound _ h)
@[simp] theorem State.release_sound {F : Flash} (s : State) (l : Fin 8) (r : PendRec) (h : s.sound F) :
    (State.release s l r).sound F := by
  unfold State.release
  simp (maxDischargeDepth := 60) (maxSteps := 30000) +contextual only [State.setFld_sound, State.sound_ite, State.sound_mk, soundCore_self, soundCore_flash, Flash.sameFactory_self, if_true_left, if_true_right, ite_self, implies_true, *]
@[simp] theorem State.weirTick_sound {F : Flash} (s : State) (h : s.sound F) :
    (State.weirTick s).sound F := by
  unfold State.weirTick
  simp (maxDischargeDepth := 60) (maxSteps := 30000) +contextual only [State.sound_ite, State.sound_mk, soundCore_self, soundCore_flash, Flash.sameFactory_self, if_true_left, if_true_right, ite_self, implies_true, *]
@[simp] theorem State.slcOpen_sound {F : Flash} (s : State) (k : Fin 8) (d : List Word) (h : s.sound F) :
    (State.slcOpen s k d).sound F := by
  unfold State.slcOpen
  simp (maxDischargeDepth := 60) (maxSteps := 30000) +contextual only [State.setStream_sound, State.slcFault_sound, State.sound_ite, State.sound_mk, soundCore_self, soundCore_flash, Flash.sameFactory_self, if_true_left, if_true_right, ite_self, implies_true, *]
@[simp] theorem State.slcWrite_sound {F : Flash} (s : State) (k : Fin 8) (ue : Bool) (h : s.sound F) :
    (State.slcWrite s k ue).sound F := by
  unfold State.slcWrite
  repeat' (first
    | (intro x; first
        | (have hx : State.sound F x := by
            simp only [x]
            repeat' (first
              | (simp (maxDischargeDepth := 60) (maxSteps := 30000) +contextual only [State.when_sound, State.setStream_sound, State.eddyUncorrectable_sound, State.setTen_sound, State.sound_ite, State.sound_mk, soundCore_self, soundCore_flash, Flash.sameFactory_self, if_true_left, if_true_right, ite_self, implies_true, *]; done)
              | split
              | (refine State.foldl_sound _ _ ?_ ?_ <;> intros)
              | (refine State.when_sound _ _ ?_ ?_ <;> intros))
           clear_value x)
        | (have hx : State.sound F x.2 := by
            simp only [x]
            repeat' (first
              | (simp (maxDischargeDepth := 60) (maxSteps := 30000) +contextual only [State.when_sound, State.setStream_sound, State.eddyUncorrectable_sound, State.setTen_sound, State.sound_ite, State.sound_mk, soundCore_self, soundCore_flash, Flash.sameFactory_self, if_true_left, if_true_right, ite_self, implies_true, *]; done)
              | split
              | (refine State.foldl_sound _ _ ?_ ?_ <;> intros)
              | (refine State.when_sound _ _ ?_ ?_ <;> intros))
           clear_value x)
        | (have hx : State.sound F x.1 := by
            simp only [x]
            repeat' (first
              | (simp (maxDischargeDepth := 60) (maxSteps := 30000) +contextual only [State.when_sound, State.setStream_sound, State.eddyUncorrectable_sound, State.setTen_sound, State.sound_ite, State.sound_mk, soundCore_self, soundCore_flash, Flash.sameFactory_self, if_true_left, if_true_right, ite_self, implies_true, *]; done)
              | split
              | (refine State.foldl_sound _ _ ?_ ?_ <;> intros)
              | (refine State.when_sound _ _ ?_ ?_ <;> intros))
           clear_value x)
        | clear_value x
        | skip)
    | lift_lets
    | (simp (maxDischargeDepth := 60) (maxSteps := 30000) +contextual only [State.when_sound, State.setStream_sound, State.eddyUncorrectable_sound, State.setTen_sound, State.sound_ite, State.sound_mk, soundCore_self, soundCore_flash, Flash.sameFactory_self, if_true_left, if_true_right, ite_self, implies_true, *]; done)
    | split
    | (refine State.foldl_sound _ _ ?_ ?_ <;> intros)
    | (refine State.when_sound _ _ ?_ ?_ <;> intros)
    | (dsimp only; split)
    | dsimp only)
@[simp] theorem State.masterError_sound {F : Flash} (s : State) (code : Word) (h : s.sound F) :
    (State.masterError s code).sound F := by
  unfold State.masterError
  simp (maxDischargeDepth := 60) (maxSteps := 30000) +contextual only [State.bump_sound, State.fire_sound, State.slcFault_sound, State.tenureOver_sound, State.sound_ite, State.sound_mk, soundCore_self, soundCore_flash, Flash.sameFactory_self, if_true_left, if_true_right, ite_self, implies_true, *]
@[simp] theorem State.weirRestart_sound {F : Flash} (s : State) (h : s.sound F) :
    (State.weirRestart s).sound F := by
  unfold State.weirRestart
  simp (maxDischargeDepth := 60) (maxSteps := 30000) +contextual only [State.sound_ite, State.sound_mk, soundCore_self, soundCore_flash, Flash.sameFactory_self, if_true_left, if_true_right, ite_self, implies_true, *]

end Sys2Proof.Machine
end

