-- ==== Sys2Proof/Laws/Sound/RingOps.lean ====
section
/-!
SUPPORT. The operations of Machine/RingOps.lean keep a sound state sound: registers and Eddy in their one form, factory data as it
is.
-/
namespace Sys2Proof.Machine
set_option linter.unusedSimpArgs false
set_option linter.unusedTactic false
set_option linter.unreachableTactic false
set_option linter.unusedVariables false

@[simp] theorem State.sendOn_sound {F : Flash} (s : State) (w bad : Bool) (f : RFrame) (h : s.sound F) :
    (State.sendOn s w bad f).sound F := by
  unfold State.sendOn
  simp (maxDischargeDepth := 60) (maxSteps := 30000) +contextual only [State.setRing_sound, State.sound_ite, State.sound_mk, soundCore_self, soundCore_flash, Flash.sameFactory_self, if_true_left, if_true_right, ite_self, implies_true, *]
@[simp] theorem State.sendFrames_sound {F : Flash} (s : State) (west : Bool) (fs : List RFrame) (h : s.sound F) :
    (State.sendFrames s west fs).sound F := by
  unfold State.sendFrames
  simp (maxDischargeDepth := 60) (maxSteps := 30000) +contextual only [State.setRing_sound, State.sound_ite, State.sound_mk, soundCore_self, soundCore_flash, Flash.sameFactory_self, if_true_left, if_true_right, ite_self, implies_true, *]
@[simp] theorem State.ringOvf_sound {F : Flash} (s : State) (w : Bool) (h : s.sound F) :
    (State.ringOvf s w).sound F := by
  unfold State.ringOvf
  simp (maxDischargeDepth := 60) (maxSteps := 30000) +contextual only [State.bump_sound, State.fire_sound, State.sound_ite, State.sound_mk, soundCore_self, soundCore_flash, Flash.sameFactory_self, if_true_left, if_true_right, ite_self, implies_true, *]
@[simp] theorem State.linkEvent_sound {F : Flash} (s : State) (w : Bool) (h : s.sound F) :
    (State.linkEvent s w).sound F := by
  simp only [State.linkEvent, State.fire_sound, *]
@[simp] theorem State.setDisc_sound {F : Flash} (s : State) (b : Bool) (h : s.sound F) :
    (State.setDisc s b).sound F := by
  simp only [State.setDisc, State.setBit_sound, *]
@[simp] theorem State.syncEnd_sound {F : Flash} (s : State) (cancelled : Bool) (h : s.sound F) :
    (State.syncEnd s cancelled).sound F := by
  unfold State.syncEnd
  repeat' (first | (simp (maxDischargeDepth := 60) (maxSteps := 30000) +contextual only [State.setFld_sound, State.fire_sound, State.setRing_sound, State.sound_ite, State.sound_mk, soundCore_self, soundCore_flash, Flash.sameFactory_self, if_true_left, if_true_right, ite_self, implies_true, *]; done) | split)
@[simp] theorem State.discLapse_sound {F : Flash} (s : State) (h : s.sound F) :
    (State.discLapse s).sound F := by
  unfold State.discLapse
  simp (maxDischargeDepth := 60) (maxSteps := 30000) +contextual only [State.setBit_sound, State.when_sound, State.setRing_sound, State.fire_sound, State.setDisc_sound, State.syncEnd_sound, State.sound_ite, State.sound_mk, soundCore_self, soundCore_flash, Flash.sameFactory_self, if_true_left, if_true_right, ite_self, implies_true, *]
@[simp] theorem State.stepTime_sound {F : Flash} (s : State) (t : RingTime) (h : s.sound F) :
    (State.stepTime s t).sound F := by
  unfold State.stepTime
  simp (maxDischargeDepth := 60) (maxSteps := 30000) +contextual only [State.setRing_sound, State.sound_ite, State.sound_mk, soundCore_self, soundCore_flash, Flash.sameFactory_self, if_true_left, if_true_right, ite_self, implies_true, *]
@[simp] theorem State.steer_sound {F : Flash} (s : State) (e : Int) (h : s.sound F) :
    (State.steer s e).sound F := by
  unfold State.steer
  simp (maxDischargeDepth := 60) (maxSteps := 30000) +contextual only [State.setFld_sound, State.setBit_sound, State.when_sound, State.setRing_sound, State.setDisc_sound, State.discLapse_sound, State.sound_ite, State.sound_mk, soundCore_self, soundCore_flash, Flash.sameFactory_self, if_true_left, if_true_right, ite_self, implies_true, *]
@[simp] theorem State.syncRequest_sound {F : Flash} (s : State) (h : s.sound F) :
    (State.syncRequest s).sound F := by
  unfold State.syncRequest
  repeat' (first | (simp (maxDischargeDepth := 60) (maxSteps := 30000) +contextual only [State.setFld_sound, State.setBit_sound, State.setRing_sound, State.sound_ite, State.sound_mk, soundCore_self, soundCore_flash, Flash.sameFactory_self, if_true_left, if_true_right, ite_self, implies_true, *]; done) | split | (refine State.foldl_sound _ _ ?_ ?_ <;> intros) | (refine State.when_sound _ _ ?_ ?_ <;> intros))
@[simp] theorem State.bulkClose_sound {F : Flash} (s : State) (tx : Bool) (status : Nat) (h : s.sound F) :
    (State.bulkClose s tx status).sound F := by
  unfold State.bulkClose
  simp (maxDischargeDepth := 60) (maxSteps := 30000) +contextual only [State.setFld_sound, State.setBit_sound, State.setRing_sound, State.sound_ite, State.sound_mk, soundCore_self, soundCore_flash, Flash.sameFactory_self, if_true_left, if_true_right, ite_self, implies_true, *]

end Sys2Proof.Machine
end

