-- ==== Sys2Proof/Laws/Sound/Access.lean ====
section
/-!
SUPPORT. The operations of Machine/Access.lean keep a sound state sound: registers and Eddy in their one form, factory data as it
is.
-/
namespace Sys2Proof.Machine
set_option linter.unusedSimpArgs false
set_option linter.unusedTactic false
set_option linter.unreachableTactic false
set_option linter.unusedVariables false

@[simp] theorem State.wakeDoze_sound {F : Flash} (s : State) (src : Nat) (h : s.sound F) :
    (State.wakeDoze s src).sound F := by
  unfold State.wakeDoze
  simp (maxDischargeDepth := 60) (maxSteps := 30000) +contextual only [State.setReg_sound, State.fire_sound, State.logRec_sound, State.observe_sound, State.setDev_sound, State.restartFine_sound, State.when_sound, State.sound_ite, State.sound_mk, soundCore_self, soundCore_flash, Flash.sameFactory_self, if_true_left, if_true_right, ite_self, implies_true, *]
@[simp] theorem State.portWake_sound {F : Flash} (s : State) (b : Nat) (h : s.sound F) :
    (State.portWake s b).sound F := by
  simp only [State.portWake, State.wakeDoze_sound, *]
@[simp] theorem State.bootEnd_sound {F : Flash} (s : State) (h : s.sound F) :
    (State.bootEnd s).sound F := by
  unfold State.bootEnd
  simp (maxDischargeDepth := 60) (maxSteps := 30000) +contextual only [State.setFld_sound, State.setRing_sound, State.setDev_sound, State.sound_ite, State.sound_mk, soundCore_self, soundCore_flash, Flash.sameFactory_self, if_true_left, if_true_right, ite_self, implies_true, *]
@[simp] theorem State.eddyUe_sound {F : Flash} (s : State) (p : Port) (a : Nat) (h : s.sound F) :
    (State.eddyUe s p a).sound F := by
  unfold State.eddyUe
  simp (maxDischargeDepth := 60) (maxSteps := 30000) +contextual only [State.eddyUncorrectable_sound, State.sound_ite, State.sound_mk, soundCore_self, soundCore_flash, Flash.sameFactory_self, if_true_left, if_true_right, ite_self, implies_true, *]
@[simp] theorem State.snapTake_sound {F : Flash} (s : State) (p : Port) (a : Nat) (h : s.sound F) :
    (State.snapTake s p a).sound F := by
  unfold State.snapTake
  simp (maxDischargeDepth := 60) (maxSteps := 30000) +contextual only [State.sound_ite, State.sound_mk, soundCore_self, soundCore_flash, Flash.sameFactory_self, if_true_left, if_true_right, ite_self, implies_true, *]
@[simp] theorem State.evtSeen_sound {F : Flash} (s : State) (e : Nat) (h : s.sound F) :
    (State.evtSeen s e).sound F := by
  unfold State.evtSeen
  simp (maxDischargeDepth := 60) (maxSteps := 30000) +contextual only [State.setRing_sound, State.sound_ite, State.sound_mk, soundCore_self, soundCore_flash, Flash.sameFactory_self, if_true_left, if_true_right, ite_self, implies_true, *]
@[simp] theorem State.rd_sound {F : Flash} (s : State) (p : Port) (a : Nat) (h : s.sound F) :
    (State.rd s p a).2.sound F := by
  unfold State.rd
  repeat' (first | (simp (maxDischargeDepth := 60) (maxSteps := 30000) +contextual only [State.snapTake_sound, State.evtSeen_sound, State.sound_ite, State.sound_mk, soundCore_self, soundCore_flash, Flash.sameFactory_self, if_true_left, if_true_right, ite_self, implies_true, *]; done) | split | (refine State.foldl_sound _ _ ?_ ?_ <;> intros) | (refine State.when_sound _ _ ?_ ?_ <;> intros))
@[simp] theorem State.wrCh_sound {F : Flash} (s : State) (a : Nat) (v : Word) (hit : Nat → Bool) (h : s.sound F) :
    (State.wrCh s a v hit).sound F := by
  unfold State.wrCh
  simp (maxDischargeDepth := 60) (maxSteps := 30000) +contextual only [State.setReg_sound, State.setChan_sound, State.sound_ite, State.sound_mk, soundCore_self, soundCore_flash, Flash.sameFactory_self, if_true_left, if_true_right, ite_self, implies_true, *]
@[simp] theorem State.wrFlt_sound {F : Flash} (s old : State) (a : Nat) (v : Word) (hit : Nat → Bool) (h : s.sound F) (h1 : old.sound F) :
    (State.wrFlt s old a v hit).sound F := by
  unfold State.wrFlt
  simp (maxDischargeDepth := 60) (maxSteps := 30000) +contextual only [State.setReg_sound, State.setBit_sound, State.setFilt_sound, State.requestReset_sound, State.sound_ite, State.sound_mk, soundCore_self, soundCore_flash, Flash.sameFactory_self, if_true_left, if_true_right, ite_self, implies_true, *]
@[simp] theorem State.wrCap_sound {F : Flash} (s : State) (a : Nat) (v : Word) (hit : Nat → Bool) (h : s.sound F) :
    (State.wrCap s a v hit).sound F := by
  unfold State.wrCap
  simp (maxDischargeDepth := 60) (maxSteps := 30000) +contextual only [State.capTrigger_sound, State.capArmCmd_sound, State.capDisarm_sound, State.capRelease_sound, State.sound_ite, State.sound_mk, soundCore_self, soundCore_flash, Flash.sameFactory_self, if_true_left, if_true_right, ite_self, implies_true, *]
@[simp] theorem State.wrPos_sound {F : Flash} (s old : State) (a : Nat) (v : Word) (hit : Nat → Bool) (h : s.sound F) (h1 : old.sound F) :
    (State.wrPos s old a v hit).sound F := by
  unfold State.wrPos
  simp (maxDischargeDepth := 60) (maxSteps := 30000) +contextual only [State.setBit_sound, State.setAxis_sound, State.axisLoad_sound, State.homeStart_sound, State.homeAbort_sound, State.pdEnable_sound, State.sound_ite, State.sound_mk, soundCore_self, soundCore_flash, Flash.sameFactory_self, if_true_left, if_true_right, ite_self, implies_true, *]
@[simp] theorem State.wrSlc_sound {F : Flash} (s : State) (a : Nat) (v : Word) (hit : Nat → Bool) (h : s.sound F) :
    (State.wrSlc s a v hit).sound F := by
  unfold State.wrSlc
  simp (maxDischargeDepth := 60) (maxSteps := 30000) +contextual only [State.slcEval_sound, State.slcStart_sound, State.slcStop_sound, State.slcFlush_sound, State.sound_ite, State.sound_mk, soundCore_self, soundCore_flash, Flash.sameFactory_self, if_true_left, if_true_right, ite_self, implies_true, *]
@[simp] theorem State.wrCoef_sound {F : Flash} (s : State) (a : Nat) (v : Word) (hit : Nat → Bool) (h : s.sound F) :
    (State.wrCoef s a v hit).sound F := by
  unfold State.wrCoef
  simp (maxDischargeDepth := 60) (maxSteps := 30000) +contextual only [State.setReg_sound, State.setFld_sound, State.coefCommit_sound, State.sound_ite, State.sound_mk, soundCore_self, soundCore_flash, Flash.sameFactory_self, if_true_left, if_true_right, ite_self, implies_true, *]
@[simp] theorem State.wrMbx_sound {F : Flash} (s : State) (p : Port) (a : Nat) (v : Word) (h : s.sound F) :
    (State.wrMbx s p a v).sound F := by
  unfold State.wrMbx
  simp (maxDischargeDepth := 60) (maxSteps := 30000) +contextual only [State.setMbx_sound, State.submit_sound, State.sound_ite, State.sound_mk, soundCore_self, soundCore_flash, Flash.sameFactory_self, if_true_left, if_true_right, ite_self, implies_true, *]
@[simp] theorem State.wrEmb_sound {F : Flash} (s : State) (a : Nat) (v : Word) (h : s.sound F) :
    (State.wrEmb s a v).sound F := by
  unfold State.wrEmb
  simp (maxDischargeDepth := 60) (maxSteps := 30000) +contextual only [State.sound_ite, State.sound_mk, soundCore_self, soundCore_flash, Flash.sameFactory_self, if_true_left, if_true_right, ite_self, implies_true, *]
@[simp] theorem State.wr_sound {F : Flash} (s : State) (p : Port) (a : Nat) (v : Word) (h : s.sound F) :
    (State.wr s p a v).sound F := by
  unfold State.wr
  repeat' (first
    | (intro x; first
        | (have hx : State.sound F x := by
            simp only [x]
            repeat' (first
              | (simp (maxDischargeDepth := 60) (maxSteps := 30000) +contextual only [State.setReg_sound, State.bump_sound, State.setEddy_sound, State.nrgReleaseCmd_sound, State.wdgServe_sound, State.syncRequest_sound, State.wrCh_sound, State.wrFlt_sound, State.wrCap_sound, State.wrPos_sound, State.wrSlc_sound, State.wrCoef_sound, State.wrMbx_sound, State.wrEmb_sound, State.foldl_sound, State.sound_ite, State.sound_mk, soundCore_self, soundCore_flash, Flash.sameFactory_self, if_true_left, if_true_right, ite_self, implies_true, *]; done)
              | (refine State.ite_sound ?_ ?_ <;> intro _) | split
              | (refine State.foldl_sound _ _ ?_ ?_ <;> intros)
              | (refine State.when_sound _ _ ?_ ?_ <;> intros))
           clear_value x)
        | clear_value x
        | skip)
    | lift_lets
    | (simp (maxDischargeDepth := 60) (maxSteps := 30000) +contextual only [State.setReg_sound, State.bump_sound, State.setEddy_sound, State.nrgReleaseCmd_sound, State.wdgServe_sound, State.syncRequest_sound, State.wrCh_sound, State.wrFlt_sound, State.wrCap_sound, State.wrPos_sound, State.wrSlc_sound, State.wrCoef_sound, State.wrMbx_sound, State.wrEmb_sound, State.foldl_sound, State.sound_ite, State.sound_mk, soundCore_self, soundCore_flash, Flash.sameFactory_self, if_true_left, if_true_right, ite_self, implies_true, *]; done)
    | (refine State.ite_sound ?_ ?_ <;> intro _) | split
    | (refine State.foldl_sound _ _ ?_ ?_ <;> intros)
    | (refine State.when_sound _ _ ?_ ?_ <;> intros)
    | dsimp only)
@[simp] theorem State.rmw_sound {F : Flash} (s : State) (p : Port) (a sel bits : Nat) (h : s.sound F) :
    (State.rmw s p a sel bits).sound F := by
  simp only [State.rmw, State.wr_sound, *]

end Sys2Proof.Machine
end

