-- ==== Sys2Proof/Laws/Sound/Ring.lean ====
section
/-!
SUPPORT. The operations of Machine/Ring.lean keep a sound state sound: registers and Eddy in their one form, factory data as it
is.
-/
namespace Sys2Proof.Machine
set_option linter.unusedSimpArgs false
set_option linter.unusedTactic false
set_option linter.unreachableTactic false
set_option linter.unusedVariables false

@[simp] theorem State.dlyAsk_sound {F : Flash} (s : State) (w : Bool) (exch : Nat) (h : s.sound F) :
    (State.dlyAsk s w exch).sound F := by
  unfold State.dlyAsk
  simp (maxDischargeDepth := 60) (maxSteps := 30000) +contextual only [State.sendFrames_sound, State.sound_ite, State.sound_mk, soundCore_self, soundCore_flash, Flash.sameFactory_self, if_true_left, if_true_right, ite_self, implies_true, *]
@[simp] theorem State.setDly_sound {F : Flash} (s : State) (w : Bool) (d : DlySt) (h : s.sound F) :
    (State.setDly s w d).sound F := by
  unfold State.setDly
  simp (maxDischargeDepth := 60) (maxSteps := 30000) +contextual only [State.setRing_sound, State.sound_ite, State.sound_mk, soundCore_self, soundCore_flash, Flash.sameFactory_self, if_true_left, if_true_right, ite_self, implies_true, *]
@[simp] theorem State.dlyStart_sound {F : Flash} (s : State) (w : Bool) (h : s.sound F) :
    (State.dlyStart s w).sound F := by
  unfold State.dlyStart
  simp (maxDischargeDepth := 60) (maxSteps := 30000) +contextual only [State.dlyAsk_sound, State.setDly_sound, State.sound_ite, State.sound_mk, soundCore_self, soundCore_flash, Flash.sameFactory_self, if_true_left, if_true_right, ite_self, implies_true, *]
@[simp] theorem State.dlyNext_sound {F : Flash} (s : State) (w : Bool) (d : DlySt) (h : s.sound F) :
    (State.dlyNext s w d).sound F := by
  unfold State.dlyNext
  simp (maxDischargeDepth := 60) (maxSteps := 30000) +contextual only [State.setFld_sound, State.dlyAsk_sound, State.setDly_sound, State.sound_ite, State.sound_mk, soundCore_self, soundCore_flash, Flash.sameFactory_self, if_true_left, if_true_right, ite_self, implies_true, *]
@[simp] theorem State.linkDown_sound {F : Flash} (s : State) (w signal : Bool) (h : s.sound F) :
    (State.linkDown s w signal).sound F := by
  unfold State.linkDown
  simp (maxDischargeDepth := 60) (maxSteps := 30000) +contextual only [State.setBit_sound, State.bump_sound, State.setRing_sound, State.linkEvent_sound, State.sound_ite, State.sound_mk, soundCore_self, soundCore_flash, Flash.sameFactory_self, if_true_left, if_true_right, ite_self, implies_true, *]
@[simp] theorem State.unwrap_sound {F : Flash} (s : State) (h : s.sound F) :
    (State.unwrap s).sound F := by
  unfold State.unwrap
  simp (maxDischargeDepth := 60) (maxSteps := 30000) +contextual only [State.setBit_sound, State.setRing_sound, State.linkEvent_sound, State.when_sound, State.sound_ite, State.sound_mk, soundCore_self, soundCore_flash, Flash.sameFactory_self, if_true_left, if_true_right, ite_self, implies_true, *]
@[simp] theorem State.mailGone_sound {F : Flash} (s : State) (m : Mail) (h : s.sound F) :
    (State.mailGone s m).sound F := by
  unfold State.mailGone
  simp (maxDischargeDepth := 60) (maxSteps := 30000) +contextual only [State.setRing_sound, State.sound_ite, State.sound_mk, soundCore_self, soundCore_flash, Flash.sameFactory_self, if_true_left, if_true_right, ite_self, implies_true, *]
@[simp] theorem State.takeMails_sound {F : Flash} (n : Nat) (s : State) (h : s.sound F) :
    (State.takeMails n s).2.sound F := by
  induction n generalizing s with
  | zero => exact h
  | succ n ih =>
    unfold State.takeMails
    split
    · exact h
    · exact ih _ (State.mailGone_sound _ _ h)
@[simp] theorem State.imageGone_sound {F : Flash} (s : State) (h : s.sound F) :
    (State.imageGone s).sound F := by
  unfold State.imageGone
  simp (maxDischargeDepth := 60) (maxSteps := 30000) +contextual only [State.setRing_sound, State.bootEnd_sound, State.sound_ite, State.sound_mk, soundCore_self, soundCore_flash, Flash.sameFactory_self, if_true_left, if_true_right, ite_self, implies_true, *]
@[simp] theorem State.answered_sound {F : Flash} (s : State) (kind : MailKind) (tag status : Nat) (h : s.sound F) :
    (State.answered s kind tag status).sound F := by
  unfold State.answered
  repeat' (first | (simp (maxDischargeDepth := 60) (maxSteps := 30000) +contextual only [State.when_sound, State.setRing_sound, State.bulkClose_sound, State.imageGone_sound, State.sound_ite, State.sound_mk, soundCore_self, soundCore_flash, Flash.sameFactory_self, if_true_left, if_true_right, ite_self, implies_true, *]; done) | split | (refine State.foldl_sound _ _ ?_ ?_ <;> intros) | (refine State.when_sound _ _ ?_ ?_ <;> intros))
@[simp] theorem State.requestMail_sound {F : Flash} (s : State) (dest tag : Nat) (kind : MailKind) (data : Bytes) (h : s.sound F) :
    (State.requestMail s dest tag kind data).sound F := by
  unfold State.requestMail
  simp (maxDischargeDepth := 60) (maxSteps := 30000) +contextual only [State.deficit_sound, State.sendMail_sound, State.answered_sound, State.sound_ite, State.sound_mk, soundCore_self, soundCore_flash, Flash.sameFactory_self, if_true_left, if_true_right, ite_self, implies_true, *]
@[simp] theorem State.bulkTake_sound {F : Flash} (s : State) (h : s.sound F) :
    (State.bulkTake s).2.sound F := by
  unfold State.bulkTake
  repeat' (first
    | (intro x; first
        | (have hx : State.sound F x := by
            simp only [x]
            repeat' (first
              | (simp (maxDischargeDepth := 60) (maxSteps := 30000) +contextual only [State.setRing_sound, State.sound_ite, State.sound_mk, soundCore_self, soundCore_flash, Flash.sameFactory_self, if_true_left, if_true_right, ite_self, implies_true, *]; done)
              | split
              | (refine State.foldl_sound _ _ ?_ ?_ <;> intros)
              | (refine State.when_sound _ _ ?_ ?_ <;> intros))
           clear_value x)
        | (have hx : State.sound F x.2 := by
            simp only [x]
            repeat' (first
              | (simp (maxDischargeDepth := 60) (maxSteps := 30000) +contextual only [State.setRing_sound, State.sound_ite, State.sound_mk, soundCore_self, soundCore_flash, Flash.sameFactory_self, if_true_left, if_true_right, ite_self, implies_true, *]; done)
              | split
              | (refine State.foldl_sound _ _ ?_ ?_ <;> intros)
              | (refine State.when_sound _ _ ?_ ?_ <;> intros))
           clear_value x)
        | (have hx : State.sound F x.1 := by
            simp only [x]
            repeat' (first
              | (simp (maxDischargeDepth := 60) (maxSteps := 30000) +contextual only [State.setRing_sound, State.sound_ite, State.sound_mk, soundCore_self, soundCore_flash, Flash.sameFactory_self, if_true_left, if_true_right, ite_self, implies_true, *]; done)
              | split
              | (refine State.foldl_sound _ _ ?_ ?_ <;> intros)
              | (refine State.when_sound _ _ ?_ ?_ <;> intros))
           clear_value x)
        | clear_value x
        | skip)
    | lift_lets
    | (simp (maxDischargeDepth := 60) (maxSteps := 30000) +contextual only [State.setRing_sound, State.sound_ite, State.sound_mk, soundCore_self, soundCore_flash, Flash.sameFactory_self, if_true_left, if_true_right, ite_self, implies_true, *]; done)
    | split
    | (refine State.foldl_sound _ _ ?_ ?_ <;> intros)
    | (refine State.when_sound _ _ ?_ ?_ <;> intros)
    | (dsimp only; split)
    | dsimp only)
@[simp] theorem State.takeBulks_sound {F : Flash} (n : Nat) (s : State) (h : s.sound F) :
    (State.takeBulks n s).2.sound F := by
  induction n generalizing s with
  | zero => exact h
  | succ n ih =>
    unfold State.takeBulks
    split
    · exact h
    · exact ih _ (State.bulkTake_sound _ h)
@[simp] theorem State.storeBinds_sound {F : Flash} (s : State) (h : s.sound F) : (State.storeBinds s).sound F := by
  unfold State.storeBinds
  repeat' split
  all_goals exact h
@[simp] theorem State.logStretch_sound {F : Flash} (s : State) (h : s.sound F) :
    (State.logStretch s).sound F := by
  unfold State.logStretch
  simp (maxDischargeDepth := 60) (maxSteps := 30000) +contextual only [State.logRec_sound, State.sound_ite, State.sound_mk, soundCore_self, soundCore_flash, Flash.sameFactory_self, if_true_left, if_true_right, ite_self, implies_true, *]
@[simp] theorem State.cycleBegin_sound {F : Flash} (s : State) (h : s.sound F) :
    (State.cycleBegin s).sound F := by
  unfold State.cycleBegin
  simp (maxDischargeDepth := 60) (maxSteps := 30000) +contextual only [State.setReg_sound, State.setFld_sound, State.setBit_sound, State.when_sound, State.setRing_sound, State.unwrap_sound, State.storeBinds_sound, State.logStretch_sound, State.sound_ite, State.sound_mk, soundCore_self, soundCore_flash, Flash.sameFactory_self, if_true_left, if_true_right, ite_self, implies_true, *]
@[simp] theorem State.cycleSend_sound {F : Flash} (s : State) (h : s.sound F) :
    (State.cycleSend s).sound F := by
  unfold State.cycleSend
  simp (maxDischargeDepth := 60) (maxSteps := 30000) +contextual only [State.setRing_sound, State.sendFrames_sound, State.takeMails_sound, State.takeBulks_sound, State.sound_ite, State.sound_mk, soundCore_self, soundCore_flash, Flash.sameFactory_self, if_true_left, if_true_right, ite_self, implies_true, *]
@[simp] theorem State.conflict_sound {F : Flash} (s : State) (src : Nat) (h : s.sound F) :
    (State.conflict s src).sound F := by
  unfold State.conflict
  simp (maxDischargeDepth := 60) (maxSteps := 30000) +contextual only [State.setBit_sound, State.logRec_sound, State.when_sound, State.sound_ite, State.sound_mk, soundCore_self, soundCore_flash, Flash.sameFactory_self, if_true_left, if_true_right, ite_self, implies_true, *]
@[simp] theorem State.takeAssign_sound {F : Flash} (s : State) (e : EnumEntry) (h : s.sound F) :
    (State.takeAssign s e).sound F := by
  unfold State.takeAssign
  simp (maxDischargeDepth := 60) (maxSteps := 30000) +contextual only [State.setFld_sound, State.setBit_sound, State.when_sound, State.setRing_sound, State.fire_sound, State.requestMail_sound, State.sound_ite, State.sound_mk, soundCore_self, soundCore_flash, Flash.sameFactory_self, if_true_left, if_true_right, ite_self, implies_true, *]
@[simp] theorem State.takeTime_sound {F : Flash} (s : State) (t : RingTime) (h : s.sound F) :
    (State.takeTime s t).sound F := by
  unfold State.takeTime
  simp (maxDischargeDepth := 60) (maxSteps := 30000) +contextual only [State.setBit_sound, State.setRing_sound, State.stepTime_sound, State.sound_ite, State.sound_mk, soundCore_self, soundCore_flash, Flash.sameFactory_self, if_true_left, if_true_right, ite_self, implies_true, *]
@[simp] theorem State.nodeCyc_sound {F : Flash} (s : State) (c : Cyc) (acc : Nat) (h : s.sound F) :
    (State.nodeCyc s c acc).sound F := by
  unfold State.nodeCyc
  repeat' (first
    | (intro x; first
        | (have hx : State.sound F x := by
            simp only [x]
            repeat' (first
              | (simp (maxDischargeDepth := 60) (maxSteps := 30000) +contextual only [State.setReg_sound, State.setFld_sound, State.setBit_sound, State.when_sound, State.setRing_sound, State.unwrap_sound, State.takeAssign_sound, State.takeTime_sound, State.sound_ite, State.sound_mk, soundCore_self, soundCore_flash, Flash.sameFactory_self, if_true_left, if_true_right, ite_self, implies_true, *]; done)
              | split
              | (refine State.foldl_sound _ _ ?_ ?_ <;> intros)
              | (refine State.when_sound _ _ ?_ ?_ <;> intros))
           clear_value x)
        | (have hx : State.sound F x.2 := by
            simp only [x]
            repeat' (first
              | (simp (maxDischargeDepth := 60) (maxSteps := 30000) +contextual only [State.setReg_sound, State.setFld_sound, State.setBit_sound, State.when_sound, State.setRing_sound, State.unwrap_sound, State.takeAssign_sound, State.takeTime_sound, State.sound_ite, State.sound_mk, soundCore_self, soundCore_flash, Flash.sameFactory_self, if_true_left, if_true_right, ite_self, implies_true, *]; done)
              | split
              | (refine State.foldl_sound _ _ ?_ ?_ <;> intros)
              | (refine State.when_sound _ _ ?_ ?_ <;> intros))
           clear_value x)
        | (have hx : State.sound F x.1 := by
            simp only [x]
            repeat' (first
              | (simp (maxDischargeDepth := 60) (maxSteps := 30000) +contextual only [State.setReg_sound, State.setFld_sound, State.setBit_sound, State.when_sound, State.setRing_sound, State.unwrap_sound, State.takeAssign_sound, State.takeTime_sound, State.sound_ite, State.sound_mk, soundCore_self, soundCore_flash, Flash.sameFactory_self, if_true_left, if_true_right, ite_self, implies_true, *]; done)
              | split
              | (refine State.foldl_sound _ _ ?_ ?_ <;> intros)
              | (refine State.when_sound _ _ ?_ ?_ <;> intros))
           clear_value x)
        | clear_value x
        | skip)
    | lift_lets
    | (simp (maxDischargeDepth := 60) (maxSteps := 30000) +contextual only [State.setReg_sound, State.setFld_sound, State.setBit_sound, State.when_sound, State.setRing_sound, State.unwrap_sound, State.takeAssign_sound, State.takeTime_sound, State.sound_ite, State.sound_mk, soundCore_self, soundCore_flash, Flash.sameFactory_self, if_true_left, if_true_right, ite_self, implies_true, *]; done)
    | split
    | (refine State.foldl_sound _ _ ?_ ?_ <;> intros)
    | (refine State.when_sound _ _ ?_ ?_ <;> intros)
    | (dsimp only; split)
    | dsimp only)
@[simp] theorem State.headCyc_sound {F : Flash} (s : State) (c : Cyc) (acc : Nat) (h : s.sound F) :
    (State.headCyc s c acc).sound F := by
  unfold State.headCyc
  simp (maxDischargeDepth := 60) (maxSteps := 30000) +contextual only [State.setReg_sound, State.setBit_sound, State.setRing_sound, State.sound_ite, State.sound_mk, soundCore_self, soundCore_flash, Flash.sameFactory_self, if_true_left, if_true_right, ite_self, implies_true, *]
@[simp] theorem State.passing_sound {F : Flash} (s : State) (x : Rx) (f : RFrame) (go : State → State) (h : s.sound F) (hgo : ∀ s : State, s.sound F → (go s).sound F) :
    (State.passing s x f go).sound F := by
  unfold State.passing
  simp (maxDischargeDepth := 60) (maxSteps := 30000) +contextual only [State.sendOn_sound, State.ringOvf_sound, State.sound_ite, State.sound_mk, soundCore_self, soundCore_flash, Flash.sameFactory_self, if_true_left, if_true_right, ite_self, implies_true, *]
@[simp] theorem State.rdList_sound {F : Flash} (s : State) (p : Port) (l : List Nat) (h : s.sound F) :
    (s.rdList p l).2.sound F := by
  induction l generalizing s with
  | nil => exact h
  | cons a l ih => exact ih _ (State.rd_sound s p a h)
@[simp] theorem State.pdCommit_sound {F : Flash} (s : State) (as : List Nat) (ws : List Word) (h : s.sound F) :
    (s.pdCommit as ws).sound F := by
  induction as generalizing s ws with
  | nil => cases ws <;> exact h
  | cons a as ih =>
    cases ws with
    | nil => exact h
    | cons w ws =>
      exact ih _ _ (State.when_sound _ _ (fun s h => State.setRing_sound _ _ (State.bump_sound _ _ h)) (State.wr_sound _ _ _ _ h))
@[simp] theorem State.fillSlot_sound {F : Flash} (s : State) (lo : Nat) (h : s.sound F) :
    (State.fillSlot s lo).sound F := by
  unfold State.fillSlot
  repeat' (first | (simp (maxDischargeDepth := 60) (maxSteps := 30000) +contextual only [State.setRing_sound, State.rdList_sound, State.sound_ite, State.sound_mk, soundCore_self, soundCore_flash, Flash.sameFactory_self, if_true_left, if_true_right, ite_self, implies_true, *]; done) | split | (refine State.foldl_sound _ _ ?_ ?_ <;> intros) | (refine State.when_sound _ _ ?_ ?_ <;> intros))
@[simp] theorem State.mirrorSlot_sound {F : Flash} (s : State) (p : PdSlot) (h : s.sound F) :
    (State.mirrorSlot s p).sound F := by
  unfold State.mirrorSlot
  simp (maxDischargeDepth := 60) (maxSteps := 30000) +contextual only [State.bump_sound, State.setEddy_sound, State.setEddyWords_sound, State.sound_ite, State.sound_mk, soundCore_self, soundCore_flash, Flash.sameFactory_self, if_true_left, if_true_right, ite_self, implies_true, *]
@[simp] theorem State.syncTally_sound {F : Flash} (s : State) (ps : List PdSlot) (h : s.sound F) :
    (State.syncTally s ps).sound F := by
  unfold State.syncTally
  simp (maxDischargeDepth := 60) (maxSteps := 30000) +contextual only [State.setFld_sound, State.setBit_sound, State.fire_sound, State.sound_ite, State.sound_mk, soundCore_self, soundCore_flash, Flash.sameFactory_self, if_true_left, if_true_right, ite_self, implies_true, *]
@[simp] theorem State.mirrorCell_sound {F : Flash} (s : State) (c : EvtCell) (h : s.sound F) :
    (State.mirrorCell s c).sound F := by
  unfold State.mirrorCell
  simp (maxDischargeDepth := 60) (maxSteps := 30000) +contextual only [State.bump_sound, State.deficit_sound, State.setEddyWords_sound, State.setRing_sound, State.when_sound, State.sound_ite, State.sound_mk, soundCore_self, soundCore_flash, Flash.sameFactory_self, if_true_left, if_true_right, ite_self, implies_true, *]
@[simp] theorem State.censusEnd_sound {F : Flash} (s : State) (all : List EnumEntry) (h : s.sound F) :
    (State.censusEnd s all).sound F :=
  State.storeBinds_sound _ (State.setRing_sound _ _ h)
@[simp] theorem State.takeAnswer_sound {F : Flash} (s : State) (m : Mail) (h : s.sound F) :
    (State.takeAnswer s m).sound F := by
  unfold State.takeAnswer
  simp (maxDischargeDepth := 60) (maxSteps := 30000) +contextual only [State.setRing_sound, State.answered_sound, State.sound_ite, State.sound_mk, soundCore_self, soundCore_flash, Flash.sameFactory_self, if_true_left, if_true_right, ite_self, implies_true, *]
@[simp] theorem State.unreachable_sound {F : Flash} (s : State) (src : Nat) (m : Mail) (h : s.sound F) :
    (State.unreachable s src m).sound F := by
  unfold State.unreachable
  simp (maxDischargeDepth := 60) (maxSteps := 30000) +contextual only [State.sendMail_sound, State.takeAnswer_sound, State.sound_ite, State.sound_mk, soundCore_self, soundCore_flash, Flash.sameFactory_self, if_true_left, if_true_right, ite_self, implies_true, *]
@[simp] theorem State.turnMail_sound {F : Flash} (s : State) (x : Rx) (node tag : Nat) (kind : MailKind) (hint : Nat) (h : s.sound F) :
    (State.turnMail s x node tag kind hint).sound F := by
  unfold State.turnMail
  simp (maxDischargeDepth := 60) (maxSteps := 30000) +contextual only [State.sendFrames_sound, State.sound_ite, State.sound_mk, soundCore_self, soundCore_flash, Flash.sameFactory_self, if_true_left, if_true_right, ite_self, implies_true, *]
theorem State.mailTurned_sound {F : Flash} (s : State) (node tag : Nat) (kind : MailKind) (x : Rx) (qfull : Bool) (h : s.sound F) :
    ∀ t, State.mailTurned s node tag kind x qfull = some t → t.sound F := by
  intro t e
  unfold State.mailTurned at e
  repeat' split at e
  all_goals simp only [Option.some.injEq, reduceCtorEq] at e
  all_goals subst e
  · exact h
  · exact State.turnMail_sound _ _ _ _ _ _ h
  · exact State.turnMail_sound _ _ _ _ _ _ h
  · exact State.ringOvf_sound _ _ h
  · exact State.turnMail_sound _ _ _ _ _ _ (State.deficit_sound _ _ (State.bump_sound _ _ h))
@[simp] theorem State.wrList_sound {F : Flash} (s : State) (p : Port) (l : List (Nat × Word)) (h : s.sound F) :
    (s.wrList p l).sound F := by
  induction l generalizing s with
  | nil => exact h
  | cons x l ih => exact ih _ (State.wr_sound _ _ _ _ h)
@[simp] theorem State.ringStaged_sound {F : Flash} (s : State) (b : BulkSt) (h : s.sound F) :
    (State.ringStaged s b).sound F := by
  unfold State.ringStaged
  simp (maxDischargeDepth := 60) (maxSteps := 30000) +contextual only [State.sound_ite, State.sound_mk, soundCore_self, soundCore_flash, Flash.sameFactory_self, if_true_left, if_true_right, ite_self, implies_true, *]

end Sys2Proof.Machine
end

