-- ==== Sys2Proof/Laws/Sound/Pers.lean ====
section
/-!
SUPPORT. The operations of Machine/Pers.lean keep a sound state sound: registers and Eddy in their one form, factory data as it
is.
-/
namespace Sys2Proof.Machine
set_option linter.unusedSimpArgs false
set_option linter.unusedTactic false
set_option linter.unreachableTactic false
set_option linter.unusedVariables false

@[simp] theorem State.setLpb_sound {F : Flash} (s : State) (f : LpbSt → LpbSt) (h : s.sound F) :
    (State.setLpb s f).sound F := by
  unfold State.setLpb
  simp (maxDischargeDepth := 60) (maxSteps := 30000) +contextual only [State.sound_ite, State.sound_mk, soundCore_self, soundCore_flash, Flash.sameFactory_self, if_true_left, if_true_right, ite_self, implies_true, *]
@[simp] theorem State.persPut_sound {F : Flash} (s : State) (k v : Nat) (h : s.sound F) :
    (State.persPut s k v).sound F := by
  simp only [State.persPut, State.setLpb_sound, *]
@[simp] theorem State.irqEval_sound {F : Flash} (s : State) (j : Fin 4) (h : s.sound F) :
    (State.irqEval s j).sound F := by
  unfold State.irqEval
  repeat' (first | (simp (maxDischargeDepth := 60) (maxSteps := 30000) +contextual only [State.setLpb_sound, State.sound_ite, State.sound_mk, soundCore_self, soundCore_flash, Flash.sameFactory_self, if_true_left, if_true_right, ite_self, implies_true, *]; done) | split)
@[simp] theorem State.irqAll_sound {F : Flash} (s : State) (h : s.sound F) :
    (State.irqAll s).sound F := by
  unfold State.irqAll
  simp (maxDischargeDepth := 60) (maxSteps := 30000) +contextual only [State.irqEval_sound, State.foldl_sound, State.sound_ite, State.sound_mk, soundCore_self, soundCore_flash, Flash.sameFactory_self, if_true_left, if_true_right, ite_self, implies_true, *]
@[simp] theorem State.persWriteBits_sound {F : Flash} (s : State) (r : Bytes) (a m v : Nat) (h : s.sound F) :
    (State.persWriteBits s r a m v).sound F := by
  unfold State.persWriteBits
  simp (maxDischargeDepth := 60) (maxSteps := 30000) +contextual only [State.bump_sound, State.rmw_sound, State.sound_ite, State.sound_mk, soundCore_self, soundCore_flash, Flash.sameFactory_self, if_true_left, if_true_right, ite_self, implies_true, *]
@[simp] theorem State.snapGroup_sound {F : Flash} (s : State) (r : Bytes) (h : s.sound F) :
    (State.snapGroup s r).sound F := by
  simp only [State.snapGroup, State.setLpb_sound, *]
@[simp] theorem State.ptrNext_sound {F : Flash} (s : State) (rs : List Bytes) (r : Bytes) (h : s.sound F) :
    (State.ptrNext s rs r).sound F := by
  simp only [State.ptrNext, State.persPut_sound, *]
@[simp] theorem State.persRead_sound {F : Flash} (s : State) (n : Nat) (lo hi ue : Bool) (h : s.sound F) :
    (State.persRead s n lo hi ue).2.sound F := by
  unfold State.persRead
  repeat' (first
    | (intro x; first
        | (have hx : State.sound F x := by
            simp only [x]
            repeat' (first
              | (simp (maxDischargeDepth := 60) (maxSteps := 30000) +contextual only [State.bump_sound, State.when_sound, State.eddyUncorrectable_sound, State.capPop_sound, State.eddyUe_sound, State.persPut_sound, State.irqAll_sound, State.snapGroup_sound, State.ptrNext_sound, State.sound_ite, State.sound_mk, soundCore_self, soundCore_flash, Flash.sameFactory_self, if_true_left, if_true_right, ite_self, implies_true, *]; done)
              | split
              | (refine State.foldl_sound _ _ ?_ ?_ <;> intros)
              | (refine State.when_sound _ _ ?_ ?_ <;> intros))
           clear_value x)
        | (have hx : State.sound F x.2 := by
            simp only [x]
            repeat' (first
              | (simp (maxDischargeDepth := 60) (maxSteps := 30000) +contextual only [State.bump_sound, State.when_sound, State.eddyUncorrectable_sound, State.capPop_sound, State.eddyUe_sound, State.persPut_sound, State.irqAll_sound, State.snapGroup_sound, State.ptrNext_sound, State.sound_ite, State.sound_mk, soundCore_self, soundCore_flash, Flash.sameFactory_self, if_true_left, if_true_right, ite_self, implies_true, *]; done)
              | split
              | (refine State.foldl_sound _ _ ?_ ?_ <;> intros)
              | (refine State.when_sound _ _ ?_ ?_ <;> intros))
           clear_value x)
        | (have hx : State.sound F x.1 := by
            simp only [x]
            repeat' (first
              | (simp (maxDischargeDepth := 60) (maxSteps := 30000) +contextual only [State.bump_sound, State.when_sound, State.eddyUncorrectable_sound, State.capPop_sound, State.eddyUe_sound, State.persPut_sound, State.irqAll_sound, State.snapGroup_sound, State.ptrNext_sound, State.sound_ite, State.sound_mk, soundCore_self, soundCore_flash, Flash.sameFactory_self, if_true_left, if_true_right, ite_self, implies_true, *]; done)
              | split
              | (refine State.foldl_sound _ _ ?_ ?_ <;> intros)
              | (refine State.when_sound _ _ ?_ ?_ <;> intros))
           clear_value x)
        | clear_value x
        | skip)
    | lift_lets
    | (simp (maxDischargeDepth := 60) (maxSteps := 30000) +contextual only [State.bump_sound, State.when_sound, State.eddyUncorrectable_sound, State.capPop_sound, State.eddyUe_sound, State.persPut_sound, State.irqAll_sound, State.snapGroup_sound, State.ptrNext_sound, State.sound_ite, State.sound_mk, soundCore_self, soundCore_flash, Flash.sameFactory_self, if_true_left, if_true_right, ite_self, implies_true, *]; done)
    | split
    | (refine State.foldl_sound _ _ ?_ ?_ <;> intros)
    | (refine State.when_sound _ _ ?_ ?_ <;> intros)
    | (dsimp only; split)
    | dsimp only)
@[simp] theorem State.persWrite_sound {F : Flash} (s : State) (n d : Nat) (lo hi : Bool) (h : s.sound F) :
    (State.persWrite s n d lo hi).sound F := by
  unfold State.persWrite
  repeat' (first
    | (intro x; first
        | (have hx : State.sound F x := by
            simp only [x]
            repeat' (first
              | (simp (maxDischargeDepth := 60) (maxSteps := 30000) +contextual only [State.bump_sound, State.when_sound, State.persPut_sound, State.irqAll_sound, State.persWriteBits_sound, State.snapGroup_sound, State.ptrNext_sound, State.sound_ite, State.sound_mk, soundCore_self, soundCore_flash, Flash.sameFactory_self, if_true_left, if_true_right, ite_self, implies_true, *]; done)
              | split
              | (refine State.foldl_sound _ _ ?_ ?_ <;> intros)
              | (refine State.when_sound _ _ ?_ ?_ <;> intros))
           clear_value x)
        | (have hx : State.sound F x.2 := by
            simp only [x]
            repeat' (first
              | (simp (maxDischargeDepth := 60) (maxSteps := 30000) +contextual only [State.bump_sound, State.when_sound, State.persPut_sound, State.irqAll_sound, State.persWriteBits_sound, State.snapGroup_sound, State.ptrNext_sound, State.sound_ite, State.sound_mk, soundCore_self, soundCore_flash, Flash.sameFactory_self, if_true_left, if_true_right, ite_self, implies_true, *]; done)
              | split
              | (refine State.foldl_sound _ _ ?_ ?_ <;> intros)
              | (refine State.when_sound _ _ ?_ ?_ <;> intros))
           clear_value x)
        | (have hx : State.sound F x.1 := by
            simp only [x]
            repeat' (first
              | (simp (maxDischargeDepth := 60) (maxSteps := 30000) +contextual only [State.bump_sound, State.when_sound, State.persPut_sound, State.irqAll_sound, State.persWriteBits_sound, State.snapGroup_sound, State.ptrNext_sound, State.sound_ite, State.sound_mk, soundCore_self, soundCore_flash, Flash.sameFactory_self, if_true_left, if_true_right, ite_self, implies_true, *]; done)
              | split
              | (refine State.foldl_sound _ _ ?_ ?_ <;> intros)
              | (refine State.when_sound _ _ ?_ ?_ <;> intros))
           clear_value x)
        | clear_value x
        | skip)
    | lift_lets
    | (simp (maxDischargeDepth := 60) (maxSteps := 30000) +contextual only [State.bump_sound, State.when_sound, State.persPut_sound, State.irqAll_sound, State.persWriteBits_sound, State.snapGroup_sound, State.ptrNext_sound, State.sound_ite, State.sound_mk, soundCore_self, soundCore_flash, Flash.sameFactory_self, if_true_left, if_true_right, ite_self, implies_true, *]; done)
    | split
    | (refine State.foldl_sound _ _ ?_ ?_ <;> intros)
    | (refine State.when_sound _ _ ?_ ?_ <;> intros)
    | (dsimp only; split)
    | dsimp only)
@[simp] theorem State.irqStart_sound {F : Flash} (s : State) (h : s.sound F) :
    (State.irqStart s).sound F := by
  unfold State.irqStart
  repeat' (first
    | (intro x; first
        | (have hx : State.sound F x := by
            simp only [x]
            repeat' (first
              | (simp (maxDischargeDepth := 60) (maxSteps := 30000) +contextual only [State.setLpb_sound, State.foldl_sound, State.sound_ite, State.sound_mk, soundCore_self, soundCore_flash, Flash.sameFactory_self, if_true_left, if_true_right, ite_self, implies_true, *]; done)
              | split
              | (refine State.foldl_sound _ _ ?_ ?_ <;> intros)
              | (refine State.when_sound _ _ ?_ ?_ <;> intros))
           clear_value x)
        | clear_value x
        | skip)
    | lift_lets
    | (simp (maxDischargeDepth := 60) (maxSteps := 30000) +contextual only [State.setLpb_sound, State.foldl_sound, State.sound_ite, State.sound_mk, soundCore_self, soundCore_flash, Flash.sameFactory_self, if_true_left, if_true_right, ite_self, implies_true, *]; done)
    | split
    | (refine State.foldl_sound _ _ ?_ ?_ <;> intros)
    | (refine State.when_sound _ _ ?_ ?_ <;> intros)
    | dsimp only)
@[simp] theorem State.persInit_sound {F : Flash} (s : State) (n : Nat) (r : Bytes) (h : s.sound F) :
    (State.persInit s n r).sound F := by
  unfold State.persInit
  simp (maxDischargeDepth := 60) (maxSteps := 30000) +contextual only [State.setLpb_sound, State.persPut_sound, State.sound_ite, State.sound_mk, soundCore_self, soundCore_flash, Flash.sameFactory_self, if_true_left, if_true_right, ite_self, implies_true, *]
@[simp] theorem State.persStart_sound {F : Flash} (s : State) (h : s.sound F) :
    (State.persStart s).sound F := by
  unfold State.persStart
  simp (maxDischargeDepth := 60) (maxSteps := 30000) +contextual only [State.setLpb_sound, State.irqStart_sound, State.persInit_sound, State.foldl_sound, State.sound_ite, State.sound_mk, soundCore_self, soundCore_flash, Flash.sameFactory_self, if_true_left, if_true_right, ite_self, implies_true, *]
@[simp] theorem State.persFresh_sound {F : Flash} (s : State) (h : s.sound F) :
    (State.persFresh s).sound F := by
  unfold State.persFresh
  simp (maxDischargeDepth := 60) (maxSteps := 30000) +contextual only [State.setLpb_sound, State.foldl_sound, State.sound_ite, State.sound_mk, soundCore_self, soundCore_flash, Flash.sameFactory_self, if_true_left, if_true_right, ite_self, implies_true, *]
@[simp] theorem State.persIsland_sound {F : Flash} (s : State) (i : Nat) (h : s.sound F) :
    (State.persIsland s i).sound F := by
  unfold State.persIsland
  simp (maxDischargeDepth := 60) (maxSteps := 30000) +contextual only [State.persInit_sound, State.foldl_sound, State.sound_ite, State.sound_mk, soundCore_self, soundCore_flash, Flash.sameFactory_self, if_true_left, if_true_right, ite_self, implies_true, *]

end Sys2Proof.Machine
end

