-- ==== Sys2Proof/Laws/Sound/Lpb.lean ====
section
/-!
SUPPORT. The operations of Machine/Lpb.lean keep a sound state sound: registers and Eddy in their one form, factory data as it
is.
-/
namespace Sys2Proof.Machine
set_option linter.unusedSimpArgs false
set_option linter.unusedTactic false
set_option linter.unreachableTactic false
set_option linter.unusedVariables false

@[simp] theorem State.persDiscard_sound {F : Flash} (s : State) (h : s.sound F) :
    (State.persDiscard s).sound F := by
  unfold State.persDiscard
  simp (maxDischargeDepth := 60) (maxSteps := 30000) +contextual only [State.bump_sound, State.when_sound, State.sound_ite, State.sound_mk, soundCore_self, soundCore_flash, Flash.sameFactory_self, if_true_left, if_true_right, ite_self, implies_true, *]
@[simp] theorem State.freeWord_sound {F : Flash} (s : State) (h : s.sound F) :
    (State.freeWord s).2.sound F := by
  unfold State.freeWord
  simp (maxDischargeDepth := 60) (maxSteps := 30000) +contextual only [State.sound_ite, State.sound_mk, soundCore_self, soundCore_flash, Flash.sameFactory_self, if_true_left, if_true_right, ite_self, implies_true, *]
@[simp] theorem State.lpbRd_sound {F : Flash} (s : State) (a : Nat) (ue : Bool) (h : s.sound F) :
    (State.lpbRd s a ue).2.sound F := by
  unfold State.lpbRd
  repeat' (first | (simp (maxDischargeDepth := 60) (maxSteps := 30000) +contextual only [State.bump_sound, State.eddyUe_sound, State.rd_sound, State.sound_ite, State.sound_mk, soundCore_self, soundCore_flash, Flash.sameFactory_self, if_true_left, if_true_right, ite_self, implies_true, *]; done) | split)
@[simp] theorem State.ndataRead_sound {F : Flash} (s : State) (ue : Bool) (h : s.sound F) :
    (State.ndataRead s ue).2.sound F := by
  unfold State.ndataRead
  simp (maxDischargeDepth := 60) (maxSteps := 30000) +contextual only [State.setLpb_sound, State.lpbRd_sound, State.sound_ite, State.sound_mk, soundCore_self, soundCore_flash, Flash.sameFactory_self, if_true_left, if_true_right, ite_self, implies_true, *]
@[simp] theorem State.latchWord_sound {F : Flash} (s : State) (h : s.sound F) :
    (State.latchWord s).2.sound F := by
  unfold State.latchWord
  repeat' (first | (simp (maxDischargeDepth := 60) (maxSteps := 30000) +contextual only [State.freeWord_sound, State.sound_ite, State.sound_mk, soundCore_self, soundCore_flash, Flash.sameFactory_self, if_true_left, if_true_right, ite_self, implies_true, *]; done) | split | (refine State.foldl_sound _ _ ?_ ?_ <;> intros) | (refine State.when_sound _ _ ?_ ?_ <;> intros))
@[simp] theorem State.ndataTop_sound {F : Flash} (s : State) (h : s.sound F) :
    (State.ndataTop s).sound F := by
  unfold State.ndataTop
  simp (maxDischargeDepth := 60) (maxSteps := 30000) +contextual only [State.setLpb_sound, State.sound_ite, State.sound_mk, soundCore_self, soundCore_flash, Flash.sameFactory_self, if_true_left, if_true_right, ite_self, implies_true, *]
@[simp] theorem State.nativeRead_sound {F : Flash} (s : State) (rel : Nat) (lo ue : Bool) (h : s.sound F) :
    (State.nativeRead s rel lo ue).2.sound F := by
  unfold State.nativeRead
  repeat' (first | (simp (maxDischargeDepth := 60) (maxSteps := 30000) +contextual only [State.ndataRead_sound, State.latchWord_sound, State.ndataTop_sound, State.sound_ite, State.sound_mk, soundCore_self, soundCore_flash, Flash.sameFactory_self, if_true_left, if_true_right, ite_self, implies_true, *]; done) | split)
@[simp] theorem State.ndataCommit_sound {F : Flash} (s : State) (top : Nat) (h : s.sound F) :
    (State.ndataCommit s top).sound F := by
  unfold State.ndataCommit
  repeat' (first | (simp (maxDischargeDepth := 60) (maxSteps := 30000) +contextual only [State.bump_sound, State.when_sound, State.fire_sound, State.wr_sound, State.setLpb_sound, State.freeWord_sound, State.sound_ite, State.sound_mk, soundCore_self, soundCore_flash, Flash.sameFactory_self, if_true_left, if_true_right, ite_self, implies_true, *]; done) | split | (refine State.foldl_sound _ _ ?_ ?_ <;> intros) | (refine State.when_sound _ _ ?_ ?_ <;> intros))
@[simp] theorem State.naddrCommit_sound {F : Flash} (s : State) (top : Nat) (h : s.sound F) :
    (State.naddrCommit s top).sound F := by
  unfold State.naddrCommit
  repeat' (first | (simp (maxDischargeDepth := 60) (maxSteps := 30000) +contextual only [State.setLpb_sound, State.freeWord_sound, State.sound_ite, State.sound_mk, soundCore_self, soundCore_flash, Flash.sameFactory_self, if_true_left, if_true_right, ite_self, implies_true, *]; done) | split | (refine State.foldl_sound _ _ ?_ ?_ <;> intros) | (refine State.when_sound _ _ ?_ ?_ <;> intros))
@[simp] theorem State.nativeWrite_sound {F : Flash} (s : State) (rel d : Nat) (lo hi : Bool) (h : s.sound F) :
    (State.nativeWrite s rel d lo hi).sound F := by
  unfold State.nativeWrite
  repeat' (first | (simp (maxDischargeDepth := 60) (maxSteps := 30000) +contextual only [State.setLpb_sound, State.ndataCommit_sound, State.naddrCommit_sound, State.sound_ite, State.sound_mk, soundCore_self, soundCore_flash, Flash.sameFactory_self, if_true_left, if_true_right, ite_self, implies_true, *]; done) | split)

end Sys2Proof.Machine
end

