-- ==== Sys2Proof/Laws/Sound/Spi.lean ====
section
/-!
SUPPORT. The operations of Machine/Spi.lean keep a sound state sound: registers and Eddy in their one form, factory data as it
is.
-/
namespace Sys2Proof.Machine
set_option linter.unusedSimpArgs false
set_option linter.unusedTactic false
set_option linter.unreachableTactic false
set_option linter.unusedVariables false

@[simp] theorem State.setSpi_sound {F : Flash} (s : State) (f : SpiSt → SpiSt) (h : s.sound F) :
    (State.setSpi s f).sound F := by
  unfold State.setSpi
  simp (maxDischargeDepth := 60) (maxSteps := 30000) +contextual only [State.sound_ite, State.sound_mk, soundCore_self, soundCore_flash, Flash.sameFactory_self, if_true_left, if_true_right, ite_self, implies_true, *]
@[simp] theorem State.spiFlag_sound {F : Flash} (s : State) (f : SpiFlags → SpiFlags) (h : s.sound F) :
    (State.spiFlag s f).sound F := by
  simp only [State.spiFlag, State.setSpi_sound, *]
@[simp] theorem State.spiFerr_sound {F : Flash} (s : State) (h : s.sound F) :
    (State.spiFerr s).sound F := by
  simp only [State.spiFerr, State.bump_sound, State.spiFlag_sound, *]
@[simp] theorem State.spiCrc_sound {F : Flash} (pos : Nat) (s : State) (h : s.sound F) :
    (State.spiCrc pos s).sound F := by
  unfold State.spiCrc
  simp (maxDischargeDepth := 60) (maxSteps := 30000) +contextual only [State.bump_sound, State.setSpi_sound, State.spiFlag_sound, State.sound_ite, State.sound_mk, soundCore_self, soundCore_flash, Flash.sameFactory_self, if_true_left, if_true_right, ite_self, implies_true, *]
@[simp] theorem State.spiRefused_sound {F : Flash} (s : State) (h : s.sound F) :
    (State.spiRefused s).sound F := by
  simp only [State.spiRefused, State.bump_sound, State.spiFlag_sound, *]
@[simp] theorem State.spiSend_sound {F : Flash} (s : State) (ws : List Word) (h : s.sound F) :
    (State.spiSend s ws).sound F := by
  simp only [State.spiSend, State.setSpi_sound, *]
@[simp] theorem State.spiPast_sound {F : Flash} (s : State) (h : s.sound F) :
    (State.spiPast s).sound F := by
  unfold State.spiPast
  simp (maxDischargeDepth := 60) (maxSteps := 30000) +contextual only [State.spiFerr_sound, State.sound_ite, State.sound_mk, soundCore_self, soundCore_flash, Flash.sameFactory_self, if_true_left, if_true_right, ite_self, implies_true, *]

end Sys2Proof.Machine
end

