-- ==== Sys2Proof/Laws/Sound/Modbus.lean ====
section
/-!
SUPPORT. The operations of Machine/Modbus.lean keep a sound state sound: registers and Eddy in their one form, factory data as it
is.
-/
namespace Sys2Proof.Machine
set_option linter.unusedSimpArgs false
set_option linter.unusedTactic false
set_option linter.unreachableTactic false
set_option linter.unusedVariables false

@[simp] theorem State.setMod_sound {F : Flash} (s : State) (f : ModSt → ModSt) (h : s.sound F) :
    (State.setMod s f).sound F := by
  unfold State.setMod
  simp (maxDischargeDepth := 60) (maxSteps := 30000) +contextual only [State.sound_ite, State.sound_mk, soundCore_self, soundCore_flash, Flash.sameFactory_self, if_true_left, if_true_right, ite_self, implies_true, *]
@[simp] theorem State.modRead_sound {F : Flash} (s : State) (i : MItem) (h : s.sound F) :
    (State.modRead s i).2.sound F := by
  unfold State.modRead
  repeat' (first | (simp (maxDischargeDepth := 60) (maxSteps := 30000) +contextual only [State.rd_sound, State.setMod_sound, State.sound_ite, State.sound_mk, soundCore_self, soundCore_flash, Flash.sameFactory_self, if_true_left, if_true_right, ite_self, implies_true, *]; done) | split)
@[simp] theorem State.modReads_sound {F : Flash} (s : State) (l : List MItem) (ue : Option Nat) (k : Nat) (h : s.sound F) :
    (s.modReads l ue k).2.sound F := by
  induction l generalizing s k with
  | nil => exact h
  | cons i l ih =>
    unfold State.modReads
    dsimp only
    split
    · exact State.eddyUe_sound _ _ _ h
    · exact ih _ _ (State.modRead_sound s i h)
@[simp] theorem State.modWrites_sound {F : Flash} (s : State) (l : List (MItem × List Nat)) (h : s.sound F) :
    (s.modWrites l).sound F := by
  induction l generalizing s with
  | nil => exact h
  | cons x l ih =>
    obtain ⟨i, vs⟩ := x
    refine ih _ ?_
    cases i <;> simp only [State.setMod_sound, State.wr_sound, State.rmw_sound, h]
@[simp] theorem State.modSend_sound {F : Flash} (s : State) (fn : Nat) (data : Bytes) (h : s.sound F) :
    (State.modSend s fn data).sound F := by
  simp only [State.modSend, State.setMod_sound, *]
@[simp] theorem State.modReadPart_sound {F : Flash} (s : State) (gw : Word) (rs : List MItem) (ue : Option Nat) (h : s.sound F) :
    (State.modReadPart s gw rs ue).sound F := by
  unfold State.modReadPart
  simp (maxDischargeDepth := 60) (maxSteps := 30000) +contextual only [State.setMod_sound, State.modReads_sound, State.sound_ite, State.sound_mk, soundCore_self, soundCore_flash, Flash.sameFactory_self, if_true_left, if_true_right, ite_self, implies_true, *]
@[simp] theorem State.modExcept_sound {F : Flash} (s : State) (bcast : Bool) (fn code : Nat) (cnt : Option Nat) (h : s.sound F) :
    (State.modExcept s bcast fn code cnt).sound F := by
  unfold State.modExcept
  repeat' (first | (simp (maxDischargeDepth := 60) (maxSteps := 30000) +contextual only [State.bump_sound, State.modSend_sound, State.sound_ite, State.sound_mk, soundCore_self, soundCore_flash, Flash.sameFactory_self, if_true_left, if_true_right, ite_self, implies_true, *]; done) | split)
@[simp] theorem State.modDone_sound {F : Flash} (s : State) (bcast : Bool) (q : MReq) (reply : List Nat → Bytes) (wv : List (MItem × List Nat)) (rs : List MItem) (ue : Option Nat) (gw : Word) (h : s.sound F) :
    (State.modDone s bcast q reply wv rs ue gw).sound F := by
  unfold State.modDone
  repeat' (first
    | (intro x; first
        | (have hx : State.sound F x := by
            simp only [x]
            repeat' (first
              | (simp (maxDischargeDepth := 60) (maxSteps := 30000) +contextual only [State.modReads_sound, State.modWrites_sound, State.modSend_sound, State.modReadPart_sound, State.modExcept_sound, State.sound_ite, State.sound_mk, soundCore_self, soundCore_flash, Flash.sameFactory_self, if_true_left, if_true_right, ite_self, implies_true, *]; done)
              | split
              | (refine State.foldl_sound _ _ ?_ ?_ <;> intros)
              | (refine State.when_sound _ _ ?_ ?_ <;> intros))
           clear_value x)
        | (have hx : State.sound F x.2 := by
            simp only [x]
            repeat' (first
              | (simp (maxDischargeDepth := 60) (maxSteps := 30000) +contextual only [State.modReads_sound, State.modWrites_sound, State.modSend_sound, State.modReadPart_sound, State.modExcept_sound, State.sound_ite, State.sound_mk, soundCore_self, soundCore_flash, Flash.sameFactory_self, if_true_left, if_true_right, ite_self, implies_true, *]; done)
              | split
              | (refine State.foldl_sound _ _ ?_ ?_ <;> intros)
              | (refine State.when_sound _ _ ?_ ?_ <;> intros))
           clear_value x)
        | (have hx : State.sound F x.1 := by
            simp only [x]
            repeat' (first
              | (simp (maxDischargeDepth := 60) (maxSteps := 30000) +contextual only [State.modReads_sound, State.modWrites_sound, State.modSend_sound, State.modReadPart_sound, State.modExcept_sound, State.sound_ite, State.sound_mk, soundCore_self, soundCore_flash, Flash.sameFactory_self, if_true_left, if_true_right, ite_self, implies_true, *]; done)
              | split
              | (refine State.foldl_sound _ _ ?_ ?_ <;> intros)
              | (refine State.when_sound _ _ ?_ ?_ <;> intros))
           clear_value x)
        | clear_value x
        | skip)
    | lift_lets
    | (simp (maxDischargeDepth := 60) (maxSteps := 30000) +contextual only [State.modReads_sound, State.modWrites_sound, State.modSend_sound, State.modReadPart_sound, State.modExcept_sound, State.sound_ite, State.sound_mk, soundCore_self, soundCore_flash, Flash.sameFactory_self, if_true_left, if_true_right, ite_self, implies_true, *]; done)
    | split
    | (refine State.foldl_sound _ _ ?_ ?_ <;> intros)
    | (refine State.when_sound _ _ ?_ ?_ <;> intros)
    | (dsimp only; split)
    | dsimp only)
@[simp] theorem State.modRun_sound {F : Flash} (s : State) (bcast : Bool) (q : MReq) (reply : List Nat → Bytes) (h : s.sound F) :
    (State.modRun s bcast q reply).sound F := by
  unfold State.modRun
  dsimp only
  repeat' (first
    | exact State.modExcept_sound _ _ _ _ _ h
    | exact State.modExcept_sound _ _ _ _ _ (State.eddyUe_sound _ _ _ h)
    | exact State.modDone_sound _ _ _ _ _ _ _ _ h
    | split)

end Sys2Proof.Machine
end

