-- ==== Sys2Proof/Laws/Sound/Scrub.lean ====
section
/-!
SUPPORT. The operations of Machine/Scrub.lean keep a sound state sound: registers and Eddy in their one form, factory data as it
is.
-/
namespace Sys2Proof.Machine
set_option linter.unusedSimpArgs false
set_option linter.unusedTactic false
set_option linter.unreachableTactic false
set_option linter.unusedVariables false

@[simp] theorem State.cfgEcc_sound {F : Flash} (s : State) (region addr outcome : Nat) (h : s.sound F) :
    (State.cfgEcc s region addr outcome).sound F := by
  simp only [State.cfgEcc, State.fire_sound, State.logRec_sound, *]
@[simp] theorem State.setCfg_sound {F : Flash} (s : State) (f : CfgSram → CfgSram) (h : s.sound F) :
    (State.setCfg s f).sound F := by
  unfold State.setCfg
  simp (maxDischargeDepth := 60) (maxSteps := 30000) +contextual only [State.sound_ite, State.sound_mk, soundCore_self, soundCore_flash, Flash.sameFactory_self, if_true_left, if_true_right, ite_self, implies_true, *]
@[simp] theorem State.cfgUe_sound {F : Flash} (s : State) (a : Nat) (h : s.sound F) : (State.cfgUe s a).sound F :=
  State.cfgEcc_sound _ _ _ _ (State.setReg_sound (State.bump_sound _ _ h))
@[simp] theorem State.cfgRewritten_sound {F : Flash} (s : State) (r : Nat) (h : s.sound F) :
    (State.cfgRewritten s r).sound F := h

end Sys2Proof.Machine
end

