-- ==== Sys2Proof/Laws/Sound/Store.lean ====
section
/-!
SUPPORT. The operations of Machine/Store.lean keep a sound state sound: registers and Eddy in their one form, factory data as it
is.
-/
namespace Sys2Proof.Machine
set_option linter.unusedSimpArgs false
set_option linter.unusedTactic false
set_option linter.unreachableTactic false
set_option linter.unusedVariables false

@[simp] theorem State.setMss_sound {F : Flash} (s : State) (f : MssSt → MssSt) (h : s.sound F) :
    (State.setMss s f).sound F := by
  unfold State.setMss
  simp (maxDischargeDepth := 60) (maxSteps := 30000) +contextual only [State.sound_ite, State.sound_mk, soundCore_self, soundCore_flash, Flash.sameFactory_self, if_true_left, if_true_right, ite_self, implies_true, *]
theorem State.setFlash_sound {F : Flash} {s : State} {f : Flash → Flash} (hf : ∀ g, (f g).sameFactory g) (h : s.sound F) :
    (s.setFlash f).sound F := State.sound_mk.mpr (soundCore_flash h (hf s.flash))
theorem Flash.setImg_factory (k : Nat) (b : Bytes) (g : Flash) : (g.setImg k b).sameFactory g := by
  unfold Flash.setImg
  repeat' (first | exact ⟨rfl, rfl, rfl, rfl⟩ | split)
theorem Flash.setFw_factory (k : Bool) (b : Bytes) (g : Flash) : (g.setFw k b).sameFactory g := by
  unfold Flash.setFw
  repeat' (first | exact ⟨rfl, rfl, rfl, rfl⟩ | split)
theorem Flash.begin_factory (w : StoreWhat) (g : Flash) : (g.begin w).sameFactory g := by
  cases w <;> exact ⟨rfl, rfl, rfl, rfl⟩
theorem Flash.mark_factory (w : StoreWhat) (g : Flash) : (g.mark w).sameFactory g := by
  cases w <;> exact ⟨rfl, rfl, rfl, rfl⟩
@[simp] theorem State.storeBegin_sound {F : Flash} (s : State) (w : StoreWhat) (h : s.sound F) :
    (State.storeBegin s w).sound F := by
  unfold State.storeBegin
  simp (maxDischargeDepth := 60) (maxSteps := 30000) +contextual only [State.setMss_sound, State.setFlash_sound, Flash.setImg_factory, Flash.setFw_factory, Flash.begin_factory, Flash.mark_factory, State.sound_ite, State.sound_mk, soundCore_self, soundCore_flash, Flash.sameFactory_self, if_true_left, if_true_right, ite_self, implies_true, *]
@[simp] theorem State.storeOp_sound {F : Flash} (s : State) (w : StoreWhat) (h : s.sound F) :
    (State.storeOp s w).sound F := by
  unfold State.storeOp
  simp (maxDischargeDepth := 60) (maxSteps := 30000) +contextual only [State.endOp_sound, State.storeBegin_sound, State.sound_ite, State.sound_mk, soundCore_self, soundCore_flash, Flash.sameFactory_self, if_true_left, if_true_right, ite_self, implies_true, *]
@[simp] theorem State.storeNow_sound {F : Flash} (s : State) (w : StoreWhat) (h : s.sound F) : (s.storeNow w).sound F :=
  State.setFlash_sound (fun g => by cases w <;> exact ⟨rfl, rfl, rfl, rfl⟩) h
@[simp] theorem State.refuseImage_sound {F : Flash} (s : State) (p : Port) (code scope isl : Nat) (h : s.sound F) :
    (State.refuseImage s p code scope isl).sound F := by
  simp only [State.refuseImage, State.finish_sound, State.reject_sound, *]
@[simp] theorem State.rejectOp_sound {F : Flash} (s : State) (code scope isl serial : Nat) (h : s.sound F) :
    (State.rejectOp s code scope isl serial).sound F := by
  simp only [State.rejectOp, State.reject_sound, State.endRejected_sound, *]
@[simp] theorem State.imageCommand_sound {F : Flash} (s : State) (p : Port) (code scope : Nat) (isl : Job → Nat) (bad : Job → Option Nat) (ok : Bool) (body : Job → State → State) (h : s.sound F) (hbody : ∀ j, ∀ s : State, s.sound F → (body j s).sound F) :
    (State.imageCommand s p code scope isl bad ok body).sound F := by
  unfold State.imageCommand
  simp (maxDischargeDepth := 60) (maxSteps := 30000) +contextual only [State.finish_sound, State.command_sound, State.reject_sound, State.refuseImage_sound, State.sound_ite, State.sound_mk, soundCore_self, soundCore_flash, Flash.sameFactory_self, if_true_left, if_true_right, ite_self, implies_true, *]

end Sys2Proof.Machine
end

