-- ==== Sys2Proof/Laws/Sound/Pitch.lean ====
section
/-!
SUPPORT. The operations of Machine/Pitch.lean keep a sound state sound: registers and Eddy in their one form, factory data as it
is.
-/
namespace Sys2Proof.Machine
set_option linter.unusedSimpArgs false
set_option linter.unusedTactic false
set_option linter.unreachableTactic false
set_option linter.unusedVariables false

@[simp] theorem State.setPitch_sound {F : Flash} (s : State) (f : PitchSt → PitchSt) (h : s.sound F) :
    (State.setPitch s f).sound F := by
  unfold State.setPitch
  simp (maxDischargeDepth := 60) (maxSteps := 30000) +contextual only [State.sound_ite, State.sound_mk, soundCore_self, soundCore_flash, Flash.sameFactory_self, if_true_left, if_true_right, ite_self, implies_true, *]
@[simp] theorem State.enterPitching_sound {F : Flash} (s : State) (im : Image) (h : s.sound F) :
    (State.enterPitching s im).sound F := by
  unfold State.enterPitching
  simp (maxDischargeDepth := 60) (maxSteps := 30000) +contextual only [State.setReg_sound, State.setFld_sound, State.capStopAll_sound, State.homeIdle_sound, State.observe_sound, State.setDev_sound, State.disarm_sound, State.slcHaltAll_sound, State.setPitch_sound, State.foldl_sound, State.sound_ite, State.sound_mk, soundCore_self, soundCore_flash, Flash.sameFactory_self, if_true_left, if_true_right, ite_self, implies_true, *]
@[simp] theorem State.powerMode_sound {F : Flash} (s : State) (i : Fin 8) (h : s.sound F) :
    (State.powerMode s i).sound F := by
  unfold State.powerMode
  simp (maxDischargeDepth := 60) (maxSteps := 30000) +contextual only [State.xferOn_sound, State.sound_ite, State.sound_mk, soundCore_self, soundCore_flash, Flash.sameFactory_self, if_true_left, if_true_right, ite_self, implies_true, *]
@[simp] theorem State.structureIsland_sound {F : Flash} (s : State) (i : Fin 8) (h : s.sound F) :
    (State.structureIsland s i).sound F := by
  unfold State.structureIsland
  simp (maxDischargeDepth := 60) (maxSteps := 30000) +contextual only [State.setBit_sound, State.setIsl_sound, State.startStructure_sound, State.powerMode_sound, State.sound_ite, State.sound_mk, soundCore_self, soundCore_flash, Flash.sameFactory_self, if_true_left, if_true_right, ite_self, implies_true, *]
@[simp] theorem State.showSpc_sound {F : Flash} (s : State) (im : Image) (h : s.sound F) :
    (State.showSpc s im).sound F := by
  simp only [State.showSpc, State.setReg_sound, *]
@[simp] theorem State.capFresh_sound {F : Flash} (s : State) (q : Fin 16) (h : s.sound F) :
    (State.capFresh s q).sound F := by
  unfold State.capFresh
  simp (maxDischargeDepth := 60) (maxSteps := 30000) +contextual only [State.setReg_sound, State.setFld_sound, State.setCapt_sound, State.foldl_sound, State.sound_ite, State.sound_mk, soundCore_self, soundCore_flash, Flash.sameFactory_self, if_true_left, if_true_right, ite_self, implies_true, *]
@[simp] theorem State.takeRing_sound {F : Flash} (s : State) (im : Image) (h : s.sound F) :
    (State.takeRing s im).sound F := by
  unfold State.takeRing
  simp (maxDischargeDepth := 60) (maxSteps := 30000) +contextual only [State.setReg_sound, State.setRing_sound, State.sound_ite, State.sound_mk, soundCore_self, soundCore_flash, Flash.sameFactory_self, if_true_left, if_true_right, ite_self, implies_true, *]
@[simp] theorem State.operAnew_sound {F : Flash} (s : State) (h : s.sound F) :
    (State.operAnew s).sound F := by
  unfold State.operAnew
  simp (maxDischargeDepth := 60) (maxSteps := 30000) +contextual only [State.setReg_sound, State.foldl_sound, State.sound_ite, State.sound_mk, soundCore_self, soundCore_flash, Flash.sameFactory_self, if_true_left, if_true_right, ite_self, implies_true, *]
@[simp] theorem State.awaitedPitch_sound {F : Flash} (s : State) (im : Image) (i : Fin 8) (h : s.sound F) :
    (State.awaitedPitch s im i).sound F := by
  unfold State.awaitedPitch
  simp (maxDischargeDepth := 60) (maxSteps := 30000) +contextual only [State.bumpFld_sound, State.fire_sound, State.logRec_sound, State.setIsl_sound, State.sound_ite, State.sound_mk, soundCore_self, soundCore_flash, Flash.sameFactory_self, if_true_left, if_true_right, ite_self, implies_true, *]
@[simp] theorem State.missingIsland_sound {F : Flash} (s : State) (i : Fin 8) (h : s.sound F) :
    (State.missingIsland s i).sound F := by
  unfold State.missingIsland
  simp (maxDischargeDepth := 60) (maxSteps := 30000) +contextual only [State.lossMark_sound, State.sound_ite, State.sound_mk, soundCore_self, soundCore_flash, Flash.sameFactory_self, if_true_left, if_true_right, ite_self, implies_true, *]
@[simp] theorem State.commitPitch_sound {F : Flash} (s : State) (im : Image) (h : s.sound F) :
    (State.commitPitch s im).sound F := by
  unfold State.commitPitch
  simp (maxDischargeDepth := 60) (maxSteps := 30000) +contextual only [State.setReg_sound, State.setFld_sound, State.when_sound, State.fire_sound, State.logRec_sound, State.endOp_sound, State.axisRestore_sound, State.axisRestart_sound, State.observe_sound, State.setDev_sound, State.wdgPitch_sound, State.weirRestart_sound, State.persStart_sound, State.putAll_sound, State.initChannel_sound, State.takeRoles_sound, State.setMss_sound, State.showSpc_sound, State.capFresh_sound, State.takeRing_sound, State.operAnew_sound, State.awaitedPitch_sound, State.missingIsland_sound, State.foldl_sound, State.sound_ite, State.sound_mk, soundCore_self, soundCore_flash, Flash.sameFactory_self, if_true_left, if_true_right, ite_self, implies_true, *]

end Sys2Proof.Machine
end

