-- ==== Sys2Proof/Laws/Sound/Repitch.lean ====
section
/-!
SUPPORT. The operations of Machine/Repitch.lean keep a sound state sound: registers and Eddy in their one form, factory data as it
is.
-/
namespace Sys2Proof.Machine
set_option linter.unusedSimpArgs false
set_option linter.unusedTactic false
set_option linter.unreachableTactic false
set_option linter.unusedVariables false

@[simp] theorem State.setRepitch_sound {F : Flash} (s : State) (f : RepitchSt → RepitchSt) (h : s.sound F) :
    (State.setRepitch s f).sound F := by
  unfold State.setRepitch
  simp (maxDischargeDepth := 60) (maxSteps := 30000) +contextual only [State.sound_ite, State.sound_mk, soundCore_self, soundCore_flash, Flash.sameFactory_self, if_true_left, if_true_right, ite_self, implies_true, *]
@[simp] theorem State.takeSection_sound {F : Flash} (s : State) (i : Fin 8) (im : Image) (h : s.sound F) :
    (State.takeSection s i im).sound F := by
  unfold State.takeSection
  simp (maxDischargeDepth := 60) (maxSteps := 30000) +contextual only [State.setReg_sound, State.setFld_sound, State.setCfg_sound, State.cfgRewritten_sound, State.sound_ite, State.sound_mk, soundCore_self, soundCore_flash, Flash.sameFactory_self, if_true_left, if_true_right, ite_self, implies_true, *]
@[simp] theorem State.repitchDone_sound {F : Flash} (s : State) (i : Fin 8) (im : Image) (session : Nat) (h : s.sound F) :
    (State.repitchDone s i im session).sound F := by
  unfold State.repitchDone
  simp (maxDischargeDepth := 60) (maxSteps := 30000) +contextual only [State.bumpFld_sound, State.fire_sound, State.logRec_sound, State.observe_sound, State.persIsland_sound, State.putAll_sound, State.initChannel_sound, State.foldl_sound, State.sound_ite, State.sound_mk, soundCore_self, soundCore_flash, Flash.sameFactory_self, if_true_left, if_true_right, ite_self, implies_true, *]
@[simp] theorem State.awaitDone_sound {F : Flash} (s : State) (i : Fin 8) (h : s.sound F) :
    (State.awaitDone s i).sound F := by
  unfold State.awaitDone
  repeat' (first | (simp (maxDischargeDepth := 60) (maxSteps := 30000) +contextual only [State.setIsl_sound, State.repitchDone_sound, State.sound_ite, State.sound_mk, soundCore_self, soundCore_flash, Flash.sameFactory_self, if_true_left, if_true_right, ite_self, implies_true, *]; done) | split | (refine State.foldl_sound _ _ ?_ ?_ <;> intros) | (refine State.when_sound _ _ ?_ ?_ <;> intros))

end Sys2Proof.Machine
end

