-- ==== Sys2Proof/Laws/Sound/Calib.lean ====
section
/-!
SUPPORT. The operations of Machine/Calib.lean keep a sound state sound: registers and Eddy in their one form, factory data as it
is.
-/
namespace Sys2Proof.Machine
set_option linter.unusedSimpArgs false
set_option linter.unusedTactic false
set_option linter.unreachableTactic false
set_option linter.unusedVariables false

@[simp] theorem State.claimAnswer_sound {F : Flash} (s : State) (p : Port) (code : Nat) (h : s.sound F) :
    (State.claimAnswer s p code).sound F := by
  unfold State.claimAnswer
  repeat' (first | (simp (maxDischargeDepth := 60) (maxSteps := 30000) +contextual only [State.finish_sound, State.sound_ite, State.sound_mk, soundCore_self, soundCore_flash, Flash.sameFactory_self, if_true_left, if_true_right, ite_self, implies_true, *]; done) | split | (refine State.foldl_sound _ _ ?_ ?_ <;> intros) | (refine State.when_sound _ _ ?_ ?_ <;> intros))
@[simp] theorem State.setPoint_sound {F : Flash} (s : State) (c : Fin 32) (point : Nat) (v : Int × Int) (h : s.sound F) :
    (State.setPoint s c point v).sound F := by
  simp only [State.setPoint, State.setChan_sound, *]
@[simp] theorem State.calDrop_sound {F : Flash} (s : State) (c : Fin 32) (p : Port) (h : s.sound F) :
    (State.calDrop s c p).sound F := by
  simp only [State.calDrop, State.setChan_sound, *]

end Sys2Proof.Machine
end

