-- ==== Sys2Proof/Laws/Sound/Update.lean ====
section
/-!
SUPPORT. The operations of Machine/Update.lean keep a sound state sound: registers and Eddy in their one form, factory data as it
is.
-/
namespace Sys2Proof.Machine
set_option linter.unusedSimpArgs false
set_option linter.unusedTactic false
set_option linter.unreachableTactic false
set_option linter.unusedVariables false

@[simp] theorem State.storeSettings_sound {F : Flash} (s : State) (x : Settings) (h : s.sound F) :
    (State.storeSettings s x).sound F := by
  simp only [State.storeSettings, State.storeOp_sound, *]
@[simp] theorem State.accepted_sound {F : Flash} (s : State) (o : LongOp) (h : s.sound F) :
    (State.accepted s o).sound F := by
  unfold State.accepted
  simp (maxDischargeDepth := 60) (maxSteps := 30000) +contextual only [State.setBit_sound, State.fire_sound, State.logRec_sound, State.sound_ite, State.sound_mk, soundCore_self, soundCore_flash, Flash.sameFactory_self, if_true_left, if_true_right, ite_self, implies_true, *]
@[simp] theorem State.keyEnrol_sound {F : Flash} (s : State) (p : Port) (action : Nat) (allow : Bool) (proof : Job → Bool) (new : Job → Option PubKey) (h : s.sound F) :
    (State.keyEnrol s p action allow proof new).sound F := by
  unfold State.keyEnrol
  repeat' (first | (simp (maxDischargeDepth := 60) (maxSteps := 30000) +contextual only [State.logRec_sound, State.finish_sound, State.startOp_sound, State.command_sound, State.storeSettings_sound, State.sound_ite, State.sound_mk, soundCore_self, soundCore_flash, Flash.sameFactory_self, if_true_left, if_true_right, ite_self, implies_true, *]; done) | split)
@[simp] theorem State.fwLog_sound {F : Flash} (s : State) (event slot version reason : Nat) (h : s.sound F) :
    (State.fwLog s event slot version reason).sound F := by
  simp only [State.fwLog, State.logRec_sound, *]
@[simp] theorem State.fwCtlStore_sound {F : Flash} (s : State) (o : LongOp) (h : s.sound F) :
    (State.fwCtlStore s o).sound F := by
  simp only [State.fwCtlStore, State.setMss_sound, State.storeOp_sound, *]
@[simp] theorem State.confirmStart_sound {F : Flash} (s : State) (h : s.sound F) :
    (State.confirmStart s).sound F := by
  simp only [State.confirmStart, State.setMss_sound, State.storeBegin_sound, *]
@[simp] theorem State.settingsChanged_sound {F : Flash} (s : State) (old : Nat → Nat) (h : s.sound F) :
    (State.settingsChanged s old).sound F := by
  unfold State.settingsChanged
  simp (maxDischargeDepth := 60) (maxSteps := 30000) +contextual only [State.setFld_sound, State.logRec_sound, State.foldl_sound, State.sound_ite, State.sound_mk, soundCore_self, soundCore_flash, Flash.sameFactory_self, if_true_left, if_true_right, ite_self, implies_true, *]
@[simp] theorem State.trimmed_sound {F : Flash} (s : State) (o : LongOp) (what : Word) (h : s.sound F) :
    (State.trimmed s o what).sound F := by
  unfold State.trimmed
  simp (maxDischargeDepth := 60) (maxSteps := 30000) +contextual only [State.logRec_sound, State.requestReset_sound, State.sound_ite, State.sound_mk, soundCore_self, soundCore_flash, Flash.sameFactory_self, if_true_left, if_true_right, ite_self, implies_true, *]
@[simp] theorem State.opStored_sound {F : Flash} (s : State) (o : LongOp) (h : s.sound F) :
    (State.opStored s o).sound F := by
  unfold State.opStored
  simp (maxDischargeDepth := 60) (maxSteps := 30000) +contextual only [State.logRec_sound, State.endOp_sound, State.accepted_sound, State.fwLog_sound, State.trimmed_sound, State.sound_ite, State.sound_mk, soundCore_self, soundCore_flash, Flash.sameFactory_self, if_true_left, if_true_right, ite_self, implies_true, *]
theorem Flash.erased_factory (e : Nat) (g : Flash) : (g.erased e).sameFactory g := ⟨rfl, rfl, rfl, rfl⟩

end Sys2Proof.Machine
end

