-- ==== Sys2Proof/Laws/Sound/Power.lean ====
section
/-!
SUPPORT. The operations of Machine/Power.lean keep a sound state sound: registers and Eddy in their one form, factory data as it
is.
-/
namespace Sys2Proof.Machine
set_option linter.unusedSimpArgs false
set_option linter.unusedTactic false
set_option linter.unreachableTactic false
set_option linter.unusedVariables false

@[simp] theorem State.resetNow_sound {F : Flash} (s : State) (cause : Nat) (also : List ResetCause) (h : s.sound F) :
    (State.resetNow s cause also).sound F := by
  simp only [State.resetNow, State.hubReset_sound, State.foldl_sound, *]
@[simp] theorem State.railsDown_sound {F : Flash} (s : State) (all : Bool) (h : s.sound F) :
    (State.railsDown s all).sound F := by
  unfold State.railsDown
  simp (maxDischargeDepth := 60) (maxSteps := 30000) +contextual only [State.sound_ite, State.sound_mk, soundCore_self, soundCore_flash, Flash.sameFactory_self, if_true_left, if_true_right, ite_self, implies_true, *]
@[simp] theorem State.limitCross_sound {F : Flash} (s : State) (b cause : Nat) (detail : Word) (h : s.sound F) :
    (State.limitCross s b cause detail).sound F := by
  unfold State.limitCross
  simp (maxDischargeDepth := 60) (maxSteps := 30000) +contextual only [State.setBit_sound, State.safeCause_sound, State.when_sound, State.sound_ite, State.sound_mk, soundCore_self, soundCore_flash, Flash.sameFactory_self, if_true_left, if_true_right, ite_self, implies_true, *]
@[simp] theorem State.flashAbort_sound {F : Flash} (s : State) (h : s.sound F) :
    (State.flashAbort s).sound F := by
  unfold State.flashAbort
  repeat' (first
    | (intro x; first
        | (have hx : State.sound F x := by
            simp only [x]
            repeat' (first
              | (simp (maxDischargeDepth := 60) (maxSteps := 30000) +contextual only [State.endOp_sound, State.setMss_sound, State.sound_ite, State.sound_mk, soundCore_self, soundCore_flash, Flash.sameFactory_self, if_true_left, if_true_right, ite_self, implies_true, *]; done)
              | split
              | (refine State.foldl_sound _ _ ?_ ?_ <;> intros)
              | (refine State.when_sound _ _ ?_ ?_ <;> intros))
           clear_value x)
        | clear_value x
        | skip)
    | lift_lets
    | (simp (maxDischargeDepth := 60) (maxSteps := 30000) +contextual only [State.endOp_sound, State.setMss_sound, State.sound_ite, State.sound_mk, soundCore_self, soundCore_flash, Flash.sameFactory_self, if_true_left, if_true_right, ite_self, implies_true, *]; done)
    | split
    | (refine State.foldl_sound _ _ ?_ ?_ <;> intros)
    | (refine State.when_sound _ _ ?_ ?_ <;> intros)
    | dsimp only)

end Sys2Proof.Machine
end

