-- ==== Sys2Proof/Laws/Sound/Mgmt.lean ====
section
/-!
SUPPORT. The operations of Machine/Mgmt.lean keep a sound state sound: registers and Eddy in their one form, factory data as it
is.
-/
namespace Sys2Proof.Machine
set_option linter.unusedSimpArgs false
set_option linter.unusedTactic false
set_option linter.unreachableTactic false
set_option linter.unusedVariables false

@[simp] theorem State.logStore_sound {F : Flash} (s : State) (h : s.sound F) : (State.logStore s).sound F := by
  unfold State.logStore
  repeat' (first
    | exact h
    | exact State.setFlash_sound (s := s) (fun g => ⟨rfl, rfl, rfl, rfl⟩) h
    | split)
@[simp] theorem State.logLost_sound {F : Flash} (s : State) (crit : Bool) (h : s.sound F) :
    (State.logLost s crit).sound F := by
  unfold State.logLost
  simp (maxDischargeDepth := 60) (maxSteps := 30000) +contextual only [State.fire_sound, State.logPut_sound, State.sound_ite, State.sound_mk, soundCore_self, soundCore_flash, Flash.sameFactory_self, if_true_left, if_true_right, ite_self, implies_true, *]

end Sys2Proof.Machine
end

