-- ==== Sys2Proof/Laws/Sound/Boot.lean ====
section
/-!
SUPPORT. The operations of Machine/Boot.lean keep a sound state sound: registers and Eddy in their one form, factory data as it
is.
-/
namespace Sys2Proof.Machine
set_option linter.unusedSimpArgs false
set_option linter.unusedTactic false
set_option linter.unreachableTactic false
set_option linter.unusedVariables false

@[simp] theorem State.logContinue_sound {F : Flash} (s : State) (h : s.sound F) :
    (State.logContinue s).sound F := by
  unfold State.logContinue
  simp (maxDischargeDepth := 60) (maxSteps := 30000) +contextual only [State.sound_ite, State.sound_mk, soundCore_self, soundCore_flash, Flash.sameFactory_self, if_true_left, if_true_right, ite_self, implies_true, *]
@[simp] theorem State.logLate_sound {F : Flash} (s : State) (h : s.sound F) :
    (State.logLate s).sound F := by
  unfold State.logLate
  simp (maxDischargeDepth := 60) (maxSteps := 30000) +contextual only [State.logRec_sound, State.foldl_sound, State.sound_ite, State.sound_mk, soundCore_self, soundCore_flash, Flash.sameFactory_self, if_true_left, if_true_right, ite_self, implies_true, *]
@[simp] theorem State.emberInit_sound {F : Flash} (s : State) (vbat : Nat) (h : s.sound F) :
    (State.emberInit s vbat).sound F := by
  unfold State.emberInit
  simp (maxDischargeDepth := 60) (maxSteps := 30000) +contextual only [State.logRec_sound, State.sound_ite, State.sound_mk, soundCore_self, soundCore_flash, Flash.sameFactory_self, if_true_left, if_true_right, ite_self, implies_true, *]
@[simp] theorem State.settingsUnreadable_sound {F : Flash} (s : State) (isB : Bool) (reason : Nat) (h : s.sound F) :
    (State.settingsUnreadable s isB reason).sound F := by
  unfold State.settingsUnreadable
  simp (maxDischargeDepth := 60) (maxSteps := 30000) +contextual only [State.hubReset_sound, State.storeNow_sound, State.fwLog_sound, State.logStore_sound, State.sound_ite, State.sound_mk, soundCore_self, soundCore_flash, Flash.sameFactory_self, if_true_left, if_true_right, ite_self, implies_true, *]
@[simp] theorem State.firmwareStart_sound {F : Flash} (s : State) (isB fallback : Bool) (h : s.sound F) :
    (State.firmwareStart s isB fallback).sound F := by
  unfold State.firmwareStart
  repeat' (first
    | (intro x; first
        | (have hx : State.sound F x := by
            simp only [x]
            repeat' (first
              | (simp (maxDischargeDepth := 60) (maxSteps := 30000) +contextual only [State.setFld_sound, State.storeNow_sound, State.fwLog_sound, State.settingsUnreadable_sound, State.sound_ite, State.sound_mk, soundCore_self, soundCore_flash, Flash.sameFactory_self, if_true_left, if_true_right, ite_self, implies_true, *]; done)
              | split
              | (refine State.foldl_sound _ _ ?_ ?_ <;> intros)
              | (refine State.when_sound _ _ ?_ ?_ <;> intros))
           clear_value x)
        | (have hx : State.sound F x.2 := by
            simp only [x]
            repeat' (first
              | (simp (maxDischargeDepth := 60) (maxSteps := 30000) +contextual only [State.setFld_sound, State.storeNow_sound, State.fwLog_sound, State.settingsUnreadable_sound, State.sound_ite, State.sound_mk, soundCore_self, soundCore_flash, Flash.sameFactory_self, if_true_left, if_true_right, ite_self, implies_true, *]; done)
              | split
              | (refine State.foldl_sound _ _ ?_ ?_ <;> intros)
              | (refine State.when_sound _ _ ?_ ?_ <;> intros))
           clear_value x)
        | (have hx : State.sound F x.1 := by
            simp only [x]
            repeat' (first
              | (simp (maxDischargeDepth := 60) (maxSteps := 30000) +contextual only [State.setFld_sound, State.storeNow_sound, State.fwLog_sound, State.settingsUnreadable_sound, State.sound_ite, State.sound_mk, soundCore_self, soundCore_flash, Flash.sameFactory_self, if_true_left, if_true_right, ite_self, implies_true, *]; done)
              | split
              | (refine State.foldl_sound _ _ ?_ ?_ <;> intros)
              | (refine State.when_sound _ _ ?_ ?_ <;> intros))
           clear_value x)
        | clear_value x
        | skip)
    | lift_lets
    | (simp (maxDischargeDepth := 60) (maxSteps := 30000) +contextual only [State.setFld_sound, State.storeNow_sound, State.fwLog_sound, State.settingsUnreadable_sound, State.sound_ite, State.sound_mk, soundCore_self, soundCore_flash, Flash.sameFactory_self, if_true_left, if_true_right, ite_self, implies_true, *]; done)
    | split
    | (refine State.foldl_sound _ _ ?_ ?_ <;> intros)
    | (refine State.when_sound _ _ ?_ ?_ <;> intros)
    | (dsimp only; split)
    | dsimp only)
@[simp] theorem State.firmwareFound_sound {F : Flash} (s : State) (vbat : Nat) (h : s.sound F) :
    (State.firmwareFound s vbat).sound F := by
  unfold State.firmwareFound
  repeat' (first
    | (intro x; first
        | (have hx : State.sound F x := by
            simp only [x]
            repeat' (first
              | (simp (maxDischargeDepth := 60) (maxSteps := 30000) +contextual only [State.setFld_sound, State.setBit_sound, State.logRec_sound, State.fwLog_sound, State.logContinue_sound, State.logLate_sound, State.emberInit_sound, State.when_sound, State.sound_ite, State.sound_mk, soundCore_self, soundCore_flash, Flash.sameFactory_self, if_true_left, if_true_right, ite_self, implies_true, *]; done)
              | split
              | (refine State.foldl_sound _ _ ?_ ?_ <;> intros)
              | (refine State.when_sound _ _ ?_ ?_ <;> intros))
           clear_value x)
        | clear_value x
        | skip)
    | lift_lets
    | (simp (maxDischargeDepth := 60) (maxSteps := 30000) +contextual only [State.setFld_sound, State.setBit_sound, State.logRec_sound, State.fwLog_sound, State.logContinue_sound, State.logLate_sound, State.emberInit_sound, State.when_sound, State.sound_ite, State.sound_mk, soundCore_self, soundCore_flash, Flash.sameFactory_self, if_true_left, if_true_right, ite_self, implies_true, *]; done)
    | split
    | (refine State.foldl_sound _ _ ?_ ?_ <;> intros)
    | (refine State.when_sound _ _ ?_ ?_ <;> intros)
    | dsimp only)
@[simp] theorem State.firmwareRing_sound {F : Flash} (s : State) (h : s.sound F) :
    (State.firmwareRing s).sound F := by
  simp only [State.firmwareRing, State.setRing_sound, *]
@[simp] theorem State.bootUnpitched_sound {F : Flash} (s : State) (h : s.sound F) :
    (State.bootUnpitched s).sound F := by
  simp only [State.bootUnpitched, State.setFld_sound, State.setDev_sound, *]
@[simp] theorem State.bootImage_sound {F : Flash} (s : State) (src : Nat) (im : Image) (h : s.sound F) :
    (State.bootImage s src im).sound F := by
  unfold State.bootImage
  simp (maxDischargeDepth := 60) (maxSteps := 30000) +contextual only [State.setReg_sound, State.setFld_sound, State.setCfg_sound, State.enterPitching_sound, State.bootUnpitched_sound, State.sound_ite, State.sound_mk, soundCore_self, soundCore_flash, Flash.sameFactory_self, if_true_left, if_true_right, ite_self, implies_true, *]
@[simp] theorem State.bootSlots_sound {F : Flash} (s : State) (ks : List Nat) (first : Bool) (h : s.sound F) :
    (s.bootSlots ks first).sound F := by
  induction ks generalizing s first with
  | nil => exact State.bootUnpitched_sound _ h
  | cons k ks ih =>
    unfold State.bootSlots
    dsimp only
    repeat' split
    · exact ih _ _ h
    · exact State.bootImage_sound _ _ _ h
    · exact ih _ _ (State.reject_sound _ _ _ _ _ _ (State.when_sound _ _ (fun s h => State.setBit_sound _ _ _ _ h) h))
@[simp] theorem State.sleepAsk_sound {F : Flash} (s : State) (p : Port) (code asserted : Nat) (deep : Bool)
    (take : State → State) (h : s.sound F) (ht : ∀ s, s.sound F → (take s).sound F) :
    (s.sleepAsk p code asserted deep take).sound F := by
  refine State.command_sound _ _ _ _ _ _ _ h fun _ s hs => ?_
  dsimp only
  repeat' split
  · exact State.finish_sound _ _ _ _ (ht s hs)
  · exact State.finish_sound _ _ _ _ (State.setFld_sound _ _ _ _ _ hs)
  · exact State.finish_sound _ _ _ _ (State.setFld_sound _ _ _ _ _ hs)
@[simp] theorem State.islandsOff_sound {F : Flash} (s : State) (h : s.sound F) :
    (State.islandsOff s).sound F := by
  unfold State.islandsOff
  simp (maxDischargeDepth := 60) (maxSteps := 30000) +contextual only [State.setFld_sound, State.setBit_sound, State.setIsl_sound, State.hubReset_sound, State.foldl_sound, State.sound_ite, State.sound_mk, soundCore_self, soundCore_flash, Flash.sameFactory_self, if_true_left, if_true_right, ite_self, implies_true, *]
@[simp] theorem State.wakeUnpitched_sound {F : Flash} (s : State) (h : s.sound F) :
    (State.wakeUnpitched s).sound F := by
  unfold State.wakeUnpitched
  simp (maxDischargeDepth := 60) (maxSteps := 30000) +contextual only [State.setReg_sound, State.clearImg_sound, State.setDev_sound, State.disarm_sound, State.unstructureAll_sound, State.dropRing_sound, State.sound_ite, State.sound_mk, soundCore_self, soundCore_flash, Flash.sameFactory_self, if_true_left, if_true_right, ite_self, implies_true, *]
@[simp] theorem State.islandsOn_sound {F : Flash} (s : State) (phase : Nat) (h : s.sound F) :
    (State.islandsOn s phase).sound F := by
  unfold State.islandsOn
  simp (maxDischargeDepth := 60) (maxSteps := 30000) +contextual only [State.sound_ite, State.sound_mk, soundCore_self, soundCore_flash, Flash.sameFactory_self, if_true_left, if_true_right, ite_self, implies_true, *]

end Sys2Proof.Machine
end

