-- ==== Sys2Proof/Laws/Sound/Tap.lean ====
section
/-!
SUPPORT. The operations of Machine/Tap.lean keep a sound state sound: registers and Eddy in their one form, factory data as it
is.
-/
namespace Sys2Proof.Machine
set_option linter.unusedSimpArgs false
set_option linter.unusedTactic false
set_option linter.unreachableTactic false
set_option linter.unusedVariables false

@[simp] theorem State.setTap_sound {F : Flash} (s : State) (f : TapSt → TapSt) (h : s.sound F) :
    (State.setTap s f).sound F := by
  unfold State.setTap
  simp (maxDischargeDepth := 60) (maxSteps := 30000) +contextual only [State.sound_ite, State.sound_mk, soundCore_self, soundCore_flash, Flash.sameFactory_self, if_true_left, if_true_right, ite_self, implies_true, *]
@[simp] theorem State.scanSend_sound {F : Flash} (s : State) (i : Fin 8) (d : Word) (h : s.sound F) :
    (State.scanSend s i d).sound F := by
  simp only [State.scanSend, State.setIsl_sound, *]
@[simp] theorem State.scanOff_sound {F : Flash} (s : State) (h : s.sound F) :
    (State.scanOff s).sound F := by
  unfold State.scanOff
  repeat' (first | (simp (maxDischargeDepth := 60) (maxSteps := 30000) +contextual only [State.scanSend_sound, State.sound_ite, State.sound_mk, soundCore_self, soundCore_flash, Flash.sameFactory_self, if_true_left, if_true_right, ite_self, implies_true, *]; done) | split)
@[simp] theorem State.taint_sound {F : Flash} (old : List (Nat × Word)) (as : List Nat) (s : State) (h : s.sound F) :
    (s.taint old as).sound F := by
  induction as generalizing s with
  | nil => exact h
  | cons a as ih =>
    unfold State.taint
    split
    · exact ih _ h
    · exact ih _ (State.setReg_sound (State.freeWord_sound s h))
@[simp] theorem State.testEnd_sound {F : Flash} (s : State) (h : s.sound F) :
    (State.testEnd s).sound F := by
  unfold State.testEnd
  repeat' (first | (simp (maxDischargeDepth := 60) (maxSteps := 30000) +contextual only [State.setTap_sound, State.taint_sound, State.sound_ite, State.sound_mk, soundCore_self, soundCore_flash, Flash.sameFactory_self, if_true_left, if_true_right, ite_self, implies_true, *]; done) | split)
@[simp] theorem State.loadIr_sound {F : Flash} (s : State) (ir : Nat) (h : s.sound F) :
    (State.loadIr s ir).sound F := by
  unfold State.loadIr
  simp (maxDischargeDepth := 60) (maxSteps := 30000) +contextual only [State.setTap_sound, State.scanOff_sound, State.testEnd_sound, State.sound_ite, State.sound_mk, soundCore_self, soundCore_flash, Flash.sameFactory_self, if_true_left, if_true_right, ite_self, implies_true, *]
@[simp] theorem State.shiftIr_sound {F : Flash} (s : State) (ir : Nat) (h : s.sound F) :
    (State.shiftIr s ir).sound F := by
  unfold State.shiftIr
  simp (maxDischargeDepth := 60) (maxSteps := 30000) +contextual only [State.setTap_sound, State.loadIr_sound, State.sound_ite, State.sound_mk, soundCore_self, soundCore_flash, Flash.sameFactory_self, if_true_left, if_true_right, ite_self, implies_true, *]
@[simp] theorem State.shiftTest_sound {F : Flash} (s : State) (ir : Nat) (h : s.sound F) :
    (State.shiftTest s ir).sound F := by
  unfold State.shiftTest
  simp (maxDischargeDepth := 60) (maxSteps := 30000) +contextual only [State.shiftIr_sound, State.sound_ite, State.sound_mk, soundCore_self, soundCore_flash, Flash.sameFactory_self, if_true_left, if_true_right, ite_self, implies_true, *]

end Sys2Proof.Machine
end

