-- ==== Sys2Proof/Laws/Sound/Tick.lean ====
section
/-!
SUPPORT. The operations of Machine/Tick.lean keep a sound state sound: registers and Eddy in their one form, factory data as it
is.
-/
namespace Sys2Proof.Machine
set_option linter.unusedSimpArgs false
set_option linter.unusedTactic false
set_option linter.unreachableTactic false
set_option linter.unusedVariables false

@[simp] theorem State.hubTick_sound {F : Flash} (s : State) (h : s.sound F) :
    (State.hubTick s).sound F := by
  unfold State.hubTick
  simp (maxDischargeDepth := 60) (maxSteps := 30000) +contextual only [State.sound_ite, State.sound_mk, soundCore_self, soundCore_flash, Flash.sameFactory_self, if_true_left, if_true_right, ite_self, implies_true, *]
@[simp] theorem State.tick_sound {F : Flash} (s : State) (h : s.sound F) :
    (State.tick s).sound F := by
  unfold State.tick
  simp (maxDischargeDepth := 60) (maxSteps := 30000) +contextual only [State.wdgTick_sound, State.weirTick_sound, State.hubTick_sound, State.sound_ite, State.sound_mk, soundCore_self, soundCore_flash, Flash.sameFactory_self, if_true_left, if_true_right, ite_self, implies_true, *]

end Sys2Proof.Machine
end

