-- ==== Sys2Proof/Laws/Sound/Step.lean ====
section
/-!
SUPPORT. The operations of Machine/Step.lean keep a sound state sound: registers and Eddy in their one form, factory data as it
is.
-/
namespace Sys2Proof.Machine
set_option linter.unusedSimpArgs false
set_option linter.unusedTactic false
set_option linter.unreachableTactic false
set_option linter.unusedVariables false

@[simp] theorem State.front_sound {F : Flash} (s : State) (c : Instr) (h : s.sound F) :
    (State.front s c).sound F := by
  unfold State.front
  simp (maxDischargeDepth := 60) (maxSteps := 30000) +contextual only [State.sound_ite, State.sound_mk, soundCore_self, soundCore_flash, Flash.sameFactory_self, if_true_left, if_true_right, ite_self, implies_true, *]
@[simp] theorem State.withFetchWord_sound {F : Flash} (s : State) (nbits w : Nat) (h : s.sound F) :
    (State.withFetchWord s nbits w).sound F := by
  unfold State.withFetchWord
  repeat' (first | (simp (maxDischargeDepth := 60) (maxSteps := 30000) +contextual only [State.front_sound, State.sound_ite, State.sound_mk, soundCore_self, soundCore_flash, Flash.sameFactory_self, if_true_left, if_true_right, ite_self, implies_true, *]; done) | split)

end Sys2Proof.Machine
end

