-- ==== Sys2Proof/Laws/Good/Filter.lean ====
section
/-!
SUPPORT. Each command of Machine/Filter.lean answers a next state, and keeps a sound state sound.
-/
namespace Sys2Proof.Machine
set_option linter.unusedSimpArgs false
set_option linter.unusedTactic false
set_option linter.unreachableTactic false
set_option linter.unusedVariables false

/-- The outcome is a next state, and that state is sound. -/
def Res.good (F : Flash) (r : Res) : Prop := ∃ t, r = .next t ∧ t.sound F
@[simp] theorem Res.good_next {F : Flash} (t : State) : Res.good F (.next t) = t.sound F :=
  propext ⟨fun ⟨u, e, h⟩ => by cases e; exact h, fun h => ⟨t, rfl, h⟩⟩
@[simp] theorem Res.good_ite {F : Flash} {c : Prop} [Decidable c] (a b : Res) :
    Res.good F (if c then a else b) = if c then Res.good F a else Res.good F b := by split <;> rfl
theorem execFilterReset_good {F : Flash} (c : Fin 32) (s : State) (h : s.sound F) :
    (execFilterReset c s).good F := by
  unfold execFilterReset
  simp (maxDischargeDepth := 60) (maxSteps := 30000) +contextual only [State.channelReset_sound, Res.good_next, Res.good_ite, State.sound_ite, State.sound_mk, soundCore_self, soundCore_flash, Flash.sameFactory_self, if_true_left, if_true_right, ite_self, implies_true, *]

end Sys2Proof.Machine
end

