-- ==== Sys2Proof/Laws/Good/Capture.lean ====
section
/-!
SUPPORT. Each command of Machine/Capture.lean answers a next state, and keeps a sound state sound.
-/
namespace Sys2Proof.Machine
set_option linter.unusedSimpArgs false
set_option linter.unusedTactic false
set_option linter.unreachableTactic false
set_option linter.unusedVariables false

theorem execCaptureTrigger_good {F : Flash} (q : Fin 16) (src : Nat) (s : State) (h : s.sound F) :
    (execCaptureTrigger q src s).good F := by
  unfold execCaptureTrigger
  simp (maxDischargeDepth := 60) (maxSteps := 30000) +contextual only [State.capTrigger_sound, Res.good_next, Res.good_ite, State.sound_ite, State.sound_mk, soundCore_self, soundCore_flash, Flash.sameFactory_self, if_true_left, if_true_right, ite_self, implies_true, *]
theorem execCaptureBlockComplete_good {F : Flash} (q : Fin 16) (s : State) (h : s.sound F) :
    (execCaptureBlockComplete q s).good F := by
  unfold execCaptureBlockComplete
  repeat' (first
    | (intro x; first
        | (have hx : State.sound F x := by
            simp only [x]
            repeat' (first
              | (simp (maxDischargeDepth := 60) (maxSteps := 30000) +contextual only [State.setBit_sound, State.setCapt_sound, State.setCapState_sound, State.capArm_sound, State.capMiss_sound, State.capFinish_sound, State.capBegin_sound, Res.good_next, Res.good_ite, State.sound_ite, State.sound_mk, soundCore_self, soundCore_flash, Flash.sameFactory_self, if_true_left, if_true_right, ite_self, implies_true, *]; done)
              | split
              | (refine State.foldl_sound _ _ ?_ ?_ <;> intros)
              | (refine State.when_sound _ _ ?_ ?_ <;> intros))
           clear_value x)
        | clear_value x
        | skip)
    | lift_lets
    | (simp (maxDischargeDepth := 60) (maxSteps := 30000) +contextual only [State.setBit_sound, State.setCapt_sound, State.setCapState_sound, State.capArm_sound, State.capMiss_sound, State.capFinish_sound, State.capBegin_sound, Res.good_next, Res.good_ite, State.sound_ite, State.sound_mk, soundCore_self, soundCore_flash, Flash.sameFactory_self, if_true_left, if_true_right, ite_self, implies_true, *]; done)
    | split
    | (refine State.foldl_sound _ _ ?_ ?_ <;> intros)
    | (refine State.when_sound _ _ ?_ ?_ <;> intros)
    | (refine (Res.good_next _).mpr (State.imageCommand_sound _ _ _ _ _ _ _ _ h fun j s hs => ?_))
    | (refine (Res.good_next _).mpr (State.command_sound _ _ _ _ _ _ _ h fun j s hs => ?_))
    | (dsimp only; split)
    | dsimp only)
theorem execFineOutput_good {F : Flash} (c : Fin 32) (s : State) (h : s.sound F) :
    (execFineOutput c s).good F := by
  unfold execFineOutput
  simp (maxDischargeDepth := 60) (maxSteps := 30000) +contextual only [State.fineOutput_sound, State.captures_sound, Res.good_next, Res.good_ite, State.sound_ite, State.sound_mk, soundCore_self, soundCore_flash, Flash.sameFactory_self, if_true_left, if_true_right, ite_self, implies_true, *]
theorem execRiffleValue_good {F : Flash} (c : Fin 32) (s : State) (h : s.sound F) :
    (execRiffleValue c s).good F := by
  unfold execRiffleValue
  simp (maxDischargeDepth := 60) (maxSteps := 30000) +contextual only [State.riffleValue_sound, State.captures_sound, Res.good_next, Res.good_ite, State.sound_ite, State.sound_mk, soundCore_self, soundCore_flash, Flash.sameFactory_self, if_true_left, if_true_right, ite_self, implies_true, *]

end Sys2Proof.Machine
end

