-- ==== Sys2Proof/Laws/Good/AxisOps.lean ====
section
/-!
SUPPORT. Each command of Machine/AxisOps.lean answers a next state, and keeps a sound state sound.
-/
namespace Sys2Proof.Machine
set_option linter.unusedSimpArgs false
set_option linter.unusedTactic false
set_option linter.unreachableTactic false
set_option linter.unusedVariables false

theorem execAxisSnapshot_good {F : Flash} (s : State) (h : s.sound F) :
    (execAxisSnapshot s).good F := by
  unfold execAxisSnapshot
  simp (maxDischargeDepth := 60) (maxSteps := 30000) +contextual only [State.snapAll_sound, Res.good_next, Res.good_ite, State.sound_ite, State.sound_mk, soundCore_self, soundCore_flash, Flash.sameFactory_self, if_true_left, if_true_right, ite_self, implies_true, *]
theorem execHomeDebounce_good {F : Flash} (a : Fin 8) (asserted : Bool) (s : State) (h : s.sound F) :
    (execHomeDebounce a asserted s).good F := by
  unfold execHomeDebounce
  simp (maxDischargeDepth := 60) (maxSteps := 30000) +contextual only [State.setBit_sound, State.setAxis_sound, State.homeEval_sound, Res.good_next, Res.good_ite, State.sound_ite, State.sound_mk, soundCore_self, soundCore_flash, Flash.sameFactory_self, if_true_left, if_true_right, ite_self, implies_true, *]
theorem execHomingTimeout_good {F : Flash} (a : Fin 8) (s : State) (h : s.sound F) :
    (execHomingTimeout a s).good F := by
  unfold execHomingTimeout
  simp (maxDischargeDepth := 60) (maxSteps := 30000) +contextual only [State.homeEnding_sound, Res.good_next, Res.good_ite, State.sound_ite, State.sound_mk, soundCore_self, soundCore_flash, Flash.sameFactory_self, if_true_left, if_true_right, ite_self, implies_true, *]
theorem execLimitRelease_good {F : Flash} (a : Fin 8) (pos : Bool) (s : State) (h : s.sound F) :
    (execLimitRelease a pos s).good F := by
  unfold execLimitRelease
  simp (maxDischargeDepth := 60) (maxSteps := 30000) +contextual only [State.setBit_sound, Res.good_next, Res.good_ite, State.sound_ite, State.sound_mk, soundCore_self, soundCore_flash, Flash.sameFactory_self, if_true_left, if_true_right, ite_self, implies_true, *]
theorem execStandstillTimeout_good {F : Flash} (a : Fin 8) (s : State) (h : s.sound F) :
    (execStandstillTimeout a s).good F := by
  unfold execStandstillTimeout
  simp (maxDischargeDepth := 60) (maxSteps := 30000) +contextual only [State.standstill_sound, Res.good_next, Res.good_ite, State.sound_ite, State.sound_mk, soundCore_self, soundCore_flash, Flash.sameFactory_self, if_true_left, if_true_right, ite_self, implies_true, *]
theorem execSsiRead_good {F : Flash} (a : Fin 8) (idle : Bool) (word : Nat) (after back : Bool) (s : State) (h : s.sound F) :
    (execSsiRead a idle word after back s).good F := by
  unfold execSsiRead
  simp (maxDischargeDepth := 60) (maxSteps := 30000) +contextual only [State.setAxis_sound, Res.good_next, Res.good_ite, State.sound_ite, State.sound_mk, soundCore_self, soundCore_flash, Flash.sameFactory_self, if_true_left, if_true_right, ite_self, implies_true, *]

end Sys2Proof.Machine
end

