-- ==== Sys2Proof/Laws/Good/Energy.lean ====
section
/-!
SUPPORT. Each command of Machine/Energy.lean answers a next state, and keeps a sound state sound.
-/
namespace Sys2Proof.Machine
set_option linter.unusedSimpArgs false
set_option linter.unusedTactic false
set_option linter.unreachableTactic false
set_option linter.unusedVariables false

theorem execNrgEscalate_good {F : Flash} (c : Fin 32) (s : State) (h : s.sound F) :
    (execNrgEscalate c s).good F := by
  unfold execNrgEscalate
  simp (maxDischargeDepth := 60) (maxSteps := 30000) +contextual only [State.setBit_sound, Res.good_next, Res.good_ite, State.sound_ite, State.sound_mk, soundCore_self, soundCore_flash, Flash.sameFactory_self, if_true_left, if_true_right, ite_self, implies_true, *]

end Sys2Proof.Machine
end

