-- ==== Sys2Proof/Laws/Good/Guyline.lean ====
section
/-!
SUPPORT. Each command of Machine/Guyline.lean answers a next state, and keeps a sound state sound.
-/
namespace Sys2Proof.Machine
set_option linter.unusedSimpArgs false
set_option linter.unusedTactic false
set_option linter.unreachableTactic false
set_option linter.unusedVariables false

theorem execGuylineSlot_good {F : Flash} (i : Fin 8) (n : Nat) (s : State) (h : s.sound F) :
    (execGuylineSlot i n s).good F := by
  unfold execGuylineSlot
  simp (maxDischargeDepth := 60) (maxSteps := 30000) +contextual only [State.slotWork_sound, State.sendFrame_sound, Res.good_next, Res.good_ite, State.sound_ite, State.sound_mk, soundCore_self, soundCore_flash, Flash.sameFactory_self, if_true_left, if_true_right, ite_self, implies_true, *]
theorem execIslandDownlink_good {F : Flash} (i : Fin 8) (err errA errB : Bytes) (s : State) (h : s.sound F) :
    (execIslandDownlink i err errA errB s).good F := by
  unfold execIslandDownlink
  simp (maxDischargeDepth := 60) (maxSteps := 30000) +contextual only [State.setIsl_sound, Res.good_next, Res.good_ite, State.sound_ite, State.sound_mk, soundCore_self, soundCore_flash, Flash.sameFactory_self, if_true_left, if_true_right, ite_self, implies_true, *]
theorem execHubUplink_good {F : Flash} (i : Fin 8) (m : UpMeas) (err : Bytes) (full : Bool) (s : State) (h : s.sound F) :
    (execHubUplink i m err full s).good F := by
  unfold execHubUplink
  simp (maxDischargeDepth := 60) (maxSteps := 30000) +contextual only [State.setIsl_sound, State.sense_sound, State.ssiSent_sound, State.receive_sound, Res.good_next, Res.good_ite, State.sound_ite, State.sound_mk, soundCore_self, soundCore_flash, Flash.sameFactory_self, if_true_left, if_true_right, ite_self, implies_true, *]

end Sys2Proof.Machine
end

