-- ==== Sys2Proof/Laws/Good/Island.lean ====
section
/-!
SUPPORT. Each command of Machine/Island.lean answers a next state, and keeps a sound state sound.
-/
namespace Sys2Proof.Machine
set_option linter.unusedSimpArgs false
set_option linter.unusedTactic false
set_option linter.unreachableTactic false
set_option linter.unusedVariables false

theorem execStructureRetry_good {F : Flash} (i : Fin 8) (s : State) (h : s.sound F) :
    (execStructureRetry i s).good F := by
  unfold execStructureRetry
  simp (maxDischargeDepth := 60) (maxSteps := 30000) +contextual only [State.startStructure_sound, Res.good_next, Res.good_ite, State.sound_ite, State.sound_mk, soundCore_self, soundCore_flash, Flash.sameFactory_self, if_true_left, if_true_right, ite_self, implies_true, *]
theorem execStructureDiscard_good {F : Flash} (i : Fin 8) (s : State) (h : s.sound F) :
    (execStructureDiscard i s).good F := by
  unfold execStructureDiscard
  simp (maxDischargeDepth := 60) (maxSteps := 30000) +contextual only [State.setBit_sound, State.setIsl_sound, Res.good_next, Res.good_ite, State.sound_ite, State.sound_mk, soundCore_self, soundCore_flash, Flash.sameFactory_self, if_true_left, if_true_right, ite_self, implies_true, *]
theorem execIslandLinkTimeout_good {F : Flash} (i : Fin 8) (s : State) (h : s.sound F) :
    (execIslandLinkTimeout i s).good F := by
  unfold execIslandLinkTimeout
  simp (maxDischargeDepth := 60) (maxSteps := 30000) +contextual only [State.setIsl_sound, Res.good_next, Res.good_ite, State.sound_ite, State.sound_mk, soundCore_self, soundCore_flash, Flash.sameFactory_self, if_true_left, if_true_right, ite_self, implies_true, *]
theorem execGlDegradedClear_good {F : Flash} (i : Fin 8) (s : State) (h : s.sound F) :
    (execGlDegradedClear i s).good F := by
  unfold execGlDegradedClear
  simp (maxDischargeDepth := 60) (maxSteps := 30000) +contextual only [State.setBit_sound, State.setIsl_sound, Res.good_next, Res.good_ite, State.sound_ite, State.sound_mk, soundCore_self, soundCore_flash, Flash.sameFactory_self, if_true_left, if_true_right, ite_self, implies_true, *]
theorem execIslandSubframeLoss_good {F : Flash} (i : Fin 8) (isB : Bool) (s : State) (h : s.sound F) :
    (execIslandSubframeLoss i isB s).good F := by
  unfold execIslandSubframeLoss
  simp (maxDischargeDepth := 60) (maxSteps := 30000) +contextual only [State.setIsl_sound, Res.good_next, Res.good_ite, State.sound_ite, State.sound_mk, soundCore_self, soundCore_flash, Flash.sameFactory_self, if_true_left, if_true_right, ite_self, implies_true, *]
theorem execVfldLevelChange_good {F : Flash} (i : Fin 8) (low high : Bool) (s : State) (h : s.sound F) :
    (execVfldLevelChange i low high s).good F := by
  unfold execVfldLevelChange
  simp (maxDischargeDepth := 60) (maxSteps := 30000) +contextual only [State.setIsl_sound, Res.good_next, Res.good_ite, State.sound_ite, State.sound_mk, soundCore_self, soundCore_flash, Flash.sameFactory_self, if_true_left, if_true_right, ite_self, implies_true, *]
theorem execTransferStart_good {F : Flash} (s : State) (h : s.sound F) :
    (execTransferStart s).good F := by
  unfold execTransferStart
  repeat' (first | (simp (maxDischargeDepth := 60) (maxSteps := 30000) +contextual only [State.xferOn_sound, Res.good_next, Res.good_ite, State.sound_ite, State.sound_mk, soundCore_self, soundCore_flash, Flash.sameFactory_self, if_true_left, if_true_right, ite_self, implies_true, *]; done) | split | (refine State.foldl_sound _ _ ?_ ?_ <;> intros) | (refine State.when_sound _ _ ?_ ?_ <;> intros))
theorem execTransferLimitShutdown_good {F : Flash} (i : Fin 8) (s : State) (h : s.sound F) :
    (execTransferLimitShutdown i s).good F := by
  unfold execTransferLimitShutdown
  simp (maxDischargeDepth := 60) (maxSteps := 30000) +contextual only [State.setBit_sound, State.setIsl_sound, Res.good_next, Res.good_ite, State.sound_ite, State.sound_mk, soundCore_self, soundCore_flash, Flash.sameFactory_self, if_true_left, if_true_right, ite_self, implies_true, *]
theorem execTransferRetry_good {F : Flash} (i : Fin 8) (s : State) (h : s.sound F) :
    (execTransferRetry i s).good F := by
  unfold execTransferRetry
  simp (maxDischargeDepth := 60) (maxSteps := 30000) +contextual only [State.xferOn_sound, Res.good_next, Res.good_ite, State.sound_ite, State.sound_mk, soundCore_self, soundCore_flash, Flash.sameFactory_self, if_true_left, if_true_right, ite_self, implies_true, *]
theorem execLoopStable_good {F : Flash} (i : Fin 8) (s : State) (h : s.sound F) :
    (execLoopStable i s).good F := by
  unfold execLoopStable
  simp (maxDischargeDepth := 60) (maxSteps := 30000) +contextual only [State.setFld_sound, State.setBit_sound, State.setIsl_sound, State.loopReset_sound, Res.good_next, Res.good_ite, State.sound_ite, State.sound_mk, soundCore_self, soundCore_flash, Flash.sameFactory_self, if_true_left, if_true_right, ite_self, implies_true, *]
theorem execRungClimb_good {F : Flash} (i : Fin 8) (s : State) (h : s.sound F) :
    (execRungClimb i s).good F := by
  unfold execRungClimb
  simp (maxDischargeDepth := 60) (maxSteps := 30000) +contextual only [State.setIsl_sound, Res.good_next, Res.good_ite, State.sound_ite, State.sound_mk, soundCore_self, soundCore_flash, Flash.sameFactory_self, if_true_left, if_true_right, ite_self, implies_true, *]
theorem execRungDescent_good {F : Flash} (i : Fin 8) (rung : Nat) (reservoir : Bool) (s : State) (h : s.sound F) :
    (execRungDescent i rung reservoir s).good F := by
  unfold execRungDescent
  repeat' (first
    | (intro x; first
        | (have hx : State.sound F x := by
            simp only [x]
            repeat' (first
              | (simp (maxDischargeDepth := 60) (maxSteps := 30000) +contextual only [State.setIsl_sound, Res.good_next, Res.good_ite, State.sound_ite, State.sound_mk, soundCore_self, soundCore_flash, Flash.sameFactory_self, if_true_left, if_true_right, ite_self, implies_true, *]; done)
              | split
              | (refine State.foldl_sound _ _ ?_ ?_ <;> intros)
              | (refine State.when_sound _ _ ?_ ?_ <;> intros))
           clear_value x)
        | (have hx : State.sound F x.2 := by
            simp only [x]
            repeat' (first
              | (simp (maxDischargeDepth := 60) (maxSteps := 30000) +contextual only [State.setIsl_sound, Res.good_next, Res.good_ite, State.sound_ite, State.sound_mk, soundCore_self, soundCore_flash, Flash.sameFactory_self, if_true_left, if_true_right, ite_self, implies_true, *]; done)
              | split
              | (refine State.foldl_sound _ _ ?_ ?_ <;> intros)
              | (refine State.when_sound _ _ ?_ ?_ <;> intros))
           clear_value x)
        | (have hx : State.sound F x.1 := by
            simp only [x]
            repeat' (first
              | (simp (maxDischargeDepth := 60) (maxSteps := 30000) +contextual only [State.setIsl_sound, Res.good_next, Res.good_ite, State.sound_ite, State.sound_mk, soundCore_self, soundCore_flash, Flash.sameFactory_self, if_true_left, if_true_right, ite_self, implies_true, *]; done)
              | split
              | (refine State.foldl_sound _ _ ?_ ?_ <;> intros)
              | (refine State.when_sound _ _ ?_ ?_ <;> intros))
           clear_value x)
        | clear_value x
        | skip)
    | lift_lets
    | (simp (maxDischargeDepth := 60) (maxSteps := 30000) +contextual only [State.setIsl_sound, Res.good_next, Res.good_ite, State.sound_ite, State.sound_mk, soundCore_self, soundCore_flash, Flash.sameFactory_self, if_true_left, if_true_right, ite_self, implies_true, *]; done)
    | split
    | (refine State.foldl_sound _ _ ?_ ?_ <;> intros)
    | (refine State.when_sound _ _ ?_ ?_ <;> intros)
    | (refine (Res.good_next _).mpr (State.imageCommand_sound _ _ _ _ _ _ _ _ h fun j s hs => ?_))
    | (refine (Res.good_next _).mpr (State.command_sound _ _ _ _ _ _ _ h fun j s hs => ?_))
    | (dsimp only; split)
    | dsimp only)
theorem execRungTakeEffect_good {F : Flash} (i : Fin 8) (s : State) (h : s.sound F) :
    (execRungTakeEffect i s).good F := by
  unfold execRungTakeEffect
  simp (maxDischargeDepth := 60) (maxSteps := 30000) +contextual only [State.setFld_sound, State.bumpFld_sound, State.fire_sound, State.setIsl_sound, State.loopReset_sound, Res.good_next, Res.good_ite, State.sound_ite, State.sound_mk, soundCore_self, soundCore_flash, Flash.sameFactory_self, if_true_left, if_true_right, ite_self, implies_true, *]
theorem execBrownOutStop_good {F : Flash} (i : Fin 8) (s : State) (h : s.sound F) :
    (execBrownOutStop i s).good F := by
  unfold execBrownOutStop
  simp (maxDischargeDepth := 60) (maxSteps := 30000) +contextual only [State.setIsl_sound, Res.good_next, Res.good_ite, State.sound_ite, State.sound_mk, soundCore_self, soundCore_flash, Flash.sameFactory_self, if_true_left, if_true_right, ite_self, implies_true, *]
theorem execIslandRestart_good {F : Flash} (i : Fin 8) (s : State) (h : s.sound F) :
    (execIslandRestart i s).good F := by
  unfold execIslandRestart
  simp (maxDischargeDepth := 60) (maxSteps := 30000) +contextual only [State.setFld_sound, State.setIsl_sound, Res.good_next, Res.good_ite, State.sound_ite, State.sound_mk, soundCore_self, soundCore_flash, Flash.sameFactory_self, if_true_left, if_true_right, ite_self, implies_true, *]
theorem execInputFilterChange_good {F : Flash} (c : Fin 32) (st : Nat) (s : State) (h : s.sound F) :
    (execInputFilterChange c st s).good F := by
  unfold execInputFilterChange
  simp (maxDischargeDepth := 60) (maxSteps := 30000) +contextual only [State.setCell_sound, Res.good_next, Res.good_ite, State.sound_ite, State.sound_mk, soundCore_self, soundCore_flash, Flash.sameFactory_self, if_true_left, if_true_right, ite_self, implies_true, *]
theorem execChatterBin_good {F : Flash} (c : Fin 32) (s : State) (h : s.sound F) :
    (execChatterBin c s).good F := by
  unfold execChatterBin
  simp (maxDischargeDepth := 60) (maxSteps := 30000) +contextual only [State.setChan_sound, State.chatterEval_sound, Res.good_next, Res.good_ite, State.sound_ite, State.sound_mk, soundCore_self, soundCore_flash, Flash.sameFactory_self, if_true_left, if_true_right, ite_self, implies_true, *]
theorem execDiagSet_good {F : Flash} (c : Fin 32) (d : Nat) (again : Bool) (s : State) (h : s.sound F) :
    (execDiagSet c d again s).good F := by
  unfold execDiagSet
  simp (maxDischargeDepth := 60) (maxSteps := 30000) +contextual only [State.setCell_sound, Res.good_next, Res.good_ite, State.sound_ite, State.sound_mk, soundCore_self, soundCore_flash, Flash.sameFactory_self, if_true_left, if_true_right, ite_self, implies_true, *]
theorem execDiagClear_good {F : Flash} (c : Fin 32) (d : Nat) (s : State) (h : s.sound F) :
    (execDiagClear c d s).good F := by
  unfold execDiagClear
  simp (maxDischargeDepth := 60) (maxSteps := 30000) +contextual only [State.setCell_sound, Res.good_next, Res.good_ite, State.sound_ite, State.sound_mk, soundCore_self, soundCore_flash, Flash.sameFactory_self, if_true_left, if_true_right, ite_self, implies_true, *]
theorem execInrushEnd_good {F : Flash} (c : Fin 32) (s : State) (h : s.sound F) :
    (execInrushEnd c s).good F := by
  unfold execInrushEnd
  simp (maxDischargeDepth := 60) (maxSteps := 30000) +contextual only [State.setCell_sound, Res.good_next, Res.good_ite, State.sound_ite, State.sound_mk, soundCore_self, soundCore_flash, Flash.sameFactory_self, if_true_left, if_true_right, ite_self, implies_true, *]
theorem execFaultAutoRetry_good {F : Flash} (c : Fin 32) (s : State) (h : s.sound F) :
    (execFaultAutoRetry c s).good F := by
  unfold execFaultAutoRetry
  simp (maxDischargeDepth := 60) (maxSteps := 30000) +contextual only [State.setCell_sound, State.release_sound, Res.good_next, Res.good_ite, State.sound_ite, State.sound_mk, soundCore_self, soundCore_flash, Flash.sameFactory_self, if_true_left, if_true_right, ite_self, implies_true, *]
theorem execIslandOvercurrent_good {F : Flash} (i : Fin 8) (again : Bool) (s : State) (h : s.sound F) :
    (execIslandOvercurrent i again s).good F := by
  unfold execIslandOvercurrent
  simp (maxDischargeDepth := 60) (maxSteps := 30000) +contextual only [State.setCell_sound, State.foldl_sound, Res.good_next, Res.good_ite, State.sound_ite, State.sound_mk, soundCore_self, soundCore_flash, Flash.sameFactory_self, if_true_left, if_true_right, ite_self, implies_true, *]
theorem execSupplyLimitOff_good {F : Flash} (c : Fin 32) (s : State) (h : s.sound F) :
    (execSupplyLimitOff c s).good F := by
  unfold execSupplyLimitOff
  simp (maxDischargeDepth := 60) (maxSteps := 30000) +contextual only [State.setCell_sound, Res.good_next, Res.good_ite, State.sound_ite, State.sound_mk, soundCore_self, soundCore_flash, Flash.sameFactory_self, if_true_left, if_true_right, ite_self, implies_true, *]
theorem execSupplyRetry_good {F : Flash} (c : Fin 32) (held : Bool) (s : State) (h : s.sound F) :
    (execSupplyRetry c held s).good F := by
  unfold execSupplyRetry
  simp (maxDischargeDepth := 60) (maxSteps := 30000) +contextual only [State.setCell_sound, Res.good_next, Res.good_ite, State.sound_ite, State.sound_mk, soundCore_self, soundCore_flash, Flash.sameFactory_self, if_true_left, if_true_right, ite_self, implies_true, *]
theorem execTestPulseStart_good {F : Flash} (c : Fin 32) (s : State) (h : s.sound F) :
    (execTestPulseStart c s).good F := by
  unfold execTestPulseStart
  simp (maxDischargeDepth := 60) (maxSteps := 30000) +contextual only [State.setCell_sound, Res.good_next, Res.good_ite, State.sound_ite, State.sound_mk, soundCore_self, soundCore_flash, Flash.sameFactory_self, if_true_left, if_true_right, ite_self, implies_true, *]
theorem execTestPulseEnd_good {F : Flash} (c : Fin 32) (pass again : Bool) (s : State) (h : s.sound F) :
    (execTestPulseEnd c pass again s).good F := by
  unfold execTestPulseEnd
  simp (maxDischargeDepth := 60) (maxSteps := 30000) +contextual only [State.setCell_sound, Res.good_next, Res.good_ite, State.sound_ite, State.sound_mk, soundCore_self, soundCore_flash, Flash.sameFactory_self, if_true_left, if_true_right, ite_self, implies_true, *]
theorem execSupplyTestPulse_good {F : Flash} (c : Fin 32) (raw : Bool) (s : State) (h : s.sound F) :
    (execSupplyTestPulse c raw s).good F := by
  unfold execSupplyTestPulse
  simp (maxDischargeDepth := 60) (maxSteps := 30000) +contextual only [State.setCell_sound, Res.good_next, Res.good_ite, State.sound_ite, State.sound_mk, soundCore_self, soundCore_flash, Flash.sameFactory_self, if_true_left, if_true_right, ite_self, implies_true, *]
theorem execSupplyTestPulseEnd_good {F : Flash} (c : Fin 32) (fell : Bool) (s : State) (h : s.sound F) :
    (execSupplyTestPulseEnd c fell s).good F := by
  unfold execSupplyTestPulseEnd
  simp (maxDischargeDepth := 60) (maxSteps := 30000) +contextual only [State.setCell_sound, Res.good_next, Res.good_ite, State.sound_ite, State.sound_mk, soundCore_self, soundCore_flash, Flash.sameFactory_self, if_true_left, if_true_right, ite_self, implies_true, *]
theorem execInputSwitchOpen_good {F : Flash} (c : Fin 32) (s : State) (h : s.sound F) :
    (execInputSwitchOpen c s).good F := by
  unfold execInputSwitchOpen
  simp (maxDischargeDepth := 60) (maxSteps := 30000) +contextual only [State.setCell_sound, Res.good_next, Res.good_ite, State.sound_ite, State.sound_mk, soundCore_self, soundCore_flash, Flash.sameFactory_self, if_true_left, if_true_right, ite_self, implies_true, *]
theorem execInputSwitchRetry_good {F : Flash} (c : Fin 32) (s : State) (h : s.sound F) :
    (execInputSwitchRetry c s).good F := by
  unfold execInputSwitchRetry
  simp (maxDischargeDepth := 60) (maxSteps := 30000) +contextual only [State.setCell_sound, Res.good_next, Res.good_ite, State.sound_ite, State.sound_mk, soundCore_self, soundCore_flash, Flash.sameFactory_self, if_true_left, if_true_right, ite_self, implies_true, *]

end Sys2Proof.Machine
end

