-- ==== Sys2Proof/Laws/Good/Kernel.lean ====
section
/-!
SUPPORT. Each command of Machine/Kernel.lean answers a next state, and keeps a sound state sound.
-/
namespace Sys2Proof.Machine
set_option linter.unusedSimpArgs false
set_option linter.unusedTactic false
set_option linter.unreachableTactic false
set_option linter.unusedVariables false

theorem execKernelCycle_good {F : Flash} (isB safen : Bool) (fault : Nat) (s : State) (h : s.sound F) :
    (execKernelCycle isB safen fault s).good F := by
  unfold execKernelCycle
  repeat' (first
    | (intro x; first
        | (have hx : State.sound F x := by
            simp only [x]
            repeat' (first
              | (simp (maxDischargeDepth := 60) (maxSteps := 30000) +contextual only [State.setBit_sound, State.setSaf_sound, State.kernelFault_sound, State.fnCycle_sound, State.restartCycle_sound, State.safenCycle_sound, State.safenView_sound, State.compareCycle_sound, State.safMirror_sound, State.pairsNow_sound, State.foldl_sound, Res.good_next, Res.good_ite, State.sound_ite, State.sound_mk, soundCore_self, soundCore_flash, Flash.sameFactory_self, if_true_left, if_true_right, ite_self, implies_true, *]; done)
              | split
              | (refine State.foldl_sound _ _ ?_ ?_ <;> intros)
              | (refine State.when_sound _ _ ?_ ?_ <;> intros))
           clear_value x)
        | (have hx : State.sound F x.2 := by
            simp only [x]
            repeat' (first
              | (simp (maxDischargeDepth := 60) (maxSteps := 30000) +contextual only [State.setBit_sound, State.setSaf_sound, State.kernelFault_sound, State.fnCycle_sound, State.restartCycle_sound, State.safenCycle_sound, State.safenView_sound, State.compareCycle_sound, State.safMirror_sound, State.pairsNow_sound, State.foldl_sound, Res.good_next, Res.good_ite, State.sound_ite, State.sound_mk, soundCore_self, soundCore_flash, Flash.sameFactory_self, if_true_left, if_true_right, ite_self, implies_true, *]; done)
              | split
              | (refine State.foldl_sound _ _ ?_ ?_ <;> intros)
              | (refine State.when_sound _ _ ?_ ?_ <;> intros))
           clear_value x)
        | (have hx : State.sound F x.1 := by
            simp only [x]
            repeat' (first
              | (simp (maxDischargeDepth := 60) (maxSteps := 30000) +contextual only [State.setBit_sound, State.setSaf_sound, State.kernelFault_sound, State.fnCycle_sound, State.restartCycle_sound, State.safenCycle_sound, State.safenView_sound, State.compareCycle_sound, State.safMirror_sound, State.pairsNow_sound, State.foldl_sound, Res.good_next, Res.good_ite, State.sound_ite, State.sound_mk, soundCore_self, soundCore_flash, Flash.sameFactory_self, if_true_left, if_true_right, ite_self, implies_true, *]; done)
              | split
              | (refine State.foldl_sound _ _ ?_ ?_ <;> intros)
              | (refine State.when_sound _ _ ?_ ?_ <;> intros))
           clear_value x)
        | clear_value x
        | skip)
    | lift_lets
    | (simp (maxDischargeDepth := 60) (maxSteps := 30000) +contextual only [State.setBit_sound, State.setSaf_sound, State.kernelFault_sound, State.fnCycle_sound, State.restartCycle_sound, State.safenCycle_sound, State.safenView_sound, State.compareCycle_sound, State.safMirror_sound, State.pairsNow_sound, State.foldl_sound, Res.good_next, Res.good_ite, State.sound_ite, State.sound_mk, soundCore_self, soundCore_flash, Flash.sameFactory_self, if_true_left, if_true_right, ite_self, implies_true, *]; done)
    | split
    | (refine State.foldl_sound _ _ ?_ ?_ <;> intros)
    | (refine State.when_sound _ _ ?_ ?_ <;> intros)
    | (dsimp only; split)
    | dsimp only)
theorem execKernelSubframeIn_good {F : Flash} (isB : Bool) (i : Fin 8) (errLife errData errCrc : Nat) (s : State) (h : s.sound F) :
    (execKernelSubframeIn isB i errLife errData errCrc s).good F := by
  unfold execKernelSubframeIn
  repeat' (first | (simp (maxDischargeDepth := 60) (maxSteps := 30000) +contextual only [State.setIsl_sound, State.subframeIn_sound, Res.good_next, Res.good_ite, State.sound_ite, State.sound_mk, soundCore_self, soundCore_flash, Flash.sameFactory_self, if_true_left, if_true_right, ite_self, implies_true, *]; done) | split | (refine State.foldl_sound _ _ ?_ ?_ <;> intros) | (refine State.when_sound _ _ ?_ ?_ <;> intros))
theorem execKernelSubframeLoss_good {F : Flash} (isB : Bool) (i : Fin 8) (s : State) (h : s.sound F) :
    (execKernelSubframeLoss isB i s).good F := by
  unfold execKernelSubframeLoss
  repeat' (first
    | (intro x; first
        | (have hx : State.sound F x := by
            simp only [x]
            repeat' (first
              | (simp (maxDischargeDepth := 60) (maxSteps := 30000) +contextual only [State.setKern_sound, State.interlock_sound, State.publish_sound, State.foldl_sound, Res.good_next, Res.good_ite, State.sound_ite, State.sound_mk, soundCore_self, soundCore_flash, Flash.sameFactory_self, if_true_left, if_true_right, ite_self, implies_true, *]; done)
              | split
              | (refine State.foldl_sound _ _ ?_ ?_ <;> intros)
              | (refine State.when_sound _ _ ?_ ?_ <;> intros))
           clear_value x)
        | clear_value x
        | skip)
    | lift_lets
    | (simp (maxDischargeDepth := 60) (maxSteps := 30000) +contextual only [State.setKern_sound, State.interlock_sound, State.publish_sound, State.foldl_sound, Res.good_next, Res.good_ite, State.sound_ite, State.sound_mk, soundCore_self, soundCore_flash, Flash.sameFactory_self, if_true_left, if_true_right, ite_self, implies_true, *]; done)
    | split
    | (refine State.foldl_sound _ _ ?_ ?_ <;> intros)
    | (refine State.when_sound _ _ ?_ ?_ <;> intros)
    | (refine (Res.good_next _).mpr (State.imageCommand_sound _ _ _ _ _ _ _ _ h fun j s hs => ?_))
    | (refine (Res.good_next _).mpr (State.command_sound _ _ _ _ _ _ _ h fun j s hs => ?_))
    | (dsimp only; split)
    | dsimp only)
theorem execInputConfirm_good {F : Flash} (isB : Bool) (f : Fin 16) (j : Fin 4) (s : State) (h : s.sound F) :
    (execInputConfirm isB f j s).good F := by
  unfold execInputConfirm
  repeat' (first | (simp (maxDischargeDepth := 60) (maxSteps := 30000) +contextual only [State.setKern_sound, Res.good_next, Res.good_ite, State.sound_ite, State.sound_mk, soundCore_self, soundCore_flash, Flash.sameFactory_self, if_true_left, if_true_right, ite_self, implies_true, *]; done) | split)
theorem execDiscrepancyTimeout_good {F : Flash} (isB : Bool) (f : Fin 16) (s : State) (h : s.sound F) :
    (execDiscrepancyTimeout isB f s).good F := by
  unfold execDiscrepancyTimeout
  repeat' (first | (simp (maxDischargeDepth := 60) (maxSteps := 30000) +contextual only [State.fnGo_sound, State.pairsNow_sound, Res.good_next, Res.good_ite, State.sound_ite, State.sound_mk, soundCore_self, soundCore_flash, Flash.sameFactory_self, if_true_left, if_true_right, ite_self, implies_true, *]; done) | split)
theorem execTwoHandSyncTimeout_good {F : Flash} (isB : Bool) (f : Fin 16) (s : State) (h : s.sound F) :
    (execTwoHandSyncTimeout isB f s).good F := by
  unfold execTwoHandSyncTimeout
  simp (maxDischargeDepth := 60) (maxSteps := 30000) +contextual only [State.fnGo_sound, Res.good_next, Res.good_ite, State.sound_ite, State.sound_mk, soundCore_self, soundCore_flash, Flash.sameFactory_self, if_true_left, if_true_right, ite_self, implies_true, *]
theorem execSs1DelayEnd_good {F : Flash} (isB : Bool) (p : Fin 8) (s : State) (h : s.sound F) :
    (execSs1DelayEnd isB p s).good F := by
  unfold execSs1DelayEnd
  simp (maxDischargeDepth := 60) (maxSteps := 30000) +contextual only [State.pairGo_sound, State.publish_sound, Res.good_next, Res.good_ite, State.sound_ite, State.sound_mk, soundCore_self, soundCore_flash, Flash.sameFactory_self, if_true_left, if_true_right, ite_self, implies_true, *]
theorem execPairTestRequest_good {F : Flash} (isB : Bool) (p : Fin 8) (s : State) (h : s.sound F) :
    (execPairTestRequest isB p s).good F := by
  unfold execPairTestRequest
  repeat' (first | (simp (maxDischargeDepth := 60) (maxSteps := 30000) +contextual only [State.setKern_sound, Res.good_next, Res.good_ite, State.sound_ite, State.sound_mk, soundCore_self, soundCore_flash, Flash.sameFactory_self, if_true_left, if_true_right, ite_self, implies_true, *]; done) | split)
theorem execSafenReassert_good {F : Flash} (isB : Bool) (s : State) (h : s.sound F) :
    (execSafenReassert isB s).good F := by
  unfold execSafenReassert
  simp (maxDischargeDepth := 60) (maxSteps := 30000) +contextual only [State.setKern_sound, State.safenView_sound, Res.good_next, Res.good_ite, State.sound_ite, State.sound_mk, soundCore_self, soundCore_flash, Flash.sameFactory_self, if_true_left, if_true_right, ite_self, implies_true, *]
theorem execRestartAck_good {F : Flash} (p : Port) (s : State) (h : s.sound F) :
    (execRestartAck p s).good F := by
  unfold execRestartAck
  simp (maxDischargeDepth := 60) (maxSteps := 30000) +contextual only [State.finish_sound, State.command_sound, State.ackAll_sound, Res.good_next, Res.good_ite, State.sound_ite, State.sound_mk, soundCore_self, soundCore_flash, Flash.sameFactory_self, if_true_left, if_true_right, ite_self, implies_true, *]

end Sys2Proof.Machine
end

