-- ==== Sys2Proof/Laws/Good/Watchdog.lean ====
section
/-!
SUPPORT. Each command of Machine/Watchdog.lean answers a next state, and keeps a sound state sound.
-/
namespace Sys2Proof.Machine
set_option linter.unusedSimpArgs false
set_option linter.unusedTactic false
set_option linter.unreachableTactic false
set_option linter.unusedVariables false

theorem execWdgWindowOpen_good {F : Flash} (s : State) (h : s.sound F) :
    (execWdgWindowOpen s).good F := by
  unfold execWdgWindowOpen
  simp (maxDischargeDepth := 60) (maxSteps := 30000) +contextual only [State.setBit_sound, Res.good_next, Res.good_ite, State.sound_ite, State.sound_mk, soundCore_self, soundCore_flash, Flash.sameFactory_self, if_true_left, if_true_right, ite_self, implies_true, *]
theorem execWdgWindowClose_good {F : Flash} (s : State) (h : s.sound F) :
    (execWdgWindowClose s).good F := by
  unfold execWdgWindowClose
  simp (maxDischargeDepth := 60) (maxSteps := 30000) +contextual only [State.wdgBootEnd_sound, State.wdgFault_sound, Res.good_next, Res.good_ite, State.sound_ite, State.sound_mk, soundCore_self, soundCore_flash, Flash.sameFactory_self, if_true_left, if_true_right, ite_self, implies_true, *]
theorem execWdgClockTrip_good {F : Flash} (wosc : Bool) (s : State) (h : s.sound F) :
    (execWdgClockTrip wosc s).good F := by
  unfold execWdgClockTrip
  simp (maxDischargeDepth := 60) (maxSteps := 30000) +contextual only [State.setBit_sound, State.fire_sound, State.logRec_sound, State.wdgFaultTo_sound, Res.good_next, Res.good_ite, State.sound_ite, State.sound_mk, soundCore_self, soundCore_flash, Flash.sameFactory_self, if_true_left, if_true_right, ite_self, implies_true, *]

end Sys2Proof.Machine
end

