-- ==== Sys2Proof/Laws/Good/Sluice.lean ====
section
/-!
SUPPORT. Each command of Machine/Sluice.lean answers a next state, and keeps a sound state sound.
-/
namespace Sys2Proof.Machine
set_option linter.unusedSimpArgs false
set_option linter.unusedTactic false
set_option linter.unreachableTactic false
set_option linter.unusedVariables false

theorem execRecordRelease_good {F : Flash} (l : Fin 8) (s : State) (h : s.sound F) :
    (execRecordRelease l s).good F := by
  unfold execRecordRelease
  repeat' (first | (simp (maxDischargeDepth := 60) (maxSteps := 30000) +contextual only [State.setStream_sound, State.slcMark_sound, State.slcEval_sound, State.release_sound, Res.good_next, Res.good_ite, State.sound_ite, State.sound_mk, soundCore_self, soundCore_flash, Flash.sameFactory_self, if_true_left, if_true_right, ite_self, implies_true, *]; done) | split | (refine State.foldl_sound _ _ ?_ ?_ <;> intros) | (refine State.when_sound _ _ ?_ ?_ <;> intros))
theorem execWeirCheck_good {F : Flash} (s : State) (h : s.sound F) :
    (execWeirCheck s).good F := by
  unfold execWeirCheck
  simp (maxDischargeDepth := 60) (maxSteps := 30000) +contextual only [State.setBit_sound, State.fire_sound, State.foldl_sound, Res.good_next, Res.good_ite, State.sound_ite, State.sound_mk, soundCore_self, soundCore_flash, Flash.sameFactory_self, if_true_left, if_true_right, ite_self, implies_true, *]
theorem execSlcFlushTimeout_good {F : Flash} (k : Fin 8) (s : State) (h : s.sound F) :
    (execSlcFlushTimeout k s).good F := by
  unfold execSlcFlushTimeout
  simp (maxDischargeDepth := 60) (maxSteps := 30000) +contextual only [State.slcFlush_sound, Res.good_next, Res.good_ite, State.sound_ite, State.sound_mk, soundCore_self, soundCore_flash, Flash.sameFactory_self, if_true_left, if_true_right, ite_self, implies_true, *]
theorem execTenureRequest_good {F : Flash} (s : State) (h : s.sound F) :
    (execTenureRequest s).good F := by
  unfold execTenureRequest
  simp (maxDischargeDepth := 60) (maxSteps := 30000) +contextual only [State.setTen_sound, Res.good_next, Res.good_ite, State.sound_ite, State.sound_mk, soundCore_self, soundCore_flash, Flash.sameFactory_self, if_true_left, if_true_right, ite_self, implies_true, *]
theorem execBusGrant_good {F : Flash} (s : State) (h : s.sound F) :
    (execBusGrant s).good F := by
  unfold execBusGrant
  simp (maxDischargeDepth := 60) (maxSteps := 30000) +contextual only [State.setTen_sound, Res.good_next, Res.good_ite, State.sound_ite, State.sound_mk, soundCore_self, soundCore_flash, Flash.sameFactory_self, if_true_left, if_true_right, ite_self, implies_true, *]
theorem execTenureStart_good {F : Flash} (s : State) (h : s.sound F) :
    (execTenureStart s).good F := by
  unfold execTenureStart
  repeat' (first | (simp (maxDischargeDepth := 60) (maxSteps := 30000) +contextual only [State.setTen_sound, Res.good_next, Res.good_ite, State.sound_ite, State.sound_mk, soundCore_self, soundCore_flash, Flash.sameFactory_self, if_true_left, if_true_right, ite_self, implies_true, *]; done) | split | (refine State.foldl_sound _ _ ?_ ?_ <;> intros) | (refine State.when_sound _ _ ?_ ?_ <;> intros))
theorem execMasterCycleDone_good {F : Flash} (data : Word) (ue : Bool) (s : State) (h : s.sound F) :
    (execMasterCycleDone data ue s).good F := by
  unfold execMasterCycleDone
  repeat' (first
    | (intro x; first
        | (have hx : State.sound F x := by
            simp only [x]
            repeat' (first
              | (simp (maxDischargeDepth := 60) (maxSteps := 30000) +contextual only [State.setStream_sound, State.slcMark_sound, State.setTen_sound, State.slcReturned_sound, State.slcOpen_sound, State.slcWrite_sound, Res.good_next, Res.good_ite, State.sound_ite, State.sound_mk, soundCore_self, soundCore_flash, Flash.sameFactory_self, if_true_left, if_true_right, ite_self, implies_true, *]; done)
              | split
              | (refine State.foldl_sound _ _ ?_ ?_ <;> intros)
              | (refine State.when_sound _ _ ?_ ?_ <;> intros))
           clear_value x)
        | (have hx : State.sound F x.2 := by
            simp only [x]
            repeat' (first
              | (simp (maxDischargeDepth := 60) (maxSteps := 30000) +contextual only [State.setStream_sound, State.slcMark_sound, State.setTen_sound, State.slcReturned_sound, State.slcOpen_sound, State.slcWrite_sound, Res.good_next, Res.good_ite, State.sound_ite, State.sound_mk, soundCore_self, soundCore_flash, Flash.sameFactory_self, if_true_left, if_true_right, ite_self, implies_true, *]; done)
              | split
              | (refine State.foldl_sound _ _ ?_ ?_ <;> intros)
              | (refine State.when_sound _ _ ?_ ?_ <;> intros))
           clear_value x)
        | (have hx : State.sound F x.1 := by
            simp only [x]
            repeat' (first
              | (simp (maxDischargeDepth := 60) (maxSteps := 30000) +contextual only [State.setStream_sound, State.slcMark_sound, State.setTen_sound, State.slcReturned_sound, State.slcOpen_sound, State.slcWrite_sound, Res.good_next, Res.good_ite, State.sound_ite, State.sound_mk, soundCore_self, soundCore_flash, Flash.sameFactory_self, if_true_left, if_true_right, ite_self, implies_true, *]; done)
              | split
              | (refine State.foldl_sound _ _ ?_ ?_ <;> intros)
              | (refine State.when_sound _ _ ?_ ?_ <;> intros))
           clear_value x)
        | clear_value x
        | skip)
    | lift_lets
    | (simp (maxDischargeDepth := 60) (maxSteps := 30000) +contextual only [State.setStream_sound, State.slcMark_sound, State.setTen_sound, State.slcReturned_sound, State.slcOpen_sound, State.slcWrite_sound, Res.good_next, Res.good_ite, State.sound_ite, State.sound_mk, soundCore_self, soundCore_flash, Flash.sameFactory_self, if_true_left, if_true_right, ite_self, implies_true, *]; done)
    | split
    | (refine State.foldl_sound _ _ ?_ ?_ <;> intros)
    | (refine State.when_sound _ _ ?_ ?_ <;> intros)
    | (dsimp only; split)
    | dsimp only)
theorem execTenureEnd_good {F : Flash} (s : State) (h : s.sound F) :
    (execTenureEnd s).good F := by
  unfold execTenureEnd
  simp (maxDischargeDepth := 60) (maxSteps := 30000) +contextual only [State.tenureOver_sound, Res.good_next, Res.good_ite, State.sound_ite, State.sound_mk, soundCore_self, soundCore_flash, Flash.sameFactory_self, if_true_left, if_true_right, ite_self, implies_true, *]
theorem execGrantTimeout_good {F : Flash} (s : State) (h : s.sound F) :
    (execGrantTimeout s).good F := by
  unfold execGrantTimeout
  simp (maxDischargeDepth := 60) (maxSteps := 30000) +contextual only [State.bump_sound, State.fire_sound, State.tenureOver_sound, Res.good_next, Res.good_ite, State.sound_ite, State.sound_mk, soundCore_self, soundCore_flash, Flash.sameFactory_self, if_true_left, if_true_right, ite_self, implies_true, *]
theorem execMasterErrorTimeout_good {F : Flash} (s : State) (h : s.sound F) :
    (execMasterErrorTimeout s).good F := by
  unfold execMasterErrorTimeout
  simp (maxDischargeDepth := 60) (maxSteps := 30000) +contextual only [State.masterError_sound, Res.good_next, Res.good_ite, State.sound_ite, State.sound_mk, soundCore_self, soundCore_flash, Flash.sameFactory_self, if_true_left, if_true_right, ite_self, implies_true, *]
theorem execForeignBusBusy_good {F : Flash} (s : State) (h : s.sound F) :
    (execForeignBusBusy s).good F := by
  unfold execForeignBusBusy
  simp (maxDischargeDepth := 60) (maxSteps := 30000) +contextual only [State.masterError_sound, Res.good_next, Res.good_ite, State.sound_ite, State.sound_mk, soundCore_self, soundCore_flash, Flash.sameFactory_self, if_true_left, if_true_right, ite_self, implies_true, *]

end Sys2Proof.Machine
end

