-- ==== Sys2Proof/Laws/Good/Ring.lean ====
section
/-!
SUPPORT. Each command of Machine/Ring.lean answers a next state, and keeps a sound state sound.
-/
namespace Sys2Proof.Machine
set_option linter.unusedSimpArgs false
set_option linter.unusedTactic false
set_option linter.unreachableTactic false
set_option linter.unusedVariables false

theorem execRingLinkUp_good {F : Flash} (w miswired : Bool) (s : State) (h : s.sound F) :
    (execRingLinkUp w miswired s).good F := by
  unfold execRingLinkUp
  simp (maxDischargeDepth := 60) (maxSteps := 30000) +contextual only [State.setBit_sound, State.setRing_sound, State.linkEvent_sound, State.dlyStart_sound, Res.good_next, Res.good_ite, State.sound_ite, State.sound_mk, soundCore_self, soundCore_flash, Flash.sameFactory_self, if_true_left, if_true_right, ite_self, implies_true, *]
theorem execRingLinkDown_good {F : Flash} (w signal : Bool) (s : State) (h : s.sound F) :
    (execRingLinkDown w signal s).good F := by
  unfold execRingLinkDown
  simp (maxDischargeDepth := 60) (maxSteps := 30000) +contextual only [State.linkDown_sound, Res.good_next, Res.good_ite, State.sound_ite, State.sound_mk, soundCore_self, soundCore_flash, Flash.sameFactory_self, if_true_left, if_true_right, ite_self, implies_true, *]
theorem execPartnerRxFault_good {F : Flash} (w : Bool) (s : State) (h : s.sound F) :
    (execPartnerRxFault w s).good F := by
  unfold execPartnerRxFault
  simp (maxDischargeDepth := 60) (maxSteps := 30000) +contextual only [State.setBit_sound, State.setRing_sound, State.linkEvent_sound, Res.good_next, Res.good_ite, State.sound_ite, State.sound_mk, soundCore_self, soundCore_flash, Flash.sameFactory_self, if_true_left, if_true_right, ite_self, implies_true, *]
theorem execRingHopStable_good {F : Flash} (w : Bool) (s : State) (h : s.sound F) :
    (execRingHopStable w s).good F := by
  unfold execRingHopStable
  simp (maxDischargeDepth := 60) (maxSteps := 30000) +contextual only [State.setRing_sound, Res.good_next, Res.good_ite, State.sound_ite, State.sound_mk, soundCore_self, soundCore_flash, Flash.sameFactory_self, if_true_left, if_true_right, ite_self, implies_true, *]
theorem execRingCycleStart_good {F : Flash} (s : State) (h : s.sound F) :
    (execRingCycleStart s).good F := by
  unfold execRingCycleStart
  simp (maxDischargeDepth := 60) (maxSteps := 30000) +contextual only [State.cycleBegin_sound, State.cycleSend_sound, Res.good_next, Res.good_ite, State.sound_ite, State.sound_mk, soundCore_self, soundCore_flash, Flash.sameFactory_self, if_true_left, if_true_right, ite_self, implies_true, *]
theorem execRingCyc_good {F : Flash} (h : RHdr) (c : Cyc) (x : Rx) (resid : Nat) (foreign : Bool) (phaseErr : Int) (s : State) (hs : s.sound F) :
    (execRingCyc h c x resid foreign phaseErr s).good F := by
  unfold execRingCyc
  simp (maxDischargeDepth := 60) (maxSteps := 30000) +contextual only [State.sendOn_sound, State.ringOvf_sound, State.steer_sound, State.conflict_sound, State.nodeCyc_sound, State.headCyc_sound, Res.good_next, Res.good_ite, State.sound_ite, State.sound_mk, soundCore_self, soundCore_flash, Flash.sameFactory_self, if_true_left, if_true_right, ite_self, implies_true, *]
theorem execRingPd_good {F : Flash} (f : RingRx) (pd : PdRaw) (fin : REnd) (s : State) (hs : s.sound F) :
    (execRingPd f pd fin s).good F := by
  obtain ⟨h, x⟩ := f
  obtain ⟨lo, slots⟩ := pd
  unfold execRingPd
  simp (maxDischargeDepth := 60) (maxSteps := 30000) +contextual only [State.bump_sound, State.when_sound, State.setRing_sound, State.sendOn_sound, State.passing_sound, State.pdCommit_sound, State.fillSlot_sound, Res.good_next, Res.good_ite, State.sound_ite, State.sound_mk, soundCore_self, soundCore_flash, Flash.sameFactory_self, if_true_left, if_true_right, ite_self, implies_true, *]
theorem execRingEvt_good {F : Flash} (f : EvtRx) (s : State) (hs : s.sound F) :
    (execRingEvt f s).good F := by
  obtain ⟨h, next, cells, x⟩ := f
  unfold execRingEvt
  simp (maxDischargeDepth := 60) (maxSteps := 30000) +contextual only [State.setRing_sound, State.sendOn_sound, State.passing_sound, Res.good_next, Res.good_ite, State.sound_ite, State.sound_mk, soundCore_self, soundCore_flash, Flash.sameFactory_self, if_true_left, if_true_right, ite_self, implies_true, *]
theorem execRingEmpty_good {F : Flash} (f : RingRx) (s : State) (hs : s.sound F) : (execRingEmpty f s).good F := by
  obtain ⟨h, x⟩ := f
  refine (Res.good_next _).mpr (State.ite_sound (fun _ => hs) fun _ => State.passing_sound _ _ _ _ hs fun s hs => ?_)
  dsimp only
  repeat' (first
    | with_reducible exact State.sendOn_sound _ _ _ _ hs
    | with_reducible exact State.sendOn_sound _ _ _ _ (State.setRing_sound _ _ (State.mailGone_sound _ _ hs))
    | with_reducible exact State.sendOn_sound _ _ _ _ (State.setRing_sound _ _ (State.bulkTake_sound _ hs))
    | split)
theorem execRingSyncFrame_good {F : Flash} (f : RingRx) (m : SyncAt) (groups seq : Nat) (s : State) (hs : s.sound F) :
    (execRingSyncFrame f m groups seq s).good F := by
  obtain ⟨h, x⟩ := f
  obtain ⟨mark, edge⟩ := m
  unfold execRingSyncFrame
  simp (maxDischargeDepth := 60) (maxSteps := 30000) +contextual only [State.setFld_sound, State.setRing_sound, State.sendOn_sound, State.passing_sound, Res.good_next, Res.good_ite, State.sound_ite, State.sound_mk, soundCore_self, soundCore_flash, Flash.sameFactory_self, if_true_left, if_true_right, ite_self, implies_true, *]
theorem execSyncEdge_good {F : Flash} (s : State) (h : s.sound F) :
    (execSyncEdge s).good F := by
  unfold execSyncEdge
  repeat' (first | (simp (maxDischargeDepth := 60) (maxSteps := 30000) +contextual only [State.channelReset_sound, State.syncEnd_sound, State.foldl_sound, Res.good_next, Res.good_ite, State.sound_ite, State.sound_mk, soundCore_self, soundCore_flash, Flash.sameFactory_self, if_true_left, if_true_right, ite_self, implies_true, *]; done) | split)
theorem execRingEnum_good {F : Flash} (f : RingRx) (firstPos next : Nat) (es : List EnumEntry) (foreign : Bool) (s : State) (hs : s.sound F) :
    (execRingEnum f firstPos next es foreign s).good F := by
  obtain ⟨h, x⟩ := f
  unfold execRingEnum
  simp (maxDischargeDepth := 60) (maxSteps := 30000) +contextual only [State.setFld_sound, State.when_sound, State.setRing_sound, State.sendOn_sound, State.conflict_sound, State.passing_sound, Res.good_next, Res.good_ite, State.sound_ite, State.sound_mk, soundCore_self, soundCore_flash, Flash.sameFactory_self, if_true_left, if_true_right, ite_self, implies_true, *]
theorem execRingDly_good {F : Flash} (w answer : Bool) (exch turn roundTrip : Nat) (s : State) (h : s.sound F) :
    (execRingDly w answer exch turn roundTrip s).good F := by
  unfold execRingDly
  simp (maxDischargeDepth := 60) (maxSteps := 30000) +contextual only [State.sendFrames_sound, State.dlyNext_sound, Res.good_next, Res.good_ite, State.sound_ite, State.sound_mk, soundCore_self, soundCore_flash, Flash.sameFactory_self, if_true_left, if_true_right, ite_self, implies_true, *]
theorem execRingDlyTimeout_good {F : Flash} (w : Bool) (s : State) (h : s.sound F) :
    (execRingDlyTimeout w s).good F := by
  unfold execRingDlyTimeout
  simp (maxDischargeDepth := 60) (maxSteps := 30000) +contextual only [State.dlyAsk_sound, State.setDly_sound, State.dlyNext_sound, Res.good_next, Res.good_ite, State.sound_ite, State.sound_mk, soundCore_self, soundCore_flash, Flash.sameFactory_self, if_true_left, if_true_right, ite_self, implies_true, *]
theorem execRingDelayMeasure_good {F : Flash} (w : Bool) (s : State) (h : s.sound F) :
    (execRingDelayMeasure w s).good F := by
  unfold execRingDelayMeasure
  simp (maxDischargeDepth := 60) (maxSteps := 30000) +contextual only [State.dlyStart_sound, Res.good_next, Res.good_ite, State.sound_ite, State.sound_mk, soundCore_self, soundCore_flash, Flash.sameFactory_self, if_true_left, if_true_right, ite_self, implies_true, *]
theorem execRingBadFrame_good {F : Flash} (w : Bool) (f : BadFrame) (s : State) (h : s.sound F) :
    (execRingBadFrame w f s).good F := by
  obtain ⟨ebad, bs⟩ := f
  unfold execRingBadFrame
  simp (maxDischargeDepth := 60) (maxSteps := 30000) +contextual only [State.bump_sound, State.when_sound, State.sendOn_sound, Res.good_next, Res.good_ite, State.sound_ite, State.sound_mk, soundCore_self, soundCore_flash, Flash.sameFactory_self, if_true_left, if_true_right, ite_self, implies_true, *]
theorem execRingPdReturn_good {F : Flash} (slots : Bytes) (fin : REnd) (s : State) (h : s.sound F) :
    (execRingPdReturn slots fin s).good F := by
  unfold execRingPdReturn
  repeat' (first | (simp (maxDischargeDepth := 60) (maxSteps := 30000) +contextual only [State.bump_sound, State.when_sound, State.fire_sound, State.mirrorSlot_sound, State.syncTally_sound, State.foldl_sound, Res.good_next, Res.good_ite, State.sound_ite, State.sound_mk, soundCore_self, soundCore_flash, Flash.sameFactory_self, if_true_left, if_true_right, ite_self, implies_true, *]; done) | split | (refine State.foldl_sound _ _ ?_ ?_ <;> intros) | (refine State.when_sound _ _ ?_ ?_ <;> intros))
theorem execRingEvtReturn_good {F : Flash} (cells : List EvtCell) (s : State) (h : s.sound F) :
    (execRingEvtReturn cells s).good F := by
  unfold execRingEvtReturn
  simp (maxDischargeDepth := 60) (maxSteps := 30000) +contextual only [State.fire_sound, State.mirrorCell_sound, State.foldl_sound, Res.good_next, Res.good_ite, State.sound_ite, State.sound_mk, soundCore_self, soundCore_flash, Flash.sameFactory_self, if_true_left, if_true_right, ite_self, implies_true, *]
theorem execRingEnumReturn_good {F : Flash} (next : Nat) (es : List EnumEntry) (s : State) (h : s.sound F) :
    (execRingEnumReturn next es s).good F := by
  unfold execRingEnumReturn
  simp (maxDischargeDepth := 60) (maxSteps := 30000) +contextual only [State.setFld_sound, State.setRing_sound, State.fire_sound, State.censusEnd_sound, State.foldl_sound, Res.good_next, Res.good_ite, State.sound_ite, State.sound_mk, soundCore_self, soundCore_flash, Flash.sameFactory_self, if_true_left, if_true_right, ite_self, implies_true, *]
theorem execMailAnswer_good {F : Flash} (r : MailIn) (s : State) (h : s.sound F) :
    (execMailAnswer r s).good F := by
  obtain ⟨m, x⟩ := r
  unfold execMailAnswer
  simp (maxDischargeDepth := 60) (maxSteps := 30000) +contextual only [State.ringOvf_sound, State.takeAnswer_sound, Res.good_next, Res.good_ite, State.sound_ite, State.sound_mk, soundCore_self, soundCore_flash, Flash.sameFactory_self, if_true_left, if_true_right, ite_self, implies_true, *]
theorem execRingMailTimeout_good {F : Flash} (tag : Nat) (kind : MailKind) (s : State) (h : s.sound F) :
    (execRingMailTimeout tag kind s).good F := by
  unfold execRingMailTimeout
  simp (maxDischargeDepth := 60) (maxSteps := 30000) +contextual only [State.takeAnswer_sound, Res.good_next, Res.good_ite, State.sound_ite, State.sound_mk, soundCore_self, soundCore_flash, Flash.sameFactory_self, if_true_left, if_true_right, ite_self, implies_true, *]
theorem execRingCarrierReturn_good {F : Flash} (h : RHdr) (p : RPay) (s : State) (hs : s.sound F) :
    (execRingCarrierReturn h p s).good F := by
  unfold execRingCarrierReturn
  repeat' (first | (simp (maxDischargeDepth := 60) (maxSteps := 30000) +contextual only [State.setRing_sound, State.answered_sound, State.unreachable_sound, Res.good_next, Res.good_ite, State.sound_ite, State.sound_mk, soundCore_self, soundCore_flash, Flash.sameFactory_self, if_true_left, if_true_right, ite_self, implies_true, *]; done) | split | (refine State.foldl_sound _ _ ?_ ?_ <;> intros) | (refine State.when_sound _ _ ?_ ?_ <;> intros))
theorem execRingHoldoverLapse_good {F : Flash} (s : State) (h : s.sound F) :
    (execRingHoldoverLapse s).good F := by
  unfold execRingHoldoverLapse
  simp (maxDischargeDepth := 60) (maxSteps := 30000) +contextual only [State.discLapse_sound, State.setBit_sound, Res.good_next, Res.good_ite, State.sound_ite, State.sound_mk, soundCore_self, soundCore_flash, Flash.sameFactory_self, if_true_left, if_true_right, ite_self, implies_true, *]
theorem execPdFrameLoss_good {F : Flash} (s : State) (h : s.sound F) :
    (execPdFrameLoss s).good F := by
  unfold execPdFrameLoss
  simp (maxDischargeDepth := 60) (maxSteps := 30000) +contextual only [State.setRing_sound, State.fire_sound, Res.good_next, Res.good_ite, State.sound_ite, State.sound_mk, soundCore_self, soundCore_flash, Flash.sameFactory_self, if_true_left, if_true_right, ite_self, implies_true, *]
theorem execSyncnFall_good {F : Flash} (err : Fin 7) (s : State) (h : s.sound F) :
    (execSyncnFall err s).good F := by
  unfold execSyncnFall
  simp (maxDischargeDepth := 60) (maxSteps := 30000) +contextual only [State.setTime_sound, State.fire_sound, Res.good_next, Res.good_ite, State.sound_ite, State.sound_mk, soundCore_self, soundCore_flash, Flash.sameFactory_self, if_true_left, if_true_right, ite_self, implies_true, *]
theorem execMailRead_good {F : Flash} (node tag addr count : Nat) (autoinc : Bool) (r : MailRx) (ecc : Option Nat) (s : State) (h : s.sound F) :
    (execMailRead node tag addr count autoinc r ecc s).good F := by
  obtain ⟨x, qfull⟩ := r
  unfold execMailRead
  dsimp -zeta only
  split
  · rename_i t e; exact (Res.good_next _).mpr (State.mailTurned_sound _ _ _ _ _ _ h t e)
  · dsimp only
    have hp := State.portWake_sound s 3 h
    generalize s.portWake 3 = u at hp ⊢
    repeat' (first
      | with_reducible exact (Res.good_next _).mpr (State.answerMail_sound _ _ _ _ _ _ _ _ hp)
      | with_reducible exact (Res.good_next _).mpr (State.answerMail_sound _ _ _ _ _ _ _ _ (State.eddyUe_sound _ _ _ (State.rdList_sound _ _ _ hp)))
      | with_reducible exact (Res.good_next _).mpr (State.answerMail_sound _ _ _ _ _ _ _ _ (State.rdList_sound _ _ _ hp))
      | split)
theorem execMailWrite_good {F : Flash} (node tag addr : Nat) (ws : List Word) (autoinc : Bool) (r : MailRx) (s : State) (h : s.sound F) :
    (execMailWrite node tag addr ws autoinc r s).good F := by
  obtain ⟨x, qfull⟩ := r
  unfold execMailWrite
  dsimp -zeta only
  split
  · rename_i t e; exact (Res.good_next _).mpr (State.mailTurned_sound _ _ _ _ _ _ h t e)
  · dsimp only
    have hp := State.portWake_sound s 3 h
    generalize s.portWake 3 = u at hp ⊢
    repeat' (first
      | with_reducible exact (Res.good_next _).mpr (State.answerMail_sound _ _ _ _ _ _ _ _ hp)
      | with_reducible exact (Res.good_next _).mpr (State.answerMail_sound _ _ _ _ _ _ _ _ (State.wrList_sound _ _ _ hp))
      | split)
theorem execMailMailbox_good {F : Flash} (node tag : Nat) (ws : List Word) (r : MailRx) (s : State) (h : s.sound F) :
    (execMailMailbox node tag ws r s).good F := by
  obtain ⟨x, qfull⟩ := r
  unfold execMailMailbox
  dsimp -zeta only
  split
  · rename_i t e; exact (Res.good_next _).mpr (State.mailTurned_sound _ _ _ _ _ _ h t e)
  · dsimp only
    have hp := State.portWake_sound s 3 h
    generalize s.portWake 3 = u at hp ⊢
    repeat' (first
      | with_reducible exact (Res.good_next _).mpr (State.answerMail_sound _ _ _ _ _ _ _ _ hp)
      | with_reducible exact (Res.good_next _).mpr (State.answerMail_sound _ _ _ _ _ _ _ _ (State.deficit_sound _ _ hp))
      | with_reducible exact (Res.good_next _).mpr (State.answerMail_sound _ _ _ _ _ _ _ _ (State.deficit_sound _ _ (State.setMbx_sound _ _ _ hp)))
      | split)
    all_goals exact (Res.good_next _).mpr (State.submit_sound _ _ _ _ (State.setRing_sound _ _ (State.setMbx_sound _ _ _ hp)))
theorem execMbxRingPending_good {F : Flash} (node : Nat) (s : State) (h : s.sound F) :
    (execMbxRingPending node s).good F := by
  unfold execMbxRingPending
  simp (maxDischargeDepth := 60) (maxSteps := 30000) +contextual only [State.ringMbxAnswer_sound, Res.good_next, Res.good_ite, State.sound_ite, State.sound_mk, soundCore_self, soundCore_flash, Flash.sameFactory_self, if_true_left, if_true_right, ite_self, implies_true, *]
theorem execMbxResultSlotExpire_good {F : Flash} (node : Nat) (s : State) (h : s.sound F) :
    (execMbxResultSlotExpire node s).good F := by
  unfold execMbxResultSlotExpire
  simp (maxDischargeDepth := 60) (maxSteps := 30000) +contextual only [Res.good_next, Res.good_ite, State.sound_ite, State.sound_mk, soundCore_self, soundCore_flash, Flash.sameFactory_self, if_true_left, if_true_right, ite_self, implies_true, *]
theorem execBulkOpen_good {F : Flash} (node tag session dir rsv2 : Nat) (z : BulkSpan) (rsvD : Nat) (r : MailRx) (s : State) (h : s.sound F) :
    (execBulkOpen node tag session dir rsv2 z rsvD r s).good F := by
  obtain ⟨src, dst, len⟩ := z
  obtain ⟨x, qfull⟩ := r
  unfold execBulkOpen
  dsimp -zeta only
  dsimp only
  split
  · rename_i t e
    split at e
    · cases e
    · exact (Res.good_next _).mpr (State.mailTurned_sound _ _ _ _ _ _ h t e)
  · have hp := State.portWake_sound s 3 h
    generalize s.portWake 3 = u at hp ⊢
    repeat' (first
      | with_reducible exact (Res.good_next _).mpr (State.answerMail_sound _ _ _ _ _ _ _ _ hp)
      | with_reducible exact (Res.good_next _).mpr (State.answerMail_sound _ _ _ _ _ _ _ _ (State.setBit_sound _ _ _ _ (State.setRing_sound _ _ hp)))
      | split)
theorem execBulkAck_good {F : Flash} (node : Nat) (a : BulkNext) (x : Rx) (s : State) (h : s.sound F) :
    (execBulkAck node a x s).good F := by
  obtain ⟨session, next⟩ := a
  unfold execBulkAck
  dsimp -zeta only
  repeat' (first | (simp (maxDischargeDepth := 60) (maxSteps := 30000) +contextual only [State.when_sound, State.setRing_sound, State.ringOvf_sound, State.portWake_sound, State.requestMail_sound, Res.good_next, Res.good_ite, State.sound_ite, State.sound_mk, soundCore_self, soundCore_flash, Flash.sameFactory_self, if_true_left, if_true_right, ite_self, implies_true, *]; done) | split | (refine State.foldl_sound _ _ ?_ ?_ <;> intros) | (refine State.when_sound _ _ ?_ ?_ <;> intros))
theorem State.mailTurned_getD_sound {F : Flash} {s u : State} (h : s.sound F) (hu : u.sound F) (node tag : Nat) (kind : MailKind)
    (x : Rx) (q : Bool) : ((s.mailTurned node tag kind x q).getD u).sound F := by
  cases e : s.mailTurned node tag kind x q with
  | some t => exact State.mailTurned_sound s node tag kind x q h t e
  | none => exact hu
theorem execBulkDone_good {F : Flash} (node tag session : Nat) (z : BulkSum) (r : MailRx) (s : State) (h : s.sound F) :
    (execBulkDone node tag session z r s).good F := by
  obtain ⟨crc, words⟩ := z
  obtain ⟨x, qfull⟩ := r
  unfold execBulkDone
  dsimp -zeta only
  dsimp only
  have hp := State.portWake_sound s 3 h
  have hg := (Res.good_next _).mpr (State.mailTurned_getD_sound h hp node tag .bulkDone x qfull)
  generalize s.portWake 3 = u at hp hg ⊢
  repeat' (first
    | with_reducible exact hg
    | with_reducible exact (Res.good_next _).mpr hp
    | with_reducible exact (Res.good_next _).mpr (State.answerMail_sound _ _ _ _ _ _ _ _ (State.bulkClose_sound _ _ _ hp))
    | with_reducible exact (Res.good_next _).mpr (State.answerMail_sound _ _ _ _ _ _ _ _ (State.ringStaged_sound _ _ (State.bulkClose_sound _ _ _ hp)))
    | split)
theorem execImageReq_good {F : Flash} (node : Nat) (q : ImageAsk) (s : State) (h : s.sound F) :
    (execImageReq node q s).good F := by
  obtain ⟨tag, x, qfull⟩ := q
  unfold execImageReq
  dsimp -zeta only
  split
  · exact (Res.good_next _).mpr h
  split
  · rename_i t e; exact (Res.good_next _).mpr (State.mailTurned_sound _ _ _ _ _ _ h t e)
  · dsimp only
    have hp := State.portWake_sound s 3 h
    generalize s.portWake 3 = u at hp ⊢
    repeat' (first
      | with_reducible exact (Res.good_next _).mpr (State.answerMail_sound _ _ _ _ _ _ _ _ hp)
      | with_reducible exact (Res.good_next _).mpr (State.requestMail_sound _ _ _ _ _ (State.setBit_sound _ _ _ _ (State.setRing_sound _ _ (State.answerMail_sound _ _ _ _ _ _ _ _ hp))))
      | split)
theorem execRingBulk_good {F : Flash} (node : Nat) (b : Bulk) (west ovf : Bool) (s : State) (h : s.sound F) :
    (execRingBulk node b west ovf s).good F := by
  unfold execRingBulk
  repeat' (first | (simp (maxDischargeDepth := 60) (maxSteps := 30000) +contextual only [State.when_sound, State.setRing_sound, State.setEddyWords_sound, State.ringOvf_sound, State.requestMail_sound, Res.good_next, Res.good_ite, State.sound_ite, State.sound_mk, soundCore_self, soundCore_flash, Flash.sameFactory_self, if_true_left, if_true_right, ite_self, implies_true, *]; done) | split | (refine State.foldl_sound _ _ ?_ ?_ <;> intros) | (refine State.when_sound _ _ ?_ ?_ <;> intros))
theorem execBulkStallTimeout_good {F : Flash} (tx : Bool) (s : State) (h : s.sound F) :
    (execBulkStallTimeout tx s).good F := by
  unfold execBulkStallTimeout
  repeat' (first | (simp (maxDischargeDepth := 60) (maxSteps := 30000) +contextual only [State.requestMail_sound, State.bulkClose_sound, Res.good_next, Res.good_ite, State.sound_ite, State.sound_mk, soundCore_self, soundCore_flash, Flash.sameFactory_self, if_true_left, if_true_right, ite_self, implies_true, *]; done) | split)

end Sys2Proof.Machine
end

