-- ==== Sys2Proof/Laws/Good/Pers.lean ====
section
/-!
SUPPORT. Each command of Machine/Pers.lean answers a next state, and keeps a sound state sound.
-/
namespace Sys2Proof.Machine
set_option linter.unusedSimpArgs false
set_option linter.unusedTactic false
set_option linter.unreachableTactic false
set_option linter.unusedVariables false

theorem execPersAccumulate_good {F : Flash} (s : State) (h : s.sound F) :
    (execPersAccumulate s).good F := by
  unfold execPersAccumulate
  simp (maxDischargeDepth := 60) (maxSteps := 30000) +contextual only [State.setLpb_sound, State.persPut_sound, State.irqAll_sound, State.foldl_sound, Res.good_next, Res.good_ite, State.sound_ite, State.sound_mk, soundCore_self, soundCore_flash, Flash.sameFactory_self, if_true_left, if_true_right, ite_self, implies_true, *]
theorem execIrqPulseEnd_good {F : Flash} (j : Fin 4) (s : State) (h : s.sound F) :
    (execIrqPulseEnd j s).good F := by
  unfold execIrqPulseEnd
  repeat' (first | (simp (maxDischargeDepth := 60) (maxSteps := 30000) +contextual only [State.setLpb_sound, Res.good_next, Res.good_ite, State.sound_ite, State.sound_mk, soundCore_self, soundCore_flash, Flash.sameFactory_self, if_true_left, if_true_right, ite_self, implies_true, *]; done) | split)
theorem execInterruptAcknowledge_good {F : Flash} (j : Fin 4) (abandoned : Bool) (s : State) (h : s.sound F) :
    (execInterruptAcknowledge j abandoned s).good F := by
  unfold execInterruptAcknowledge
  have hp : ((if s.runs then s.portWake 0 else s).setLpb fun l => { l with vec := none }).sound F :=
    State.setLpb_sound _ _ (State.ite_sound (fun _ => State.portWake_sound _ _ h) fun _ => h)
  dsimp only
  generalize ((if s.runs then s.portWake 0 else s).setLpb fun l => { l with vec := none }) = u at hp ⊢
  have hr : ∀ (c : Prop) [Decidable c] (f : LpbSt → LpbSt), (if c then u.setLpb f else u).sound F := fun c _ f =>
    State.ite_sound (fun _ => State.setLpb_sound _ _ hp) fun _ => hp
  split
  · exact (Res.good_next _).mpr hp
  · split
    · exact (Res.good_next _).mpr hp
    · split
      · exact (Res.good_next _).mpr (hr _ _)
      · split
        · exact (Res.good_next _).mpr (State.bump_sound _ _ hp)
        · exact (Res.good_next _).mpr (State.sound_mk.mpr (soundCore_self (State.setLpb_sound _ _ (hr _ _))))

end Sys2Proof.Machine
end

