-- ==== Sys2Proof/Laws/Good/Lpb.lean ====
section
/-!
SUPPORT. Each command of Machine/Lpb.lean answers a next state, and keeps a sound state sound.
-/
namespace Sys2Proof.Machine
set_option linter.unusedSimpArgs false
set_option linter.unusedTactic false
set_option linter.unreachableTactic false
set_option linter.unusedVariables false

theorem execLpbCycleStart_good {F : Flash} (la : Nat) (bhen read both : Bool) (s : State) (h : s.sound F) :
    (execLpbCycleStart la bhen read both s).good F := by
  unfold execLpbCycleStart
  split
  · exact (Res.good_next _).mpr h
  · have hp := State.portWake_sound s 0 h
    dsimp only
    generalize s.portWake 0 = u at hp ⊢
    repeat' (first
      | with_reducible exact (Res.good_next _).mpr hp
      | with_reducible exact (Res.good_next _).mpr (State.bump_sound _ _ hp)
      | with_reducible exact (Res.good_next _).mpr (State.setLpb_sound _ _ hp)
      | split)
theorem execLpbCycleAck_good {F : Flash} (wdata : Nat) (ue : Bool) (s : State) (h : s.sound F) :
    (execLpbCycleAck wdata ue s).good F := by
  unfold execLpbCycleAck
  repeat' (first | (simp (maxDischargeDepth := 60) (maxSteps := 30000) +contextual only [State.bump_sound, State.when_sound, State.deficit_sound, State.setLpb_sound, State.persRead_sound, State.persDiscard_sound, State.nativeRead_sound, Res.good_next, Res.good_ite, State.sound_ite, State.sound_mk, soundCore_self, soundCore_flash, Flash.sameFactory_self, if_true_left, if_true_right, ite_self, implies_true, *]; done) | split | (refine State.foldl_sound _ _ ?_ ?_ <;> intros) | (refine State.when_sound _ _ ?_ ?_ <;> intros))
theorem execLpbCycleEnd_good {F : Flash} (s : State) (h : s.sound F) :
    (execLpbCycleEnd s).good F := by
  unfold execLpbCycleEnd
  repeat' (first | (simp (maxDischargeDepth := 60) (maxSteps := 30000) +contextual only [State.bump_sound, State.setLpb_sound, State.when_sound, Res.good_next, Res.good_ite, State.sound_ite, State.sound_mk, soundCore_self, soundCore_flash, Flash.sameFactory_self, if_true_left, if_true_right, ite_self, implies_true, *]; done) | split)
theorem execLpbPostedCommit_good {F : Flash} (s : State) (h : s.sound F) :
    (execLpbPostedCommit s).good F := by
  unfold execLpbPostedCommit
  repeat' (first | (simp (maxDischargeDepth := 60) (maxSteps := 30000) +contextual only [State.setLpb_sound, State.persWrite_sound, State.persDiscard_sound, State.nativeWrite_sound, Res.good_next, Res.good_ite, State.sound_ite, State.sound_mk, soundCore_self, soundCore_flash, Flash.sameFactory_self, if_true_left, if_true_right, ite_self, implies_true, *]; done) | split | (refine State.foldl_sound _ _ ?_ ?_ <;> intros) | (refine State.when_sound _ _ ?_ ?_ <;> intros))

end Sys2Proof.Machine
end

