-- ==== Sys2Proof/Laws/Good/Spi.lean ====
section
/-!
SUPPORT. Each command of Machine/Spi.lean answers a next state, and keeps a sound state sound.
-/
namespace Sys2Proof.Machine
set_option linter.unusedSimpArgs false
set_option linter.unusedTactic false
set_option linter.unreachableTactic false
set_option linter.unusedVariables false

theorem execSpiFrameStart_good {F : Flash} (mode3 : Bool) (s : State) (h : s.sound F) :
    (execSpiFrameStart mode3 s).good F := by
  unfold execSpiFrameStart
  simp (maxDischargeDepth := 60) (maxSteps := 30000) +contextual only [State.setBit_sound, State.portWake_sound, State.setSpi_sound, Res.good_next, Res.good_ite, State.sound_ite, State.sound_mk, soundCore_self, soundCore_flash, Flash.sameFactory_self, if_true_left, if_true_right, ite_self, implies_true, *]
theorem execSpiCommandWord_good {F : Flash} (cmd : Word) (crc0 : Byte) (cnt : Word) (crc1 : Byte) (s : State) (h : s.sound F) :
    (execSpiCommandWord cmd crc0 cnt crc1 s).good F := by
  unfold execSpiCommandWord
  repeat' (first | (simp (maxDischargeDepth := 60) (maxSteps := 30000) +contextual only [State.rd_sound, State.setSpi_sound, State.spiFerr_sound, State.spiCrc_sound, State.spiSend_sound, Res.good_next, Res.good_ite, State.sound_ite, State.sound_mk, soundCore_self, soundCore_flash, Flash.sameFactory_self, if_true_left, if_true_right, ite_self, implies_true, *]; done) | split | (refine State.foldl_sound _ _ ?_ ?_ <;> intros) | (refine State.when_sound _ _ ?_ ?_ <;> intros))
theorem execSpiReadFetch_good {F : Flash} (r : SpiRx) (ue : Bool) (s : State) (h : s.sound F) :
    (execSpiReadFetch r ue s).good F := by
  obtain ⟨sdi, crc⟩ := r
  unfold execSpiReadFetch
  repeat' (first
    | (intro x; first
        | (have hx : State.sound F x := by
            simp only [x]
            repeat' (first
              | (simp (maxDischargeDepth := 60) (maxSteps := 30000) +contextual only [State.eddyUe_sound, State.rd_sound, State.setSpi_sound, State.spiFerr_sound, State.spiCrc_sound, State.spiRefused_sound, State.spiSend_sound, State.spiPast_sound, Res.good_next, Res.good_ite, State.sound_ite, State.sound_mk, soundCore_self, soundCore_flash, Flash.sameFactory_self, if_true_left, if_true_right, ite_self, implies_true, *]; done)
              | split
              | (refine State.foldl_sound _ _ ?_ ?_ <;> intros)
              | (refine State.when_sound _ _ ?_ ?_ <;> intros))
           clear_value x)
        | (have hx : State.sound F x.2 := by
            simp only [x]
            repeat' (first
              | (simp (maxDischargeDepth := 60) (maxSteps := 30000) +contextual only [State.eddyUe_sound, State.rd_sound, State.setSpi_sound, State.spiFerr_sound, State.spiCrc_sound, State.spiRefused_sound, State.spiSend_sound, State.spiPast_sound, Res.good_next, Res.good_ite, State.sound_ite, State.sound_mk, soundCore_self, soundCore_flash, Flash.sameFactory_self, if_true_left, if_true_right, ite_self, implies_true, *]; done)
              | split
              | (refine State.foldl_sound _ _ ?_ ?_ <;> intros)
              | (refine State.when_sound _ _ ?_ ?_ <;> intros))
           clear_value x)
        | (have hx : State.sound F x.1 := by
            simp only [x]
            repeat' (first
              | (simp (maxDischargeDepth := 60) (maxSteps := 30000) +contextual only [State.eddyUe_sound, State.rd_sound, State.setSpi_sound, State.spiFerr_sound, State.spiCrc_sound, State.spiRefused_sound, State.spiSend_sound, State.spiPast_sound, Res.good_next, Res.good_ite, State.sound_ite, State.sound_mk, soundCore_self, soundCore_flash, Flash.sameFactory_self, if_true_left, if_true_right, ite_self, implies_true, *]; done)
              | split
              | (refine State.foldl_sound _ _ ?_ ?_ <;> intros)
              | (refine State.when_sound _ _ ?_ ?_ <;> intros))
           clear_value x)
        | clear_value x
        | skip)
    | lift_lets
    | (simp (maxDischargeDepth := 60) (maxSteps := 30000) +contextual only [State.eddyUe_sound, State.rd_sound, State.setSpi_sound, State.spiFerr_sound, State.spiCrc_sound, State.spiRefused_sound, State.spiSend_sound, State.spiPast_sound, Res.good_next, Res.good_ite, State.sound_ite, State.sound_mk, soundCore_self, soundCore_flash, Flash.sameFactory_self, if_true_left, if_true_right, ite_self, implies_true, *]; done)
    | split
    | (refine State.foldl_sound _ _ ?_ ?_ <;> intros)
    | (refine State.when_sound _ _ ?_ ?_ <;> intros)
    | (dsimp only; split)
    | dsimp only)
theorem execSpiWriteWord_good {F : Flash} (w : Word) (crc : Byte) (full : Bool) (s : State) (h : s.sound F) :
    (execSpiWriteWord w crc full s).good F := by
  unfold execSpiWriteWord
  simp (maxDischargeDepth := 60) (maxSteps := 30000) +contextual only [State.bump_sound, State.when_sound, State.fire_sound, State.rd_sound, State.wr_sound, State.setSpi_sound, State.spiFlag_sound, State.spiCrc_sound, State.spiRefused_sound, State.spiPast_sound, Res.good_next, Res.good_ite, State.sound_ite, State.sound_mk, soundCore_self, soundCore_flash, Flash.sameFactory_self, if_true_left, if_true_right, ite_self, implies_true, *]
theorem execSpiFrameEnd_good {F : Flash} (bits : Nat) (part : Word) (crc : Byte) (s : State) (h : s.sound F) :
    (execSpiFrameEnd bits part crc s).good F := by
  unfold execSpiFrameEnd
  simp (maxDischargeDepth := 60) (maxSteps := 30000) +contextual only [State.setReg_sound, State.bump_sound, State.rd_sound, State.setSpi_sound, State.spiFlag_sound, State.spiFerr_sound, Res.good_next, Res.good_ite, State.sound_ite, State.sound_mk, soundCore_self, soundCore_flash, Flash.sameFactory_self, if_true_left, if_true_right, ite_self, implies_true, *]

end Sys2Proof.Machine
end

