-- ==== Sys2Proof/Laws/Good/Modbus.lean ====
section
/-!
SUPPORT. Each command of Machine/Modbus.lean answers a next state, and keeps a sound state sound.
-/
namespace Sys2Proof.Machine
set_option linter.unusedSimpArgs false
set_option linter.unusedTactic false
set_option linter.unreachableTactic false
set_option linter.unusedVariables false

theorem State.modbus_good {F : Flash} (s : State) (bcast : Bool) (q : MReq) (reply : List Nat → Bytes) (h : s.sound F) :
    (State.modbus s bcast q reply).good F := by
  unfold State.modbus
  simp (maxDischargeDepth := 60) (maxSteps := 30000) +contextual only [State.bump_sound, State.portWake_sound, State.modRun_sound, Res.good_next, Res.good_ite, State.sound_ite, State.sound_mk, soundCore_self, soundCore_flash, Flash.sameFactory_self, if_true_left, if_true_right, ite_self, implies_true, *]
theorem execModbusFrameError_good {F : Flash} (s : State) (h : s.sound F) :
    (execModbusFrameError s).good F := by
  unfold execModbusFrameError
  simp (maxDischargeDepth := 60) (maxSteps := 30000) +contextual only [State.bump_sound, Res.good_next, Res.good_ite, State.sound_ite, State.sound_mk, soundCore_self, soundCore_flash, Flash.sameFactory_self, if_true_left, if_true_right, ite_self, implies_true, *]
theorem execReadCoils_good {F : Flash} (bcast : Bool) (a q : Nat) (ue : Option Nat) (s : State) (h : s.sound F) :
    (execReadCoils bcast a q ue s).good F := by
  unfold execReadCoils
  simp (maxDischargeDepth := 60) (maxSteps := 30000) +contextual only [State.modbus_good, Res.good_next, Res.good_ite, State.sound_ite, State.sound_mk, soundCore_self, soundCore_flash, Flash.sameFactory_self, if_true_left, if_true_right, ite_self, implies_true, *]
theorem execReadDiscreteInputs_good {F : Flash} (bcast : Bool) (a q : Nat) (ue : Option Nat) (s : State) (h : s.sound F) :
    (execReadDiscreteInputs bcast a q ue s).good F := by
  unfold execReadDiscreteInputs
  simp (maxDischargeDepth := 60) (maxSteps := 30000) +contextual only [State.modbus_good, Res.good_next, Res.good_ite, State.sound_ite, State.sound_mk, soundCore_self, soundCore_flash, Flash.sameFactory_self, if_true_left, if_true_right, ite_self, implies_true, *]
theorem execReadHoldingRegisters_good {F : Flash} (bcast : Bool) (a q : Nat) (ue : Option Nat) (s : State) (h : s.sound F) :
    (execReadHoldingRegisters bcast a q ue s).good F := by
  unfold execReadHoldingRegisters
  simp (maxDischargeDepth := 60) (maxSteps := 30000) +contextual only [State.modbus_good, Res.good_next, Res.good_ite, State.sound_ite, State.sound_mk, soundCore_self, soundCore_flash, Flash.sameFactory_self, if_true_left, if_true_right, ite_self, implies_true, *]
theorem execReadInputRegisters_good {F : Flash} (bcast : Bool) (a q : Nat) (ue : Option Nat) (s : State) (h : s.sound F) :
    (execReadInputRegisters bcast a q ue s).good F := by
  unfold execReadInputRegisters
  simp (maxDischargeDepth := 60) (maxSteps := 30000) +contextual only [State.modbus_good, Res.good_next, Res.good_ite, State.sound_ite, State.sound_mk, soundCore_self, soundCore_flash, Flash.sameFactory_self, if_true_left, if_true_right, ite_self, implies_true, *]
theorem execWriteSingleCoil_good {F : Flash} (r : ModRx) (a v : Nat) (s : State) (h : s.sound F) :
    (execWriteSingleCoil r a v s).good F := State.modbus_good _ _ _ _ h
theorem execWriteSingleRegister_good {F : Flash} (r : ModRx) (a v : Nat) (s : State) (h : s.sound F) :
    (execWriteSingleRegister r a v s).good F := State.modbus_good _ _ _ _ h
theorem execWriteMultipleCoils_good {F : Flash} (r : ModRx) (a q count : Nat) (d : Bytes) (s : State) (h : s.sound F) :
    (execWriteMultipleCoils r a q count d s).good F := State.modbus_good _ _ _ _ h
theorem execWriteMultipleRegisters_good {F : Flash} (r : ModRx) (a q count : Nat) (d : Bytes) (s : State) (h : s.sound F) :
    (execWriteMultipleRegisters r a q count d s).good F := State.modbus_good _ _ _ _ h
theorem execReadWriteMultipleRegisters_good {F : Flash} (bcast : Bool) (a q wa wq count : Nat) (d : Bytes) (ue : Option Nat) (s : State) (h : s.sound F) :
    (execReadWriteMultipleRegisters bcast a q wa wq count d ue s).good F := by
  unfold execReadWriteMultipleRegisters
  simp (maxDischargeDepth := 60) (maxSteps := 30000) +contextual only [State.modbus_good, Res.good_next, Res.good_ite, State.sound_ite, State.sound_mk, soundCore_self, soundCore_flash, Flash.sameFactory_self, if_true_left, if_true_right, ite_self, implies_true, *]
theorem execUnsupportedFunction_good {F : Flash} (bcast : Bool) (fn : Nat) (s : State) (h : s.sound F) :
    (execUnsupportedFunction bcast fn s).good F := by
  unfold execUnsupportedFunction
  simp (maxDischargeDepth := 60) (maxSteps := 30000) +contextual only [State.bump_sound, State.portWake_sound, State.modExcept_sound, Res.good_next, Res.good_ite, State.sound_ite, State.sound_mk, soundCore_self, soundCore_flash, Flash.sameFactory_self, if_true_left, if_true_right, ite_self, implies_true, *]
theorem execModbusReply_good {F : Flash} (s : State) (h : s.sound F) :
    (execModbusReply s).good F := by
  unfold execModbusReply
  repeat' (first | (simp (maxDischargeDepth := 60) (maxSteps := 30000) +contextual only [State.setMod_sound, Res.good_next, Res.good_ite, State.sound_ite, State.sound_mk, soundCore_self, soundCore_flash, Flash.sameFactory_self, if_true_left, if_true_right, ite_self, implies_true, *]; done) | split)
theorem execModbusSettingsApply_good {F : Flash} (s : State) (h : s.sound F) :
    (execModbusSettingsApply s).good F := by
  unfold execModbusSettingsApply
  simp (maxDischargeDepth := 60) (maxSteps := 30000) +contextual only [State.setFld_sound, Res.good_next, Res.good_ite, State.sound_ite, State.sound_mk, soundCore_self, soundCore_flash, Flash.sameFactory_self, if_true_left, if_true_right, ite_self, implies_true, *]

end Sys2Proof.Machine
end

