-- ==== Sys2Proof/Laws/Good/Scrub.lean ====
section
/-!
SUPPORT. Each command of Machine/Scrub.lean answers a next state, and keeps a sound state sound.
-/
namespace Sys2Proof.Machine
set_option linter.unusedSimpArgs false
set_option linter.unusedTactic false
set_option linter.unreachableTactic false
set_option linter.unusedVariables false

theorem execCfgScrubWord_good {F : Flash} (addr ecc : Nat) (s : State) (h : s.sound F) :
    (execCfgScrubWord addr ecc s).good F := by
  unfold execCfgScrubWord
  repeat' (first | (simp (maxDischargeDepth := 60) (maxSteps := 30000) +contextual only [State.setFld_sound, State.bump_sound, State.safeCause_sound, State.setCfg_sound, State.cfgUe_sound, Res.good_next, Res.good_ite, State.sound_ite, State.sound_mk, soundCore_self, soundCore_flash, Flash.sameFactory_self, if_true_left, if_true_right, ite_self, implies_true, *]; done) | split | (refine State.foldl_sound _ _ ?_ ?_ <;> intros) | (refine State.when_sound _ _ ?_ ?_ <;> intros))
theorem execCfgRepairDone_good {F : Flash} (ue : Option Nat) (s : State) (h : s.sound F) :
    (execCfgRepairDone ue s).good F := by
  unfold execCfgRepairDone
  repeat' (first | (simp (maxDischargeDepth := 60) (maxSteps := 30000) +contextual only [State.cfgEcc_sound, State.setCfg_sound, State.cfgUe_sound, State.cfgRewritten_sound, Res.good_next, Res.good_ite, State.sound_ite, State.sound_mk, soundCore_self, soundCore_flash, Flash.sameFactory_self, if_true_left, if_true_right, ite_self, implies_true, *]; done) | split | (refine State.foldl_sound _ _ ?_ ?_ <;> intros) | (refine State.when_sound _ _ ?_ ?_ <;> intros))

end Sys2Proof.Machine
end

