-- ==== Sys2Proof/Laws/Good/Pitch.lean ====
section
/-!
SUPPORT. Each command of Machine/Pitch.lean answers a next state, and keeps a sound state sound.
-/
namespace Sys2Proof.Machine
set_option linter.unusedSimpArgs false
set_option linter.unusedTactic false
set_option linter.unreachableTactic false
set_option linter.unusedVariables false

theorem execPitch_good {F : Flash} (p : Port) (outside : Bool) (s : State) (h : s.sound F) :
    (execPitch p outside s).good F := by
  unfold execPitch
  simp (maxDischargeDepth := 60) (maxSteps := 30000) +contextual only [State.startOp_sound, State.refuseImage_sound, State.imageCommand_sound, State.setPitch_sound, Res.good_next, Res.good_ite, State.sound_ite, State.sound_mk, soundCore_self, soundCore_flash, Flash.sameFactory_self, if_true_left, if_true_right, ite_self, implies_true, *]
theorem execPitchVerified_good {F : Flash} (outside : Bool) (s : State) (h : s.sound F) :
    (execPitchVerified outside s).good F := by
  unfold execPitchVerified
  dsimp only
  repeat' (first
    | with_reducible exact (Res.good_next _).mpr h
    | with_reducible exact (Res.good_next _).mpr (State.enterPitching_sound _ _ h)
    | with_reducible exact (Res.good_next _).mpr (State.rejectOp_sound _ _ _ _ _ (State.setPitch_sound _ _ h))
    | split)
theorem execPitchLoaded_good {F : Flash} (crcBad : Bool) (s : State) (h : s.sound F) :
    (execPitchLoaded crcBad s).good F := by
  unfold execPitchLoaded
  repeat' (first
    | (intro x; first
        | (have hx : State.sound F x := by
            simp only [x]
            repeat' (first
              | (simp (maxDischargeDepth := 60) (maxSteps := 30000) +contextual only [State.endPitch_sound, State.setPitch_sound, State.structureIsland_sound, State.foldl_sound, Res.good_next, Res.good_ite, State.sound_ite, State.sound_mk, soundCore_self, soundCore_flash, Flash.sameFactory_self, if_true_left, if_true_right, ite_self, implies_true, *]; done)
              | split
              | (refine State.foldl_sound _ _ ?_ ?_ <;> intros)
              | (refine State.when_sound _ _ ?_ ?_ <;> intros))
           clear_value x)
        | (have hx : State.sound F x.2 := by
            simp only [x]
            repeat' (first
              | (simp (maxDischargeDepth := 60) (maxSteps := 30000) +contextual only [State.endPitch_sound, State.setPitch_sound, State.structureIsland_sound, State.foldl_sound, Res.good_next, Res.good_ite, State.sound_ite, State.sound_mk, soundCore_self, soundCore_flash, Flash.sameFactory_self, if_true_left, if_true_right, ite_self, implies_true, *]; done)
              | split
              | (refine State.foldl_sound _ _ ?_ ?_ <;> intros)
              | (refine State.when_sound _ _ ?_ ?_ <;> intros))
           clear_value x)
        | (have hx : State.sound F x.1 := by
            simp only [x]
            repeat' (first
              | (simp (maxDischargeDepth := 60) (maxSteps := 30000) +contextual only [State.endPitch_sound, State.setPitch_sound, State.structureIsland_sound, State.foldl_sound, Res.good_next, Res.good_ite, State.sound_ite, State.sound_mk, soundCore_self, soundCore_flash, Flash.sameFactory_self, if_true_left, if_true_right, ite_self, implies_true, *]; done)
              | split
              | (refine State.foldl_sound _ _ ?_ ?_ <;> intros)
              | (refine State.when_sound _ _ ?_ ?_ <;> intros))
           clear_value x)
        | clear_value x
        | skip)
    | lift_lets
    | (simp (maxDischargeDepth := 60) (maxSteps := 30000) +contextual only [State.endPitch_sound, State.setPitch_sound, State.structureIsland_sound, State.foldl_sound, Res.good_next, Res.good_ite, State.sound_ite, State.sound_mk, soundCore_self, soundCore_flash, Flash.sameFactory_self, if_true_left, if_true_right, ite_self, implies_true, *]; done)
    | split
    | (refine State.foldl_sound _ _ ?_ ?_ <;> intros)
    | (refine State.when_sound _ _ ?_ ?_ <;> intros)
    | (dsimp only; split)
    | dsimp only)
theorem execPitchStructured_good {F : Flash} (s : State) (h : s.sound F) :
    (execPitchStructured s).good F := by
  unfold execPitchStructured
  simp (maxDischargeDepth := 60) (maxSteps := 30000) +contextual only [State.setFld_sound, State.setPitch_sound, Res.good_next, Res.good_ite, State.sound_ite, State.sound_mk, soundCore_self, soundCore_flash, Flash.sameFactory_self, if_true_left, if_true_right, ite_self, implies_true, *]
theorem execPitchSafetyCheck_good {F : Flash} (fault : Nat) (s : State) (h : s.sound F) :
    (execPitchSafetyCheck fault s).good F := by
  unfold execPitchSafetyCheck
  repeat' (first | (simp (maxDischargeDepth := 60) (maxSteps := 30000) +contextual only [State.setFld_sound, State.setBit_sound, State.setSaf_sound, State.kernelFault_sound, State.setPitch_sound, State.showSpc_sound, Res.good_next, Res.good_ite, State.sound_ite, State.sound_mk, soundCore_self, soundCore_flash, Flash.sameFactory_self, if_true_left, if_true_right, ite_self, implies_true, *]; done) | split | (refine State.foldl_sound _ _ ?_ ?_ <;> intros) | (refine State.when_sound _ _ ?_ ?_ <;> intros))
theorem execPitchCommit_good {F : Flash} (ue : Option Nat) (s : State) (h : s.sound F) :
    (execPitchCommit ue s).good F := by
  unfold execPitchCommit
  repeat' (first
    | (intro x; first
        | (have hx : State.sound F x := by
            simp only [x]
            repeat' (first
              | (simp (maxDischargeDepth := 60) (maxSteps := 30000) +contextual only [State.endPitch_sound, State.cfgUe_sound, State.commitPitch_sound, Res.good_next, Res.good_ite, State.sound_ite, State.sound_mk, soundCore_self, soundCore_flash, Flash.sameFactory_self, if_true_left, if_true_right, ite_self, implies_true, *]; done)
              | split
              | (refine State.foldl_sound _ _ ?_ ?_ <;> intros)
              | (refine State.when_sound _ _ ?_ ?_ <;> intros))
           clear_value x)
        | clear_value x
        | skip)
    | lift_lets
    | (simp (maxDischargeDepth := 60) (maxSteps := 30000) +contextual only [State.endPitch_sound, State.cfgUe_sound, State.commitPitch_sound, Res.good_next, Res.good_ite, State.sound_ite, State.sound_mk, soundCore_self, soundCore_flash, Flash.sameFactory_self, if_true_left, if_true_right, ite_self, implies_true, *]; done)
    | split
    | (refine State.foldl_sound _ _ ?_ ?_ <;> intros)
    | (refine State.when_sound _ _ ?_ ?_ <;> intros)
    | (refine (Res.good_next _).mpr (State.imageCommand_sound _ _ _ _ _ _ _ _ h fun j s hs => ?_))
    | (refine (Res.good_next _).mpr (State.command_sound _ _ _ _ _ _ _ h fun j s hs => ?_))
    | (dsimp only; split)
    | dsimp only)

end Sys2Proof.Machine
end

