-- ==== Sys2Proof/Laws/Good/Repitch.lean ====
section
/-!
SUPPORT. Each command of Machine/Repitch.lean answers a next state, and keeps a sound state sound.
-/
namespace Sys2Proof.Machine
set_option linter.unusedSimpArgs false
set_option linter.unusedTactic false
set_option linter.unreachableTactic false
set_option linter.unusedVariables false

theorem execRepitch_good {F : Flash} (p : Port) (s : State) (h : s.sound F) :
    (execRepitch p s).good F := by
  unfold execRepitch
  simp (maxDischargeDepth := 60) (maxSteps := 30000) +contextual only [State.startOp_sound, State.refuseImage_sound, State.imageCommand_sound, State.setRepitch_sound, Res.good_next, Res.good_ite, State.sound_ite, State.sound_mk, soundCore_self, soundCore_flash, Flash.sameFactory_self, if_true_left, if_true_right, ite_self, implies_true, *]
theorem execRepitchChecked_good {F : Flash} (s : State) (h : s.sound F) :
    (execRepitchChecked s).good F := by
  unfold execRepitchChecked
  repeat' (first
    | (intro x; first
        | (have hx : State.sound F x := by
            simp only [x]
            repeat' (first
              | (simp (maxDischargeDepth := 60) (maxSteps := 30000) +contextual only [State.setBit_sound, State.observe_sound, State.abandonRepitch_sound, State.setRepitch_sound, Res.good_next, Res.good_ite, State.sound_ite, State.sound_mk, soundCore_self, soundCore_flash, Flash.sameFactory_self, if_true_left, if_true_right, ite_self, implies_true, *]; done)
              | split
              | (refine State.foldl_sound _ _ ?_ ?_ <;> intros)
              | (refine State.when_sound _ _ ?_ ?_ <;> intros))
           clear_value x)
        | clear_value x
        | skip)
    | lift_lets
    | (simp (maxDischargeDepth := 60) (maxSteps := 30000) +contextual only [State.setBit_sound, State.observe_sound, State.abandonRepitch_sound, State.setRepitch_sound, Res.good_next, Res.good_ite, State.sound_ite, State.sound_mk, soundCore_self, soundCore_flash, Flash.sameFactory_self, if_true_left, if_true_right, ite_self, implies_true, *]; done)
    | split
    | (refine State.foldl_sound _ _ ?_ ?_ <;> intros)
    | (refine State.when_sound _ _ ?_ ?_ <;> intros)
    | (refine (Res.good_next _).mpr (State.imageCommand_sound _ _ _ _ _ _ _ _ h fun j s hs => ?_))
    | (refine (Res.good_next _).mpr (State.command_sound _ _ _ _ _ _ _ h fun j s hs => ?_))
    | (dsimp only; split)
    | dsimp only)
theorem execRepitchLoaded_good {F : Flash} (ue : Option Nat) (s : State) (h : s.sound F) :
    (execRepitchLoaded ue s).good F := by
  unfold execRepitchLoaded
  repeat' (first | (simp (maxDischargeDepth := 60) (maxSteps := 30000) +contextual only [State.abandonRepitch_sound, State.setCfg_sound, State.cfgUe_sound, State.structureIsland_sound, State.setRepitch_sound, State.takeSection_sound, Res.good_next, Res.good_ite, State.sound_ite, State.sound_mk, soundCore_self, soundCore_flash, Flash.sameFactory_self, if_true_left, if_true_right, ite_self, implies_true, *]; done) | split | (refine State.foldl_sound _ _ ?_ ?_ <;> intros) | (refine State.when_sound _ _ ?_ ?_ <;> intros))
theorem execRepitchStructured_good {F : Flash} (s : State) (h : s.sound F) :
    (execRepitchStructured s).good F := by
  unfold execRepitchStructured
  repeat' (first | (simp (maxDischargeDepth := 60) (maxSteps := 30000) +contextual only [State.abandonRepitch_sound, State.setRepitch_sound, Res.good_next, Res.good_ite, State.sound_ite, State.sound_mk, soundCore_self, soundCore_flash, Flash.sameFactory_self, if_true_left, if_true_right, ite_self, implies_true, *]; done) | split)
theorem execRepitchCommit_good {F : Flash} (s : State) (h : s.sound F) :
    (execRepitchCommit s).good F := by
  unfold execRepitchCommit
  repeat' (first | (simp (maxDischargeDepth := 60) (maxSteps := 30000) +contextual only [State.endOp_sound, State.abandonRepitch_sound, State.setRepitch_sound, State.repitchDone_sound, Res.good_next, Res.good_ite, State.sound_ite, State.sound_mk, soundCore_self, soundCore_flash, Flash.sameFactory_self, if_true_left, if_true_right, ite_self, implies_true, *]; done) | split | (refine State.foldl_sound _ _ ?_ ?_ <;> intros) | (refine State.when_sound _ _ ?_ ?_ <;> intros))
theorem execIslandLost_good {F : Flash} (i : Fin 8) (osc : Bool) (s : State) (h : s.sound F) :
    (execIslandLost i osc s).good F := by
  unfold execIslandLost
  simp (maxDischargeDepth := 60) (maxSteps := 30000) +contextual only [State.setBit_sound, State.endOp_sound, State.setIsl_sound, State.islandLoss_sound, State.abandonRepitch_sound, State.setRepitch_sound, Res.good_next, Res.good_ite, State.sound_ite, State.sound_mk, soundCore_self, soundCore_flash, Flash.sameFactory_self, if_true_left, if_true_right, ite_self, implies_true, *]
theorem execStructureCommit_good {F : Flash} (i : Fin 8) (raw : List Nat) (s : State) (h : s.sound F) :
    (execStructureCommit i raw s).good F := by
  unfold execStructureCommit
  simp (maxDischargeDepth := 60) (maxSteps := 30000) +contextual only [State.structCommit_sound, State.awaitDone_sound, Res.good_next, Res.good_ite, State.sound_ite, State.sound_mk, soundCore_self, soundCore_flash, Flash.sameFactory_self, if_true_left, if_true_right, ite_self, implies_true, *]

end Sys2Proof.Machine
end

