-- ==== Sys2Proof/Laws/Good/Calib.lean ====
section
/-!
SUPPORT. Each command of Machine/Calib.lean answers a next state, and keeps a sound state sound.
-/
namespace Sys2Proof.Machine
set_option linter.unusedSimpArgs false
set_option linter.unusedTactic false
set_option linter.unreachableTactic false
set_option linter.unusedVariables false

theorem execRoleClaim_good {F : Flash} (p : Port) (s : State) (h : s.sound F) :
    (execRoleClaim p s).good F := by
  unfold execRoleClaim
  simp (maxDischargeDepth := 60) (maxSteps := 30000) +contextual only [State.claimAnswer_sound, Res.good_next, Res.good_ite, State.sound_ite, State.sound_mk, soundCore_self, soundCore_flash, Flash.sameFactory_self, if_true_left, if_true_right, ite_self, implies_true, *]
theorem execRoleRelease_good {F : Flash} (p : Port) (s : State) (h : s.sound F) :
    (execRoleRelease p s).good F := by
  unfold execRoleRelease
  simp (maxDischargeDepth := 60) (maxSteps := 30000) +contextual only [State.claimAnswer_sound, Res.good_next, Res.good_ite, State.sound_ite, State.sound_mk, soundCore_self, soundCore_flash, Flash.sameFactory_self, if_true_left, if_true_right, ite_self, implies_true, *]
theorem execCalPoint_good {F : Flash} (p : Port) (s : State) (h : s.sound F) :
    (execCalPoint p s).good F := by
  unfold execCalPoint
  simp (maxDischargeDepth := 60) (maxSteps := 30000) +contextual only [State.finish_sound, State.takeJob_sound, State.command_sound, State.setChan_sound, State.setPoint_sound, Res.good_next, Res.good_ite, State.sound_ite, State.sound_mk, soundCore_self, soundCore_flash, Flash.sameFactory_self, if_true_left, if_true_right, ite_self, implies_true, *]
theorem execCalPointDone_good {F : Flash} (p : Port) (c : Fin 32) (s : State) (h : s.sound F) :
    (execCalPointDone p c s).good F := by
  unfold execCalPointDone
  repeat' (first | (simp (maxDischargeDepth := 60) (maxSteps := 30000) +contextual only [State.finish_sound, State.setPoint_sound, State.calDrop_sound, Res.good_next, Res.good_ite, State.sound_ite, State.sound_mk, soundCore_self, soundCore_flash, Flash.sameFactory_self, if_true_left, if_true_right, ite_self, implies_true, *]; done) | split)
theorem execCalPointTimeout_good {F : Flash} (p : Port) (s : State) (h : s.sound F) :
    (execCalPointTimeout p s).good F := by
  unfold execCalPointTimeout
  repeat' (first | (simp (maxDischargeDepth := 60) (maxSteps := 30000) +contextual only [State.finish_sound, State.calDrop_sound, Res.good_next, Res.good_ite, State.sound_ite, State.sound_mk, soundCore_self, soundCore_flash, Flash.sameFactory_self, if_true_left, if_true_right, ite_self, implies_true, *]; done) | split)
theorem execCalCommit_good {F : Flash} (p : Port) (s : State) (h : s.sound F) :
    (execCalCommit p s).good F := by
  unfold execCalCommit
  repeat' (first
    | (intro x; first
        | (have hx : State.sound F x := by
            simp only [x]
            repeat' (first
              | (simp (maxDischargeDepth := 60) (maxSteps := 30000) +contextual only [State.finish_sound, State.startOp_sound, State.command_sound, State.storeOp_sound, Res.good_next, Res.good_ite, State.sound_ite, State.sound_mk, soundCore_self, soundCore_flash, Flash.sameFactory_self, if_true_left, if_true_right, ite_self, implies_true, *]; done)
              | split
              | (refine State.foldl_sound _ _ ?_ ?_ <;> intros)
              | (refine State.when_sound _ _ ?_ ?_ <;> intros))
           clear_value x)
        | (have hx : State.sound F x.2 := by
            simp only [x]
            repeat' (first
              | (simp (maxDischargeDepth := 60) (maxSteps := 30000) +contextual only [State.finish_sound, State.startOp_sound, State.command_sound, State.storeOp_sound, Res.good_next, Res.good_ite, State.sound_ite, State.sound_mk, soundCore_self, soundCore_flash, Flash.sameFactory_self, if_true_left, if_true_right, ite_self, implies_true, *]; done)
              | split
              | (refine State.foldl_sound _ _ ?_ ?_ <;> intros)
              | (refine State.when_sound _ _ ?_ ?_ <;> intros))
           clear_value x)
        | (have hx : State.sound F x.1 := by
            simp only [x]
            repeat' (first
              | (simp (maxDischargeDepth := 60) (maxSteps := 30000) +contextual only [State.finish_sound, State.startOp_sound, State.command_sound, State.storeOp_sound, Res.good_next, Res.good_ite, State.sound_ite, State.sound_mk, soundCore_self, soundCore_flash, Flash.sameFactory_self, if_true_left, if_true_right, ite_self, implies_true, *]; done)
              | split
              | (refine State.foldl_sound _ _ ?_ ?_ <;> intros)
              | (refine State.when_sound _ _ ?_ ?_ <;> intros))
           clear_value x)
        | (have hx : ∀ p, State.sound F (x p) := by
            intro p
            simp only [x]
            repeat' (first
              | (simp (maxDischargeDepth := 60) (maxSteps := 30000) +contextual only [State.finish_sound, State.startOp_sound, State.command_sound, State.storeOp_sound, Res.good_next, Res.good_ite, State.sound_ite, State.sound_mk, soundCore_self, soundCore_flash, Flash.sameFactory_self, if_true_left, if_true_right, ite_self, implies_true, *]; done)
              | split
              | (refine State.foldl_sound _ _ ?_ ?_ <;> intros)
              | (refine State.when_sound _ _ ?_ ?_ <;> intros))
           clear_value x)
        | (have hx : ∀ p q, State.sound F (x p q) := by
            intro p q
            simp only [x]
            repeat' (first
              | (simp (maxDischargeDepth := 60) (maxSteps := 30000) +contextual only [State.finish_sound, State.startOp_sound, State.command_sound, State.storeOp_sound, Res.good_next, Res.good_ite, State.sound_ite, State.sound_mk, soundCore_self, soundCore_flash, Flash.sameFactory_self, if_true_left, if_true_right, ite_self, implies_true, *]; done)
              | split
              | (refine State.foldl_sound _ _ ?_ ?_ <;> intros)
              | (refine State.when_sound _ _ ?_ ?_ <;> intros))
           clear_value x)
        | clear_value x
        | skip)
    | lift_lets
    | (simp (maxDischargeDepth := 60) (maxSteps := 30000) +contextual only [State.finish_sound, State.startOp_sound, State.command_sound, State.storeOp_sound, Res.good_next, Res.good_ite, State.sound_ite, State.sound_mk, soundCore_self, soundCore_flash, Flash.sameFactory_self, if_true_left, if_true_right, ite_self, implies_true, *]; done)
    | split
    | (refine State.foldl_sound _ _ ?_ ?_ <;> intros)
    | (refine State.when_sound _ _ ?_ ?_ <;> intros)
    | (refine (Res.good_next _).mpr (State.imageCommand_sound _ _ _ _ _ _ _ _ h fun j s hs => ?_))
    | (refine (Res.good_next _).mpr (State.command_sound _ _ _ _ _ _ _ h fun j s hs => ?_))
    | (dsimp only; split)
    | dsimp only)
theorem execCalClear_good {F : Flash} (p : Port) (s : State) (h : s.sound F) :
    (execCalClear p s).good F := by
  unfold execCalClear
  simp (maxDischargeDepth := 60) (maxSteps := 30000) +contextual only [State.finish_sound, State.startOp_sound, State.command_sound, State.storeOp_sound, Res.good_next, Res.good_ite, State.sound_ite, State.sound_mk, soundCore_self, soundCore_flash, Flash.sameFactory_self, if_true_left, if_true_right, ite_self, implies_true, *]

end Sys2Proof.Machine
end

