-- ==== Sys2Proof/Laws/Good/Update.lean ====
section
/-!
SUPPORT. Each command of Machine/Update.lean answers a next state, and keeps a sound state sound.
-/
namespace Sys2Proof.Machine
set_option linter.unusedSimpArgs false
set_option linter.unusedTactic false
set_option linter.unreachableTactic false
set_option linter.unusedVariables false

theorem execImageStore_good {F : Flash} (p : Port) (s : State) (h : s.sound F) :
    (execImageStore p s).good F := by
  unfold execImageStore
  simp (maxDischargeDepth := 60) (maxSteps := 30000) +contextual only [State.finish_sound, State.startOp_sound, State.refuseImage_sound, State.imageCommand_sound, Res.good_next, Res.good_ite, State.sound_ite, State.sound_mk, soundCore_self, soundCore_flash, Flash.sameFactory_self, if_true_left, if_true_right, ite_self, implies_true, *]
theorem execImageStoreDone_good {F : Flash} (fail : Option Nat) (s : State) (h : s.sound F) :
    (execImageStoreDone fail s).good F := by
  unfold execImageStoreDone
  split
  · split
    · exact (Res.good_next _).mpr h
    · split
      · exact (Res.good_next _).mpr (State.endOp_sound _ _ _ (State.takeFree_sound _ (State.setFlash_sound (fun f => Flash.setImg_factory _ _ f) h)))
      · have hw := fun (i : Nat) (b : Bytes) => State.setFlash_sound (s := s) (f := (·.setImg i b)) (fun f => Flash.setImg_factory i b f) h
        dsimp only
        split
        · exact (Res.good_next _).mpr (State.rejectOp_sound _ _ _ _ _ (hw _ _))
        · exact (Res.good_next _).mpr (State.endOp_sound _ _ _ (hw _ _))
  · exact (Res.good_next _).mpr h
theorem execImageSelect_good {F : Flash} (p : Port) (s : State) (h : s.sound F) :
    (execImageSelect p s).good F := by
  unfold execImageSelect
  repeat' (first
    | (intro x; first
        | (have hx : State.sound F x := by
            simp only [x]
            repeat' (first
              | (simp (maxDischargeDepth := 60) (maxSteps := 30000) +contextual only [State.finish_sound, State.startOp_sound, State.reject_sound, State.storeOp_sound, State.imageCommand_sound, Res.good_next, Res.good_ite, State.sound_ite, State.sound_mk, soundCore_self, soundCore_flash, Flash.sameFactory_self, if_true_left, if_true_right, ite_self, implies_true, *]; done)
              | split
              | (refine State.foldl_sound _ _ ?_ ?_ <;> intros)
              | (refine State.when_sound _ _ ?_ ?_ <;> intros))
           clear_value x)
        | (have hx : State.sound F x.2 := by
            simp only [x]
            repeat' (first
              | (simp (maxDischargeDepth := 60) (maxSteps := 30000) +contextual only [State.finish_sound, State.startOp_sound, State.reject_sound, State.storeOp_sound, State.imageCommand_sound, Res.good_next, Res.good_ite, State.sound_ite, State.sound_mk, soundCore_self, soundCore_flash, Flash.sameFactory_self, if_true_left, if_true_right, ite_self, implies_true, *]; done)
              | split
              | (refine State.foldl_sound _ _ ?_ ?_ <;> intros)
              | (refine State.when_sound _ _ ?_ ?_ <;> intros))
           clear_value x)
        | (have hx : State.sound F x.1 := by
            simp only [x]
            repeat' (first
              | (simp (maxDischargeDepth := 60) (maxSteps := 30000) +contextual only [State.finish_sound, State.startOp_sound, State.reject_sound, State.storeOp_sound, State.imageCommand_sound, Res.good_next, Res.good_ite, State.sound_ite, State.sound_mk, soundCore_self, soundCore_flash, Flash.sameFactory_self, if_true_left, if_true_right, ite_self, implies_true, *]; done)
              | split
              | (refine State.foldl_sound _ _ ?_ ?_ <;> intros)
              | (refine State.when_sound _ _ ?_ ?_ <;> intros))
           clear_value x)
        | (have hx : ∀ p, State.sound F (x p) := by
            intro p
            simp only [x]
            repeat' (first
              | (simp (maxDischargeDepth := 60) (maxSteps := 30000) +contextual only [State.finish_sound, State.startOp_sound, State.reject_sound, State.storeOp_sound, State.imageCommand_sound, Res.good_next, Res.good_ite, State.sound_ite, State.sound_mk, soundCore_self, soundCore_flash, Flash.sameFactory_self, if_true_left, if_true_right, ite_self, implies_true, *]; done)
              | split
              | (refine State.foldl_sound _ _ ?_ ?_ <;> intros)
              | (refine State.when_sound _ _ ?_ ?_ <;> intros))
           clear_value x)
        | (have hx : ∀ p q, State.sound F (x p q) := by
            intro p q
            simp only [x]
            repeat' (first
              | (simp (maxDischargeDepth := 60) (maxSteps := 30000) +contextual only [State.finish_sound, State.startOp_sound, State.reject_sound, State.storeOp_sound, State.imageCommand_sound, Res.good_next, Res.good_ite, State.sound_ite, State.sound_mk, soundCore_self, soundCore_flash, Flash.sameFactory_self, if_true_left, if_true_right, ite_self, implies_true, *]; done)
              | split
              | (refine State.foldl_sound _ _ ?_ ?_ <;> intros)
              | (refine State.when_sound _ _ ?_ ?_ <;> intros))
           clear_value x)
        | clear_value x
        | skip)
    | lift_lets
    | (simp (maxDischargeDepth := 60) (maxSteps := 30000) +contextual only [State.finish_sound, State.startOp_sound, State.reject_sound, State.storeOp_sound, State.imageCommand_sound, Res.good_next, Res.good_ite, State.sound_ite, State.sound_mk, soundCore_self, soundCore_flash, Flash.sameFactory_self, if_true_left, if_true_right, ite_self, implies_true, *]; done)
    | split
    | (refine State.foldl_sound _ _ ?_ ?_ <;> intros)
    | (refine State.when_sound _ _ ?_ ?_ <;> intros)
    | (refine (Res.good_next _).mpr (State.imageCommand_sound _ _ _ _ _ _ _ _ h fun j s hs => ?_))
    | (refine (Res.good_next _).mpr (State.command_sound _ _ _ _ _ _ _ h fun j s hs => ?_))
    | (dsimp only; split)
    | dsimp only)
theorem execSafetyAccept_good {F : Flash} (p : Port) (s : State) (h : s.sound F) :
    (execSafetyAccept p s).good F := by
  unfold execSafetyAccept
  simp (maxDischargeDepth := 60) (maxSteps := 30000) +contextual only [State.startOp_sound, State.refuseImage_sound, State.imageCommand_sound, State.storeSettings_sound, Res.good_next, Res.good_ite, State.sound_ite, State.sound_mk, soundCore_self, soundCore_flash, Flash.sameFactory_self, if_true_left, if_true_right, ite_self, implies_true, *]
theorem execKeyEnrolFirst_good {F : Flash} (p : Port) (s : State) (h : s.sound F) :
    (execKeyEnrolFirst p s).good F := by
  unfold execKeyEnrolFirst
  simp (maxDischargeDepth := 60) (maxSteps := 30000) +contextual only [State.keyEnrol_sound, Res.good_next, Res.good_ite, State.sound_ite, State.sound_mk, soundCore_self, soundCore_flash, Flash.sameFactory_self, if_true_left, if_true_right, ite_self, implies_true, *]
theorem execKeyEnrolReplace_good {F : Flash} (p : Port) (s : State) (h : s.sound F) :
    (execKeyEnrolReplace p s).good F := by
  unfold execKeyEnrolReplace
  simp (maxDischargeDepth := 60) (maxSteps := 30000) +contextual only [State.keyEnrol_sound, Res.good_next, Res.good_ite, State.sound_ite, State.sound_mk, soundCore_self, soundCore_flash, Flash.sameFactory_self, if_true_left, if_true_right, ite_self, implies_true, *]
theorem execKeyEnrolRemove_good {F : Flash} (p : Port) (s : State) (h : s.sound F) :
    (execKeyEnrolRemove p s).good F := by
  unfold execKeyEnrolRemove
  simp (maxDischargeDepth := 60) (maxSteps := 30000) +contextual only [State.keyEnrol_sound, Res.good_next, Res.good_ite, State.sound_ite, State.sound_mk, soundCore_self, soundCore_flash, Flash.sameFactory_self, if_true_left, if_true_right, ite_self, implies_true, *]
theorem execSettingRead_good {F : Flash} (p : Port) (s : State) (h : s.sound F) :
    (execSettingRead p s).good F := by
  unfold execSettingRead
  simp (maxDischargeDepth := 60) (maxSteps := 30000) +contextual only [State.finish_sound, State.command_sound, Res.good_next, Res.good_ite, State.sound_ite, State.sound_mk, soundCore_self, soundCore_flash, Flash.sameFactory_self, if_true_left, if_true_right, ite_self, implies_true, *]
theorem execSettingWrite_good {F : Flash} (p : Port) (s : State) (h : s.sound F) :
    (execSettingWrite p s).good F := by
  unfold execSettingWrite
  simp (maxDischargeDepth := 60) (maxSteps := 30000) +contextual only [State.startOp_sound, State.command_sound, State.storeSettings_sound, Res.good_next, Res.good_ite, State.sound_ite, State.sound_mk, soundCore_self, soundCore_flash, Flash.sameFactory_self, if_true_left, if_true_right, ite_self, implies_true, *]
theorem execSettingsPush_good {F : Flash} (p : Port) (s : State) (h : s.sound F) :
    (execSettingsPush p s).good F := by
  unfold execSettingsPush
  repeat' (first
    | (intro x; first
        | (have hx : State.sound F x := by
            simp only [x]
            repeat' (first
              | (simp (maxDischargeDepth := 60) (maxSteps := 30000) +contextual only [State.finish_sound, State.startOp_sound, State.command_sound, State.setMss_sound, State.storeOp_sound, State.storeSettings_sound, Res.good_next, Res.good_ite, State.sound_ite, State.sound_mk, soundCore_self, soundCore_flash, Flash.sameFactory_self, if_true_left, if_true_right, ite_self, implies_true, *]; done)
              | split
              | (refine State.foldl_sound _ _ ?_ ?_ <;> intros)
              | (refine State.when_sound _ _ ?_ ?_ <;> intros))
           clear_value x)
        | (have hx : State.sound F x.2 := by
            simp only [x]
            repeat' (first
              | (simp (maxDischargeDepth := 60) (maxSteps := 30000) +contextual only [State.finish_sound, State.startOp_sound, State.command_sound, State.setMss_sound, State.storeOp_sound, State.storeSettings_sound, Res.good_next, Res.good_ite, State.sound_ite, State.sound_mk, soundCore_self, soundCore_flash, Flash.sameFactory_self, if_true_left, if_true_right, ite_self, implies_true, *]; done)
              | split
              | (refine State.foldl_sound _ _ ?_ ?_ <;> intros)
              | (refine State.when_sound _ _ ?_ ?_ <;> intros))
           clear_value x)
        | (have hx : State.sound F x.1 := by
            simp only [x]
            repeat' (first
              | (simp (maxDischargeDepth := 60) (maxSteps := 30000) +contextual only [State.finish_sound, State.startOp_sound, State.command_sound, State.setMss_sound, State.storeOp_sound, State.storeSettings_sound, Res.good_next, Res.good_ite, State.sound_ite, State.sound_mk, soundCore_self, soundCore_flash, Flash.sameFactory_self, if_true_left, if_true_right, ite_self, implies_true, *]; done)
              | split
              | (refine State.foldl_sound _ _ ?_ ?_ <;> intros)
              | (refine State.when_sound _ _ ?_ ?_ <;> intros))
           clear_value x)
        | clear_value x
        | skip)
    | lift_lets
    | (simp (maxDischargeDepth := 60) (maxSteps := 30000) +contextual only [State.finish_sound, State.startOp_sound, State.command_sound, State.setMss_sound, State.storeOp_sound, State.storeSettings_sound, Res.good_next, Res.good_ite, State.sound_ite, State.sound_mk, soundCore_self, soundCore_flash, Flash.sameFactory_self, if_true_left, if_true_right, ite_self, implies_true, *]; done)
    | split
    | (refine State.foldl_sound _ _ ?_ ?_ <;> intros)
    | (refine State.when_sound _ _ ?_ ?_ <;> intros)
    | (refine (Res.good_next _).mpr (State.imageCommand_sound _ _ _ _ _ _ _ _ h fun j s hs => ?_))
    | (refine (Res.good_next _).mpr (State.command_sound _ _ _ _ _ _ _ h fun j s hs => ?_))
    | (dsimp only; split)
    | dsimp only)
theorem execFwStore_good {F : Flash} (p : Port) (s : State) (h : s.sound F) :
    (execFwStore p s).good F := by
  unfold execFwStore
  simp (maxDischargeDepth := 60) (maxSteps := 30000) +contextual only [State.startOp_sound, State.command_sound, Res.good_next, Res.good_ite, State.sound_ite, State.sound_mk, soundCore_self, soundCore_flash, Flash.sameFactory_self, if_true_left, if_true_right, ite_self, implies_true, *]
theorem execFwVerifyDone_good {F : Flash} (s : State) (h : s.sound F) :
    (execFwVerifyDone s).good F := by
  unfold execFwVerifyDone
  repeat' (first
    | (intro x; first
        | (have hx : State.sound F x := by
            simp only [x]
            repeat' (first
              | (simp (maxDischargeDepth := 60) (maxSteps := 30000) +contextual only [State.endOp_sound, State.setMss_sound, State.fwLog_sound, State.fwCtlStore_sound, Res.good_next, Res.good_ite, State.sound_ite, State.sound_mk, soundCore_self, soundCore_flash, Flash.sameFactory_self, if_true_left, if_true_right, ite_self, implies_true, *]; done)
              | split
              | (refine State.foldl_sound _ _ ?_ ?_ <;> intros)
              | (refine State.when_sound _ _ ?_ ?_ <;> intros))
           clear_value x)
        | clear_value x
        | skip)
    | lift_lets
    | (simp (maxDischargeDepth := 60) (maxSteps := 30000) +contextual only [State.endOp_sound, State.setMss_sound, State.fwLog_sound, State.fwCtlStore_sound, Res.good_next, Res.good_ite, State.sound_ite, State.sound_mk, soundCore_self, soundCore_flash, Flash.sameFactory_self, if_true_left, if_true_right, ite_self, implies_true, *]; done)
    | split
    | (refine State.foldl_sound _ _ ?_ ?_ <;> intros)
    | (refine State.when_sound _ _ ?_ ?_ <;> intros)
    | (refine (Res.good_next _).mpr (State.imageCommand_sound _ _ _ _ _ _ _ _ h fun j s hs => ?_))
    | (refine (Res.good_next _).mpr (State.command_sound _ _ _ _ _ _ _ h fun j s hs => ?_))
    | (dsimp only; split)
    | dsimp only)
theorem execFwProgramDone_good {F : Flash} (fail : Option Nat) (s : State) (h : s.sound F) :
    (execFwProgramDone fail s).good F := by
  unfold execFwProgramDone
  repeat' (first | (simp (maxDischargeDepth := 60) (maxSteps := 30000) +contextual only [State.endOp_sound, State.setFlash_sound, State.fwCtlStore_sound, Flash.setImg_factory, Flash.setFw_factory, Flash.begin_factory, Flash.mark_factory, Res.good_next, Res.good_ite, State.sound_ite, State.sound_mk, soundCore_self, soundCore_flash, Flash.sameFactory_self, if_true_left, if_true_right, ite_self, implies_true, *]; done) | split)
theorem execFwConfirm_good {F : Flash} (p : Port) (s : State) (h : s.sound F) :
    (execFwConfirm p s).good F := by
  unfold execFwConfirm
  simp (maxDischargeDepth := 60) (maxSteps := 30000) +contextual only [State.finish_sound, State.startOp_sound, State.command_sound, State.confirmStart_sound, Res.good_next, Res.good_ite, State.sound_ite, State.sound_mk, soundCore_self, soundCore_flash, Flash.sameFactory_self, if_true_left, if_true_right, ite_self, implies_true, *]
theorem execFwConfirmTimer_good {F : Flash} (s : State) (h : s.sound F) :
    (execFwConfirmTimer s).good F := by
  unfold execFwConfirmTimer
  simp (maxDischargeDepth := 60) (maxSteps := 30000) +contextual only [State.confirmStart_sound, Res.good_next, Res.good_ite, State.sound_ite, State.sound_mk, soundCore_self, soundCore_flash, Flash.sameFactory_self, if_true_left, if_true_right, ite_self, implies_true, *]
theorem execBankStoreDone_good {F : Flash} (fail : Option Nat) (s : State) (h : s.sound F) :
    (execBankStoreDone fail s).good F := by
  unfold execBankStoreDone
  repeat' (first
    | (intro x; first
        | (have hx : State.sound F x := by
            simp only [x]
            repeat' (first
              | (simp (maxDischargeDepth := 60) (maxSteps := 30000) +contextual only [State.endOp_sound, State.setMss_sound, State.setFlash_sound, State.storeOp_sound, State.fwLog_sound, State.settingsChanged_sound, State.opStored_sound, Flash.setImg_factory, Flash.setFw_factory, Flash.begin_factory, Flash.mark_factory, Res.good_next, Res.good_ite, State.sound_ite, State.sound_mk, soundCore_self, soundCore_flash, Flash.sameFactory_self, if_true_left, if_true_right, ite_self, implies_true, *]; done)
              | split
              | (refine State.foldl_sound _ _ ?_ ?_ <;> intros)
              | (refine State.when_sound _ _ ?_ ?_ <;> intros))
           clear_value x)
        | clear_value x
        | skip)
    | lift_lets
    | (simp (maxDischargeDepth := 60) (maxSteps := 30000) +contextual only [State.endOp_sound, State.setMss_sound, State.setFlash_sound, State.storeOp_sound, State.fwLog_sound, State.settingsChanged_sound, State.opStored_sound, Flash.setImg_factory, Flash.setFw_factory, Flash.begin_factory, Flash.mark_factory, Res.good_next, Res.good_ite, State.sound_ite, State.sound_mk, soundCore_self, soundCore_flash, Flash.sameFactory_self, if_true_left, if_true_right, ite_self, implies_true, *]; done)
    | split
    | (refine State.foldl_sound _ _ ?_ ?_ <;> intros)
    | (refine State.when_sound _ _ ?_ ?_ <;> intros)
    | (refine (Res.good_next _).mpr (State.imageCommand_sound _ _ _ _ _ _ _ _ h fun j s hs => ?_))
    | (refine (Res.good_next _).mpr (State.command_sound _ _ _ _ _ _ _ h fun j s hs => ?_))
    | (dsimp only; split)
    | dsimp only)
theorem execBankEraseDone_good {F : Flash} (s : State) (h : s.sound F) :
    (execBankEraseDone s).good F := by
  unfold execBankEraseDone
  repeat' (first
    | (intro x; first
        | (have hx : State.sound F x := by
            simp only [x]
            repeat' (first
              | (simp (maxDischargeDepth := 60) (maxSteps := 30000) +contextual only [State.setMss_sound, State.setFlash_sound, Flash.setImg_factory, Flash.setFw_factory, Flash.begin_factory, Flash.mark_factory, Flash.erased_factory, Res.good_next, Res.good_ite, State.sound_ite, State.sound_mk, soundCore_self, soundCore_flash, Flash.sameFactory_self, if_true_left, if_true_right, ite_self, implies_true, *]; done)
              | split
              | (refine State.foldl_sound _ _ ?_ ?_ <;> intros)
              | (refine State.when_sound _ _ ?_ ?_ <;> intros))
           clear_value x)
        | (have hx : State.sound F x.2 := by
            simp only [x]
            repeat' (first
              | (simp (maxDischargeDepth := 60) (maxSteps := 30000) +contextual only [State.setMss_sound, State.setFlash_sound, Flash.setImg_factory, Flash.setFw_factory, Flash.begin_factory, Flash.mark_factory, Flash.erased_factory, Res.good_next, Res.good_ite, State.sound_ite, State.sound_mk, soundCore_self, soundCore_flash, Flash.sameFactory_self, if_true_left, if_true_right, ite_self, implies_true, *]; done)
              | split
              | (refine State.foldl_sound _ _ ?_ ?_ <;> intros)
              | (refine State.when_sound _ _ ?_ ?_ <;> intros))
           clear_value x)
        | (have hx : State.sound F x.1 := by
            simp only [x]
            repeat' (first
              | (simp (maxDischargeDepth := 60) (maxSteps := 30000) +contextual only [State.setMss_sound, State.setFlash_sound, Flash.setImg_factory, Flash.setFw_factory, Flash.begin_factory, Flash.mark_factory, Flash.erased_factory, Res.good_next, Res.good_ite, State.sound_ite, State.sound_mk, soundCore_self, soundCore_flash, Flash.sameFactory_self, if_true_left, if_true_right, ite_self, implies_true, *]; done)
              | split
              | (refine State.foldl_sound _ _ ?_ ?_ <;> intros)
              | (refine State.when_sound _ _ ?_ ?_ <;> intros))
           clear_value x)
        | clear_value x
        | skip)
    | lift_lets
    | (simp (maxDischargeDepth := 60) (maxSteps := 30000) +contextual only [State.setMss_sound, State.setFlash_sound, Flash.setImg_factory, Flash.setFw_factory, Flash.begin_factory, Flash.mark_factory, Flash.erased_factory, Res.good_next, Res.good_ite, State.sound_ite, State.sound_mk, soundCore_self, soundCore_flash, Flash.sameFactory_self, if_true_left, if_true_right, ite_self, implies_true, *]; done)
    | split
    | (refine State.foldl_sound _ _ ?_ ?_ <;> intros)
    | (refine State.when_sound _ _ ?_ ?_ <;> intros)
    | (refine (Res.good_next _).mpr (State.imageCommand_sound _ _ _ _ _ _ _ _ h fun j s hs => ?_))
    | (refine (Res.good_next _).mpr (State.command_sound _ _ _ _ _ _ _ h fun j s hs => ?_))
    | (dsimp only; split)
    | dsimp only)

end Sys2Proof.Machine
end

