-- ==== Sys2Proof/Laws/Good/Power.lean ====
section
/-!
SUPPORT. Each command of Machine/Power.lean answers a next state, and keeps a sound state sound.
-/
namespace Sys2Proof.Machine
set_option linter.unusedSimpArgs false
set_option linter.unusedTactic false
set_option linter.unreachableTactic false
set_option linter.unusedVariables false

theorem execPowerLoss_good {F : Flash} (all : Bool) (s : State) (h : s.sound F) :
    (execPowerLoss all s).good F := by
  unfold execPowerLoss
  simp (maxDischargeDepth := 60) (maxSteps := 30000) +contextual only [State.hubResetTo_sound, State.railsDown_sound, Res.good_next, Res.good_ite, State.sound_ite, State.sound_mk, soundCore_self, soundCore_flash, Flash.sameFactory_self, if_true_left, if_true_right, ite_self, implies_true, *]
theorem execMainRailsValid_good {F : Flash} (s : State) (h : s.sound F) :
    (execMainRailsValid s).good F := by
  unfold execMainRailsValid
  simp (maxDischargeDepth := 60) (maxSteps := 30000) +contextual only [Res.good_next, Res.good_ite, State.sound_ite, State.sound_mk, soundCore_self, soundCore_flash, Flash.sameFactory_self, if_true_left, if_true_right, ite_self, implies_true, *]
theorem execRailBelowReset_good {F : Flash} (all : Bool) (also : List ResetCause) (s : State) (h : s.sound F) :
    (execRailBelowReset all also s).good F := by
  unfold execRailBelowReset
  simp (maxDischargeDepth := 60) (maxSteps := 30000) +contextual only [State.resetNow_sound, State.railsDown_sound, Res.good_next, Res.good_ite, State.sound_ite, State.sound_mk, soundCore_self, soundCore_flash, Flash.sameFactory_self, if_true_left, if_true_right, ite_self, implies_true, *]
theorem execRstnAssert_good {F : Flash} (also : List ResetCause) (s : State) (h : s.sound F) :
    (execRstnAssert also s).good F := by
  unfold execRstnAssert
  simp (maxDischargeDepth := 60) (maxSteps := 30000) +contextual only [State.resetNow_sound, Res.good_next, Res.good_ite, State.sound_ite, State.sound_mk, soundCore_self, soundCore_flash, Flash.sameFactory_self, if_true_left, if_true_right, ite_self, implies_true, *]
theorem execReferenceClockFail_good {F : Flash} (reference : Bool) (also : List ResetCause) (s : State) (h : s.sound F) :
    (execReferenceClockFail reference also s).good F := by
  unfold execReferenceClockFail
  simp (maxDischargeDepth := 60) (maxSteps := 30000) +contextual only [State.setBit_sound, State.resetNow_sound, Res.good_next, Res.good_ite, State.sound_ite, State.sound_mk, soundCore_self, soundCore_flash, Flash.sameFactory_self, if_true_left, if_true_right, ite_self, implies_true, *]
theorem execMssMonitor_good {F : Flash} (also : List ResetCause) (s : State) (h : s.sound F) :
    (execMssMonitor also s).good F := by
  unfold execMssMonitor
  simp (maxDischargeDepth := 60) (maxSteps := 30000) +contextual only [State.resetNow_sound, Res.good_next, Res.good_ite, State.sound_ite, State.sound_mk, soundCore_self, soundCore_flash, Flash.sameFactory_self, if_true_left, if_true_right, ite_self, implies_true, *]
theorem execMssSramUncorrectable_good {F : Flash} (s : State) (h : s.sound F) :
    (execMssSramUncorrectable s).good F := by
  unfold execMssSramUncorrectable
  simp (maxDischargeDepth := 60) (maxSteps := 30000) +contextual only [State.setMss_sound, Res.good_next, Res.good_ite, State.sound_ite, State.sound_mk, soundCore_self, soundCore_flash, Flash.sameFactory_self, if_true_left, if_true_right, ite_self, implies_true, *]
theorem execCommandReset_good {F : Flash} (also : List ResetCause) (s : State) (h : s.sound F) :
    (execCommandReset also s).good F := by
  unfold execCommandReset
  simp (maxDischargeDepth := 60) (maxSteps := 30000) +contextual only [State.resetNow_sound, Res.good_next, Res.good_ite, State.sound_ite, State.sound_mk, soundCore_self, soundCore_flash, Flash.sameFactory_self, if_true_left, if_true_right, ite_self, implies_true, *]
theorem execHubResetRelease_good {F : Flash} (a b c : Nat) (s : State) (h : s.sound F) :
    (execHubResetRelease a b c s).good F := by
  unfold execHubResetRelease
  simp (maxDischargeDepth := 60) (maxSteps := 30000) +contextual only [State.setReg_sound, State.setFld_sound, State.setBit_sound, State.setDev_sound, State.release_sound, State.setRing_sound, Res.good_next, Res.good_ite, State.sound_ite, State.sound_mk, soundCore_self, soundCore_flash, Flash.sameFactory_self, if_true_left, if_true_right, ite_self, implies_true, *]
theorem execRailWarnEnter_good {F : Flash} (rail : Fin 5) (s : State) (h : s.sound F) :
    (execRailWarnEnter rail s).good F := by
  unfold execRailWarnEnter
  simp (maxDischargeDepth := 60) (maxSteps := 30000) +contextual only [State.setBit_sound, State.fire_sound, State.logRec_sound, Res.good_next, Res.good_ite, State.sound_ite, State.sound_mk, soundCore_self, soundCore_flash, Flash.sameFactory_self, if_true_left, if_true_right, ite_self, implies_true, *]
theorem execRailWarnClear_good {F : Flash} (rail : Fin 5) (s : State) (h : s.sound F) :
    (execRailWarnClear rail s).good F := by
  unfold execRailWarnClear
  simp (maxDischargeDepth := 60) (maxSteps := 30000) +contextual only [State.setBit_sound, Res.good_next, Res.good_ite, State.sound_ite, State.sound_mk, soundCore_self, soundCore_flash, Flash.sameFactory_self, if_true_left, if_true_right, ite_self, implies_true, *]
theorem execRailSafeHigh_good {F : Flash} (rail : Fin 5) (s : State) (h : s.sound F) :
    (execRailSafeHigh rail s).good F := by
  unfold execRailSafeHigh
  simp (maxDischargeDepth := 60) (maxSteps := 30000) +contextual only [State.limitCross_sound, Res.good_next, Res.good_ite, State.sound_ite, State.sound_mk, soundCore_self, soundCore_flash, Flash.sameFactory_self, if_true_left, if_true_right, ite_self, implies_true, *]
theorem execPfwRaise_good {F : Flash} (s : State) (h : s.sound F) :
    (execPfwRaise s).good F := by
  unfold execPfwRaise
  simp (maxDischargeDepth := 60) (maxSteps := 30000) +contextual only [State.setBit_sound, State.fire_sound, State.logRec_sound, State.snapAll_sound, State.flashAbort_sound, State.when_sound, Res.good_next, Res.good_ite, State.sound_ite, State.sound_mk, soundCore_self, soundCore_flash, Flash.sameFactory_self, if_true_left, if_true_right, ite_self, implies_true, *]
theorem execPfwClear_good {F : Flash} (s : State) (h : s.sound F) :
    (execPfwClear s).good F := by
  unfold execPfwClear
  simp (maxDischargeDepth := 60) (maxSteps := 30000) +contextual only [State.setBit_sound, Res.good_next, Res.good_ite, State.sound_ite, State.sound_mk, soundCore_self, soundCore_flash, Flash.sameFactory_self, if_true_left, if_true_right, ite_self, implies_true, *]
theorem execTempWarnRaise_good {F : Flash} (s : State) (h : s.sound F) :
    (execTempWarnRaise s).good F := by
  unfold execTempWarnRaise
  simp (maxDischargeDepth := 60) (maxSteps := 30000) +contextual only [State.setBit_sound, State.fire_sound, State.logRec_sound, Res.good_next, Res.good_ite, State.sound_ite, State.sound_mk, soundCore_self, soundCore_flash, Flash.sameFactory_self, if_true_left, if_true_right, ite_self, implies_true, *]
theorem execTempWarnClear_good {F : Flash} (s : State) (h : s.sound F) :
    (execTempWarnClear s).good F := by
  unfold execTempWarnClear
  simp (maxDischargeDepth := 60) (maxSteps := 30000) +contextual only [State.setBit_sound, Res.good_next, Res.good_ite, State.sound_ite, State.sound_mk, soundCore_self, soundCore_flash, Flash.sameFactory_self, if_true_left, if_true_right, ite_self, implies_true, *]
theorem execTempSafeLimit_good {F : Flash} (s : State) (h : s.sound F) :
    (execTempSafeLimit s).good F := by
  unfold execTempSafeLimit
  simp (maxDischargeDepth := 60) (maxSteps := 30000) +contextual only [State.limitCross_sound, Res.good_next, Res.good_ite, State.sound_ite, State.sound_mk, soundCore_self, soundCore_flash, Flash.sameFactory_self, if_true_left, if_true_right, ite_self, implies_true, *]
theorem execPllbUnlock_good {F : Flash} (s : State) (h : s.sound F) :
    (execPllbUnlock s).good F := by
  unfold execPllbUnlock
  simp (maxDischargeDepth := 60) (maxSteps := 30000) +contextual only [State.setBit_sound, State.fire_sound, State.linkDown_sound, Res.good_next, Res.good_ite, State.sound_ite, State.sound_mk, soundCore_self, soundCore_flash, Flash.sameFactory_self, if_true_left, if_true_right, ite_self, implies_true, *]
theorem execRingForwardStart_good {F : Flash} (s : State) (h : s.sound F) :
    (execRingForwardStart s).good F := by
  unfold execRingForwardStart
  simp (maxDischargeDepth := 60) (maxSteps := 30000) +contextual only [State.setBit_sound, State.setRing_sound, Res.good_next, Res.good_ite, State.sound_ite, State.sound_mk, soundCore_self, soundCore_flash, Flash.sameFactory_self, if_true_left, if_true_right, ite_self, implies_true, *]
theorem execEmberOscStop_good {F : Flash} (s : State) (h : s.sound F) :
    (execEmberOscStop s).good F := by
  unfold execEmberOscStop
  simp (maxDischargeDepth := 60) (maxSteps := 30000) +contextual only [State.setBit_sound, State.logRec_sound, Res.good_next, Res.good_ite, State.sound_ite, State.sound_mk, soundCore_self, soundCore_flash, Flash.sameFactory_self, if_true_left, if_true_right, ite_self, implies_true, *]
theorem execEmberToVbat_good {F : Flash} (s : State) (h : s.sound F) :
    (execEmberToVbat s).good F := by
  unfold execEmberToVbat
  simp (maxDischargeDepth := 60) (maxSteps := 30000) +contextual only [State.setBit_sound, Res.good_next, Res.good_ite, State.sound_ite, State.sound_mk, soundCore_self, soundCore_flash, Flash.sameFactory_self, if_true_left, if_true_right, ite_self, implies_true, *]
theorem execEmberLow_good {F : Flash} (lost : Bool) (s : State) (h : s.sound F) :
    (execEmberLow lost s).good F := by
  unfold execEmberLow
  simp (maxDischargeDepth := 60) (maxSteps := 30000) +contextual only [Res.good_next, Res.good_ite, State.sound_ite, State.sound_mk, soundCore_self, soundCore_flash, Flash.sameFactory_self, if_true_left, if_true_right, ite_self, implies_true, *]
theorem execEmberToVddio_good {F : Flash} (crcOk low : Bool) (s : State) (h : s.sound F) :
    (execEmberToVddio crcOk low s).good F := by
  unfold execEmberToVddio
  simp (maxDischargeDepth := 60) (maxSteps := 30000) +contextual only [State.setBit_sound, Res.good_next, Res.good_ite, State.sound_ite, State.sound_mk, soundCore_self, soundCore_flash, Flash.sameFactory_self, if_true_left, if_true_right, ite_self, implies_true, *]
theorem execRtcAlarmMatch_good {F : Flash} (s : State) (h : s.sound F) :
    (execRtcAlarmMatch s).good F := by
  unfold execRtcAlarmMatch
  simp (maxDischargeDepth := 60) (maxSteps := 30000) +contextual only [Res.good_next, Res.good_ite, State.sound_ite, State.sound_mk, soundCore_self, soundCore_flash, Flash.sameFactory_self, if_true_left, if_true_right, ite_self, implies_true, *]

end Sys2Proof.Machine
end

