-- ==== Sys2Proof/Laws/Good/Mgmt.lean ====
section
/-!
SUPPORT. Each command of Machine/Mgmt.lean answers a next state, and keeps a sound state sound.
-/
namespace Sys2Proof.Machine
set_option linter.unusedSimpArgs false
set_option linter.unusedTactic false
set_option linter.unreachableTactic false
set_option linter.unusedVariables false

theorem execSensorUpdate_good {F : Flash} (n : Fin 24) (mean low high : Nat) (s : State) (h : s.sound F) :
    (execSensorUpdate n mean low high s).good F := by
  unfold execSensorUpdate
  simp (maxDischargeDepth := 60) (maxSteps := 30000) +contextual only [State.setReg_sound, State.setBit_sound, State.setMss_sound, Res.good_next, Res.good_ite, State.sound_ite, State.sound_mk, soundCore_self, soundCore_flash, Flash.sameFactory_self, if_true_left, if_true_right, ite_self, implies_true, *]
theorem execLogFlush_good {F : Flash} (s : State) (h : s.sound F) :
    (execLogFlush s).good F := by
  unfold execLogFlush
  simp (maxDischargeDepth := 60) (maxSteps := 30000) +contextual only [State.logStore_sound, State.logLost_sound, Res.good_next, Res.good_ite, State.sound_ite, State.sound_mk, soundCore_self, soundCore_flash, Flash.sameFactory_self, if_true_left, if_true_right, ite_self, implies_true, *]
theorem execPoll_good {F : Flash} (p : Port) (s : State) (h : s.sound F) :
    (execPoll p s).good F := by
  unfold execPoll
  simp (maxDischargeDepth := 60) (maxSteps := 30000) +contextual only [State.finish_sound, State.command_sound, Res.good_next, Res.good_ite, State.sound_ite, State.sound_mk, soundCore_self, soundCore_flash, Flash.sameFactory_self, if_true_left, if_true_right, ite_self, implies_true, *]
theorem execInfo_good {F : Flash} (p : Port) (s : State) (h : s.sound F) :
    (execInfo p s).good F := by
  unfold execInfo
  simp (maxDischargeDepth := 60) (maxSteps := 30000) +contextual only [State.finish_sound, State.command_sound, Res.good_next, Res.good_ite, State.sound_ite, State.sound_mk, soundCore_self, soundCore_flash, Flash.sameFactory_self, if_true_left, if_true_right, ite_self, implies_true, *]
theorem execReset_good {F : Flash} (p : Port) (s : State) (h : s.sound F) :
    (execReset p s).good F := by
  unfold execReset
  simp (maxDischargeDepth := 60) (maxSteps := 30000) +contextual only [State.finish_sound, State.command_sound, State.setMss_sound, Res.good_next, Res.good_ite, State.sound_ite, State.sound_mk, soundCore_self, soundCore_flash, Flash.sameFactory_self, if_true_left, if_true_right, ite_self, implies_true, *]
theorem execLogRead_good {F : Flash} (p : Port) (s : State) (h : s.sound F) :
    (execLogRead p s).good F := by
  unfold execLogRead
  simp (maxDischargeDepth := 60) (maxSteps := 30000) +contextual only [State.finish_sound, State.command_sound, Res.good_next, Res.good_ite, State.sound_ite, State.sound_mk, soundCore_self, soundCore_flash, Flash.sameFactory_self, if_true_left, if_true_right, ite_self, implies_true, *]
theorem execLogWrite_good {F : Flash} (p : Port) (s : State) (h : s.sound F) :
    (execLogWrite p s).good F := by
  unfold execLogWrite
  simp (maxDischargeDepth := 60) (maxSteps := 30000) +contextual only [State.logRec_sound, State.finish_sound, State.command_sound, Res.good_next, Res.good_ite, State.sound_ite, State.sound_mk, soundCore_self, soundCore_flash, Flash.sameFactory_self, if_true_left, if_true_right, ite_self, implies_true, *]
theorem execSensorMinmax_good {F : Flash} (p : Port) (s : State) (h : s.sound F) :
    (execSensorMinmax p s).good F := by
  unfold execSensorMinmax
  simp (maxDischargeDepth := 60) (maxSteps := 30000) +contextual only [State.finish_sound, State.command_sound, State.setMss_sound, State.when_sound, Res.good_next, Res.good_ite, State.sound_ite, State.sound_mk, soundCore_self, soundCore_flash, Flash.sameFactory_self, if_true_left, if_true_right, ite_self, implies_true, *]
theorem execRtcSet_good {F : Flash} (p : Port) (s : State) (h : s.sound F) :
    (execRtcSet p s).good F := by
  unfold execRtcSet
  simp (maxDischargeDepth := 60) (maxSteps := 30000) +contextual only [State.finish_sound, State.command_sound, Res.good_next, Res.good_ite, State.sound_ite, State.sound_mk, soundCore_self, soundCore_flash, Flash.sameFactory_self, if_true_left, if_true_right, ite_self, implies_true, *]
theorem execRtcAlarm_good {F : Flash} (p : Port) (s : State) (h : s.sound F) :
    (execRtcAlarm p s).good F := by
  unfold execRtcAlarm
  simp (maxDischargeDepth := 60) (maxSteps := 30000) +contextual only [State.finish_sound, State.command_sound, Res.good_next, Res.good_ite, State.sound_ite, State.sound_mk, soundCore_self, soundCore_flash, Flash.sameFactory_self, if_true_left, if_true_right, ite_self, implies_true, *]
theorem execLoadCheck_good {F : Flash} (s : State) (h : s.sound F) :
    (execLoadCheck s).good F := by
  unfold execLoadCheck
  simp (maxDischargeDepth := 60) (maxSteps := 30000) +contextual only [State.setReg_sound, State.setBit_sound, State.fire_sound, State.foldl_sound, Res.good_next, Res.good_ite, State.sound_ite, State.sound_mk, soundCore_self, soundCore_flash, Flash.sameFactory_self, if_true_left, if_true_right, ite_self, implies_true, *]

end Sys2Proof.Machine
end

