-- ==== Sys2Proof/Laws/Good/Boot.lean ====
section
/-!
SUPPORT. Each command of Machine/Boot.lean answers a next state, and keeps a sound state sound.
-/
namespace Sys2Proof.Machine
set_option linter.unusedSimpArgs false
set_option linter.unusedTactic false
set_option linter.unreachableTactic false
set_option linter.unusedVariables false

theorem execFirmwareVerified_good {F : Flash} (vbat : Nat) (s : State) (h : s.sound F) :
    (execFirmwareVerified vbat s).good F := by
  unfold execFirmwareVerified
  repeat' (first | (simp (maxDischargeDepth := 60) (maxSteps := 30000) +contextual only [State.setFld_sound, State.setDev_sound, State.wdgMaintenance_sound, State.fwLog_sound, State.firmwareStart_sound, State.firmwareFound_sound, State.firmwareRing_sound, Res.good_next, Res.good_ite, State.sound_ite, State.sound_mk, soundCore_self, soundCore_flash, Flash.sameFactory_self, if_true_left, if_true_right, ite_self, implies_true, *]; done) | split)
theorem execBootImageVerified_good {F : Flash} (s : State) (h : s.sound F) :
    (execBootImageVerified s).good F := by
  unfold execBootImageVerified
  repeat' (first
    | (intro x; first
        | (have hx : State.sound F x := by
            simp only [x]
            repeat' (first
              | (simp (maxDischargeDepth := 60) (maxSteps := 30000) +contextual only [State.reject_sound, State.bootUnpitched_sound, State.bootImage_sound, State.bootSlots_sound, Res.good_next, Res.good_ite, State.sound_ite, State.sound_mk, soundCore_self, soundCore_flash, Flash.sameFactory_self, if_true_left, if_true_right, ite_self, implies_true, *]; done)
              | split
              | (refine State.foldl_sound _ _ ?_ ?_ <;> intros)
              | (refine State.when_sound _ _ ?_ ?_ <;> intros))
           clear_value x)
        | (have hx : State.sound F x.2 := by
            simp only [x]
            repeat' (first
              | (simp (maxDischargeDepth := 60) (maxSteps := 30000) +contextual only [State.reject_sound, State.bootUnpitched_sound, State.bootImage_sound, State.bootSlots_sound, Res.good_next, Res.good_ite, State.sound_ite, State.sound_mk, soundCore_self, soundCore_flash, Flash.sameFactory_self, if_true_left, if_true_right, ite_self, implies_true, *]; done)
              | split
              | (refine State.foldl_sound _ _ ?_ ?_ <;> intros)
              | (refine State.when_sound _ _ ?_ ?_ <;> intros))
           clear_value x)
        | (have hx : State.sound F x.1 := by
            simp only [x]
            repeat' (first
              | (simp (maxDischargeDepth := 60) (maxSteps := 30000) +contextual only [State.reject_sound, State.bootUnpitched_sound, State.bootImage_sound, State.bootSlots_sound, Res.good_next, Res.good_ite, State.sound_ite, State.sound_mk, soundCore_self, soundCore_flash, Flash.sameFactory_self, if_true_left, if_true_right, ite_self, implies_true, *]; done)
              | split
              | (refine State.foldl_sound _ _ ?_ ?_ <;> intros)
              | (refine State.when_sound _ _ ?_ ?_ <;> intros))
           clear_value x)
        | clear_value x
        | skip)
    | lift_lets
    | (simp (maxDischargeDepth := 60) (maxSteps := 30000) +contextual only [State.reject_sound, State.bootUnpitched_sound, State.bootImage_sound, State.bootSlots_sound, Res.good_next, Res.good_ite, State.sound_ite, State.sound_mk, soundCore_self, soundCore_flash, Flash.sameFactory_self, if_true_left, if_true_right, ite_self, implies_true, *]; done)
    | split
    | (refine State.foldl_sound _ _ ?_ ?_ <;> intros)
    | (refine State.when_sound _ _ ?_ ?_ <;> intros)
    | (refine (Res.good_next _).mpr (State.imageCommand_sound _ _ _ _ _ _ _ _ h fun j s hs => ?_))
    | (refine (Res.good_next _).mpr (State.command_sound _ _ _ _ _ _ _ h fun j s hs => ?_))
    | (dsimp only; split)
    | dsimp only)
theorem execRingImageTimeout_good {F : Flash} (s : State) (h : s.sound F) :
    (execRingImageTimeout s).good F := by
  unfold execRingImageTimeout
  simp (maxDischargeDepth := 60) (maxSteps := 30000) +contextual only [State.bootEnd_sound, Res.good_next, Res.good_ite, State.sound_ite, State.sound_mk, soundCore_self, soundCore_flash, Flash.sameFactory_self, if_true_left, if_true_right, ite_self, implies_true, *]
theorem execDoze_good {F : Flash} (p : Port) (asserted : Nat) (s : State) (h : s.sound F) :
    (execDoze p asserted s).good F := by
  unfold execDoze
  simp (maxDischargeDepth := 60) (maxSteps := 30000) +contextual only [State.setReg_sound, State.capStopAll_sound, State.observe_sound, State.setDev_sound, State.tenureOver_sound, State.sleepAsk_sound, Res.good_next, Res.good_ite, State.sound_ite, State.sound_mk, soundCore_self, soundCore_flash, Flash.sameFactory_self, if_true_left, if_true_right, ite_self, implies_true, *]
theorem execDozeWake_good {F : Flash} (sources : Nat) (s : State) (h : s.sound F) :
    (execDozeWake sources s).good F := by
  unfold execDozeWake
  simp (maxDischargeDepth := 60) (maxSteps := 30000) +contextual only [State.wakeDoze_sound, Res.good_next, Res.good_ite, State.sound_ite, State.sound_mk, soundCore_self, soundCore_flash, Flash.sameFactory_self, if_true_left, if_true_right, ite_self, implies_true, *]
theorem execDeep_good {F : Flash} (p : Port) (asserted : Nat) (s : State) (h : s.sound F) :
    (execDeep p asserted s).good F := by
  unfold execDeep
  simp (maxDischargeDepth := 60) (maxSteps := 30000) +contextual only [State.sleepAsk_sound, Res.good_next, Res.good_ite, State.sound_ite, State.sound_mk, soundCore_self, soundCore_flash, Flash.sameFactory_self, if_true_left, if_true_right, ite_self, implies_true, *]
theorem execDeepPrepared_good {F : Flash} (s : State) (h : s.sound F) :
    (execDeepPrepared s).good F := by
  unfold execDeepPrepared
  simp (maxDischargeDepth := 60) (maxSteps := 30000) +contextual only [State.logRec_sound, State.capStopAll_sound, State.snapAll_sound, State.tenureOver_sound, State.slcHaltAll_sound, Res.good_next, Res.good_ite, State.sound_ite, State.sound_mk, soundCore_self, soundCore_flash, Flash.sameFactory_self, if_true_left, if_true_right, ite_self, implies_true, *]
theorem execDeepCommit_good {F : Flash} (asserted : Nat) (s : State) (h : s.sound F) :
    (execDeepCommit asserted s).good F := by
  unfold execDeepCommit
  simp (maxDischargeDepth := 60) (maxSteps := 30000) +contextual only [State.setReg_sound, State.setFld_sound, State.observe_sound, State.setDev_sound, State.islandsOff_sound, Res.good_next, Res.good_ite, State.sound_ite, State.sound_mk, soundCore_self, soundCore_flash, Flash.sameFactory_self, if_true_left, if_true_right, ite_self, implies_true, *]
theorem execDeepRetain_good {F : Flash} (s : State) (h : s.sound F) :
    (execDeepRetain s).good F := by
  unfold execDeepRetain
  simp (maxDischargeDepth := 60) (maxSteps := 30000) +contextual only [State.setBit_sound, State.wdgPause_sound, State.setDisc_sound, Res.good_next, Res.good_ite, State.sound_ite, State.sound_mk, soundCore_self, soundCore_flash, Flash.sameFactory_self, if_true_left, if_true_right, ite_self, implies_true, *]
theorem execDeepWake_good {F : Flash} (sources : Nat) (s : State) (h : s.sound F) :
    (execDeepWake sources s).good F := by
  unfold execDeepWake
  simp (maxDischargeDepth := 60) (maxSteps := 30000) +contextual only [State.setReg_sound, State.setBit_sound, Res.good_next, Res.good_ite, State.sound_ite, State.sound_mk, soundCore_self, soundCore_flash, Flash.sameFactory_self, if_true_left, if_true_right, ite_self, implies_true, *]
theorem execWakeCoreRunning_good {F : Flash} (s : State) (h : s.sound F) :
    (execWakeCoreRunning s).good F := by
  unfold execWakeCoreRunning
  simp (maxDischargeDepth := 60) (maxSteps := 30000) +contextual only [State.logRec_sound, State.setDev_sound, State.safeCause_sound, State.wdgResume_sound, State.when_sound, Res.good_next, Res.good_ite, State.sound_ite, State.sound_mk, soundCore_self, soundCore_flash, Flash.sameFactory_self, if_true_left, if_true_right, ite_self, implies_true, *]
theorem execWakeScrubDone_good {F : Flash} (ue : Option Nat) (s : State) (h : s.sound F) :
    (execWakeScrubDone ue s).good F := by
  unfold execWakeScrubDone
  repeat' (first | (simp (maxDischargeDepth := 60) (maxSteps := 30000) +contextual only [State.cfgUe_sound, State.wakeUnpitched_sound, State.islandsOn_sound, Res.good_next, Res.good_ite, State.sound_ite, State.sound_mk, soundCore_self, soundCore_flash, Flash.sameFactory_self, if_true_left, if_true_right, ite_self, implies_true, *]; done) | split)
theorem execWakeComplete_good {F : Flash} (s : State) (h : s.sound F) :
    (execWakeComplete s).good F := by
  unfold execWakeComplete
  simp (maxDischargeDepth := 60) (maxSteps := 30000) +contextual only [State.setBit_sound, State.fire_sound, State.axisRestore_sound, State.observe_sound, State.setDev_sound, State.persFresh_sound, State.foldl_sound, Res.good_next, Res.good_ite, State.sound_ite, State.sound_mk, soundCore_self, soundCore_flash, Flash.sameFactory_self, if_true_left, if_true_right, ite_self, implies_true, *]
theorem execMaintenance_good {F : Flash} (p : Port) (s : State) (h : s.sound F) :
    (execMaintenance p s).good F := by
  unfold execMaintenance
  simp (maxDischargeDepth := 60) (maxSteps := 30000) +contextual only [State.finish_sound, State.command_sound, State.capStopAll_sound, State.observe_sound, State.setDev_sound, State.disarm_sound, State.abandonRepitch_sound, State.wdgMaintenance_sound, State.slcHaltAll_sound, State.tenureOver_sound, Res.good_next, Res.good_ite, State.sound_ite, State.sound_mk, soundCore_self, soundCore_flash, Flash.sameFactory_self, if_true_left, if_true_right, ite_self, implies_true, *]

end Sys2Proof.Machine
end

