-- ==== Sys2Proof/Laws/Good/Tap.lean ====
section
/-!
SUPPORT. Each command of Machine/Tap.lean answers a next state, and keeps a sound state sound.
-/
namespace Sys2Proof.Machine
set_option linter.unusedSimpArgs false
set_option linter.unusedTactic false
set_option linter.unreachableTactic false
set_option linter.unusedVariables false

theorem execTapReset_good {F : Flash} (s : State) (h : s.sound F) :
    (execTapReset s).good F := by
  unfold execTapReset
  simp (maxDischargeDepth := 60) (maxSteps := 30000) +contextual only [State.loadIr_sound, Res.good_next, Res.good_ite, State.sound_ite, State.sound_mk, soundCore_self, soundCore_flash, Flash.sameFactory_self, if_true_left, if_true_right, ite_self, implies_true, *]
theorem execExtest_good {F : Flash} (s : State) (h : s.sound F) :
    (execExtest s).good F := by
  unfold execExtest
  simp (maxDischargeDepth := 60) (maxSteps := 30000) +contextual only [State.shiftTest_sound, Res.good_next, Res.good_ite, State.sound_ite, State.sound_mk, soundCore_self, soundCore_flash, Flash.sameFactory_self, if_true_left, if_true_right, ite_self, implies_true, *]
theorem execSamplePreload_good {F : Flash} (s : State) (h : s.sound F) :
    (execSamplePreload s).good F := by
  unfold execSamplePreload
  simp (maxDischargeDepth := 60) (maxSteps := 30000) +contextual only [State.shiftIr_sound, Res.good_next, Res.good_ite, State.sound_ite, State.sound_mk, soundCore_self, soundCore_flash, Flash.sameFactory_self, if_true_left, if_true_right, ite_self, implies_true, *]
theorem execIdcode_good {F : Flash} (s : State) (h : s.sound F) :
    (execIdcode s).good F := by
  unfold execIdcode
  simp (maxDischargeDepth := 60) (maxSteps := 30000) +contextual only [State.shiftIr_sound, Res.good_next, Res.good_ite, State.sound_ite, State.sound_mk, soundCore_self, soundCore_flash, Flash.sameFactory_self, if_true_left, if_true_right, ite_self, implies_true, *]
theorem execClamp_good {F : Flash} (s : State) (h : s.sound F) :
    (execClamp s).good F := by
  unfold execClamp
  simp (maxDischargeDepth := 60) (maxSteps := 30000) +contextual only [State.shiftTest_sound, Res.good_next, Res.good_ite, State.sound_ite, State.sound_mk, soundCore_self, soundCore_flash, Flash.sameFactory_self, if_true_left, if_true_right, ite_self, implies_true, *]
theorem execHighz_good {F : Flash} (s : State) (h : s.sound F) :
    (execHighz s).good F := by
  unfold execHighz
  simp (maxDischargeDepth := 60) (maxSteps := 30000) +contextual only [State.shiftTest_sound, Res.good_next, Res.good_ite, State.sound_ite, State.sound_mk, soundCore_self, soundCore_flash, Flash.sameFactory_self, if_true_left, if_true_right, ite_self, implies_true, *]
theorem execIslSel_good {F : Flash} (s : State) (h : s.sound F) :
    (execIslSel s).good F := by
  unfold execIslSel
  simp (maxDischargeDepth := 60) (maxSteps := 30000) +contextual only [State.shiftTest_sound, Res.good_next, Res.good_ite, State.sound_ite, State.sound_mk, soundCore_self, soundCore_flash, Flash.sameFactory_self, if_true_left, if_true_right, ite_self, implies_true, *]
theorem execIslandScan_good {F : Flash} (s : State) (h : s.sound F) :
    (execIslandScan s).good F := by
  unfold execIslandScan
  simp (maxDischargeDepth := 60) (maxSteps := 30000) +contextual only [State.shiftTest_sound, Res.good_next, Res.good_ite, State.sound_ite, State.sound_mk, soundCore_self, soundCore_flash, Flash.sameFactory_self, if_true_left, if_true_right, ite_self, implies_true, *]
theorem execBypass_good {F : Flash} (s : State) (h : s.sound F) :
    (execBypass s).good F := by
  unfold execBypass
  simp (maxDischargeDepth := 60) (maxSteps := 30000) +contextual only [State.shiftIr_sound, Res.good_next, Res.good_ite, State.sound_ite, State.sound_mk, soundCore_self, soundCore_flash, Flash.sameFactory_self, if_true_left, if_true_right, ite_self, implies_true, *]
theorem execBoundaryCapture_good {F : Flash} (lands : Nat) (s : State) (h : s.sound F) :
    (execBoundaryCapture lands s).good F := by
  unfold execBoundaryCapture
  simp (maxDischargeDepth := 60) (maxSteps := 30000) +contextual only [State.setTap_sound, Res.good_next, Res.good_ite, State.sound_ite, State.sound_mk, soundCore_self, soundCore_flash, Flash.sameFactory_self, if_true_left, if_true_right, ite_self, implies_true, *]
theorem execBoundaryUpdate_good {F : Flash} (w : Nat) (s : State) (h : s.sound F) :
    (execBoundaryUpdate w s).good F := by
  unfold execBoundaryUpdate
  simp (maxDischargeDepth := 60) (maxSteps := 30000) +contextual only [State.setTap_sound, Res.good_next, Res.good_ite, State.sound_ite, State.sound_mk, soundCore_self, soundCore_flash, Flash.sameFactory_self, if_true_left, if_true_right, ite_self, implies_true, *]
theorem execIslandScanCapture_good {F : Flash} (s : State) (h : s.sound F) :
    (execIslandScanCapture s).good F := by
  unfold execIslandScanCapture
  repeat' (first
    | (intro x; first
        | (have hx : State.sound F x := by
            simp only [x]
            repeat' (first
              | (simp (maxDischargeDepth := 60) (maxSteps := 30000) +contextual only [State.freeWord_sound, State.setTap_sound, Res.good_next, Res.good_ite, State.sound_ite, State.sound_mk, soundCore_self, soundCore_flash, Flash.sameFactory_self, if_true_left, if_true_right, ite_self, implies_true, *]; done)
              | split
              | (refine State.foldl_sound _ _ ?_ ?_ <;> intros)
              | (refine State.when_sound _ _ ?_ ?_ <;> intros))
           clear_value x)
        | (have hx : State.sound F x.2 := by
            simp only [x]
            repeat' (first
              | (simp (maxDischargeDepth := 60) (maxSteps := 30000) +contextual only [State.freeWord_sound, State.setTap_sound, Res.good_next, Res.good_ite, State.sound_ite, State.sound_mk, soundCore_self, soundCore_flash, Flash.sameFactory_self, if_true_left, if_true_right, ite_self, implies_true, *]; done)
              | split
              | (refine State.foldl_sound _ _ ?_ ?_ <;> intros)
              | (refine State.when_sound _ _ ?_ ?_ <;> intros))
           clear_value x)
        | (have hx : State.sound F x.1 := by
            simp only [x]
            repeat' (first
              | (simp (maxDischargeDepth := 60) (maxSteps := 30000) +contextual only [State.freeWord_sound, State.setTap_sound, Res.good_next, Res.good_ite, State.sound_ite, State.sound_mk, soundCore_self, soundCore_flash, Flash.sameFactory_self, if_true_left, if_true_right, ite_self, implies_true, *]; done)
              | split
              | (refine State.foldl_sound _ _ ?_ ?_ <;> intros)
              | (refine State.when_sound _ _ ?_ ?_ <;> intros))
           clear_value x)
        | clear_value x
        | skip)
    | lift_lets
    | (simp (maxDischargeDepth := 60) (maxSteps := 30000) +contextual only [State.freeWord_sound, State.setTap_sound, Res.good_next, Res.good_ite, State.sound_ite, State.sound_mk, soundCore_self, soundCore_flash, Flash.sameFactory_self, if_true_left, if_true_right, ite_self, implies_true, *]; done)
    | split
    | (refine State.foldl_sound _ _ ?_ ?_ <;> intros)
    | (refine State.when_sound _ _ ?_ ?_ <;> intros)
    | (refine (Res.good_next _).mpr (State.imageCommand_sound _ _ _ _ _ _ _ _ h fun j s hs => ?_))
    | (refine (Res.good_next _).mpr (State.command_sound _ _ _ _ _ _ _ h fun j s hs => ?_))
    | (dsimp only; split)
    | dsimp only)
theorem execIslandScanUpdate_good {F : Flash} (w : Nat) (s : State) (h : s.sound F) :
    (execIslandScanUpdate w s).good F := by
  unfold execIslandScanUpdate
  repeat' (first | (simp (maxDischargeDepth := 60) (maxSteps := 30000) +contextual only [State.scanSend_sound, Res.good_next, Res.good_ite, State.sound_ite, State.sound_mk, soundCore_self, soundCore_flash, Flash.sameFactory_self, if_true_left, if_true_right, ite_self, implies_true, *]; done) | split)
theorem execIslSelUpdate_good {F : Flash} (w : Nat) (s : State) (h : s.sound F) :
    (execIslSelUpdate w s).good F := by
  unfold execIslSelUpdate
  simp (maxDischargeDepth := 60) (maxSteps := 30000) +contextual only [State.setTap_sound, State.scanOff_sound, Res.good_next, Res.good_ite, State.sound_ite, State.sound_mk, soundCore_self, soundCore_flash, Flash.sameFactory_self, if_true_left, if_true_right, ite_self, implies_true, *]

end Sys2Proof.Machine
end

