-- ==== Sys2Proof/Laws/Mailbox.lean ====
section
/-!
SUPPORT. What `State.command` does with the pending command of a session: its body runs when every check of R580 passes.
-/
namespace Sys2Proof.Machine

theorem State.command_runs {s : State} {p : Port} {code : Nat} {long ok : Bool} {bad : Job → Option Nat}
    {body : Job → State → State} {j : Job} (h1 : s.mssServes = true) (h2 : (s.mbxOf p).job = some j) (h3 : j.code = code)
    (h4 : j.taken = false) (h5 : 3 ≤ j.role) (h6 : bad j = none) (h7 : ok = true) (h8 : (long && s.busyOp) = false) :
    s.command p code long bad ok body = body j s := by
  have h : ¬ (j.role < 3 ∧ code ≠ 2 ∧ code ≠ 3) := by omega
  simp [State.command, h1, h2, h3, h4, h6, h7, h8, h]
theorem State.command_idle {s : State} {p : Port} {code : Nat} {long ok : Bool} {bad : Job → Option Nat}
    {body : Job → State → State} (h : (s.mbxOf p).job = none) : s.command p code long bad ok body = s := by
  simp [State.command, h]

end Sys2Proof.Machine
end

