-- ==== Sys2Proof/Laws/PerInstr.lean ====
section
/-!
SUPPORT. Family F: what holds of every command as syntax. The table gives no row any bits (spec/opcode_table.json), so no word
spells a command and the queue is the only way one reaches the block.
-/
namespace Sys2Proof.Laws

/-- No word of the table spells the command. -/
def F.Statement (i : Instr) : Prop := ∀ nbits w, decodeTableWord nbits w ≠ some i
theorem F.all (i : Instr) : F.Statement i := fun _ _ h => nomatch h

theorem F.powerLoss (all : Bool) : F.Statement (.powerLoss all) := F.all _
theorem F.mainRailsValid : F.Statement (.mainRailsValid) := F.all _
theorem F.hubResetRelease (a b c : Nat) : F.Statement (.hubResetRelease a b c) := F.all _
theorem F.rstnAssert (also : List ResetCause) : F.Statement (.rstnAssert also) := F.all _
theorem F.railBelowReset (all : Bool) (also : List ResetCause) : F.Statement (.railBelowReset all also) := F.all _
theorem F.railWarnEnter (rail : Fin 5) : F.Statement (.railWarnEnter rail) := F.all _
theorem F.railWarnClear (rail : Fin 5) : F.Statement (.railWarnClear rail) := F.all _
theorem F.railSafeHigh (rail : Fin 5) : F.Statement (.railSafeHigh rail) := F.all _
theorem F.pfwRaise : F.Statement (.pfwRaise) := F.all _
theorem F.pfwClear : F.Statement (.pfwClear) := F.all _
theorem F.tempWarnRaise : F.Statement (.tempWarnRaise) := F.all _
theorem F.tempWarnClear : F.Statement (.tempWarnClear) := F.all _
theorem F.tempSafeLimit : F.Statement (.tempSafeLimit) := F.all _
theorem F.vfldLevelChange (i : Fin 8) (low high : Bool) : F.Statement (.vfldLevelChange i low high) := F.all _
theorem F.transferStart : F.Statement (.transferStart) := F.all _
theorem F.transferLimitShutdown (i : Fin 8) : F.Statement (.transferLimitShutdown i) := F.all _
theorem F.transferRetry (i : Fin 8) : F.Statement (.transferRetry i) := F.all _
theorem F.referenceClockFail (reference : Bool) (also : List ResetCause) : F.Statement (.referenceClockFail reference also) := F.all _
theorem F.pllbUnlock : F.Statement (.pllbUnlock) := F.all _
theorem F.emberOscStop : F.Statement (.emberOscStop) := F.all _
theorem F.mssMonitor (also : List ResetCause) : F.Statement (.mssMonitor also) := F.all _
theorem F.mssSramUncorrectable : F.Statement (.mssSramUncorrectable) := F.all _
theorem F.ringForwardStart : F.Statement (.ringForwardStart) := F.all _
theorem F.firmwareVerified (vbat : Nat) : F.Statement (.firmwareVerified vbat) := F.all _
theorem F.bootImageVerified : F.Statement (.bootImageVerified) := F.all _
theorem F.ringImageTimeout : F.Statement (.ringImageTimeout) := F.all _
theorem F.modbusSettingsApply : F.Statement (.modbusSettingsApply) := F.all _
theorem F.pitch (p : Port) (outside : Bool) : F.Statement (.pitch p outside) := F.all _
theorem F.pitchVerified (outside : Bool) : F.Statement (.pitchVerified outside) := F.all _
theorem F.pitchLoaded (crcBad : Bool) : F.Statement (.pitchLoaded crcBad) := F.all _
theorem F.pitchStructured : F.Statement (.pitchStructured) := F.all _
theorem F.pitchSafetyCheck (fault : Nat) : F.Statement (.pitchSafetyCheck fault) := F.all _
theorem F.pitchCommit (ue : Option Nat) : F.Statement (.pitchCommit ue) := F.all _
theorem F.repitch (p : Port) : F.Statement (.repitch p) := F.all _
theorem F.repitchChecked : F.Statement (.repitchChecked) := F.all _
theorem F.repitchLoaded (ue : Option Nat) : F.Statement (.repitchLoaded ue) := F.all _
theorem F.repitchStructured : F.Statement (.repitchStructured) := F.all _
theorem F.repitchCommit : F.Statement (.repitchCommit) := F.all _
theorem F.doze (p : Port) (asserted : Nat) : F.Statement (.doze p asserted) := F.all _
theorem F.dozeWake (sources : Nat) : F.Statement (.dozeWake sources) := F.all _
theorem F.deep (p : Port) (asserted : Nat) : F.Statement (.deep p asserted) := F.all _
theorem F.deepPrepared : F.Statement (.deepPrepared) := F.all _
theorem F.deepCommit (asserted : Nat) : F.Statement (.deepCommit asserted) := F.all _
theorem F.deepRetain : F.Statement (.deepRetain) := F.all _
theorem F.deepWake (sources : Nat) : F.Statement (.deepWake sources) := F.all _
theorem F.wakeCoreRunning : F.Statement (.wakeCoreRunning) := F.all _
theorem F.wakeScrubDone (ue : Option Nat) : F.Statement (.wakeScrubDone ue) := F.all _
theorem F.wakeComplete : F.Statement (.wakeComplete) := F.all _
theorem F.maintenance (p : Port) : F.Statement (.maintenance p) := F.all _
theorem F.lpbCycleStart (la : Nat) (bhen read both : Bool) : F.Statement (.lpbCycleStart la bhen read both) := F.all _
theorem F.lpbCycleAck (wdata : Nat) (ue : Bool) : F.Statement (.lpbCycleAck wdata ue) := F.all _
theorem F.lpbCycleEnd : F.Statement (.lpbCycleEnd) := F.all _
theorem F.lpbPostedCommit : F.Statement (.lpbPostedCommit) := F.all _
theorem F.persAccumulate : F.Statement (.persAccumulate) := F.all _
theorem F.irqPulseEnd (j : Fin 4) : F.Statement (.irqPulseEnd j) := F.all _
theorem F.interruptAcknowledge (j : Fin 4) (abandoned : Bool) : F.Statement (.interruptAcknowledge j abandoned) := F.all _
theorem F.tenureRequest : F.Statement (.tenureRequest) := F.all _
theorem F.busGrant : F.Statement (.busGrant) := F.all _
theorem F.tenureStart : F.Statement (.tenureStart) := F.all _
theorem F.masterCycleDone (data : Word) (ue : Bool) : F.Statement (.masterCycleDone data ue) := F.all _
theorem F.tenureEnd : F.Statement (.tenureEnd) := F.all _
theorem F.grantTimeout : F.Statement (.grantTimeout) := F.all _
theorem F.masterErrorTimeout : F.Statement (.masterErrorTimeout) := F.all _
theorem F.foreignBusBusy : F.Statement (.foreignBusBusy) := F.all _
theorem F.spiFrameStart (mode3 : Bool) : F.Statement (.spiFrameStart mode3) := F.all _
theorem F.spiCommandWord (cmd : Word) (crc0 : Byte) (cnt : Word) (crc1 : Byte) : F.Statement (.spiCommandWord cmd crc0 cnt crc1) := F.all _
theorem F.spiReadFetch (r : SpiRx) (ue : Bool) : F.Statement (.spiReadFetch r ue) := F.all _
theorem F.spiWriteWord (w : Word) (crc : Byte) (full : Bool) : F.Statement (.spiWriteWord w crc full) := F.all _
theorem F.spiFrameEnd (bits : Nat) (part : Word) (crc : Byte) : F.Statement (.spiFrameEnd bits part crc) := F.all _
theorem F.modbusFrameError : F.Statement (.modbusFrameError) := F.all _
theorem F.readCoils (bcast : Bool) (a q : Nat) (ue : Option Nat) : F.Statement (.readCoils bcast a q ue) := F.all _
theorem F.readDiscreteInputs (bcast : Bool) (a q : Nat) (ue : Option Nat) : F.Statement (.readDiscreteInputs bcast a q ue) := F.all _
theorem F.readHoldingRegisters (bcast : Bool) (a q : Nat) (ue : Option Nat) : F.Statement (.readHoldingRegisters bcast a q ue) := F.all _
theorem F.readInputRegisters (bcast : Bool) (a q : Nat) (ue : Option Nat) : F.Statement (.readInputRegisters bcast a q ue) := F.all _
theorem F.writeSingleCoil (r : ModRx) (a v : Nat) : F.Statement (.writeSingleCoil r a v) := F.all _
theorem F.writeSingleRegister (r : ModRx) (a v : Nat) : F.Statement (.writeSingleRegister r a v) := F.all _
theorem F.writeMultipleCoils (r : ModRx) (a q count : Nat) (d : List Byte) : F.Statement (.writeMultipleCoils r a q count d) := F.all _
theorem F.writeMultipleRegisters (r : ModRx) (a q count : Nat) (d : List Byte) : F.Statement (.writeMultipleRegisters r a q count d) := F.all _
theorem F.readWriteMultipleRegisters (bcast : Bool) (a q wa wq count : Nat) (d : List Byte) (ue : Option Nat) : F.Statement (.readWriteMultipleRegisters bcast a q wa wq count d ue) := F.all _
theorem F.unsupportedFunction (bcast : Bool) (fn : Nat) : F.Statement (.unsupportedFunction bcast fn) := F.all _
theorem F.modbusReply : F.Statement (.modbusReply) := F.all _
theorem F.roleClaim (p : Port) : F.Statement (.roleClaim p) := F.all _
theorem F.roleRelease (p : Port) : F.Statement (.roleRelease p) := F.all _
theorem F.ringLinkUp (w miswired : Bool) : F.Statement (.ringLinkUp w miswired) := F.all _
theorem F.ringLinkDown (w signal : Bool) : F.Statement (.ringLinkDown w signal) := F.all _
theorem F.ringCycleStart : F.Statement (.ringCycleStart) := F.all _
theorem F.ringCyc (h : RHdr) (c : Cyc) (x : Rx) (resid : Nat) (foreign : Bool) (phaseErr : Int) : F.Statement (.ringCyc h c x resid foreign phaseErr) := F.all _
theorem F.ringPd (f : RingRx) (pd : PdRaw) (fin : REnd) : F.Statement (.ringPd f pd fin) := F.all _
theorem F.ringEvt (f : EvtRx) : F.Statement (.ringEvt f) := F.all _
theorem F.ringEmpty (f : RingRx) : F.Statement (.ringEmpty f) := F.all _
theorem F.ringSyncFrame (f : RingRx) (m : SyncAt) (groups seq : Nat) : F.Statement (.ringSyncFrame f m groups seq) := F.all _
theorem F.ringEnum (f : RingRx) (firstPos next : Nat) (es : List EnumEntry) (foreign : Bool) : F.Statement (.ringEnum f firstPos next es foreign) := F.all _
theorem F.ringDly (w answer : Bool) (exch turn roundTrip : Nat) : F.Statement (.ringDly w answer exch turn roundTrip) := F.all _
theorem F.ringBadFrame (w : Bool) (f : BadFrame) : F.Statement (.ringBadFrame w f) := F.all _
theorem F.ringPdReturn (slots : List Byte) (fin : REnd) : F.Statement (.ringPdReturn slots fin) := F.all _
theorem F.ringEvtReturn (cells : List EvtCell) : F.Statement (.ringEvtReturn cells) := F.all _
theorem F.ringEnumReturn (next : Nat) (es : List EnumEntry) : F.Statement (.ringEnumReturn next es) := F.all _
theorem F.ringCarrierReturn (h : RHdr) (p : RPay) : F.Statement (.ringCarrierReturn h p) := F.all _
theorem F.ringDelayMeasure (w : Bool) : F.Statement (.ringDelayMeasure w) := F.all _
theorem F.ringDlyTimeout (w : Bool) : F.Statement (.ringDlyTimeout w) := F.all _
theorem F.ringHoldoverLapse : F.Statement (.ringHoldoverLapse) := F.all _
theorem F.pdFrameLoss : F.Statement (.pdFrameLoss) := F.all _
theorem F.ringHopStable (w : Bool) : F.Statement (.ringHopStable w) := F.all _
theorem F.syncnFall (err : Fin 7) : F.Statement (.syncnFall err) := F.all _
theorem F.syncEdge : F.Statement (.syncEdge) := F.all _
theorem F.mailRead (node tag addr count : Nat) (autoinc : Bool) (r : MailRx) (ecc : Option Nat) : F.Statement (.mailRead node tag addr count autoinc r ecc) := F.all _
theorem F.mailWrite (node tag addr : Nat) (ws : List Word) (autoinc : Bool) (r : MailRx) : F.Statement (.mailWrite node tag addr ws autoinc r) := F.all _
theorem F.mailMailbox (node tag : Nat) (ws : List Word) (r : MailRx) : F.Statement (.mailMailbox node tag ws r) := F.all _
theorem F.bulkOpen (node tag session dir rsv2 : Nat) (z : BulkSpan) (rsvD : Nat) (r : MailRx) : F.Statement (.bulkOpen node tag session dir rsv2 z rsvD r) := F.all _
theorem F.bulkAck (node : Nat) (a : BulkNext) (x : Rx) : F.Statement (.bulkAck node a x) := F.all _
theorem F.bulkDone (node tag session : Nat) (z : BulkSum) (r : MailRx) : F.Statement (.bulkDone node tag session z r) := F.all _
theorem F.imageReq (node : Nat) (q : ImageAsk) : F.Statement (.imageReq node q) := F.all _
theorem F.ringBulk (node : Nat) (b : Bulk) (west ovf : Bool) : F.Statement (.ringBulk node b west ovf) := F.all _
theorem F.mailAnswer (r : MailIn) : F.Statement (.mailAnswer r) := F.all _
theorem F.ringMailTimeout (tag : Nat) (kind : MailKind) : F.Statement (.ringMailTimeout tag kind) := F.all _
theorem F.bulkStallTimeout (tx : Bool) : F.Statement (.bulkStallTimeout tx) := F.all _
theorem F.recordRelease (l : Fin 8) : F.Statement (.recordRelease l) := F.all _
theorem F.weirCheck : F.Statement (.weirCheck) := F.all _
theorem F.slcFlushTimeout (k : Fin 8) : F.Statement (.slcFlushTimeout k) := F.all _
theorem F.guylineSlot (i : Fin 8) (n : Nat) : F.Statement (.guylineSlot i n) := F.all _
theorem F.islandDownlink (i : Fin 8) (err errA errB : List Byte) : F.Statement (.islandDownlink i err errA errB) := F.all _
theorem F.hubUplink (i : Fin 8) (m : UpMeas) (err : List Byte) (full : Bool) : F.Statement (.hubUplink i m err full) := F.all _
theorem F.islandLost (i : Fin 8) (osc : Bool) : F.Statement (.islandLost i osc) := F.all _
theorem F.islandLinkTimeout (i : Fin 8) : F.Statement (.islandLinkTimeout i) := F.all _
theorem F.glDegradedClear (i : Fin 8) : F.Statement (.glDegradedClear i) := F.all _
theorem F.structureCommit (i : Fin 8) (raw : List Nat) : F.Statement (.structureCommit i raw) := F.all _
theorem F.structureRetry (i : Fin 8) : F.Statement (.structureRetry i) := F.all _
theorem F.structureDiscard (i : Fin 8) : F.Statement (.structureDiscard i) := F.all _
theorem F.islandSubframeLoss (i : Fin 8) (isB : Bool) : F.Statement (.islandSubframeLoss i isB) := F.all _
theorem F.kernelSubframeIn (isB : Bool) (i : Fin 8) (errLife errData errCrc : Nat) : F.Statement (.kernelSubframeIn isB i errLife errData errCrc) := F.all _
theorem F.kernelSubframeLoss (isB : Bool) (i : Fin 8) : F.Statement (.kernelSubframeLoss isB i) := F.all _
theorem F.loopStable (i : Fin 8) : F.Statement (.loopStable i) := F.all _
theorem F.rungClimb (i : Fin 8) : F.Statement (.rungClimb i) := F.all _
theorem F.rungDescent (i : Fin 8) (rung : Nat) (reservoir : Bool) : F.Statement (.rungDescent i rung reservoir) := F.all _
theorem F.rungTakeEffect (i : Fin 8) : F.Statement (.rungTakeEffect i) := F.all _
theorem F.brownOutStop (i : Fin 8) : F.Statement (.brownOutStop i) := F.all _
theorem F.islandRestart (i : Fin 8) : F.Statement (.islandRestart i) := F.all _
theorem F.inputFilterChange (c : Fin 32) (st : Nat) : F.Statement (.inputFilterChange c st) := F.all _
theorem F.chatterBin (c : Fin 32) : F.Statement (.chatterBin c) := F.all _
theorem F.diagSet (c : Fin 32) (d : Nat) (again : Bool) : F.Statement (.diagSet c d again) := F.all _
theorem F.diagClear (c : Fin 32) (d : Nat) : F.Statement (.diagClear c d) := F.all _
theorem F.inrushEnd (c : Fin 32) : F.Statement (.inrushEnd c) := F.all _
theorem F.faultAutoRetry (c : Fin 32) : F.Statement (.faultAutoRetry c) := F.all _
theorem F.islandOvercurrent (i : Fin 8) (again : Bool) : F.Statement (.islandOvercurrent i again) := F.all _
theorem F.supplyLimitOff (c : Fin 32) : F.Statement (.supplyLimitOff c) := F.all _
theorem F.supplyRetry (c : Fin 32) (held : Bool) : F.Statement (.supplyRetry c held) := F.all _
theorem F.testPulseStart (c : Fin 32) : F.Statement (.testPulseStart c) := F.all _
theorem F.testPulseEnd (c : Fin 32) (pass again : Bool) : F.Statement (.testPulseEnd c pass again) := F.all _
theorem F.supplyTestPulse (c : Fin 32) (raw : Bool) : F.Statement (.supplyTestPulse c raw) := F.all _
theorem F.supplyTestPulseEnd (c : Fin 32) (fell : Bool) : F.Statement (.supplyTestPulseEnd c fell) := F.all _
theorem F.inputSwitchOpen (c : Fin 32) : F.Statement (.inputSwitchOpen c) := F.all _
theorem F.inputSwitchRetry (c : Fin 32) : F.Statement (.inputSwitchRetry c) := F.all _
theorem F.fineOutput (c : Fin 32) : F.Statement (.fineOutput c) := F.all _
theorem F.riffleValue (c : Fin 32) : F.Statement (.riffleValue c) := F.all _
theorem F.filterReset (c : Fin 32) : F.Statement (.filterReset c) := F.all _
theorem F.captureTrigger (q : Fin 16) (src : Nat) : F.Statement (.captureTrigger q src) := F.all _
theorem F.captureBlockComplete (q : Fin 16) : F.Statement (.captureBlockComplete q) := F.all _
theorem F.homeDebounce (a : Fin 8) (asserted : Bool) : F.Statement (.homeDebounce a asserted) := F.all _
theorem F.homingTimeout (a : Fin 8) : F.Statement (.homingTimeout a) := F.all _
theorem F.limitRelease (a : Fin 8) (pos : Bool) : F.Statement (.limitRelease a pos) := F.all _
theorem F.standstillTimeout (a : Fin 8) : F.Statement (.standstillTimeout a) := F.all _
theorem F.ssiRead (a : Fin 8) (idle : Bool) (word : Nat) (after back : Bool) : F.Statement (.ssiRead a idle word after back) := F.all _
theorem F.axisSnapshot : F.Statement (.axisSnapshot) := F.all _
theorem F.nrgEscalate (c : Fin 32) : F.Statement (.nrgEscalate c) := F.all _
theorem F.kernelCycle (isB safen : Bool) (fault : Nat) : F.Statement (.kernelCycle isB safen fault) := F.all _
theorem F.inputConfirm (isB : Bool) (f : Fin 16) (j : Fin 4) : F.Statement (.inputConfirm isB f j) := F.all _
theorem F.discrepancyTimeout (isB : Bool) (f : Fin 16) : F.Statement (.discrepancyTimeout isB f) := F.all _
theorem F.twoHandSyncTimeout (isB : Bool) (f : Fin 16) : F.Statement (.twoHandSyncTimeout isB f) := F.all _
theorem F.ss1DelayEnd (isB : Bool) (p : Fin 8) : F.Statement (.ss1DelayEnd isB p) := F.all _
theorem F.pairTestRequest (isB : Bool) (p : Fin 8) : F.Statement (.pairTestRequest isB p) := F.all _
theorem F.safenReassert (isB : Bool) : F.Statement (.safenReassert isB) := F.all _
theorem F.wdgWindowOpen : F.Statement (.wdgWindowOpen) := F.all _
theorem F.wdgWindowClose : F.Statement (.wdgWindowClose) := F.all _
theorem F.wdgClockTrip (wosc : Bool) : F.Statement (.wdgClockTrip wosc) := F.all _
theorem F.cfgScrubWord (addr ecc : Nat) : F.Statement (.cfgScrubWord addr ecc) := F.all _
theorem F.cfgRepairDone (ue : Option Nat) : F.Statement (.cfgRepairDone ue) := F.all _
theorem F.sensorUpdate (n : Fin 24) (mean low high : Nat) : F.Statement (.sensorUpdate n mean low high) := F.all _
theorem F.logFlush : F.Statement (.logFlush) := F.all _
theorem F.poll (p : Port) : F.Statement (.poll p) := F.all _
theorem F.info (p : Port) : F.Statement (.info p) := F.all _
theorem F.reset (p : Port) : F.Statement (.reset p) := F.all _
theorem F.commandReset (also : List ResetCause) : F.Statement (.commandReset also) := F.all _
theorem F.imageStore (p : Port) : F.Statement (.imageStore p) := F.all _
theorem F.imageStoreDone (fail : Option Nat) : F.Statement (.imageStoreDone fail) := F.all _
theorem F.imageSelect (p : Port) : F.Statement (.imageSelect p) := F.all _
theorem F.safetyAccept (p : Port) : F.Statement (.safetyAccept p) := F.all _
theorem F.restartAck (p : Port) : F.Statement (.restartAck p) := F.all _
theorem F.keyEnrolFirst (p : Port) : F.Statement (.keyEnrolFirst p) := F.all _
theorem F.keyEnrolReplace (p : Port) : F.Statement (.keyEnrolReplace p) := F.all _
theorem F.keyEnrolRemove (p : Port) : F.Statement (.keyEnrolRemove p) := F.all _
theorem F.fwStore (p : Port) : F.Statement (.fwStore p) := F.all _
theorem F.fwVerifyDone : F.Statement (.fwVerifyDone) := F.all _
theorem F.fwProgramDone (fail : Option Nat) : F.Statement (.fwProgramDone fail) := F.all _
theorem F.bankStoreDone (fail : Option Nat) : F.Statement (.bankStoreDone fail) := F.all _
theorem F.bankEraseDone : F.Statement (.bankEraseDone) := F.all _
theorem F.fwConfirm (p : Port) : F.Statement (.fwConfirm p) := F.all _
theorem F.fwConfirmTimer : F.Statement (.fwConfirmTimer) := F.all _
theorem F.settingRead (p : Port) : F.Statement (.settingRead p) := F.all _
theorem F.settingWrite (p : Port) : F.Statement (.settingWrite p) := F.all _
theorem F.settingsPush (p : Port) : F.Statement (.settingsPush p) := F.all _
theorem F.calPoint (p : Port) : F.Statement (.calPoint p) := F.all _
theorem F.calPointDone (p : Port) (c : Fin 32) : F.Statement (.calPointDone p c) := F.all _
theorem F.calPointTimeout (p : Port) : F.Statement (.calPointTimeout p) := F.all _
theorem F.calCommit (p : Port) : F.Statement (.calCommit p) := F.all _
theorem F.calClear (p : Port) : F.Statement (.calClear p) := F.all _
theorem F.logRead (p : Port) : F.Statement (.logRead p) := F.all _
theorem F.logWrite (p : Port) : F.Statement (.logWrite p) := F.all _
theorem F.sensorMinmax (p : Port) : F.Statement (.sensorMinmax p) := F.all _
theorem F.rtcSet (p : Port) : F.Statement (.rtcSet p) := F.all _
theorem F.rtcAlarm (p : Port) : F.Statement (.rtcAlarm p) := F.all _
theorem F.mbxRingPending (node : Nat) : F.Statement (.mbxRingPending node) := F.all _
theorem F.mbxResultSlotExpire (node : Nat) : F.Statement (.mbxResultSlotExpire node) := F.all _
theorem F.emberToVbat : F.Statement (.emberToVbat) := F.all _
theorem F.emberToVddio (crcOk low : Bool) : F.Statement (.emberToVddio crcOk low) := F.all _
theorem F.emberLow (lost : Bool) : F.Statement (.emberLow lost) := F.all _
theorem F.rtcAlarmMatch : F.Statement (.rtcAlarmMatch) := F.all _
theorem F.loadCheck : F.Statement (.loadCheck) := F.all _
theorem F.tapReset : F.Statement (.tapReset) := F.all _
theorem F.extest : F.Statement (.extest) := F.all _
theorem F.samplePreload : F.Statement (.samplePreload) := F.all _
theorem F.idcode : F.Statement (.idcode) := F.all _
theorem F.clamp : F.Statement (.clamp) := F.all _
theorem F.highz : F.Statement (.highz) := F.all _
theorem F.islSel : F.Statement (.islSel) := F.all _
theorem F.islandScan : F.Statement (.islandScan) := F.all _
theorem F.bypass : F.Statement (.bypass) := F.all _
theorem F.boundaryCapture (lands : Nat) : F.Statement (.boundaryCapture lands) := F.all _
theorem F.boundaryUpdate (w : Nat) : F.Statement (.boundaryUpdate w) := F.all _
theorem F.islandScanCapture : F.Statement (.islandScanCapture) := F.all _
theorem F.islandScanUpdate (w : Nat) : F.Statement (.islandScanUpdate w) := F.all _
theorem F.partnerRxFault (w : Bool) : F.Statement (.partnerRxFault w) := F.all _
theorem F.islSelUpdate (w : Nat) : F.Statement (.islSelUpdate w) := F.all _

end Sys2Proof.Laws
end

