-- ==== Sys2Proof/Machine/Pins.lean ====
section
/-!
DEFINITION. The output lands that follow from the state alone (R53, R79, R109, R111, R180, R256), beside SFLTN (State.sfltn),
LIRQN0–LIRQN3 (State.irqOut) and SINTN (State.sintn). While a TAP instruction owns the lands, the boundary register drives
them instead (R643). TDO is driven in Shift-DR and Shift-IR alone, states that pass within a TAP command (R53).
-/
namespace Sys2Proof.Machine

/-- What STLEDN shows (R111). -/
inductive Stled where
  | on
  | off
  | blink1Hz
  | blink4Hz
  /-- on for 0.1 s every 2 s -/
  | flash
deriving DecidableEq, Repr

/-- STLEDN (R111): on from power-up (R53), not driven without power; none in the states that the table of R111 does not
name. -/
def State.stled (s : State) : Option Stled :=
  if s.powered = false then some .off
  else if s.hold.held then some .on
  else match s.dev with
    | .boot => some .on
    | .unpitched => some .blink1Hz
    | .pitching => some .blink1Hz
    | .pitched => some .off
    | .safe => some .blink4Hz
    | .maintenance => some .flash
    | .off => none
    | .doze => none
    | .deep => none

/-- RSTON is asserted: the hub is held in reset (R53, R105). -/
def State.rston (s : State) : Bool := s.hold.held && s.powered

/-- The clock that CKOUT carries, by its code; 0 is low, as in DEEP and until the MSS applies the stored setting (R79). -/
def State.ckout (s : State) : Nat :=
  let sel := s.fld 0x00018 2 0
  if s.hold.held ∨ s.dev = .off ∨ s.dev = .deep ∨ sel = 7 then 0 else sel

/-- The pulses that SYNCO carries: 0 none (driven high), 1 at millisecond marks, 2 at SYNC executions (R256); none for
SYNCO_MODE 3, which R256 does not give. -/
def State.synco (s : State) : Option Nat :=
  let quiet := s.hold.held || decide (s.dev = .off ∨ s.dev = .boot ∨ s.dev = .unpitched ∨ s.dev = .pitching)
  let mode := s.fld 0x00704 1 0
  if quiet || !s.bit 0x00019 3 then some 0 else if mode = 3 then none else some mode

/-- LACKN: none while the H3280 does not drive it, which it does in a cycle addressed to it alone; whether the cycle is
acknowledged otherwise (R53, R158). -/
def State.lackn (s : State) : Option Bool := if s.powered then s.lpb.cyc.map (·.acked) else none
/-- SDO is driven: SCSN is asserted in a frame that the port answers (R53, R202, R208). -/
def State.sdoDriven (s : State) : Bool := s.spi.active && s.powered
/-- UDE is driven high, from the request's end, whose t3.5 the model does not time, until the answer has been sent; UTX is
driven high, its idle level, otherwise (R53, R210, R221; log entry 76). -/
def State.ude (s : State) : Bool := s.mod.answer.isSome && !s.hold.held && s.powered
/-- The ring transmit pairs send code groups: forwarding has started, PLL-B is locked and the hub is not held (R53, R80, R106,
R229). -/
def State.ringTx (s : State) : Bool := s.ring.forward && s.portsRun && s.powered
/-- LBREQN is asserted (R180). -/
def State.lbreq (s : State) : Bool := decide (s.ten.phase = 1 ∨ s.ten.phase = 2)
/-- LBBSYN is asserted by the H3280 (R180). -/
def State.lbbsy (s : State) : Bool := decide (s.ten.phase = 3)

end Sys2Proof.Machine
end

