-- ==== Sys2Proof/WellFormed.lean ====
section
/-!
DEFINITION. Which operands a command can have: each in the width or range that the part's lands, frames and measurements give
it. A meaning never stops on an operand outside; it cuts it to its field.
-/
namespace Sys2Proof

/-- A number of at most `n` bits. -/
def below (n x : Nat) : Bool := decide (x < 2 ^ n)
/-- No number, or one of at most `n` bits. -/
def mayBelow (n : Nat) (x : Option Nat) : Bool :=
  match x with
  | none => true
  | some y => below n y
/-- A list of at most `n` members. -/
def atMost {α : Type} (n : Nat) (l : List α) : Bool := decide (l.length ≤ n)
/-- A ring node ID (R231, R239). -/
def node16 (n : Nat) : Bool := below 10 n
/-- The widths of a CYC payload (R233). -/
def Cyc.wf (c : Cyc) : Bool :=
  below 32 c.cycleNo && below 32 c.accDelay && decide (c.markOff < 500000) && below 16 c.cycleUs
/-- The widths of a mail (R231, R236). -/
def Mail.wf (m : Mail) : Bool :=
  below 16 m.dest && below 16 m.src && below 16 m.tag && below 20 m.addr && below 8 m.count && below 8 m.status &&
    below 8 m.detail && below 16 m.hint && below 8 m.role && atMost 256 m.data
/-- The widths of a frame header (R231). -/
def RHdr.wf (h : RHdr) : Bool := below 16 h.dest && below 16 h.src && below 16 h.seq && below 16 h.aux
/-- The widths of a census entry (R238). -/
def EnumEntry.wf (e : EnumEntry) : Bool :=
  below 64 e.uid && below 16 e.reqId && below 16 e.nodeId && below 8 e.slotSize && below 16 e.slotOff && below 8 e.status
/-- The widths of a BULK payload (R236). -/
def Bulk.wf (b : Bulk) : Bool := below 8 b.session && below 24 b.ofs && atMost 85 b.ws
/-- A carrier's payload: MAIL or BULK (R236). -/
def RPay.carrierWf : RPay → Bool
  | .mail m => m.wf
  | .bulk b => b.wf
  | .cyc _ => false | .pd _ _ => false | .evt _ _ => false | .empty => false | .sync _ _ _ _ => false
  | .enum _ _ _ => false | .dly _ _ _ => false | .raw _ => false
/-- Four cells with at most the modulator bits of one frame period each, and states of four pulse inputs (R326, R408). -/
def UpMeas.wf (m : UpMeas) : Bool :=
  decide (m.cells.length = 4) && m.cells.all (fun c => atMost 32 c.mods && below 8 c.cur) &&
    m.pulses.all fun p => below 12 p.at0 && below 4 p.fa && below 4 p.fb

/-- The operands of a command are ones that a sender can form. -/
def Instr.wf : Instr → Bool
  | .powerLoss _ => true
  | .mainRailsValid => true
  | .hubResetRelease a b c => below 5 a && below 5 b && below 5 c
  | .rstnAssert _ => true
  | .railBelowReset _ _ => true
  | .railWarnEnter _ => true
  | .railWarnClear _ => true
  | .railSafeHigh _ => true
  | .pfwRaise => true
  | .pfwClear => true
  | .tempWarnRaise => true
  | .tempWarnClear => true
  | .tempSafeLimit => true
  | .vfldLevelChange _ _ _ => true
  | .transferStart => true
  | .transferLimitShutdown _ => true
  | .transferRetry _ => true
  | .referenceClockFail _ _ => true
  | .pllbUnlock => true
  | .emberOscStop => true
  | .mssMonitor _ => true
  | .mssSramUncorrectable => true
  | .ringForwardStart => true
  | .firmwareVerified vbat => below 16 vbat
  | .bootImageVerified => true
  | .ringImageTimeout => true
  | .modbusSettingsApply => true
  | .pitch _ _ => true
  | .pitchVerified _ => true
  | .pitchLoaded _ => true
  | .pitchStructured => true
  | .pitchSafetyCheck fault => decide (fault = 0) || (decide (10 ≤ fault) && decide (fault ≤ 13))
  | .pitchCommit ue => mayBelow 24 ue
  | .repitch _ => true
  | .repitchChecked => true
  | .repitchLoaded ue => mayBelow 24 ue
  | .repitchStructured => true
  | .repitchCommit => true
  | .doze _ asserted => below 15 asserted
  | .dozeWake sources => below 15 sources
  | .deep _ asserted => below 15 asserted
  | .deepPrepared => true
  | .deepCommit asserted => below 15 asserted
  | .deepRetain => true
  | .deepWake sources => below 15 sources
  | .wakeCoreRunning => true
  | .wakeScrubDone ue => mayBelow 24 ue
  | .wakeComplete => true
  | .maintenance _ => true
  | .lpbCycleStart la _ _ _ => below 24 la
  | .lpbCycleAck wdata _ => below 16 wdata
  | .lpbCycleEnd => true
  | .lpbPostedCommit => true
  | .persAccumulate => true
  | .irqPulseEnd _ => true
  | .interruptAcknowledge _ _ => true
  | .tenureRequest => true
  | .busGrant => true
  | .tenureStart => true
  | .masterCycleDone _ _ => true
  | .tenureEnd => true
  | .grantTimeout => true
  | .masterErrorTimeout => true
  | .foreignBusBusy => true
  | .spiFrameStart _ => true
  | .spiCommandWord _ _ _ _ => true
  | .spiReadFetch _ _ => true
  | .spiWriteWord _ _ _ => true
  | .spiFrameEnd bits _ _ => decide (bits < 32)
  | .modbusFrameError => true
  | .readCoils _ a q _ => below 16 a && below 16 q
  | .readDiscreteInputs _ a q _ => below 16 a && below 16 q
  | .readHoldingRegisters _ a q _ => below 16 a && below 16 q
  | .readInputRegisters _ a q _ => below 16 a && below 16 q
  | .writeSingleCoil _ a v => below 16 a && below 16 v
  | .writeSingleRegister _ a v => below 16 a && below 16 v
  | .writeMultipleCoils _ a q count d => below 16 a && below 16 q && below 8 count && atMost 256 d
  | .writeMultipleRegisters _ a q count d => below 16 a && below 16 q && below 8 count && atMost 256 d
  | .readWriteMultipleRegisters _ a q wa wq count d _ => below 16 a && below 16 q && below 16 wa && below 16 wq && below 8 count && atMost 256 d
  | .unsupportedFunction _ fn => below 8 fn
  | .modbusReply => true
  | .roleClaim _ => true
  | .roleRelease _ => true
  | .ringLinkUp _ _ => true
  | .ringLinkDown _ _ => true
  | .ringCycleStart => true
  | .ringCyc h c _ _ _ _ => h.wf && c.wf
  | .ringPd f pd _ => f.hdr.wf && below 16 pd.lo && atMost 65531 pd.slots
  | .ringEvt f => f.hdr.wf && below 16 f.next && atMost 255 f.cells && f.cells.all fun c => below 16 c.node
  | .ringEmpty f => f.hdr.wf
  | .ringSyncFrame f m groups seq => f.hdr.wf && below 16 m.edge && below 8 groups && below 8 seq
  | .ringEnum f firstPos next es _ =>
    f.hdr.wf && below 16 firstPos && below 16 next && atMost 128 es && es.all EnumEntry.wf
  | .ringDly _ _ exch turn _ => below 3 exch && below 32 turn
  | .ringBadFrame _ f => atMost 65551 f.bs
  | .ringPdReturn slots _ => atMost 65531 slots
  | .ringEvtReturn cells => cells.all fun c => below 16 c.node
  | .ringEnumReturn next es => below 16 next && atMost 128 es && es.all EnumEntry.wf
  | .ringCarrierReturn h p => h.wf && p.carrierWf
  | .ringDelayMeasure _ => true
  | .ringDlyTimeout _ => true
  | .ringHoldoverLapse => true
  | .pdFrameLoss => true
  | .ringHopStable _ => true
  | .syncnFall _ => true
  | .syncEdge => true
  | .mailRead node tag addr count _ _ _ => node16 node && below 16 tag && below 20 addr && below 8 count
  | .mailWrite node tag addr ws _ _ => node16 node && below 16 tag && below 20 addr && atMost 85 ws
  | .mailMailbox node tag ws _ => node16 node && below 16 tag && atMost 85 ws
  | .bulkOpen node tag session dir rsv2 z rsvD _ => node16 node && below 16 tag && below 8 session && below 8 dir &&
      below 16 rsv2 && below 24 z.src && below 24 z.dst && below 24 z.len && below 24 rsvD
  | .bulkAck node a _ => node16 node && below 8 a.session && below 24 a.next
  | .bulkDone node tag session z _ => node16 node && below 16 tag && below 8 session && below 32 z.crc && below 24 z.words
  | .imageReq node q => node16 node && below 16 q.tag
  | .ringBulk node b _ _ => node16 node && b.wf
  | .mailAnswer r => r.m.wf
  | .ringMailTimeout tag _ => below 16 tag
  | .bulkStallTimeout _ => true
  | .recordRelease _ => true
  | .weirCheck => true
  | .slcFlushTimeout _ => true
  | .guylineSlot _ n => decide (n < 100)
  | .islandDownlink _ err errA errB => atMost 51 err && atMost 5 errA && atMost 5 errB
  | .hubUplink _ m err _ => m.wf && atMost 61 err
  | .islandLost _ _ => true
  | .islandLinkTimeout _ => true
  | .glDegradedClear _ => true
  | .structureCommit _ raw => atMost 4 raw
  | .structureRetry _ => true
  | .structureDiscard _ => true
  | .islandSubframeLoss _ _ => true
  | .kernelSubframeIn _ _ errLife errData errCrc => below 8 errLife && below 16 errData && below 16 errCrc
  | .kernelSubframeLoss _ _ => true
  | .loopStable _ => true
  | .rungClimb _ => true
  | .rungDescent _ rung _ => below 2 rung
  | .rungTakeEffect _ => true
  | .brownOutStop _ => true
  | .islandRestart _ => true
  | .inputFilterChange _ st => below 3 st
  | .chatterBin _ => true
  | .diagSet _ d _ => decide (d < 5)
  | .diagClear _ d => decide (d < 5)
  | .inrushEnd _ => true
  | .faultAutoRetry _ => true
  | .islandOvercurrent _ _ => true
  | .supplyLimitOff _ => true
  | .supplyRetry _ _ => true
  | .testPulseStart _ => true
  | .testPulseEnd _ _ _ => true
  | .supplyTestPulse _ _ => true
  | .supplyTestPulseEnd _ _ => true
  | .inputSwitchOpen _ => true
  | .inputSwitchRetry _ => true
  | .fineOutput _ => true
  | .riffleValue _ => true
  | .filterReset _ => true
  | .captureTrigger _ src => decide (1 ≤ src) && decide (src ≤ 3)
  | .captureBlockComplete _ => true
  | .homeDebounce _ _ => true
  | .homingTimeout _ => true
  | .limitRelease _ _ => true
  | .standstillTimeout _ => true
  | .ssiRead _ _ word _ _ => below 32 word
  | .axisSnapshot => true
  | .nrgEscalate _ => true
  | .kernelCycle _ _ fault => decide (fault = 0) || (decide (11 ≤ fault) && decide (fault ≤ 13))
  | .inputConfirm _ _ _ => true
  | .discrepancyTimeout _ _ => true
  | .twoHandSyncTimeout _ _ => true
  | .ss1DelayEnd _ _ => true
  | .pairTestRequest _ _ => true
  | .safenReassert _ => true
  | .wdgWindowOpen => true
  | .wdgWindowClose => true
  | .wdgClockTrip _ => true
  | .cfgScrubWord addr ecc => below 24 addr && decide (ecc ≤ 2)
  | .cfgRepairDone ue => mayBelow 24 ue
  | .sensorUpdate n mean low high => below 16 mean && below 16 low && below 16 high && decide (n.val ≠ 7)
  | .logFlush => true
  | .poll _ => true
  | .info _ => true
  | .reset _ => true
  | .commandReset _ => true
  | .imageStore _ => true
  | .imageStoreDone fail => mayBelow 24 fail
  | .imageSelect _ => true
  | .safetyAccept _ => true
  | .restartAck _ => true
  | .keyEnrolFirst _ => true
  | .keyEnrolReplace _ => true
  | .keyEnrolRemove _ => true
  | .fwStore _ => true
  | .fwVerifyDone => true
  | .fwProgramDone fail => mayBelow 24 fail
  | .bankStoreDone fail => mayBelow 24 fail
  | .bankEraseDone => true
  | .fwConfirm _ => true
  | .fwConfirmTimer => true
  | .settingRead _ => true
  | .settingWrite _ => true
  | .settingsPush _ => true
  | .calPoint _ => true
  | .calPointDone _ _ => true
  | .calPointTimeout _ => true
  | .calCommit _ => true
  | .calClear _ => true
  | .logRead _ => true
  | .logWrite _ => true
  | .sensorMinmax _ => true
  | .rtcSet _ => true
  | .rtcAlarm _ => true
  | .mbxRingPending node => node16 node
  | .mbxResultSlotExpire node => node16 node
  | .emberToVbat => true
  | .emberToVddio _ _ => true
  | .emberLow _ => true
  | .rtcAlarmMatch => true
  | .loadCheck => true
  | .tapReset => true
  | .extest => true
  | .samplePreload => true
  | .idcode => true
  | .clamp => true
  | .highz => true
  | .islSel => true
  | .islandScan => true
  | .bypass => true
  | .boundaryCapture lands => below 179 lands
  | .boundaryUpdate w => below 179 w
  | .islandScanCapture => true
  | .islandScanUpdate w => below 40 w
  | .partnerRxFault _ => true
  | .islSelUpdate w => below 4 w

end Sys2Proof
end

