-- ==== Sys2Proof/Tests/Slice0.lean ====
section
/-!
SUPPORT. Own tests: the operand checks, effects that the spec states with their numbers, and for every statement with
hypotheses a witness of each clause.
-/
namespace Sys2Proof.Tests
open Sys2Proof.Machine

/-- The state after reset, and one in a device state with the firmware of slot A running. -/
def z : State := State.reset
def on (d : Dev) : State := { z with dev := d, mss := { z.mss with run := .slotA } }
/-- A session of the LPB with a pending command that carries SUPERVISOR. -/
def ask (s : State) (code : Nat) (args : List Word) : State :=
  { s with mbx := [(.lpb, { Mailbox.idle with status := 1, job := some ⟨code, args, 3, false, 0⟩ })] }
/-- Registers set, and a byte string of a length with some bytes set. -/
def rg (s : State) (l : List (Nat × Nat)) : State := l.foldl (fun s x => s.setReg x.1 (toWord x.2)) s
def bs (n : Nat) (l : List (Nat × Nat)) : Bytes := (List.range n).map fun k => BitVec.ofNat 8 ((Sparse.find l k).getD 0)
/-- An image of some sections in configuration SRAM; island 0 with a channel record; a cell record in the store of island 0. -/
def withImg (s : State) (secs : List (Nat × Bytes)) : State := { s with cfg := { CfgSram.reset with img := some ⟨[], [], secs, []⟩ } }
def shownImg (s : State) (secs : List (Nat × Bytes)) : State :=
  { withImg s secs with cfg := { (withImg s secs).cfg with pitched := true } }
def chan0 (s : State) (l : List (Nat × Nat)) : State := rg (withImg s [(0x10, bs 384 l)]) [(ISL 0 0, 3)]
def cell0 (s : State) (l : List (Nat × Nat)) : State :=
  s.setIsl 0 fun x => { x with up := true, iLock := true, store := some (bs 368 l) }
/-- A test on the next state of an outcome. -/
def nx (o : Res) (p : State → Bool) : Bool := match o with
  | .next t => p t
  | .fault _ => false
  | .refused _ => false
/-- The state after a command, or the given one. -/
def after (c : Instr) (s : State) : State := match exec c s with
  | .next t => t
  | .fault _ => s
  | .refused _ => s

def held : State := { z with hold := { z.hold with held := true } }

theorem wit_IdleTick : z.pending = [] ∧ z.runs = true ∧ (on .off).runs = false ∧ z.ember.oscOk = true ∧ z.ember.us < 999 ∧
    (rg z [(WDG_STAT, 0x80)]).wdgRuns = false := by decide
def zLate : State := { z with ember := { z.ember with us := 999, ms := 999, sec := 2 ^ 32 - 1 } }
theorem wit_IdleTick_second : zLate.pending = [] ∧ zLate.ember.oscOk = true ∧ zLate.ember.us = 999 ∧ zLate.ember.ms = 999 := by
  decide
theorem wit_ResetState : (0x00003 : Nat) ≠ SYS_CAUSE ∧ (0x00003 : Nat) ≠ WDG_CHAL := by decide
theorem wit_StepKeepsSound : z.sound z.flash ∧ nx (step z) (fun _ => true) = true :=
  ⟨⟨⟨by decide, by decide⟩, rfl, rfl, rfl, rfl⟩, by decide⟩
theorem wit_RegisterLaws : (23 : Nat) ≤ 23 ∧ (0 : Nat) ≤ 0 ∧ (23 : Nat) < 24 ∧ (regAt 0x0050A).any (fun d => d.flds.any fun f =>
    decide (f.acc = .rw ∧ f.chk = .counter ∧ f.role ≤ z.roleOf .mss ∧ z.valueOk 0x0050A 0 f = true)) = true := by decide
theorem wit_ResetCauses : z.down = false ∧ held.dev ≠ .off ∧ held.hold.held = true ∧ z.runs = true ∧ held.down = true ∧
    z.mss.resetDue = false ∧ (z.setMss fun m => { m with resetDue := true }).mss.resetDue = true := by decide
theorem wit_ResetRelease : z.hold.held = false ∧ held.hold.held = true ∧ held.hold.railsOk = true ∧ held.mss.run = .none ∧
    ({ z.ember with low := false, crcOk := true } : EmberSt).crcOk = true ∧ (4 : Nat) < 5 := by decide
theorem wit_SupplyLimits : z.dev ≠ .off ∧ z.bit SYS_PWR_STAT 0 = false ∧ z.bit SYS_PWR_STAT 4 = false ∧
    (rg z [(SYS_PWR_STAT, 16)]).bit SYS_PWR_STAT 4 = true ∧ z.bit SYS_PWR_STAT 5 = false ∧ z.down = false ∧
    z.bit SYS_PWR_STAT 6 = false := by decide
theorem wit_TransferPower : z.hold.xferNext = (0 : Fin 8).val ∧ 8 ≤ ({ z with hold := { z.hold with xferNext := 8 } } : State).hold.xferNext ∧
    (rg z [(ISL 7 1, 1)]).bit (ISL 7 1) 0 = true ∧ z.bit (ISL 7 1) 0 = false ∧ (rg z [(ISL 7 1, 2)]).bit (ISL 7 1) 1 = true ∧
    (z.isl 0).up = false ∧ (1 : Fin 8) ≠ 0 ∧ ((cell0 z []).isl 0).up = true ∧
    z.hold.held = false ∧ z.dev ≠ .off ∧ z.dev ≠ .deep := by decide
def fp : State := (rg (withImg (on .pitched) [(0x10, bs 384 [(17, 1), (19, 3)])]) [(ISL 0 0, 8)]).setIsl 0 fun x =>
  { x with fpwr := true, rung := 2, next := 2, up := true }
theorem wit_FieldPower : fp.bit (ISL 0 0) 3 = true ∧ fp.fieldPowered 0 = true ∧ z.bit (ISL 0 0) 3 = false ∧ (fp.isl 0).fpwr = true ∧
    (fp.isl 0).next = (fp.isl 0).rung ∧ (fp.isl 0).rung < min 3 (u8 (fp.islRec 0) 3) ∧ (1 : Nat) < (fp.isl 0).rung ∧
    (z.isl 0).fpwr = false ∧ (fp.isl 0).up = true ∧
    (fp.isl 0).brown = none := by decide
def fp2 : State := fp.setIsl 0 fun x => { x with next := 1, up := false }
theorem wit_FieldPower_second : (fp2.isl 0).next ≠ (fp2.isl 0).rung ∧ (fp2.isl 0).ann = 0 ∧ (fp2.isl 0).fpwr = true ∧
    (fp2.isl 0).up = false ∧ (fp.isl 0).next = (fp.isl 0).rung := by decide
def vb : State := { z with ember := { z.ember with onVbat := true, alarmEn := true, alarm := 7, sec := 7 } }
theorem wit_ClockEvents : (rg z [(SYS_CLKSTAT, 4)]).down = false ∧ (rg z [(SYS_CLKSTAT, 4)]).bit SYS_CLKSTAT 2 = true ∧
    held.down = true ∧ (on .pitched).mss.run ≠ .none ∧ vb.ember.onVbat = true ∧ z.ember.onVbat = false ∧ vb.ember.alarmEn = true ∧
    vb.ember.oscOk = true ∧ vb.ember.sec = vb.ember.alarm ∧ z.ember.alarmEn = false := by decide
def ctlOf (c : BootCtl) : Flash := { Flash.empty with ctl := ⟨some (1, c), none⟩ }
theorem wit_FirmwareChoice : Flash.empty.ctl.active = none ∧ checkPackage Flash.empty.anchors Flash.empty.fwA ≠ none ∧
    (ctlOf { BootCtl.factory with oxReq := true }).ctl.active = some { BootCtl.factory with oxReq := true } ∧
    (ctlOf BootCtl.factory).ctl.active = some BootCtl.factory ∧ BootCtl.factory.oxReq = false ∧
    (ctlOf BootCtl.factory).passes false 0 = false := by decide
def img2 : State := { rg (on .boot) [(SYS_STRAPS, 2)] with ringImg := some 0 }
theorem wit_BootSteps : z.down = false ∧ z.dev = .boot ∧ z.mss.run = .none ∧ z.flash.choose.1 = .oxbow ∧
    (on .boot).down = false ∧ (on .boot).mss.run ≠ .none ∧ (on .boot).mss.halted = false ∧
    (rg (on .boot) [(SYS_STRAPS, 3)]).fld SYS_STRAPS 1 0 = 3 ∧ (on .boot).bit SYS_STRAPS 4 = false ∧
    (rg (on .boot) [(SYS_STRAPS, 1)]).fld SYS_STRAPS 1 0 = 1 ∧ img2.fld SYS_STRAPS 1 0 = 2 ∧ img2.headwater = false ∧
    img2.ringImg ≠ none ∧ (on .pitched).runs = true ∧ (on .pitched).mod.answer = none := by decide
theorem wit_PitchSteps : (ask (on .unpitched) 0x10 [2]).asks .lpb 0x10 [2] ∧ (on .unpitched).dev.stable = true ∧
    (ask (on .unpitched) 0x10 [2]).imageBusy = false ∧ (ask (on .unpitched) 0x10 [2]).busyOp = false ∧
    (on .unpitched).bit SYS_STRAPS 4 = false := ⟨⟨by decide, 3, 0, by decide, by decide⟩, by decide⟩
def noImg : Image := ⟨[], [], [], []⟩
def pit (ph : PitchPhase) (c : Option Image) : State := (on .unpitched).setPitch fun _ => ⟨ph, false, 1, c, 0⟩
theorem wit_PitchSteps_second : (pit .verifying none).pitch.phase = .verifying ∧ (pit .verifying none).mss.halted = false ∧
    (pit .verifying none).pitch.cand = none ∧ (match (pit .verifying none).verifySource 1 with
      | .ok _ => false | .error _ => true) = true ∧
    (pit .entered (some noImg)).pitch.cand = some noImg ∧ (∀ i, (pit .loaded (some noImg)).structureDone i = true) ∧
    (pit .checked (some noImg)).cfg.bad = [] ∧ (∀ i, ((pit .checked (some noImg)).isl i).sPhase ≠ 5) ∧
    (∃ i, (((pit .checked (some noImg)).setIsl 7 fun x => { x with sPhase := 5 }).isl i).sPhase = 5) := by decide
def safImg : Image := ⟨[], [], [(0x00A0, bs 32 [])], []⟩
theorem wit_PitchSteps_states : (pit .verifying none).dev.stable = true ∧ (pit .verifying none).sleep.phase < 4 := by decide
theorem wit_PitchSteps_third : (pit .structured (some safImg)).pitch.cand = some safImg ∧ (safImg.body tagSafety).isSome = true ∧
    (pit .structured (some safImg)).pitch.boot = false ∧ noImg.sec tagSafety = none := by decide
theorem wit_NativeSpace : regAt 0x7FFFF = none ∧ regAt 0x057FF = none ∧ (2 ≤ z.roleOf .lpb) ∧ z.eddyHeld (z.eddyOf .lpb 0x80000) = false ∧
    z.eddyHeld (z.eddyOf .lpb 0xFFFFF) = false ∧ z.roleOf (.ring 3) < 2 ∧ z.eddyPage.contains .spi = z.eddyPage.contains .lpb := by
  decide
theorem wit_ReadSnapshot : (on .pitched).dev ≠ .boot ∧ z.rdRefused .lpb (POS 0 0) = false ∧ inSnap (POS 0 0) = false ∧
    snapTail (POS 0 0) = 2 ∧ z.rdRefused .lpb (POS 0 2) = false ∧ (0x00043 : Nat) ≤ 0x00043 ∧ snapTail 0x00043 = 1 ∧
    z.rdRefused .lpb 0x00044 = false ∧ z.undefinedAt 0x00044 = false ∧ inSnap 0x00043 = false := by decide
theorem wit_ObserverWritesNothing : z.roleOf (.ring 3) < 2 ∧ (0x00401 : Nat) ≠ 0x03C00 := by decide
def held3 : State := { z with role := { z.role with holder := some .spi } }
def askR (s : State) (code : Nat) : State := { s with mbx := [(.lpb, { Mailbox.idle with status := 1, job := some ⟨code, [], 1, false, 0⟩ })] }
theorem wit_AccessRole : held3.role.holder = some .spi ∧ z.role.holder ≠ some .lpb ∧ (askR (on .pitched) 2).mssServes = true ∧
    ((askR (on .pitched) 2).mbxOf .lpb).job = some ⟨2, [], 1, false, 0⟩ ∧ z.highest .lpb = 3 ∧ z.highest (.ring 3) < 3 ∧
    ((askR (on .pitched) 3).mbxOf .lpb).job = some ⟨3, [], 1, false, 0⟩ ∧
    (0 : Nat) ≠ stBadArgs ∧ ((on .pitched).mbxOf .lpb).status ≠ 1 ∧ bitsOf (0x000002 : Word) 14 8 = 0 ∧ bitsOf (0x000003 : Word) 7 0 = 3 ∧
    z.role.holder = none ∧ held3.role.holder ≠ some .lpb := by decide
/-- The sections of a personality: an active one, with register and interrupt records of 16 bytes. -/
def pers (recs : List (List (Nat × Nat))) : State :=
  rg (withImg (on .pitched) [(tagPers, bs 16 [(4, recs.length)] ++ recs.flatMap (bs 16))]) [(0x00500, 0x80AA20), (0x00501, 0xFF)]
def p1 : State := pers [[(0, 1), (2, 6), (12, 0xFF)], [(0, 2), (1, 3), (2, 6), (4, 0xFF), (5, 0xFF), (6, 1), (7, 2), (8, 0x40)]]
theorem wit_LpbCycles : z.lpbListens = true ∧ z.lpb.cyc = none ∧ (z.portWake 0).bit SYS_STRAPS 2 = false ∧
    p1.persActive = true ∧ p1.inAperture 0 = false ∧ p1.inAperture 0x800006 = true ∧ p1.nativeOff = 0x5100 ∧
    p1.persAt 6 = some 0 ∧ p1.persAt 8 = none ∧ p1.unmappedNoack = true ∧ z.persActive = false ∧ z.inAperture 5 = true ∧
    z.nativeOff = 0xFFF8 := by decide
def cyc (read acked : Bool) (kind : Nat) (q : List LpbWrite) (s : State) : State :=
  { s with lpb := { s.lpb with cyc := some ⟨read, 0, true, true, kind, 0, acked, 0⟩, q := q } }
def lw (kind : Nat) : LpbWrite := ⟨2, true, true, kind, 0, 5⟩
theorem wit_LpbCycles_second : (cyc true false 0 [] z).lpb.cyc = some ⟨true, 0, true, true, 0, 0, false, 0⟩ ∧
    (cyc true false 0 [] z).runs = true ∧ (cyc true false 1 [] p1).lpb.q = [] ∧ (cyc true false 3 [lw 0] z).lpb.q ≠ [] ∧
    (cyc false false 1 (List.replicate 7 (lw 0)) p1).lpb.q.length < 8 ∧ 8 ≤ (cyc false false 3 (List.replicate 8 (lw 0)) z).lpb.q.length ∧
    (cyc false true 3 [lw 0] z).lpb.q = lw 0 :: [] ∧ (lw 1).kind ≠ 0 ∧
    ((cyc false true 3 [lw 1] p1).setLpb fun l => { l with q := [] }).persActive = true ∧
    (cyc true false 1 [] z).persActive = false ∧ z.lpbListens = true ∧ (lw 0).kind = 0 := by decide
def p2 : State := { p1 with lpb := { p1.lpb with irq := updV p1.lpb.irq (3 : Fin 4) fun x => { x with on := true } } }
def p2t : State := (p2.portWake 0).setLpb fun l => { l with vec := none }
theorem wit_PersonalityLines : p1.down = false ∧ p1.persActive = true ∧ (p1.irqRec 3).any (fun r => decide (u8 r 6 = 1 ∧ u8 r 7 = 2)) = true ∧
    p2.runs = true ∧ (p2t.irqRec 3).isSome = true ∧ p2t.down = false ∧ p2t.underTest = false ∧ p2t.ten.phase ≠ 3 ∧
    (p2t.lpb.irq[(3 : Fin 4).val]).on = true ∧ p2t.irqRec 0 = none := by decide
def p3 : State := pers [[(0, 2), (1, 3), (2, 6), (4, 0xFF), (5, 0xFF), (6, 2), (7, 0), (8, 0x40)]]
def p4 : State := pers [[(0, 2), (1, 3), (2, 6), (4, 0xFF), (5, 0xFF), (6, 1), (7, 1), (8, 0x40)]]
theorem wit_PersonalityLines_second : (p3.irqRec 3).any (fun r => decide (u8 r 7 = 0 ∧ u8 r 6 = 2)) = true ∧
    (p4.irqRec 3).any (fun r => decide (u8 r 7 = 1)) = true ∧
    (p2t.irqRec 3).any (fun r => decide (u8 r 7 = 2 ∧ p2t.irqCond r = 0)) = true := by decide
def ev (dest cnt : Nat) : State := rg (on .pitched) [(EVT_SRC0 + 511, 0x8000 + cnt + 0x10000), (EVT_LCFG 1, 256 * dest)]
theorem wit_EventFires : z.canFire 5 = false ∧ (ev 0 0).canFire 511 = true ∧ (ev 0 0).lineOf 511 = 1 ∧
    (ev 0 0).recDest ((ev 0 0).lineOf 511) = 0 ∧ (ev 1 0).recDest ((ev 1 0).lineOf 511) ≠ 0 ∧
    (ev 1 0).fld (EVT_SRC0 + 511) 14 0 = 0 ∧ 0 < (ev 1 0x7FFF).fld (EVT_SRC0 + 511) 14 0 ∧ (ev 1 0x7FFF).canFire 511 = true ∧
    (on .unpitched).canFire 511 = false := by decide
def rec1 : PendRec := ⟨511, 0, 0⟩
def pend (dest : Nat) : State :=
  let s := ev dest 1
  rg { s with evt := { s.evt with pend := [rec1], lineTok := .replicate 8 1000, strTok := .replicate 8 1000 } }
    [(SLC 7 0, 1), (SLC 7 1, 1), (SLC 7 3, 0xFFF), (SLC 7 5, 1), (SLC 7 6, 1)]
theorem wit_RecordRelease : (pend 1).evt.pend.find? (fun r => decide ((pend 1).lineOf r.src = 1)) = some rec1 ∧
    (pend 1).down = false ∧ (pend 1).dev.fires = true ∧ 1000 ≤ (pend 1).evt.lineTok[(1 : Fin 8).val] ∧ (pend 1).recDest 1 = 1 ∧
    (pend 1).ring.evtQ.length < 8 ∧ (pend 0x17).recDest 1 = 0x10 + (7 : Fin 8).val ∧
    ((pend 0x17).slcEval 7).slcNextLine 7 = some 1 ∧ ((pend 0x17).slcEval 7).slcTakes 7 = true ∧
    (z.evt.pend.find? fun r => decide (z.lineOf r.src = 1)) = none := by decide
theorem wit_RecordRelease_second : (rg (on .pitched) [(SLC 7 7, 1)]).slcMoves = true ∧ (rg (on .pitched) [(SLC 7 7, 1)]).fld (SLC 7 7) 15 0 ≠ 0 ∧
    z.runs = true ∧ (∀ k : Fin 8, z.evt.lineRun[k.val] < 999 ∧ z.evt.strRun[k.val] < 999) := by decide
def bt (phase moved : Nat) (desc : List Word) (ret : Option Bool) (s : State) : State :=
  rg { s with ten := { s.ten with phase := phase, stream := 7, moved := moved, allow := 1, desc := desc, ret := ret } } [(0x00502, 1)]
def buf (done : Bool) (q : List Word) : State := (pend 0x17).setStream 7 fun x =>
  { x with buf := some ⟨0, 0, 64, 0, true, done, false, false⟩, q := q }
theorem wit_EventFires_second : (pend 0x17).canFire 511 = true ∧ ((pend 0x17).occur 511 0 0).feeds 511 = some 7 ∧
    1000 ≤ ((pend 0x17).occur 511 0 0).evt.strTok[(7 : Fin 8).val] ∧ ((pend 0x17).occur 511 0 0).wantsLag 7 = false ∧
    ((ev 1 0).occur 511 0 0).feeds 511 = none ∧ ((rg (pend 0x17) [(SLC 7 5, 0)]).occur 511 0 0).feeds 511 = some 7 ∧
    ((rg (pend 0x17) [(SLC 7 5, 0)]).occur 511 0 0).wantsLag 7 = true := by decide
theorem wit_BusTenures : (pend 0x17).slcMoves = true ∧ (pend 0x17).ten.phase = 0 ∧ (pend 0x17).slcPick = some 7 ∧
    (bt 1 0 [] none z).ten.phase = 1 ∧ z.underTest = false ∧ (bt 2 0 [] none (pend 0x17)).slcPick = some 7 ∧
    (bt 3 0 [] none (pend 0x17)).ten.moved < (bt 3 0 [] none (pend 0x17)).fld 0x00502 6 0 ∧
    (bt 3 0 [] none (pend 0x17)).slcNext 7 = .desc ∧ (bt 3 0 [0, 0, 0] none (pend 0x17)).ten.desc.length = 3 ∧
    (bt 3 0 [] none (buf false [1])).slcNext 7 = .data ∧ 0 < (bt 3 0 [] none (buf false [1])).ten.allow ∧
    (bt 3 0 [] none (buf true [])).slcNext 7 = .ret ∧ ((bt 3 0 [] (some true) (buf true [])).stream 7).buf.isSome = true ∧
    (bt 3 0 [] (some true) z).fld 0x00503 14 7 = 0 ∧
    (bt 3 0 [] none (pend 0x17)).slcMoves = true ∧
    (bt 3 0 [] none (pend 0x17)).tenRoom 7 = true ∧ (bt 3 1 [] none (pend 0x17)).tenRoom 7 = false ∧ z.slcMoves = false ∧ z.lpb.cyc = none ∧
    (cyc true false 0 [] z).lpb.cyc ≠ none ∧ (bt 3 0 [] (some false) z).ten.ret ≠ some true ∧ (bt 3 0 [] (some true) z).ten.ret = some true := by decide
def sp (f : SpiSt → SpiSt) (s : State) : State := s.setSpi fun x => f { x with active := true }
theorem wit_SpiFrames : z.runs = true ∧ z.underTest = false ∧ z.spi.active = false ∧ (sp id z).spi.active = true ∧ (sp id z).spi.gotCmd = false ∧
    bitOf (0xA00000 : Word) 21 = true ∧ (72 : Byte).toNat = crc8 0xA00000 ∧ bitOf (0xA00000 : Word) 20 = false ∧ bitOf (0xA00000 : Word) 23 = true ∧
    (67 : Byte).toNat = crc8 0x200000 ∧ bitOf (0x200000 : Word) 23 = false ∧ bitsOf (1 : Word) 11 0 ≠ 0 ∧ bitsOf (1 : Word) 23 12 = 0 ∧
    bitsOf (0x1000 : Word) 23 12 ≠ 0 ∧ bitOf (0x100000 : Word) 20 = true ∧ bitOf (0x100000 : Word) 21 = false ∧ (sp id z).bit 0x00600 6 = false ∧
    (0 : Byte).toNat ≠ crc8 5 := by decide
def spr (rd past served : Bool) (s : State) : State :=
  sp (fun x => { x with gotCmd := true, rd := rd, past := past, served := served, count := 1 }) s
theorem wit_SpiFrames_second : (spr true false true z).spi.active = true ∧ (spr true false true z).spi.gotCmd = true ∧
    (spr true false true z).spi.rd = true ∧ (spr true false true z).spi.dead = false ∧ (spr true false true z).spi.ends + 1 ≤ (spr true false true z).spi.count ∧
    (spr true false true z).spi.past = false ∧ (spr true false true z).spi.served = true ∧ (spr true true true z).spi.past = true ∧
    (sp (fun x => { x with ends := 1 }) (spr true false true z)).spi.count < 2 ∧
    (sp (fun x => { x with ends := 3 }) (spr true false true z)).spi.ends + 1 = (spr true false true z).spi.count + 3 ∧
    (spr false false true (on .pitched)).spi.rd = false ∧ (spr false false true (on .pitched)).dev ≠ .boot ∧ z.dev = .boot ∧
    (spr false false true (on .pitched)).spi.crc = false ∧
    (sp (fun x => { x with crc := true, ends := 1 }) (spr true false true z)).spi.crc = true := by decide
def up (s : State) : State := { s with mss := { s.mss with modUp := true } }
theorem wit_ModbusRequests : (up z).runs = true ∧ (up z).underTest = false ∧ (up z).mss.modUp = true ∧ (up z).mod.answer = none ∧
    (rg (up z) [(0x00640, 0x4000)]).bit 0x00640 14 = true ∧ (up z).mod.answer = none ∧
    ((up z).setMod fun m => { m with answer := some [1] }).mod.answer = some [1] := by decide
/-- Input registers 5 and 6 show Eddy words 0 and 1; holding registers 0 to 2 are writable: one word, and a signed pair. -/
def mm : State := up (shownImg (on .pitched) [(tagModbus, bs 16 [(4, 3)] ++ bs 16 [(0, 2), (1, 1), (2, 5), (4, 1), (10, 8)] ++
  bs 16 [(0, 3), (1, 1), (4, 1), (7, 2), (8, 0x41), (10, 8)] ++ bs 16 [(0, 3), (1, 3), (2, 1), (4, 2), (7, 2), (8, 0x42), (10, 8)])])
def mmOff : State := { mm with dev := .unpitched, cfg := { mm.cfg with pitched := true } }
theorem wit_ModbusChecks : z.dev = .boot ∧ mm.dev ≠ .boot ∧ mm.modItems 2 1 7 1 = none ∧ (mm.modItems 2 1 5 1).isSome = true ∧
    (mm.modItems 2 1 5 1).any (fun l => l.all MItem.writable) = false ∧ (mm.modItems 3 3 0 3).any (fun l => l.all MItem.writable) = true ∧
    mm.dev.fires = true ∧ ((mm.modItems 3 3 0 3).any fun l => decide (mm.modWriteBad mm.mod.gw (cutVals l [1, 0xFFFF, 0]) = false) &&
      (cutVals l [1, 0xFFFF, 0]).all (fun x => x.1.highOk x.2) && !(cutVals l [1, 0x7F80, 0]).all fun x => x.1.highOk x.2) = true ∧
    ((mm.modItems 2 1 5 1).any fun l => l.all fun i => (i.native mm.mod.gw).all fun a => !mm.rdRefused .modbus a) = true := by decide
def mmRom : State := { mm with role := { mm.role with mod := 1 } }
theorem wit_ModbusChecks_second : ((mmRom.modItems 3 1 0 1).any fun l => mmRom.modWriteBad mmRom.mod.gw (cutVals l [1])) = true ∧
    (z.dev.fires = false) ∧
    ((mm.modItems 3 1 0 1).any fun l => (l[0]?.bind MItem.rmwAt).any fun a => decide (0x80000 ≤ a)) = true := by decide
def rl : State := (rg z [(SYS_CLKSTAT, 4), (RNG_LINK false, 3)]).setRing fun r => { r with forward := true }
def dl (exch : Nat) (again : Bool) : State := rl.setDly true ⟨true, exch, 0, 0, again, 0⟩
theorem wit_RingLinks : rl.portsRun = true ∧ rl.bit (RNG_LINK false) 0 = true ∧ rl.bit (RNG_LINK true) 0 = false ∧
    rl.bit (RNG_LINK false) 1 = true ∧ (rg rl [(RNG_LINK true, 1)]).bit (RNG_LINK true) 1 = false ∧
    (rg rl [(RNG_LINK true, 1)]).bit (RNG_LINK true) 0 = true ∧ rl.ring.forward = true ∧ rl.headwater = false ∧
    (dl 0 false).portsRun = true ∧ ((dl 6 false).dly true).active = true ∧ ((dl 6 false).dly true).exch < 7 ∧
    ((dl 7 true).dly true).exch = 7 ∧ (rl.dly true).active = false ∧ ((dl 0 false).dly true).exch ≠ 1 ∧
    ((dl 6 false).dly true).again = false ∧ ((dl 6 true).dly true).again = true := by decide
def hw (s : State) : State := rg { s with mss := { s.mss with run := .slotA }, ring := { s.ring with forward := true } } [(SYS_CLKSTAT, 4), (RNG_STAT, 1)]
def nd (s : State) : State := { rg s [(SYS_CLKSTAT, 4)] with mss := { s.mss with run := .slotA }, ring := { s.ring with forward := true, slotSize := 1 } }
/-- A whole frame at the west port. -/
def rw : Rx := ⟨true, false⟩
def ml : Mail := ⟨5, 0, .read, false, false, 1, 0, 1, 0, 0, 0, 0, []⟩
theorem wit_RingCycle : (hw z).headwater = true ∧ (hw z).bit RNG_STAT 4 = false ∧ (hw z).asleep = false ∧ (hw z).forwards = true ∧
    (hw z).mss.run ≠ .none ∧ (hw z).ring.unwrapDue = false ∧ (hw z).ring.bindsDue = none ∧
    ¬ (hw z).rcfg 4 2 < (hw z).ring.tMin ∧ (hw z).downstream rw.west = true ∧ rw.ovf = false ∧ (hw z).downstream false = false ∧
    (nd (on .deep)).ring.unwrapDue = false ∧ (nd z).headwater = false ∧ (nd z).forwards = true ∧ (nd z).asleep = false ∧
    (nd z).ring.unwrapDue = false ∧ (nd z).ring.assignDue = none ∧ ((nd z).setRing fun r => { r with slotSize := 0 }).ring.slotSize = 0 ∧
    (nd (on .pitched)).ring.slotSize ≠ 0 ∧ (nd (on .pitched)).dev.fires = true ∧ (nd (on .pitched)).forwards = true ∧
    4 * ((nd z).ring.slotOff + (nd z).ring.slotSize) ≤ (bs 5 []).length ∧ 4 < (bs 5 []).length := by decide
theorem wit_RingCycle_second : (nd z).fld RNG_POS 9 0 < 1 ∧ (0 : Nat) ≤ (nd z).fld RNG_POS 9 0 ∧ (nd z).ring.filled < 2 ∧
    2 ≤ ((nd z).setRing fun r => { r with filled := 2 }).ring.filled ∧
    nextMail ((nd z).setRing fun r => { r with sendQ := [ml] }).ring.sendQ = some ml ∧ (nd z).ring.sendQ = [] ∧
    (nd z).bulkTake.1 = none ∧ (((nd z).setRing fun r => { r with bulkTx := some ⟨255, 5, 0, 0, 2, 0, 0, 0, 0, true⟩ }).bulkTake.1 =
      some (5, ⟨255, true, 0, [0, 0]⟩)) ∧ [(⟨0, 0, 0, 0, 0⟩ : EvtCell)] ≠ [] ∧ (nd z).portsRun = true ∧ (nd z).ring.pdLost = false ∧
    ((nd z).setRing fun r => { r with pdLost := true }).ring.pdLost = true := by decide
def asg (status : Nat) : EnumEntry := ⟨z.flash.uid.toNat, 0, 9, 0, 0, status⟩
theorem wit_RingCensus : (nd z).forwards = true ∧ (nd z).asleep = false ∧ (nd z).downstream rw.west = true ∧ (nd z).mss.run ≠ .none ∧
    (nd z).headwater = false ∧ (∀ e ∈ [({ asg 0 with nodeId := 0 } : EnumEntry)], e.nodeId = 0 ∧ e.hasId = true) ∧ (127 : Nat) < 128 ∧
    (nd z).ring.placed = false ∧ ((nd z).setRing fun r => { r with placed := true }).ring.placed = true ∧
    [asg 0].find? (fun e => decide (e.uid = (nd z).flash.uid.toNat)) = some (asg 0) ∧ (asg 0).uid = (nd z).flash.uid.toNat ∧
    (asg 0).nodeId ≠ 0 ∧ ((nd z).setRing fun r => { r with assignDue := some (asg 2) }).ring.assignDue = some (asg 2) ∧
    (asg 0).status.testBit 1 = false ∧ (asg 2).status.testBit 1 = true ∧
    ((nd z).setRing fun r => { r with assignDue := some (asg 2) }).ring.unwrapDue = false ∧
    ((nd z).setRing fun r => { r with assignLast := true }).ring.assignLast = true ∧
    (nd z).ring.imgReq = false ∧ (hw z).headwater = true ∧ (hw z).forwards = true ∧ (hw z).bit RNG_STAT 4 = false ∧
    ((hw z).setRing fun r => { r with censusPass := 1, firstPos := 768 }).ring.firstPos < 896 ∧
    ((hw z).setRing fun r => { r with censusPass := 2 }).ring.entries.length <
      ((hw z).setRing fun r => { r with censusPass := 2 }).ring.firstPos + 128 := by decide
def sy (s : State) : State := rg { nd s with ring := { (nd s).ring with conf := bs 20 [(1, 2)] } } [(RNG_SYNC_SEL, 0x80), (SYS_CLKSTAT, 12)]
def arm (b : Bool) (s : State) : State := s.setRing fun r => { r with armed := some (5, 0, 255), stepped := b }
theorem wit_RingCensus_second : (sy z).forwards = true ∧ (sy z).asleep = false ∧ (rg rl [(RNG_STAT, 4)]).runs = true ∧ ((sy z).rcfg 1 1).testBit 1 = true ∧ (sy z).fld RNG_SYNC_SEL 7 0 &&& 0x80 ≠ 0 ∧
    (sy z).ring.armed = none ∧ (sy z).fld RNG_SYNC_STAT 1 0 = 0 ∧ (rg (sy z) [(RNG_SYNC_STAT, 4 * 255 + 1)]).fld RNG_SYNC_STAT 1 0 ≠ 0 ∧
    (rg (sy z) [(RNG_SYNC_STAT, 4 * 255 + 1)]).fld RNG_SYNC_STAT 9 2 = 255 ∧ (arm false (sy z)).ring.armed ≠ none ∧
    (arm true (sy z)).ring.stepped = true ∧ (arm false z).disc = false ∧ z.runs = true ∧ z.underTest = false ∧
    (rg rl [(RNG_STAT, 4)]).bit RNG_STAT 2 = true ∧ (rg rl [(RNG_STAT, 4)]).bit (RNG_LINK false) 0 = true ∧
    (arm false (rg z [(SYS_CLKSTAT, 8)])).disc = true ∧ (rg z [(SYS_CLKSTAT, 8)]).disc = true := by decide
def nm : State := let s := nd (on .pitched)
  { s with ember := { s.ember with nodeId := some 9 } }
theorem wit_RingMails : nm.mailTurned 1023 7 .read rw false = none ∧ nm.mailTurned 0 7 .write rw false = none ∧
    nm.mailTurned 0 7 .mailbox rw false = none ∧
    (∀ a ∈ mailAddrs 0x85000 85 true, (nm.portWake 3).rdRefused (.ring 5) a = false) ∧ (85 : Nat) ≤ 85 ∧ 0xFFFFF + 1 ≤ 0x100000 ∧
    0x100000 < 0xFFFFF + 2 ∧ (∀ x ∈ (mailAddrs 0x7FFFF 1 true).zip [0], (nm.portWake 3).wrRefused (.ring 5) x.1 x.2 = false) ∧
    firstIdx (fun x => (nm.portWake 3).wrRefused (.ring 5) x.1 x.2) ((mailAddrs 0x80000 1 true).zip [3]) 0 = some 0 ∧
    [(0 : Word)].length = bitsOf (0x100 : Word) 14 8 ∧ ((nm.portWake 3).mbxOf (.ring 5)).status ≠ 1 ∧
    5 ∉ (nm.portWake 3).slots ∧ (nm.portWake 3).slots.length < 4 ∧ 5 ∈ ({ nm with slots := [5] }.portWake 3).slots ∧
    nm.dev ≠ .boot ∧ nm.dev ≠ .deep ∧ nm.addressed = true ∧ (nd (on .pitched)).addressed = false ∧ nm.ring.sendQ.length < 16 ∧
    16 ≤ (nm.setRing fun r => { r with sendQ := List.replicate 16 ml }).ring.sendQ.length ∧ (hw z).addressed = true ∧ (hw z).dev = .boot := by
  decide
def hm (slot : Nat) : State :=
  let s := hw (on .pitched)
  { s with ring := { s.ring with imgSlot := slot }, flash := { s.flash with img0 := bs 12 [(8, 12)] }, slots := [5],
           mbx := [(.ring 5, { Mailbox.idle with status := 1 })] }
theorem wit_RingMails_second : (hm 0xFF).headwater = true ∧ (hm 0xFF).forwards = true ∧ (hm 0xFF).asleep = false ∧
    (hm 0xFF).bit RNG_STAT 4 = false ∧ (hm 0xFF).mailTurned 5 7 .imageReq rw false = none ∧
    (hm 0).mailTurned 5 7 .imageReq rw false = none ∧ ((hm 0xFF).portWake 3).ring.imgSlot = 0xFF ∧
    ((hm 0).portWake 3).ring.imgSlot ≠ 0xFF ∧ ((hm 0).portWake 3).slotBytes 1 ≠ [] ∧ ((hm 0).portWake 3).ring.bulkTx = none ∧
    ((hm 0).mbxOf (.ring 5)).status = 1 ∧ ((hm 0).mbxOf (.ring 6)).status ≠ 1 ∧
    ((nd z).setRing fun r => { r with waiting := [1] }).ring.waiting.contains ml.tag = true ∧ ml.kind = .read ∧
    ({ ml with answer := true } : Mail).answer = true ∧ (nd z).forwards = true ∧
    (⟨false, 5, 6, 0, 0⟩ : RHdr).relayed = false ∧ (⟨true, 5, 6, 0, 0⟩ : RHdr).src ≠ 0 := by
  decide
def bk : BulkSt := ⟨255, 5, 0, 0, 2, 0, 0, 0, 0, true⟩
def rx (b : BulkSt) : State := nm.setRing fun r => { r with bulkRx := some b, bulkTx := some b }
theorem wit_BulkTransfers : nm.mailTurned 5 7 .bulkOpen rw false = none ∧ (nm.portWake 3).ring.bulkRx = none ∧
    (nm.portWake 3).ring.bulkTx = none ∧ 0xFFFFF + 1 ≤ 0x100000 ∧ 0x100000 < 0xFFFFF + 2 ∧ ((rx bk).portWake 3).ring.bulkRx ≠ none ∧
    (rx bk).ring.bulkRx = some bk ∧ (rx bk).bulkLive = true ∧ (rx bk).asleep = false ∧ bk.ofs + [(0 : Word), 1].length ≤ bk.len ∧
    (1 : Nat) ≠ bk.ofs ∧ (⟨255, false, 1, [0]⟩ : Bulk).session = bk.session ∧ (rx bk).ring.bulkTx = some bk ∧ (0 : Nat) ≠ bk.len ∧
    bk.ofs ≠ bk.len := by decide
def bkEnd : BulkSt := { bk with ofs := 2 }
theorem wit_BulkTransfers_second : (rx bkEnd).bulkLive = true ∧ (rx bkEnd).ring.bulkRx = some bkEnd ∧ bkEnd.ofs = bkEnd.len ∧
    ∃ crc, crc32 (wordsBytes (((rx bkEnd).portWake 3).eddyWords bkEnd.dst bkEnd.len)) = crc := by
  refine ⟨by decide, by decide, by decide, _, rfl⟩
def gl (rung : Nat) : State := rg z [(ISL 0 0, 16 * rung)]
def locked (s : State) (f : Isl → Isl) : State := s.setIsl 0 fun x => f { x with up := true, iLock := true }
theorem wit_GuylineFrames : z.dev ≠ .off ∧ z.hold.held = false ∧ z.dev ≠ .deep ∧ (gl 0).fld (ISL 0 0) 5 4 = 0 ∧ 96 % 4 = 0 ∧
    (gl 3).fld (ISL 0 0) 5 4 ≠ 0 ∧ (99 : Nat) < 100 ∧ ((locked z fun x => { x with iLock := false, dnGood := 6 }).isl 0).dnGood < 7 ∧
    ((locked z fun x => { x with iLock := false }).isl 0).iLock = false ∧ ((locked z fun x => { x with iLock := false, dnGood := 7 }).isl 0).dnGood = 7 ∧
    ((locked z id).isl 0).up = true ∧ ((locked z id).isl 0).iLock = true ∧ ((locked (gl 0) id).bit (ISL 0 0) 0 = false) ∧
    ((locked (rg z [(ISL 0 0, 1)]) id).bit (ISL 0 0) 0 = true) ∧ ((locked z fun x => { x with upGood := 6 }).isl 0).upGood < 7 ∧
    7 ≤ ((locked z fun x => { x with upGood := 7 }).isl 0).upGood ∧
    (locked z id).glRuns = true ∧ (on .off).glRuns = false := by decide
def st3 (p : Nat) (l : Bool) : State := z.setIsl 0 fun x => { x with sPhase := p, iLock := l, commit := true }
def lost (ph : Nat) : State := (rg (on .pitched) [(ISL 0 0, 1)]).setRepitch fun r => { r with phase := ph, isl := 0 }
theorem wit_Structuring : ((st3 3 true).isl 0).sPhase = 3 ∧ ((st3 3 true).isl 0).iLock = true ∧ ((st3 2 true).isl 0).sPhase ≠ 3 ∧
    ((rg (withImg z [(0x10, bs 384 [])]) [(ISL 0 0, 1)]).islBody 0).isSome = true ∧
    ((rg (withImg z [(0x10, bs 384 [])]) [(ISL 0 0, 1)]).bit (ISL 0 0) 0 = true) ∧
    ((z.setIsl 0 fun x => { x with retry := true }).isl 0).retry = true ∧ ((z.setIsl 0 fun x => { x with fpwr := true }).isl 0).fpwr = true ∧
    (z.isl 0).iLock = false ∧ (lost 0).bit (ISL 0 0) 0 = true ∧ (lost 0).runs = true ∧
    ((lost 0).islandLoss 0 false).repitch.phase = 0 ∧ ((lost 2).islandLoss 0 false).repitch.phase = 2 ∧
    ((lost 2).islandLoss 0 false).repitch.isl = (0 : Fin 8).val ∧ 2 < ((lost 3).islandLoss 0 true).repitch.phase ∧
    ((lost 3).islandLoss 0 true).repitch.isl = (0 : Fin 8).val ∧ z.bit (ISL 0 0) 0 = false := by decide +kernel
/-- A DO-T cell that the kernels own, commanded by both. -/
def safe : State := (cell0 (on .pitched) [(48, 0xA), (50, 3)]).setIsl 0 fun x =>
  { x with cells := updV x.cells (0 : Fin 4) fun y => { y with cmdA := true, cmdB := true } }
def badBs : Bytes := List.replicate 61 0xFF
set_option maxRecDepth 100000 in
theorem wit_SafetyOutputs : ((safe.isl 0).store.any fun b => decide (u8 (slice b (48 + 80 * (0 : Fin 4).val) 80) 2 = 3)) = true ∧
    (safe.isl 0).drive 0 = some 1 ∧ subTake false false 0 (frameSafA badBs) = none ∧ ((safe.isl 0).safety 0 badBs 0).drive 0 = none ∧ (safe.isl 0).up = true ∧ (safe.isl 0).iLock = true ∧
    (safe.isl 0).dn.dataA.testBit (0 : Fin 4).val = false := by decide
/-- SAFETY bodies without cell copies, with function 15 of one input that drives pair 7, and pair 7. -/
def secB : Bytes := bs 16 [(1, 0xFF)] ++ bs 48 [(0, 2), (1, 15), (2, 0), (3, 0), (4, 255), (5, 255), (6, 255), (0xE, 0x80)] ++ bs 48 [(0, 3), (1, 7), (6, 1)]
def kn (k : Kern → Kern) : State :=
  let s := rg (on .pitched) [(SYS_BOOT, 0xC00)]
  s.setSaf fun x => { x with armed := true, ka := k { x.ka with sec := some secB, safen := true }, kb := { x.kb with sec := some secB, safen := true } }
def kOn (cmd : Bool) : State := kn fun k => (k.setFn 15 fun x => { x with st := 2 }).setPair 7 fun x => { x with cmd := cmd }
theorem wit_KernelPairs : (((kOn false).kern false).pair 7).cmd = false ∧
    (((State.pairCycle false (kOn false) 7).kern false).pair 7).cmd = true ∧ ((kOn true).kern false).pairRec 7 ≠ none ∧
    (((kOn true).kern false).pair 7).cmd = true ∧ ((kOn true).setSaf fun x => { x with armed := false }).saf.armed = false ∧
    (((kOn true).kern false).fn 15).st = 2 := by decide
def fnOf (st : Nat) (g d : Bool) : KFn := { ((kOn true).kern false).fn 0 with st := st, fsr := false, ins := .replicate 4 ⟨g, d, 0⟩ }
theorem wit_KernelPairs_second : ((fnOf 2 true false).inp 0).d = false ∧ (∀ j ∈ [(0 : Fin 4)], ((fnOf 2 false true).inp j).d = true) ∧ ((fnOf 2 false true).inp 0).g = false ∧
    (fnOf 2 true true).single true [0] 5 = (2, 0) ∧ (fnOf 0 true true).st ≠ 2 ∧ ((fnOf 0 true true).single true [0] 5).1 = 2 ∧
    (fnOf 5 true true).st ≠ 2 ∧ ((fnOf 5 true true).twoHand 5).1 = 2 := by decide
def lifeK (n : Nat) : State := kn fun k => { k with life := updV k.life (0 : Fin 8) fun _ => some n }
theorem wit_KernelCycle : z.kernelsRun = true ∧ held.kernelsRun = false ∧ (z.kern true).life[(0 : Fin 8).val] = none ∧
    ((lifeK 254).kern false).life[(0 : Fin 8).val] = some 254 ∧ 3 = (1 + 256 - 254) % 256 ∧ 0 = (254 + 256 - 254) % 256 ∧
    (lifeK 254).kernelsRun = true ∧ z.saf.armed = false ∧ (lifeK 254).saf.armed = true ∧
    ((lifeK 254).setIsl 0 fun x => { x with rxA := some [] }).kernelsRun = true ∧
    (((lifeK 254).setIsl 0 fun x => { x with rxA := some [] }).isl 0).rxA = some [] ∧ (z.isl 0).rxB = none := by decide
def kT (st sync d1 run : Nat) : State := kn fun k =>
  (k.setFn 15 fun x => { x with st := st, sync := sync, d1 := d1, ins := updV x.ins (0 : Fin 4) fun y => { y with run := run } }).setPair 7
    fun x => { x with cmd := true, ss1 := some 0, test := 4 }
theorem wit_KernelTimers : ((kT 6 2000 0 0).kern false).fnRec 15 ≠ none ∧
    (((kT 6 2000 0 0).kern false).fnRec 15).any (fun r => decide (25 * u16 r 8 ≤ ((((kT 6 2000 0 0).kern false).fn 15).inp 0).run ∧
      4 * u16 r 0xA ≤ (((kT 6 2000 0 0).kern false).fn 15).d1)) = true ∧ (((kT 6 2000 0 0).kern false).fn 15).st = 6 ∧
    2000 ≤ (((kT 6 2000 0 0).kern false).fn 15).sync ∧ (((kT 6 2000 0 0).kern false).pair 7).ss1 = some 0 ∧
    (((kT 6 2000 0 0).kern false).pairRec 7).any (fun r => decide (4 * u8 r 6 = (((kT 6 2000 0 0).kern false).pair 7).test)) = true ∧
    ((kn fun k => { k with safen := false, run := 40 }).kern false).safen = false ∧
    ((kn fun k => { k with safen := false, run := 40 }).kern false).run = 40 := by decide
theorem wit_KernelTimers_second : (ask (on .pitched) 0x15 []).asks .lpb 0x15 [] ∧ (ask (on .pitched) 0x15 []).dev = .pitched :=
  ⟨⟨by decide, 3, 0, by decide, by decide⟩, by decide⟩
def cel (f : Nat) (l : List (Nat × Nat)) (g : Cell → Cell) : State := (cell0 (on .pitched) ([(48, f)] ++ l)).setCell 0 g
/-- A QUAD axis of channels 31 and 30. -/
def axq : State := rg (withImg (on .pitched) [(tagAxes, bs 16 [(4, 1)] ++ bs 64 [(0, 7), (1, 1), (4, 31), (5, 30), (6, 255), (0x10, 24)]),
    (0x17, bs 384 [(64 + 240, 1)])]) [(ISL 7 0, 3)]
theorem wit_InputCells_quad : (∃ q ∈ axq.quadUses (chIsl 31), q.a = chCell 31 ∨ q.b = chCell 31 ∨ q.z = some (chCell 31)) ∧
    ∀ q ∈ (cel 1 [] id).quadUses (chIsl 0), q.a ≠ chCell 0 ∧ q.b ≠ chCell 0 ∧ q.z ≠ some (chCell 0) := by decide
theorem wit_InputCells : u8 ((cel 1 [] id).cellRec 0) 0 ∈ [1, 2, 4] ∧ ((cel 1 [] id).cell 0).stp = 0 ∧ 255 % 2 ≠ ((cel 1 [] id).cell 0).filt ∧
    u8 ((cel 5 [] id).cellRec 0) 0 = 5 ∧ 7 % 8 ≠ ((cel 5 [] id).cell 0).filt ∧ (∀ a, (cel 5 [] id).axCh a 7 ≠ some 0) ∧
    ((cel 1 [] fun y => { y with stp := 1 }).cell 0).stp ≠ 0 ∧ (chan0 (on .pitched) [(64, 2)]).func 0 = 2 ∧
    hasDiag ((cel 0x10 [(64, 1)] id).cellRec 0) 0 = true ∧ isOutput (u8 ((cel 0x10 [] id).cellRec 0) 0) = false ∧
    hasDiag ((cel 1 [] id).cellRec 0) 3 = false := by decide
def sup (stp fails : Nat) (on : Bool) : State :=
  cel 1 [(0x45, 2)] fun y => { y with stp := stp, stpFails := fails, sup := on }
theorem wit_InputCells_second : ((sup 0 0 true).cell 0).sup = true ∧ isInput (u8 ((sup 0 0 true).cellRec 0) 0) = true ∧
    ((sup 0 0 false).cell 0).sup = false ∧ u8 ((sup 0 0 true).cellRec 0) 0x15 = 2 ∧ ((sup 0 0 true).isl (chIsl 0)).vlow = false ∧
    (∀ k : Fin 4, ((sup 0 0 true).isl (chIsl 0)).cells[k.val].stp = 0) ∧
    (∃ k : Fin 4, (((sup 0 0 true).setCell 1 fun y => { y with stp := 1 }).isl (chIsl 0)).cells[k.val].stp ≠ 0) ∧
    (((sup 0 0 true).setCell 1 fun y => { y with stp := 1 }).cell 0).stp = 0 ∧ ((sup 1 0 true).cell 0).stp = 1 ∧
    2 ≤ ((sup 2 1 true).cell 0).stp ∧ 1 ≤ ((sup 2 1 true).cell 0).stpFails ∧ ((sup 2 0 true).cell 0).stpFails = 0 ∧
    u8 ((cel 0x10 [] id).cellRec 0) 0 = 0x10 := by decide
def dout (f : Nat) (g : Cell → Cell) : State := cel f [(73, 1)] fun y => g { y with inrush := false, ena := true, out := 1 }
def rush (b : Bool) : State := cel 8 [(72, 1)] fun y => { y with inrush := b, ena := true, out := 1 }
theorem wit_OutputCells : hasDiag ((dout 8 id).cellRec 0) 1 = true ∧ isOutput (u8 ((dout 8 id).cellRec 0) 0) = true ∧
    (((dout 8 id).cell 0).inrush && hasInrush ((dout 8 id).cellRec 0)) = false ∧ ((dout 8 id).cell 0).tp = 0 ∧ ((dout 8 id).cell 0).lat5 = false ∧
    ((dout 8 fun y => { y with lat5 := true }).cell 0).lat5 = true ∧ hasDiag ((dout 8 id).cellRec 0) 3 = true ∧
    (((rush true).cell 0).inrush && hasInrush ((rush true).cellRec 0)) = true ∧ isDigitalOut (u8 ((dout 8 id).cellRec 0) 0) = true ∧
    u8 ((dout 8 id).cellRec 0) 0x19 = 1 ∧ ((dout 8 fun y => { y with runs := 7 }).cell 0).runs < 8 ∧
    u8 ((dout 8 id).cellRec (chOf 0 0)) 0 = 8 ∧ hasSupply ((sup 0 0 true).cellRec (chOf 0 0)) = true := by decide
theorem wit_OutputCells_second : u8 ((dout 0xA id).cellRec 0) 0 = 0xA ∧ ((dout 0xA id).isl (chIsl 0)).drive (chCell 0) ≠ none ∧
    u8 ((dout 0xA id).cellRec 0) 2 ≠ 3 ∧ (∀ k : Fin 4, ((dout 0xA id).isl (chIsl 0)).cells[k.val].tp = 0) ∧
    (((dout 0xA id).setCell 1 fun y => { y with tp := 1 }).isl (chIsl 0)).cells[(1 : Fin 4).val].tp ≠ 0 ∧
    ((dout 0xA fun y => { y with tp := 2, tpFails := 1 }).cell 0).tp ≠ 0 ∧ ((dout 0xA fun y => { y with tp := 2, tpFails := 1 }).cell 0).tpFails = 1 ∧
    ((dout 0xA id).cell 0).tpFails = 0 ∧ (safe.isl (chIsl 0)).drive (chCell 0) ≠ none ∧
    ((safe.setCell 0 fun y => { y with tpWait := true }).cell 0).tpWait = true := by decide
theorem wit_SleepRequests : (ask (on .pitched) 5 []).asks .lpb 5 [] ∧ (ask (on .pitched) 6 []).asks .lpb 6 [] ∧
    (ask (on .pitched) 7 []).asks .lpb 7 [] ∧ (ask (on .pitched) 5 []).sleepReason 0 false = 0 ∧
    (ask (on .unpitched) 6 []).sleepReason 0 true = 0 ∧ (ask (on .safe) 5 []).sleepReason 0 false = 1 ∧
    (ask (rg (on .pitched) [(SYS_WAKE_MASK, 0x40)]) 6 []).sleepReason 0x40 true = 5 :=
  ⟨⟨by decide, 3, 0, by decide, by decide⟩, ⟨by decide, 3, 0, by decide, by decide⟩, ⟨by decide, 3, 0, by decide, by decide⟩, by decide⟩
theorem wit_SleepRequests_second : (on .doze).dev = .doze ∧ (on .doze).down = false ∧ 0 % 16 + ((0 % 128 / 16 * 16 + 128 * (0 / 128 &&&
    (on .doze).linesWord)) &&& ((on .doze).reg SYS_WAKE_MASK).toNat) = 0 ∧ 8 ≠ 0 ∧ 8 = 8 % 16 + ((8 % 128 / 16 * 16 + 128 * (8 / 128 &&&
    (on .doze).linesWord)) &&& ((on .doze).reg SYS_WAKE_MASK).toNat) := by decide
def slp (d : Dev) (ph lim : Nat) : State := { on d with sleep := { (on d).sleep with phase := ph, limit := lim, origin := .pitched } }
theorem wit_SleepRequests_again : (ask (slp .pitched 1 0) 6 []).sleepReason 0 true = 0 ∧ (slp .pitched 1 0).sleep.phase = 1 := by decide
theorem wit_DeepSteps : (slp .pitched 1 0).sleep.phase = 1 ∧ (slp .pitched 1 0).down = false ∧ (slp .pitched 2 0).sleep.phase ≠ 1 ∧
    (rg (slp .pitched 2 0) [(SYS_WAKE_MASK, 0x7F)]).wakeSet 0x40 true ≠ 0 ∧ (slp .pitched 2 0).wakeSet 0 true = 0 ∧
    (slp .deep 3 0).sleep.phase = 3 ∧ (slp .deep 4 0).dev = .deep ∧ 0 = (slp .deep 4 0).wakeSet 0 true + 32768 * (if (slp .deep 4 0).sleep.limit = 0 then 0 else 1) ∧
    32768 = (slp .deep 4 5).wakeSet 0 true + 32768 * (if (slp .deep 4 5).sleep.limit = 0 then 0 else 1) ∧ (slp .deep 5 5).sleep.phase = 5 ∧
    (slp .unpitched 6 0).sleep.phase = 6 ∧ (slp .unpitched 6 0).down = false ∧ (slp .unpitched 6 0).dev ≠ .pitching ∧
    (slp .pitching 6 0).cfg.bad = [] ∧ ((slp .pitching 6 0).setCfg fun c => { c with bad := [1] }).cfg.bad ≠ [] ∧
    (slp .pitching 7 0).sleep.phase = 7 ∧ (∀ i, (slp .pitching 7 0).structureDone i = true) ∧
    (∃ i, (rg (withImg (slp .pitching 7 0) [(0x10, bs 384 [])]) [(ISL 0 0, 1)]).structureDone i = false) ∧
    (slp .pitched 1 0).dev = (slp .pitched 1 0).sleep.origin ∧ (slp .pitched 2 0).dev = (slp .pitched 2 0).sleep.origin ∧
    (slp .safe 1 0).dev ≠ (slp .safe 1 0).sleep.origin ∧ (slp .pitching 7 0).dev = .pitching := by decide
theorem wit_FilterArithmetic : (List.replicate 12 true).length = 4 * 3 ∧ (3 : Nat) ≤ 3 ∧ (0 : Nat) < 262144 ∧ roundEven 3 2 = 2 ∧ roundEven (-3) 2 = -2 ∧ (2 * (3 - roundEven 3 2 * 2)).natAbs = 2 ∧
    (macSum [131071, 1] [(1, false), (2, true)] 0 none).2 = none ∧
    (macSum (List.replicate 2 131072) (List.replicate 2 (1000000000, false)) 0 none).2 = some true := by decide
/-- Channel 0 as AI-I with the preset 0 and, when asked, user set 0. -/
def ai (set : Nat) (cut : Nat) (f : Filt → Filt) : State :=
  let s := (rg (chan0 (on .pitched) [(64, 0x10), (69, set)]) [(FLT 0 9, 2 * cut)]).setFilt 0 f
  { s with sets := [(0, ⟨0, [⟨[262144], false⟩]⟩)] }
def inq8 (x : Filt) : Filt := { x with inq := List.replicate 8 5 }
theorem wit_FilterSteps : isAI ((ai 0 0 inq8).func 0) = true ∧ (ai 0 0 inq8).structured 0 = true ∧ (ai 0 0 inq8).dev ≠ .doze ∧
    8 = 2 ^ presetStages ((ai 0 0 inq8).presetNow 0) ∧ 8 ≤ ((ai 0 0 inq8).filt 0).inq.length ∧ (ai 0 1 inq8).bit (FLT 0 9) 1 = true ∧
    (ai 0 0 inq8).bit (FLT 0 9) 1 = false ∧ ((ai 0x10 0 inq8).userSet 0).isSome = true ∧ (ai 0 0 inq8).userSet 0 = none ∧
    (ai 0 0 id).structured 0 = true ∧ ((ai 0 0 id).filt 0).inq.length < 2 ^ presetStages ((ai 0 0 id).presetNow 0) := by decide
theorem wit_FilterSteps_second : ((ai 0 0 fun x => { x with rifq := [7], sincs := 1 }).filt 0).rifq = 7 :: [] ∧
    ((ai 0 0 fun x => { x with rifq := [7], sincs := 1 }).filt 0).sincs < 2 ∧
    2 ≤ ((ai 0 0 fun x => { x with rifq := [7], sincs := 2 }).filt 0).sincs ∧ ((ai 0 0 id).filt 0).rifq = [] := by decide
/-- Capture sequence 15 in a state, triggered by source 1, with a mode. -/
def cp (st mode : Nat) (f : Capt → Capt) : State :=
  let s := rg (withImg (on .pitched) [(tagCoeff, bs 16 [(4, 1)] ++ bs 32 [(0, 2), (1, 15)])]) [(CAP 15 1, 1), (CAP 15 5, st), (CAP 15 0, 8 * mode)]
  s.setCapt 15 f
theorem wit_Captures : (cp 0 0 id).capRec 15 ≠ none ∧ z.capRec 15 = none ∧ (cp 0 0 id).fld (CAP 15 1) 1 0 = 1 ∧ (cp 0 0 id).capState 15 = 0 ∧
    (cp 1 0 id).capState 15 = 1 ∧ (cp 2 0 id).capState 15 = 2 ∧ (cp 2 0 id).fld (CAP 15 0) 4 3 = 0 ∧ (cp 2 1 id).fld (CAP 15 0) 4 3 = 1 ∧
    ((cp 2 1 fun x => { x with pendSets := some 0 }).capt 15).pendSets ≠ none ∧ ((cp 2 1 id).capt 15).pendSets = none ∧
    2 ≤ (cp 2 2 id).fld (CAP 15 0) 4 3 ∧ (cp 3 0 id).capState 15 = 3 ∧
    ((cp 2 0 fun x => { x with got := 4, goal := 4 }).capt 15).fired = false ∧ ((cp 2 0 fun x => { x with got := 4, goal := 4 }).capt 15).goal ≠ 0 ∧
    ((cp 2 0 fun x => { x with got := 4, goal := 4 }).capt 15).goal ≤ ((cp 2 0 fun x => { x with got := 4, goal := 4 }).capt 15).got := by decide
/-- Axis 7 of a type with channel 31, whose island is structured as DI-F. -/
def ax (type : Nat) (regs : List (Nat × Nat)) : State :=
  rg (withImg (on .pitched) [(tagAxes, bs 16 [(4, 1)] ++ bs 64 [(0, 7), (1, type), (4, 31), (0x10, 24)]),
    (0x17, bs 384 [(64 + 240, 1)])]) ([(ISL 7 0, 3)] ++ regs)
theorem wit_AxisSteps : (ax 0 []).axisOn 7 = true ∧ z.axisOn 7 = false ∧ (ax 0 []).homeState 7 = 0 ∧ (ax 0 [(POS 7 0xF, 8)]).homeState 7 ≠ 0 ∧
    (ax 0 [(POS 7 0xF, 8)]).homeState 7 ≠ 9 ∧ (ax 0 [(POS 7 0xE, 2)]).bit (POS 7 0xE) 1 = true ∧ (ax 0 []).bit (POS 7 0xE) 0 = false ∧
    (ax 3 []).axCfg 7 1 1 = 3 ∧ (ax 3 []).axCh 7 4 = some 31 ∧ (ax 3 []).structured 31 = true ∧ (ax 0 []).axCfg 7 1 1 ≠ 3 ∧
    (on .doze).dev ≠ .pitched ∧ z.dev ≠ .doze ∧ z.axisRec 7 = none ∧ ((ax 0 []).axisRec 7).isSome = true := by decide
theorem wit_AxisSteps_quad : ((z.isl 0).cells[(0 : Fin 4).val].filt.testBit 0, (z.isl 0).cells[(1 : Fin 4).val].filt.testBit 0) = quadLevels 0 ∧
    ((⟨0, 1, 0⟩ : Pulse).fa.testBit (0 : Fin 4).val, (⟨0, 1, 0⟩ : Pulse).fa.testBit (1 : Fin 4).val) = quadLevels (0 + 1) ∧
    (⟨0, 3, 0⟩ : Pulse).fa.testBit (1 : Fin 4).val ≠ (z.isl 0).cells[(1 : Fin 4).val].filt.testBit 0 ∧
    quadStep 0 false false false true false ≠ none ∧ quadStep 1 false true false false false ≠ none ∧
    (⟨0, [5], true, false, 0, false⟩ : PulseCnt).fwd = decide ((0 : Int) < 1) ∧ (⟨0, [5], true, false, 0, false⟩ : PulseCnt).times ≠ [] ∧
    (⟨0, [5], true, false, 0, false⟩ : PulseCnt).fwd ≠ decide ((0 : Int) < -1) := by decide
def nrg (fault trip cur : Nat) : State :=
  { chan0 (on .pitched) [(64, 8), (72, fault)] with upUs := 100000 }.setReg (nrgStat 0 (some 0)) (toWord trip) |>.setReg (NRG 0 0x13) (toWord cur)
    |>.setReg (NRG 0 0x28) 1
theorem wit_AxisSteps_second : (nrg 2 1 2).bit (nrgStat (chIsl 0) (some (chCell 0))) 0 = true ∧ u8 ((nrg 2 1 2).chRec 0) 8 = 2 ∧
    ((nrg 2 1 2).scopeLed (chIsl 0) (some (chCell 0))).since + 100000 ≤ (nrg 2 1 2).upUs ∧
    exceeds ((nrg 2 1 2).nrgI (chIsl 0) (some (chCell 0))) ((nrg 2 1 2).nrgLimit (chIsl 0) 0 (some (chCell 0))) = true ∧
    (nrg 2 0 2).bit (nrgStat (chIsl 0) (some (chCell 0))) 0 = false := by decide
def wd (stat : Nat) (first : Bool) : State :=
  let s := rg z [(WDG_CHAL, 0x00ACE1), (WDG_STAT, stat)]
  { s with wdg := { s.wdg with first := first } }
theorem wit_Watchdog : (wd 0x10 false).wdgRuns = true ∧ bitsOf (toWord (wdgToken (wd 0x10 false).wdg.seed 0xACE1)) 23 16 = (wd 0x10 false).fld WDG_CHAL 23 16 ∧
    (wd 0x10 false).bit WDG_STAT 4 = true ∧ bitsOf (toWord (wdgToken (wd 0x10 false).wdg.seed 0xACE1)) 15 0 =
      wdgToken (wd 0x10 false).wdg.seed ((wd 0x10 false).fld WDG_CHAL 15 0) ∧
    bitsOf (0xFF0000 : Word) 23 16 = ((wd 0 false).fld WDG_CHAL 23 16 + 255) % 256 ∧ (wd 0 false).wdg.first = false ∧
    (wd 0 true).wdg.first = true ∧ bitsOf (0xFF0000 : Word) 23 16 ≠ (wd 0 true).fld WDG_CHAL 23 16 ∧ (wd 0 true).bit WDG_STAT 4 = false ∧
    bitsOf (0x010000 : Word) 23 16 ≠ ((wd 0 false).fld WDG_CHAL 23 16 + 255) % 256 ∧ (wd 0x80 false).wdgRuns = false := by decide
theorem wit_Watchdog_second : ({ wd 0 false with wdg := { (wd 0 false).wdg with openLeft := 0 } } : State).wdg.openLeft = 0 ∧
    ({ wd 0 false with wdg := { (wd 0 false).wdg with openLeft := 1 } } : State).wdg.openLeft ≠ 0 ∧ (rg (wd 0 false) [(WDG_LEFT, 0)]).reg WDG_LEFT = 0 ∧
    (rg (wd 0 false) [(WDG_LEFT, 1)]).reg WDG_LEFT ≠ 0 ∧ (1 : Nat) ≠ 0 ∧ (65535 : Nat) < 65536 := by decide
def cf (bad repair : List Nat) (again : Bool) : State :=
  (on .pitched).setCfg fun c => { c with bad := bad, repair := repair, again := again, src := [(0, 1, [])] }
theorem wit_Upkeep : (cf [] [] false).scrubOn = true ∧ (cf [] [] false).asleep = false ∧ 65535 = 65535 % 65536 ∧
    (cf [0] [] false).cfg.bad.contains ((cf [0] [] false).cfgRegion 65535) = true ∧
    (cf [] [] false).cfg.bad.contains ((cf [] [] false).cfgRegion 65535) = false ∧
    (cf [] [] false).cfg.repair.contains ((cf [] [] false).cfgRegion 65535) = false ∧ (cf [] [] false).cfg.repair = [] ∧
    (cf [] [0] false).cfg.repair = 0 :: [] ∧ (cf [] [0] false).mss.run ≠ .none ∧ (cf [] [0] false).mss.halted = false ∧
    (cf [] [0] false).repairable 0 = true ∧ (cf [] [5] false).repairable 5 = false ∧ (on .pitched).mssRuns = true ∧
    (23 : Fin 24).val ≠ 7 ∧ (on .pitched).sensLost 23 = true ∧ (on .pitched).sensLost 6 = false ∧
    (rg (on .pitched) [(SYS_PWR_STAT, 0x20)]).pfw = true ∧ (on .pitched).pfw = false ∧
    (cf [] [] false).cfg.seen.contains 65535 = false ∧
    ((cf [] [] false).setCfg fun c => { c with seen := [65535] }).cfg.seen.contains 65535 = true := by decide
theorem wit_MailboxSubmits : ((on .pitched).mbxOf .lpb).status ≠ 1 ∧ knownCmd (bitsOf (0x000061 : Word) 7 0) = true ∧
    knownCmd (bitsOf (0x0000FF : Word) 7 0) = false ∧ (Mailbox.idle).status < 256 ∧ (1 : Nat) < [(0 : Word), 5].length := by decide
theorem wit_MailboxOverrun : ((ask (on .pitched) 5 []).mbxOf .lpb).status = 1 ∧ (1 : Nat) < [(0 : Word), 5].length := by decide
theorem wit_MailboxChecks : ((ask (on .pitched) 0x13 []).mbxOf .lpb).job = some ⟨0x13, [], 3, false, 0⟩ ∧ [].length (α := Word) ≠ 1 ∧
    ((askR (on .pitched) 0x40).mbxOf .lpb).job = some ⟨0x40, [], 1, false, 0⟩ ∧ (askR (on .pitched) 0x40).mssServes = true ∧
    ((ask (on .pitched) 0x16 [3]).mbxOf .lpb).job.any (fun j => decide (j.arg 0 = 3)) = true ∧
    ((on .pitched).mbxOf .lpb).job = none ∧ z.mssServes = false ∧ (on .unpitched).dev ≠ .pitched ∧
    ({ on .pitched with mss := { (on .pitched).mss with erase := 1 } } : State).busyOp = true := by decide
theorem wit_MailboxChecks_second : (ask (on .unpitched) 0x21 []).asks .lpb 0x21 [] ∧ (ask (on .maintenance) 7 []).asks .lpb 7 [] ∧
    (ask (on .pitched) 0x60 [0, 255]).asks .lpb 0x60 [0, 255] :=
  ⟨⟨by decide, 3, 0, by decide, by decide⟩, ⟨by decide, 3, 0, by decide, by decide⟩, ⟨by decide, 3, 0, by decide, by decide⟩⟩
def lrec : LogRec := ⟨5, 0x701, 0, 0, 0, 0, false, 1, 1, 0, 0, 0⟩
def logged (s : State) : State := { s with flash := { s.flash with logGen := [lrec] } }
theorem wit_MgmtCommands : (ask (on .pitched) 0 []).asks .lpb 0 [] ∧ (ask (on .pitched) 4 [0x00A55A]).asks .lpb 4 [0x00A55A] ∧
    (ask (logged (on .pitched)) 0x50 [0, 8, 255]).asks .lpb 0x50 [0, 8, 255] ∧
    (ask (on .pitched) 0x52 [23, 1]).asks .lpb 0x52 [toWord (23 : Fin 24).val, 1] ∧
    (ask (on .pitched) 0x61 [0xFFFFFF, 255]).asks .lpb 0x61 [0xFFFFFF, 255] :=
  ⟨⟨by decide, 3, 0, by decide, by decide⟩, ⟨by decide, 3, 0, by decide, by decide⟩, ⟨by decide, 3, 0, by decide, by decide⟩,
    ⟨by decide, 3, 0, by decide, by decide⟩, ⟨by decide, 3, 0, by decide, by decide⟩⟩
theorem wit_MgmtCommands_second : (ask (on .pitched) 0x50 [0, 8, 255]).logFind 0 8 255 = [] ∧
    (ask (logged (on .pitched)) 0x50 [0, 8, 255]).logFind 0 8 255 ≠ [] ∧ (on .pitched).logRoom false = true ∧
    (on .pitched).dev.servedNotMaint = true ∧ (on .pitched).busyOp = false ∧ (0 : Word) ≠ 0x00A55A ∧ (255 : Word).toNat ≤ 255 := by decide
def op (code stage : Nat) (args : List Word) (s : State) : State :=
  { s with mss := { s.mss with op := some ⟨.lpb, code, args, stage⟩ } }
/-- Eddy holds a byte string from its word 0 on. -/
def stage (b : Bytes) (s : State) : State :=
  { s with eddy := ((List.range ((b.length + 2) / 3)).map fun k => (k, toWord (uAt b (3 * k) 3))).filter fun x => x.2 ≠ 0 }
theorem wit_ImageCommands : (ask (on .pitched) 0x12 [1, 0xFFFFF, 3]).asks .lpb 0x12 [1, 0xFFFFF, 3] ∧
    (ask (on .pitched) 0x13 [1]).asks .lpb 0x13 [1] ∧ (ask (on .pitched) 0x14 [0xFFFFFF, 255, 0]).asks .lpb 0x14 [0xFFFFFF, 255, 0] :=
  ⟨⟨by decide, 3, 0, by decide, by decide⟩, ⟨by decide, 3, 0, by decide, by decide⟩, ⟨by decide, 3, 0, by decide, by decide⟩⟩
theorem wit_ImageCommands_second : (0xFFFFF : Word).toNat + stagedWords (3 : Word).toNat ≤ 0x100000 ∧ (on .pitched).dev.stable = true ∧
    (on .pitched).busyOp = false ∧ (on .pitched).imageBusy = false ∧ (0 : Word).toNat = (on .pitched).bootCtl.imgSlot ∧
    (1 : Word).toNat ≠ (on .pitched).bootCtl.imgSlot ∧ 0x100000 < (0x100001 : Word).toNat ∧ (0 : Nat) + stagedWords 0x100001 ≤ 0x100000 ∧
    (rg (on .pitched) [(SYS_PWR_STAT, 0x20)]).pfw = true ∧ (op 0x12 0 [1, 0, 3] (on .pitched)).mss.op.isSome = true ∧
    (match ((on .pitched).setFlash (·.setImg 1 [])).verifySource 2 with | .error _ => true | .ok _ => false) = true ∧
    (on .pitched).mss.op = none := by decide
def spcs (spc : Bool) : State := (on .pitched).setSaf fun x => { x with ka := { x.ka with sec := some [] }, kb := { x.kb with sec := if spc then some [] else none } }
theorem wit_ImageCommands_third : (spcs true).saf.ka.sec.map crc32 = some 0 ∧ (spcs true).saf.kb.sec.map crc32 = some 0 ∧
    (0 : Word) = (spcs true).reg SYS_IMG_SERIAL ∧ (spcs false).saf.kb.sec.map crc32 ≠ some 0 := by decide
def keyArgs (act : Word) (k : PubKey) (g : Nat × Nat) : List Word :=
  [act] ++ wordsOf (beBytes 32 k.x ++ beBytes 32 k.y) ++ wordsOf (beBytes 32 g.1 ++ beBytes 32 g.2)
where wordsOf (b : Bytes) : List Word := (List.range 22).map fun k => toWord (uAt b (3 * k) 3)
def keyJob (act : Word) (more : List Word) (s : Nat) : Job :=
  ⟨0x16, keyArgs act ⟨p256G.1, p256G.2⟩ (0x74daa59b8b43bfe0d20031cf705a0b98d5b9746a67b4fd495d3eccbf71a86c25, s) ++ more, 3, false, 0⟩
def keySig : Nat := 0x65b4cd3860ef3942732a604e5497c1f3051f10fcac3ae939e9e4ccdbfdb7c3fc
theorem wit_ImageCommands_keys : keyBad (keyJob 1 [] 0) = none ∧ (on .unpitched).dev.keyOk = true ∧ (on .unpitched).settings.key4 = none ∧
    (keyJob 1 [] 0).arg 0 = 1 ∧ (keyJob 2 [] 0).arg 0 = 2 ∧ (on .unpitched).settings.key4.isSome = false ∧ keyBad (keyJob 3 [3] 0) = none ∧
    (keyJob 3 [3] 0).proves ((on .unpitched).flash.anchors.getD ((keyJob 3 [3] 0).arg 45) none)
      (Config.removalRecord (on .unpitched).flash.uid.toNat ((keyJob 3 [3] 0).bytes64 1)) = false ∧
    keyOf ((keyJob 1 [] 0).bytes64 1) = ⟨p256G.1, p256G.2⟩ := by decide +kernel
/-- KEY_ENROL of key 4 proves possession with its signature over the unique ID and the key (R130), and not with another. -/
theorem test_key_enrol : (keyJob 1 [] keySig).proves (some ⟨p256G.1, p256G.2⟩) ((on .unpitched).keyMessage (keyJob 1 [] keySig)) = true := by
  decide +kernel
def ctlS (c : BootCtl) (s : State) : State := { s with flash := { s.flash with ctl := ⟨some (1, c), none⟩ } }
def bank (schema : Nat) : Bytes :=
  let b : Bytes := [0x53, 0x54, 0x47, 0x31, 1, 0, 0, 0] ++ leBytes 2 schema ++ [0, 0] ++ leBytes 4 0
  b ++ leBytes 4 (crc32 b)
theorem wit_FirmwareStores : (ask (on .pitched) 0x20 [0xFFFFF, 3, 0]).asks .lpb 0x20 [0xFFFFF, 3, 0] ∧
    (ask (on .pitched) 0x21 []).asks .lpb 0x21 [] ∧ (ask (on .pitched) 0x30 [0x20]).asks .lpb 0x30 [0x20] ∧
    (ask (on .pitched) 0x31 [1, 247]).asks .lpb 0x31 [1, 247] ∧ (ask (on .maintenance) 0x32 [0, 20]).asks .lpb 0x32 [0, 20] :=
  ⟨⟨by decide, 3, 0, by decide, by decide⟩, ⟨by decide, 3, 0, by decide, by decide⟩, ⟨by decide, 3, 0, by decide, by decide⟩,
    ⟨by decide, 3, 0, by decide, by decide⟩, ⟨by decide, 3, 0, by decide, by decide⟩⟩
theorem wit_FirmwareStores_banks : readBank ((stage [0] (on .maintenance)).staged 0 20) = none ∧
    ((readBank ((stage (bank 0) (on .maintenance)).staged 0 20)).any fun y =>
      decide (readsSchema (on .maintenance).fwBytes y = 0)) = true ∧
    ((readBank ((stage (bank 1) (on .maintenance)).staged 0 20)).any fun y =>
      decide (readsSchema (on .maintenance).fwBytes y ≠ 0)) = true := by decide +kernel
def fwc (st : Nat) (us : Nat) : State :=
  let s := ctlS { BootCtl.factory with stA := st } (on .pitched)
  { s with mss := { s.mss with conf := us, reached := true } }
def sto (w : StoreWhat) (n : Option StoreWhat) (s : State) : State := { s with mss := { s.mss with store := some w, storeNext := n } }
def wb : StoreWhat := .bootCtl BootCtl.factory
def stored (s : State) : State :=
  ((s.setFlash (·.mark wb)).setMss fun m => { m with store := none, erase := m.erase ||| wb.pair }).settingsChanged s.setting
theorem wit_FirmwareStores_second : (fwc 2 0).fwState ≠ 1 ∧ (fwc 1 0).fwState = 1 ∧ (fwc 1 0).mss.conf < 600000000 ∧
    600000000 ≤ (fwc 1 600000000).mss.conf ∧ (fwc 1 0).mss.reached = true ∧ (fwc 1 0).mssServes = true ∧ (fwc 1 0).busyOp = false ∧
    (fwc 1 0).mss.store = none ∧ (fwc 1 0).pfw = false ∧ (0x20 : Nat) ∈ settingIds ∧ settingRange 1 247 = true ∧ settingRange 1 248 = false ∧
    (sto wb none (on .pitched)).mss.store = some wb ∧ (stored (sto wb (some wb) (on .pitched))).mss.storeNext = some wb ∧
    (stored (sto wb none (op 0x13 0 [] (on .pitched)))).mss.op.isSome = true ∧ (stored (sto wb none (on .pitched))).mss.op = none ∧
    (stored (sto wb none (on .pitched))).mss.storeNext = none ∧ (on .pitched).mss.halted = false := by decide
theorem wit_FirmwareStores_third : checkPackage (on .pitched).flash.anchors ((on .pitched).staged 0 3) ≠ none ∧
    (op 0x20 0 [0, 3, 0] (on .pitched)).mss.op = some ⟨.lpb, 0x20, [0, 3, 0], 0⟩ ∧
    (op 0x20 1 [0, 3, 0] (on .pitched)).mss.op = some ⟨.lpb, 0x20, [0, 3, 0], 1⟩ := by decide
def ao (f : Nat) (g : Chan → Chan) (s : State) : State := ({ chan0 s [(64, f)] with mss := { s.mss with run := .slotA } } : State).setChan 0 g
theorem wit_Calibration : (ask (ao 0x19 id (on .pitched)) 0x40 [toWord (0 : Fin 32).val, 1, 0, 0]).asks .lpb 0x40 [toWord (0 : Fin 32).val, 1, 0, 0] ∧
    (ask (ao 0x11 id (on .pitched)) 0x40 [toWord (0 : Fin 32).val, 1, 0]).asks .lpb 0x40 [toWord (0 : Fin 32).val, 1, 0] ∧
    (ask (ao 0x11 id (on .pitched)) 0x41 [toWord (0 : Fin 32).val]).asks .lpb 0x41 [toWord (0 : Fin 32).val] ∧
    (ask (ao 0x11 id (on .pitched)) 0x42 [toWord (0 : Fin 32).val]).asks .lpb 0x42 [toWord (0 : Fin 32).val] :=
  ⟨⟨by decide, 3, 0, by decide, by decide⟩, ⟨by decide, 3, 0, by decide, by decide⟩, ⟨by decide, 3, 0, by decide, by decide⟩,
    ⟨by decide, 3, 0, by decide, by decide⟩⟩
def avg (n : Nat) : CalAvg := ⟨.lpb, 0, 5, n, 1280⟩
def jb (code : Nat) (taken : Bool) : State := { on .pitched with mbx := [(.lpb, { Mailbox.idle with status := 1, job := some ⟨code, [0], 3, taken, 0⟩ })] }
theorem wit_Calibration_second : isAnalogue ((ao 0x19 id (on .pitched)).func 0) = true ∧ isOutput ((ao 0x19 id (on .pitched)).func 0) = true ∧
    isOutput ((ao 0x11 id (on .pitched)).func 0) = false ∧ (ao 0x19 id (on .pitched)).structured 0 = true ∧
    (ao 0x19 id (on .pitched)).inRepitch (chIsl 0) = false ∧ (rg (ao 0x11 id (on .pitched)) [(ISL 0 0, 1)]).structured 0 = false ∧
    (((ao 0x11 (fun x => { x with cal := [avg 256] }) (on .pitched)).chan 0).cal.find? fun k => decide (k.port = .lpb)) = some (avg 256) ∧
    256 ≤ (avg 256).n ∧ (avg 255).n < 256 ∧ ((jb 0x40 true).mbxOf .lpb).job = some ⟨0x40, [0], 3, true, 0⟩ ∧
    ((jb 0x40 false).mbxOf .lpb).job = some ⟨0x40, [0], 3, false, 0⟩ ∧ ((ao 0x11 id (on .pitched)).chan 0).pt0 = none ∧
    ((ao 0x18 (fun x => { x with pt0 := some (0, 0), pt1 := some (4026531, 0) }) (on .pitched)).chan 0).pt1 = some (4026531, 0) ∧
    2 * ((0 : Int) - 4026531).natAbs < rbSpan ((ao 0x18 id (on .pitched)).func 0) := by decide
def tp (ir sel : Nat) (obs : Option Word) : State := ((rg z [(SYS_STRAPS, 0x10)]).setTap fun t => { t with ir := ir, sel := sel }).setIsl 7 fun x => { x with obs := obs }
theorem wit_TapSteps : z.tapPowered = true ∧ ({ on .off with hold := { z.hold with railsOk := false } } : State).tapPowered = false ∧ testIr 0xFF = false ∧ testIr 0 = true ∧ testIr z.tap.ir = false ∧
    z.tap.ir ≠ 0x21 ∧ (tp 1 0 none).tap.ir ≤ 1 ∧ 1 < z.tap.ir ∧ (tp 0x20 0 none).tap.ir = 0x20 ∧ (tp 0x21 15 none).tap.ir = 0x21 ∧
    (tp 0x21 15 none).scanIsl = some 7 ∧ ((tp 0x21 15 (some 0xFFF)).isl 7).obs = some 0xFFF ∧ ((tp 0x21 15 none).isl 7).obs = none ∧
    (tp 0x21 7 none).scanIsl = none ∧ (tp 0x21 7 none).bit SYS_STRAPS 4 = true := by decide
def rp (ph : Nat) (c : Option Image) (regs : List (Nat × Nat)) : State :=
  (rg (withImg (on .pitched) [(0x17, bs 384 [])]) ([(ISL 7 0, 3)] ++ regs)).setRepitch fun _ => ⟨ph, 7, 2, c, false⟩
def noIm : Image := ⟨[], [], [], []⟩
theorem wit_RepitchSteps : (ask (on .pitched) 0x11 [toWord (7 : Fin 8).val, 2]).asks .lpb 0x11 [toWord (7 : Fin 8).val, 2] ∧
    (ask (on .pitched) 0x11 [7, 2]).imageBusy = false ∧ (ask (on .pitched) 0x11 [7, 2]).busyOp = false ∧
    (on .pitched).bit SYS_STRAPS 4 = false :=
  ⟨⟨by decide, 3, 0, by decide, by decide⟩, by decide⟩
theorem wit_RepitchSteps_second : (rp 1 none []).repitch.phase = 1 ∧ (rp 1 none []).mss.halted = false ∧
    (match (rp 1 none []).verifySource 2 with | .error _ => true | .ok _ => false) = true ∧ (rp 2 (some noIm) []).repitch.cand = some noIm ∧
    ((rp 2 (some noIm) []).cfgUe 65535).repitch.retried = false ∧ (rp 1 none []).repIsl = 7 ∧ (rp 1 none []).bit (ISL (rp 1 none []).repIsl 0) 0 = true ∧
    (((rp 3 (some noIm) []).setIsl 7 fun x => { x with sPhase := 3 }).isl 7).sPhase = 3 ∧
    (((rp 3 (some noIm) []).setIsl 7 fun x => { x with sPhase := 5 }).isl 7).sPhase = 5 ∧ (rp 4 (some noIm) []).cfg.bad = [] ∧
    (rp 4 (some noIm) []).bit (ISL (rp 4 (some noIm) []).repIsl 0) 1 = true ∧
    (((rp 2 (some noIm) []).setRepitch fun r => { r with retried := true }).cfgUe 65535).repitch.retried = true := by decide
/-- A signed image with the four required sections, and a signed package, built by hand from R124–R128 and R591. The private key
is 1, so that the public key is the base point of P-256; checksums, digest and signature come from other tools. -/
def tKey : PubKey := ⟨p256G.1, p256G.2⟩
def tR : Nat := 0x74daa59b8b43bfe0d20031cf705a0b98d5b9746a67b4fd495d3eccbf71a86c25
def sigBlock (dig s : Nat) : Bytes :=
  [0x53, 0x49, 0x47, 0x31, 0, 0, 0, 0] ++ beBytes 32 dig ++ beBytes 32 tR ++ beBytes 32 s ++ List.replicate 24 0
def secHdr (tag count size len : Nat) : Bytes := leBytes 2 tag ++ [1, 0] ++ leBytes 2 count ++ leBytes 2 size ++ leBytes 4 len ++ leBytes 4 0
def dirRow (tag off len crc : Nat) : Bytes := leBytes 2 tag ++ [1, 3] ++ leBytes 4 off ++ leBytes 4 len ++ leBytes 4 crc
def imgBytes : Bytes :=
  ([0x43, 0x4C, 0x4E, 0x52, 1, 0] : Bytes) ++ leBytes 2 0x40 ++ leBytes 4 1392 ++ leBytes 2 0x80 ++ [1, 0, 7, 0, 0, 0] ++ leBytes 2 4 ++
    leBytes 2 0 ++ leBytes 4 0x40 ++ leBytes 4 1264 ++ leBytes 12 0 ++ leBytes 4 0xebe1bb13 ++ leBytes 16 0 ++
    dirRow 1 0x80 32 0x44261ea7 ++ dirRow 0x50 0xA0 1040 0x2b1ae3ef ++ dirRow 0x60 0x4B0 32 0xbe31098b ++ dirRow 0x80 0x4D0 32 0x8299c35d ++
    secHdr 1 1 16 16 ++ [3, 2, 2, 2] ++ leBytes 4 0 ++ List.replicate 8 0xFF ++ secHdr 0x50 512 0 1024 ++ leBytes 1024 0 ++
    secHdr 0x60 1 16 16 ++ leBytes 16 0 ++
    secHdr 0x80 1 16 16 ++ leBytes 4 0x12345678 ++ leBytes 2 1000 ++ [0, 0, 3, 1] ++ leBytes 6 0 ++
    sigBlock 0x5cef981c3128296e9f608c5dd4da76af40dba76fd00a62bcf04ea400eeea400b
      0x95a0f780f903babba71d02b4003823bdcebc82fb3de7ff303f75abb4c5d81fde
def pkgBytes : Bytes :=
  ([0x4D, 0x4C, 0x46, 0x57, 1, 0, 0, 0] : Bytes) ++ leBytes 4 192 ++ leBytes 2 2 ++ leBytes 2 1 ++ leBytes 2 1 ++ leBytes 2 0x80 ++
    leBytes 12 0 ++ leBytes 4 0 ++ leBytes 4 0xa4df25ba ++ leBytes 24 0 ++
    sigBlock 0xaef0c0f8395da571e723fe8f4d725194652ca80f29fec3dda7245f0277276529
      0xd2fcda2ae3ec0fadc53ef1776e10eef07f6fcea7721a62c796e37384e2327fa8
/-- Flash with the key as trust anchor 0, the image in slot 0 and the package in both firmware slots. -/
def tFlash : Flash := { Flash.empty with anchors := [some tKey, none, none, none], img0 := imgBytes, fwA := pkgBytes, fwB := pkgBytes }
def good (e : Except Nat Image) : Bool := match e with
  | .ok im => decide (im.serial = 7) && decide (repitchScope im im 0 false = none)
  | .error _ => false
set_option maxRecDepth 1000000 in
theorem test_image_verifies : good (verifyImage imgBytes 0 0 [some tKey, none, none, none, none] 16 false) = true := by decide +kernel
theorem test_package_verifies : checkPackage tFlash.anchors pkgBytes = none ∧ checkPackage [] pkgBytes = some 3 := by decide +kernel
theorem good_ok {e : Except Nat Image} (h : good e = true) : ∃ im, e = .ok im ∧ repitchScope im im 0 false = none := by
  cases e with
  | error c => exact absurd h (by simp [good])
  | ok im =>
    simp only [good, Bool.and_eq_true, decide_eq_true_eq] at h
    exact ⟨im, rfl, h.2⟩
/-- What verifies the image depends on the source's bytes, the keys, the firmware's version and the straps only. -/
theorem verifies {s : State} {src : Nat} (hb : (if src = 3 then s.staged 0 (s.ringImg.getD 0) else s.slotBytes src) = imgBytes)
    (hv : s.fwVersion = 0) (hk : s.keys = [some tKey, none, none, none, none]) (hs : s.bit SYS_STRAPS 3 = false) (hh : s.settingHw = false) :
    ∃ im, s.verifySource src = .ok im ∧ repitchScope im im 0 false = none := by
  apply good_ok
  have := test_image_verifies
  unfold State.verifySource
  simp only [hb, hv, hk, hs, hh]
  exact this
def flashed (s : State) : State := { s with flash := { tFlash with fwA := [], fwB := [] } }
theorem wit_PitchSteps_verified : ∃ im, (flashed (pit .verifying none)).verifySource (flashed (pit .verifying none)).pitch.src = .ok im :=
  (verifies (src := 1) rfl (by decide) rfl (by decide) (by decide)).imp fun _ h => h.1
theorem wit_ImageCommands_verified : (∃ im, (flashed (ask (on .pitched) 0x13 [0])).verifySource ((0 : Word).toNat + 1) = .ok im) ∧
    ∃ im, ((flashed (op 0x12 0 [0, 0, 1392] (on .pitched))).setFlash (·.setImg 0 imgBytes)).verifySource 1 = .ok im :=
  ⟨(verifies (src := 1) rfl (by decide) rfl (by decide) (by decide)).imp fun _ h => h.1,
    (verifies (src := 1) rfl (by decide) rfl (by decide) (by decide)).imp fun _ h => h.1⟩
def rp0 : State := flashed ((rg (on .pitched) [(ISL 0 0, 3)]).setRepitch fun _ => ⟨1, 0, 1, none, false⟩)
theorem wit_RepitchSteps_checked : ∃ im, rp0.verifySource rp0.repitch.src = .ok im ∧
    (rp0.setCfg fun c => { c with img := some im }).cfg.img = some im ∧
    repitchScope im im rp0.repIsl.val (rp0.bit (ISL rp0.repIsl 8) 3) = none ∧ rp0.cfg.bad = [] ∧ rp0.bit (ISL rp0.repIsl 0) 0 = true := by
  obtain ⟨im, h, hr⟩ := verifies (s := rp0) (src := 1) rfl (by decide) rfl (by decide) (by decide)
  exact ⟨im, h, rfl, hr, by decide, by decide⟩
def ringBoot : State :=
  let s := stage imgBytes (flashed (rg (on .boot) [(SYS_STRAPS, 2)]))
  { s with ringImg := some 1392 }
set_option maxRecDepth 1000000 in
theorem ringBoot_staged : ringBoot.staged 0 1392 = imgBytes := by decide +kernel
theorem wit_BootSteps_ring : ringBoot.ringImg ≠ none ∧ ∃ im, ringBoot.verifySource 3 = .ok im :=
  ⟨by simp [ringBoot], (verifies (s := ringBoot) (src := 3) ringBoot_staged rfl rfl (by decide) (by decide)).imp fun _ h => h.1⟩
def slots (c : Option BootCtl) : Flash := { tFlash with ctl := ⟨c.map fun c => (1, c), none⟩ }
theorem test_firmware_choice : (slots none).choose = (.slotA, false) ∧ (slots (some ⟨1, 2, 1, 2, 0, 2, false⟩)).choose = (.slotB, false) ∧
    (slots (some ⟨1, 2, 1, 3, 0, 2, false⟩)).choose = (.slotA, true) ∧ (slots (some ⟨1, 2, 2, 0, 0, 3, false⟩)).choose = (.oxbow, true) := by
  decide +kernel
def fwUp (sec : Nat) : State :=
  let s := stage pkgBytes (op 0x20 0 [0, 192, 0] (on .pitched))
  { s with flash := slots (some { BootCtl.factory with minSec := sec }) }
theorem fwUp_staged : (fwUp 3).staged 0 192 = pkgBytes ∧ (fwUp 2).staged 0 192 = pkgBytes := by decide +kernel
theorem wit_FirmwareStores_verified : checkPackage (fwUp 3).flash.anchors ((fwUp 3).staged 0 192) = none ∧
    u16 ((fwUp 3).staged 0 192) 0xC < (fwUp 3).bootCtl.minSec ∧ checkPackage (fwUp 2).flash.anchors ((fwUp 2).staged 0 192) = none ∧
    (fwUp 2).bootCtl.minSec ≤ u16 ((fwUp 2).staged 0 192) 0xC := by
  rw [fwUp_staged.1, fwUp_staged.2]
  exact ⟨test_package_verifies.1, by decide, test_package_verifies.1, by decide⟩
/-! Operands: each check of WellFormed refuses a term, and lets its boundary pass. -/
def hd : RHdr := ⟨false, 5, 0, 0, 0⟩
def cm : CellMeas := ⟨List.replicate 32 true, false, false, 255⟩
def fourCm : List CellMeas := [cm, cm, cm, cm]
theorem test_wf_widths : (Instr.powerLoss true).wf = true ∧ (Instr.hubResetRelease 31 0 31).wf = true ∧ (Instr.hubResetRelease 0 32 0).wf = false ∧
    (Instr.pitchCommit (some 0x1000000)).wf = false ∧ (Instr.pitchCommit none).wf = true ∧ (Instr.lpbCycleStart 0x1000000 true true false).wf = false ∧
    (Instr.lpbCycleAck 65536 false).wf = false ∧ (Instr.readCoils false 0 65536 none).wf = false ∧
    (Instr.unsupportedFunction true 256).wf = false ∧ (Instr.doze .lpb 32768).wf = false ∧ (Instr.ssiRead 0 true (2 ^ 32) true true).wf = false ∧
    (Instr.boundaryUpdate (2 ^ 179)).wf = false ∧ (Instr.islandScanUpdate (2 ^ 40)).wf = false ∧ (Instr.islSelUpdate 16).wf = false ∧
    (Instr.rungDescent 0 4 true).wf = false ∧ (Instr.inputFilterChange 0 8).wf = false := by decide
theorem test_wf_ranges : (Instr.pitchSafetyCheck 9).wf = false ∧ (Instr.pitchSafetyCheck 13).wf = true ∧ (Instr.kernelCycle false true 10).wf = false ∧
    (Instr.kernelCycle false true 0).wf = true ∧ (Instr.guylineSlot 0 100).wf = false ∧ (Instr.captureTrigger 15 0).wf = false ∧
    (Instr.captureTrigger 15 4).wf = false ∧ (Instr.diagSet 31 5 true).wf = false ∧ (Instr.diagClear 31 5).wf = false ∧
    (Instr.cfgScrubWord 0 3).wf = false ∧ (Instr.sensorUpdate 7 0 0 0).wf = false ∧ (Instr.sensorUpdate 23 65535 0 0).wf = true := by decide
set_option maxRecDepth 100000 in
theorem test_wf_frames : (Instr.ringCyc hd ⟨0, 0, 0, 500000, 0, false, false, false, false⟩ rw 0 true 0).wf = false ∧
    (Instr.ringCyc hd ⟨0, 0, 0, 499999, 65535, false, false, false, false⟩ rw 0 true 0).wf = true ∧
    (Instr.ringEmpty ⟨{ hd with dest := 65536 }, rw⟩).wf = false ∧ (Instr.ringPd ⟨hd, rw⟩ ⟨65536, []⟩ .eof).wf = false ∧
    (Instr.ringEvt ⟨hd, 0, [⟨65536, 0, 0, 0, 0⟩], rw⟩).wf = false ∧ (Instr.ringSyncFrame ⟨hd, rw⟩ ⟨0, 0⟩ 256 0).wf = false ∧
    (Instr.ringEnum ⟨hd, rw⟩ 0 0 [⟨0, 0, 0, 256, 0, 0⟩] false).wf = false ∧ (Instr.ringDly true true 8 0 0).wf = false ∧
    (Instr.mailAnswer ⟨⟨0, 0, .read, true, false, 0, 0x100000, 0, 0, 0, 0, 0, []⟩, rw⟩).wf = false ∧
    (Instr.mailAnswer ⟨⟨0, 0, .read, true, false, 0, 0, 0, 0, 0, 0, 0, List.replicate 257 0⟩, rw⟩).wf = false ∧
    (Instr.ringEvtReturn [⟨65536, 0, 0, 0, 0⟩]).wf = false ∧ (Instr.ringEnumReturn 0 (List.replicate 129 (asg 0))).wf = false ∧
    (Instr.ringCarrierReturn hd .empty).wf = false ∧ (Instr.ringCarrierReturn hd (.bulk ⟨255, true, 0, []⟩)).wf = true := by decide
theorem test_wf_mails : (Instr.mailRead 1024 0 0 0 true ⟨rw, true⟩ none).wf = false ∧
    (Instr.mailWrite 1023 0 0 (List.replicate 86 0) true ⟨rw, true⟩).wf = false ∧ (Instr.mailMailbox 0 65536 [] ⟨rw, true⟩).wf = false ∧
    (Instr.bulkOpen 0 0 256 0 0 ⟨0, 0, 0⟩ 0 ⟨rw, true⟩).wf = false ∧ (Instr.bulkAck 0 ⟨0, 0x1000000⟩ rw).wf = false ∧
    (Instr.bulkDone 0 0 0 ⟨2 ^ 32, 0⟩ ⟨rw, true⟩).wf = false ∧ (Instr.ringBulk 0 ⟨0, true, 0, List.replicate 86 0⟩ true true).wf = false := by
  decide
theorem test_wf_guyline : (Instr.structureCommit 0 [0, 0, 0, 0, 0]).wf = false ∧
    (Instr.hubUplink 0 ⟨[cm, cm, cm], [], 0⟩ [] false).wf = false ∧ (Instr.hubUplink 0 ⟨fourCm, [⟨4096, 0, 0⟩], 0⟩ [] false).wf = false ∧
    (Instr.hubUplink 0 ⟨[⟨List.replicate 33 true, true, true, 0⟩, cm, cm, cm], [], 0⟩ [] false).wf = false ∧
    (Instr.hubUplink 0 ⟨fourCm, [⟨4095, 15, 15⟩], 0⟩ [] false).wf = true ∧ (Instr.islandDownlink 0 (List.replicate 52 0) [] []).wf = false := by
  decide

/-! Effects, with the numbers of the manual's worked examples and tables. -/
/-- Check values of 10_guyline_islands.md, and of the CRC-32 of R5 over "123456789". -/
def nine : Bytes := [0x31, 0x32, 0x33, 0x34, 0x35, 0x36, 0x37, 0x38, 0x39]
set_option maxRecDepth 100000 in
theorem test_crcs : crcP nine = 0x29B1 ∧ crcSkA nine = 0xD0DB ∧ crcSkB nine = 0xEA82 ∧ crc32 nine = 0xCBF43926 := by decide
/-- R324–R328: a downlink frame's bytes give back what the hub put in; each kernel's subframe counts for its island only. -/
def dn0 : DnFrame := ⟨0xA5, 99, 3, true, #v[0x123456, 0xFEDCBA, 1, 0x800000], #v[true, false, true, true], #v[false, true, false, true],
  #v[true, true, false, false], 0xC3, 0x7B, 0xABCDEF, 0xA, 0xF1, 0x12, 0x3456, 0x78, 0x9ABC⟩
theorem test_downlink_frame : DnFrame.ofBytes (dn0.bytes 5) = { dn0 with lifeA := 0, dataA := 0, lifeB := 0, dataB := 0 } ∧
    frameSync dnSync (dn0.bytes 5) = true ∧ frameGood (dn0.bytes 5) = true ∧
    subTake false false 5 (frameSafA (dn0.bytes 5)) = some (0x12, 0x3456) ∧ subTake false false 4 (frameSafA (dn0.bytes 5)) = none ∧
    subTake false true 5 (frameSafA (dn0.bytes 5)) = none ∧
    frameGood (List.replicate 61 0xFF) = false ∧ frameSync dnSync [] = false ∧ frameSync upSync [0x7E, 0x5B] = true ∧
    subTake true true 7 (subBytes true true 7 255 65535) = some (255, 65535) ∧ subTake true true 7 [] = none := by decide +kernel
/-- R409: after 3 × OSR bits of ones a sinc gives OSR³, 64 for RIF and 4,096 for the fine decimator; R465: the quadrature's count. -/
def sincOf (r : Nat) (bs : List Bool) : Option Int :=
  ((bs.foldl (fun p b => ((p.1.feed r b).1, ((p.1.feed r b).2).or p.2)) ((Sinc.reset, none) : Sinc × Option Word)).2).map BitVec.toInt
set_option maxRecDepth 100000 in
theorem test_sinc : sincOf 4 (List.replicate 12 true) = some 64 ∧ sincOf 16 (List.replicate 48 false) = some (-4096) := by decide
theorem test_quadrature : quadStep 2 false false false true false = some 1 ∧ quadStep 2 true true false true true = some (-1) ∧
    quadStep 0 false true false false false = none ∧ spanField (some (131071, 64)) = 131071 + 262144 * 63 ∧
    spanField (some (131072, 1)) = 2048 + 131072 := by decide
/-- 18_watchdog.md: the LFSR's steps and the two tokens for SEED 0x3B29C04D. -/
theorem test_watchdog_tokens : lfsrNext 0xACE1 = 0x5670 ∧ lfsrNext 0x5670 = 0xAB38 ∧ wdgToken 0x3B29C04D 0x5670 = 0x02DB ∧
    wdgToken 0x3B29C04D 0xAB38 = 0x10D6 := by decide
/-- 18_watchdog.md, t1: a right token before the window opens is EARLY: STEP 1, a new challenge with the next SEQ. -/
def wdEarly : State :=
  let s := rg z [(WDG_CHAL, 0x075670), (WDG_STAT, 0), (WDG_CFG, 0x010064)]
  { s with wdg := { s.wdg with seed := 0x3B29C04D, first := false } }
theorem test_watchdog_early : (wdEarly.wdgServe 0x0702DB).reg WDG_CHAL = 0x08AB38 ∧ (wdEarly.wdgServe 0x0702DB).fld WDG_STAT 2 0 = 1 ∧
    ((rg wdEarly [(WDG_CHAL, 0x08AB38)]).wdgServe 0x0710D6).reg WDG_CHAL = 0x08AB38 := by decide
/-- 13_filter_chain.md: rounding to nearest, ties to even. -/
theorem test_rounding : roundEven 0x160000 262144 = 6 ∧ roundEven 0x120000 262144 = 4 ∧ roundEven (-0x120000) 262144 = -4 ∧
    roundEven 0x128000 262144 = 5 := by decide
/-- 07_serial_host_ports_roles.md, the SPI example: the status word of PITCHED, the echo, and SYS_STATE and SYS_CAUSE. -/
theorem test_spi_status : nx (exec (.spiFrameStart true) (on .pitched)) (fun t => decide (t.spi.out = [0x000400])) = true ∧
    nx (exec (.spiCommandWord 0xE00001 (.ofNat 8 (crc8 0xE00001)) 0x000002 (.ofNat 8 (crc8 0x000002))) (sp id (on .pitched))) (fun t => decide (t.spi.out = [0xE00001, 0])) = true := by
  decide
theorem test_spi_read : (on .pitched).peek .spi 0x00001 = 0x000004 ∧ (on .pitched).peek .spi 0x00003 = 0x000001 := by decide
/-- 07_serial_host_ports_roles.md, the Modbus example: one function 23 request reads SYS_IMG_SERIAL through the gateway; half of the
gateway's pair is refused with exception 02. -/
def modS : State := rg (up (on .pitched)) [(0x00640, 0x11), (SYS_IMG_SERIAL, 0x000103)]
theorem test_modbus_gateway : nx (exec (.readWriteMultipleRegisters false 0xFF02 2 0xFF00 2 4 [0, 0, 0, 0x41] none) modS)
      (fun t => decide (t.mod.answer = some [0x11, 0x17, 0x04, 0, 0, 1, 3])) = true ∧
    nx (exec (.readHoldingRegisters false 0xFF03 1 none) modS) (fun t => decide (t.mod.answer = some [0x11, 0x83, 2])) = true := by decide
/-- 09_events_sluice_weir.md: the record that leaves at 200 µs. -/
theorem test_event_record : (rg z [(EVT_SRC0 + 467, 2)]).recordOf ⟨467, 0x000002012509, 0x015F90⟩ = ⟨0x012509, 0x000002, 0xE98002, 0x015F90⟩ := by
  decide
/-- 06_parallel_bus_personalities.md: the bytes of the READY record. -/
def ready : Bytes := [1, 2, 9, 3, 0, 0, 0, 0, 1, 0, 0, 2, 1, 0, 0, 0]
theorem test_personality_record : u8 ready 0 = 1 ∧ prCode ready = 2 ∧ prOffset ready = 0x0309 ∧ prTarget ready = 0x00001 ∧ prShift ready = 2 ∧
    prMask ready = 1 := by decide
/-- 05_cleanir_image.md: a wrong SPC is refused and SYS_IMG_REJECT reads 0x010422. -/
theorem test_spc_mismatch : nx (exec (.safetyAccept .lpb) (ask (spcs true) 0x14 [0x1D9E74, 0x3C, 0]))
    (fun t => decide (t.reg SYS_IMG_REJECT = 0x010422 ∧ (t.mbxOf .lpb).resWords = 1)) = true := by decide
/-- 19_management_subsystem.md: MBX_CMD 0x210350 makes MBX_STAT 0x210001. -/
theorem test_mailbox_status : (((on .pitched).submit .spi 0x210350 3).mbxOf .spi).statWord = 0x210001 := by decide
/-- R67, R104: the straps are the majority of three samples, and bit 8 says that they differed; SUPPLY follows a POWER_ON boot whose Ember is valid. -/
theorem test_reset_release : strapWord 0b10110 0b10011 0b00111 = 0x117 ∧
    nx (exec (.hubResetRelease 1 1 0) held)
      (fun t => decide (t.reg SYS_CAUSE = 0x010002 ∧ t.fld SYS_STRAPS 1 0 = 1 ∧ t.dev = .boot)) = true := by decide
/-- 03_power_clocks_sleep.md: an alarm wakes DEEP; SYS_WAKE_CAUSE reads 0x010040. -/
theorem test_deep_wake : nx (exec (.deepWake 0x40) (rg (slp .deep 4 0) [(SYS_WAKE_MASK, 0x40)]))
    (fun t => decide (t.reg SYS_WAKE_CAUSE = 0x010040)) = true := by decide
/-- 10_guyline_islands.md, R354–R357: FAULT_RESET releases a latched output, with INRUSH. -/
theorem test_fault_release : (Cell.release { Cell.reset with lat5 := true, diag := 2, runs := 3 } true).inrush = true ∧
    (Cell.release { Cell.reset with lat5 := true, diag := 2, runs := 3 } true).lat5 = false := by decide
/-- An uncorrectable configuration word in a region that a slot still holds starts its repair (R571, R589). -/
theorem test_cfg_scrub : nx (exec (.cfgScrubWord 0x1234 2) (cf [] [] false))
    (fun t => decide (t.cfg.repair = [0] ∧ t.cfg.bad = [] ∧ t.dev = .pitched)) = true ∧
    nx (exec (.cfgScrubWord 0x1234 1) (cf [] [] false)) (fun t => decide (t.reg SYS_CFG_CE = 1)) = true := by decide
/-- R646: the island scan's capture holds LOCKED, and each item of FA, FB and FC. -/
theorem test_island_scan : scanWord true 0b000000000101 0 = 0x411 ∧ scanWord false 0xFFF 0 = 0 := by decide
/-- R111, R79: STLEDN is on in BOOT, blinks at 1 Hz in PITCHING and at 4 Hz in SAFE; CKOUT_SEL 7 is low. -/
theorem test_pins : z.stled = some .on ∧ (on .pitching).stled = some .blink1Hz ∧ (on .safe).stled = some .blink4Hz ∧
    (rg (on .pitched) [(0x00018, 7)]).ckout = 0 ∧ (rg (on .pitched) [(0x00018, 4)]).ckout = 4 := by decide

end Sys2Proof.Tests
end

section
/-!
Every command answers a next state (log entry 57), in every state and for every operand. A command's meaning is a tree of
guards and matches whose leaves are next states: `Res.isNext.next` closes a leaf, `Res.isNext.ite` passes a guard, and a
match is split.
-/
namespace Sys2Proof.Machine

/-- The outcome is a next state. -/
def Res.isNext (r : Res) : Prop := ∃ t, r = .next t
theorem Res.isNext.next {t : State} : Res.isNext (.next t) := ⟨t, rfl⟩
theorem Res.isNext.ite {c : Prop} [Decidable c] {a b : Res} (ha : a.isNext) (hb : b.isNext) :
    Res.isNext (if c then a else b) := by
  split
  · exact ha
  · exact hb

theorem State.modbus_isNext (s : State) (bcast : Bool) (q : MReq) (reply : List Nat → Bytes) :
    (s.modbus bcast q reply).isNext := .ite .next (.ite .next (.ite .next .next))
theorem execTransferStart_isNext (s : State) : (execTransferStart s).isNext := by
  unfold execTransferStart
  split
  · exact .ite .next .next
  · exact .next
theorem execFirmwareVerified_isNext (vbat : Nat) (s : State) : (execFirmwareVerified vbat s).isNext := by
  unfold execFirmwareVerified
  refine .ite .next ?_
  split <;> exact .next
theorem execBootImageVerified_isNext (s : State) : (execBootImageVerified s).isNext := by
  unfold execBootImageVerified
  refine .ite .next (.ite .next (.ite (.ite .next ?_) .next))
  split
  · exact .next
  · split <;> exact .next
theorem execPitchVerified_isNext (outside : Bool) (s : State) : (execPitchVerified outside s).isNext := by
  unfold execPitchVerified
  refine .ite .next (.ite .next ?_)
  split
  · exact .ite .next .next
  · split
    · exact .next
    · exact .ite .next .next
theorem execPitchLoaded_isNext (crcBad : Bool) (s : State) : (execPitchLoaded crcBad s).isNext := by
  dsimp only [execPitchLoaded]
  split
  · exact .ite .next .next
  · exact .next
theorem execPitchSafetyCheck_isNext (fault : Nat) (s : State) : (execPitchSafetyCheck fault s).isNext := by
  unfold execPitchSafetyCheck
  split
  · split
    · exact .next
    · exact .ite .next .next
  · exact .next
theorem execPitchCommit_isNext (ue : Option Nat) (s : State) : (execPitchCommit ue s).isNext := by
  dsimp only [execPitchCommit]
  split
  · exact .next
  · exact .ite .next (.ite .next (.ite .next .next))
theorem execRepitchChecked_isNext (s : State) : (execRepitchChecked s).isNext := by
  unfold execRepitchChecked
  refine .ite .next ?_
  split
  · exact .next
  · exact .next
  · split
    · exact .next
    · exact .ite .next (.ite .next .next)
theorem execRepitchLoaded_isNext (ue : Option Nat) (s : State) : (execRepitchLoaded ue s).isNext := by
  unfold execRepitchLoaded
  split
  · exact .next
  · exact .ite .next .next
  · exact .next
theorem execRepitchStructured_isNext (s : State) : (execRepitchStructured s).isNext := by
  unfold execRepitchStructured
  split
  · exact .ite .next (.ite .next .next)
  · exact .next
theorem execRepitchCommit_isNext (s : State) : (execRepitchCommit s).isNext := by
  unfold execRepitchCommit
  split
  · exact .ite .next (.ite .next .next)
  · exact .next
theorem execWakeScrubDone_isNext (ue : Option Nat) (s : State) : (execWakeScrubDone ue s).isNext := by
  unfold execWakeScrubDone
  refine .ite .next (.ite .next ?_)
  split <;> exact .next
theorem execLpbCycleStart_isNext (la : Nat) (bhen read both : Bool) (s : State) :
    (execLpbCycleStart la bhen read both s).isNext := by
  unfold execLpbCycleStart
  refine .ite .next (.ite .next (.ite .next (.ite .next (.ite .next ?_))))
  split
  · exact .next
  · exact .ite .next .next
theorem execLpbCycleAck_isNext (wdata : Nat) (ue : Bool) (s : State) : (execLpbCycleAck wdata ue s).isNext := by
  unfold execLpbCycleAck
  split
  · exact .next
  · exact .ite .next (.ite (.ite .next .next) (.ite .next .next))
theorem execLpbCycleEnd_isNext (s : State) : (execLpbCycleEnd s).isNext := by
  unfold execLpbCycleEnd
  split <;> exact .next
theorem execLpbPostedCommit_isNext (s : State) : (execLpbPostedCommit s).isNext := by
  unfold execLpbPostedCommit
  split <;> exact .next
theorem execIrqPulseEnd_isNext (j : Fin 4) (s : State) : (execIrqPulseEnd j s).isNext := by
  unfold execIrqPulseEnd
  split <;> exact .next
theorem execInterruptAcknowledge_isNext (j : Fin 4) (abandoned : Bool) (s : State) :
    (execInterruptAcknowledge j abandoned s).isNext := by
  dsimp only [execInterruptAcknowledge]
  split
  · exact .next
  · exact .ite .next (.ite .next (.ite .next .next))
theorem execTenureStart_isNext (s : State) : (execTenureStart s).isNext := by
  unfold execTenureStart
  refine .ite .next ?_
  split <;> exact .next
theorem execMasterCycleDone_isNext (data : Word) (ue : Bool) (s : State) : (execMasterCycleDone data ue s).isNext := by
  unfold execMasterCycleDone
  refine .ite .next ?_
  split
  · exact .next
  · exact .ite .next .next
  · exact .ite .next .next
  · exact .ite .next .next
  · exact .next
theorem execModbusReply_isNext (s : State) : (execModbusReply s).isNext := by
  unfold execModbusReply
  split <;> exact .next
theorem execRingCarrierReturn_isNext (h : RHdr) (p : RPay) (s : State) : (execRingCarrierReturn h p s).isNext := by
  unfold execRingCarrierReturn
  refine .ite .next (.ite .next ?_)
  cases p with
  | bulk => exact .ite .next .next
  | _ => exact .next
theorem execSyncEdge_isNext (s : State) : (execSyncEdge s).isNext := by
  unfold execSyncEdge
  split
  · exact .next
  · exact .ite .next .next
theorem execMailRead_isNext (node tag addr count : Nat) (autoinc : Bool) (r : MailRx) (ecc : Option Nat) (s : State) :
    (execMailRead node tag addr count autoinc r ecc s).isNext := by
  dsimp only [execMailRead]
  split
  · exact .next
  · refine .ite .next (.ite .next ?_)
    split
    · exact .next
    · split <;> exact .next
theorem execMailWrite_isNext (node tag addr : Nat) (ws : List Word) (autoinc : Bool) (r : MailRx) (s : State) :
    (execMailWrite node tag addr ws autoinc r s).isNext := by
  dsimp only [execMailWrite]
  split
  · exact .next
  · refine .ite .next (.ite .next ?_)
    split <;> exact .next
theorem execMailMailbox_isNext (node tag : Nat) (ws : List Word) (r : MailRx) (s : State) :
    (execMailMailbox node tag ws r s).isNext := by
  dsimp only [execMailMailbox]
  split
  · exact .next
  · exact .ite .next (.ite .next (.ite .next .next))
theorem execBulkOpen_isNext (node tag session dir rsv2 : Nat) (z : BulkSpan) (rsvD : Nat) (r : MailRx) (s : State) :
    (execBulkOpen node tag session dir rsv2 z rsvD r s).isNext := by
  dsimp only [execBulkOpen]
  split
  · exact .next
  · split
    · exact .next
    · exact .ite .next .next
theorem execBulkAck_isNext (node : Nat) (a : BulkNext) (x : Rx) (s : State) : (execBulkAck node a x s).isNext := by
  unfold execBulkAck
  refine .ite .next (.ite .next ?_)
  split
  · exact .ite .next .next
  · exact .next
theorem execBulkDone_isNext (node tag session : Nat) (z : BulkSum) (r : MailRx) (s : State) :
    (execBulkDone node tag session z r s).isNext := by
  unfold execBulkDone
  refine .ite .next (.ite .next ?_)
  split
  · exact .next
  · exact .ite .next (.ite .next .next)
theorem execImageReq_isNext (node : Nat) (q : ImageAsk) (s : State) : (execImageReq node q s).isNext := by
  unfold execImageReq
  refine .ite .next ?_
  split
  · exact .next
  · exact .ite .next (.ite .next .next)
theorem execRingBulk_isNext (node : Nat) (c : Bulk) (west ovf : Bool) (s : State) :
    (execRingBulk node c west ovf s).isNext := by
  unfold execRingBulk
  split
  · exact .next
  · exact .ite .next (.ite .next .next)
theorem execBulkStallTimeout_isNext (tx : Bool) (s : State) : (execBulkStallTimeout tx s).isNext := by
  unfold execBulkStallTimeout
  split <;> exact .next
theorem execRecordRelease_isNext (l : Fin 8) (s : State) : (execRecordRelease l s).isNext := by
  unfold execRecordRelease
  split
  · exact .next
  · exact .ite .next (.ite (.ite .next .next) (.ite (.ite .next .next) .next))
theorem execKernelSubframeIn_isNext (isB : Bool) (i : Fin 8) (errLife errData errCrc : Nat) (s : State) :
    (execKernelSubframeIn isB i errLife errData errCrc s).isNext := by
  unfold execKernelSubframeIn
  split <;> exact .next
theorem execCaptureBlockComplete_isNext (q : Fin 16) (s : State) : (execCaptureBlockComplete q s).isNext := by
  unfold execCaptureBlockComplete
  refine .ite .next ?_
  split <;> exact .next
theorem execInputConfirm_isNext (isB : Bool) (f : Fin 16) (j : Fin 4) (s : State) :
    (execInputConfirm isB f j s).isNext := by
  unfold execInputConfirm
  split
  · exact .next
  · exact .ite .next .next
theorem execDiscrepancyTimeout_isNext (isB : Bool) (f : Fin 16) (s : State) : (execDiscrepancyTimeout isB f s).isNext := by
  unfold execDiscrepancyTimeout
  split
  · exact .next
  · exact .ite .next .next
theorem execPairTestRequest_isNext (isB : Bool) (p : Fin 8) (s : State) : (execPairTestRequest isB p s).isNext := by
  unfold execPairTestRequest
  split
  · exact .next
  · exact .ite .next .next
theorem execCfgRepairDone_isNext (ue : Option Nat) (s : State) : (execCfgRepairDone ue s).isNext := by
  unfold execCfgRepairDone
  split
  · exact .next
  · refine .ite .next (.ite .next ?_)
    split <;> exact .next
theorem execImageStoreDone_isNext (fail : Option Nat) (s : State) : (execImageStoreDone fail s).isNext := by
  dsimp only [execImageStoreDone]
  split
  · refine .ite .next ?_
    split
    · exact .next
    · split <;> exact .next
  · exact .next
theorem execFwVerifyDone_isNext (s : State) : (execFwVerifyDone s).isNext := by
  dsimp only [execFwVerifyDone]
  split
  · refine .ite .next ?_
    split
    · exact .next
    · exact .ite .next (.ite .next (.ite .next .next))
  · exact .next
theorem execFwProgramDone_isNext (fail : Option Nat) (s : State) : (execFwProgramDone fail s).isNext := by
  unfold execFwProgramDone
  split
  · refine .ite .next ?_
    split <;> exact .next
  · exact .next
theorem execBankStoreDone_isNext (fail : Option Nat) (s : State) : (execBankStoreDone fail s).isNext := by
  dsimp only [execBankStoreDone]
  split
  · exact .next
  · refine .ite .next ?_
    split
    · exact .next
    · split
      · exact .next
      · exact .next
      · split <;> exact .next
theorem execCalPointDone_isNext (p : Port) (c : Fin 32) (s : State) : (execCalPointDone p c s).isNext := by
  unfold execCalPointDone
  split
  · exact .ite .next .next
  · exact .next
theorem execCalPointTimeout_isNext (p : Port) (s : State) : (execCalPointTimeout p s).isNext := by
  unfold execCalPointTimeout
  split
  · exact .ite .next .next
  · exact .next
theorem execIslandScanCapture_isNext (s : State) : (execIslandScanCapture s).isNext := by
  unfold execIslandScanCapture
  split
  · exact .next
  · exact .ite .next .next
theorem execIslandScanUpdate_isNext (w : Nat) (s : State) : (execIslandScanUpdate w s).isNext := by
  unfold execIslandScanUpdate
  split <;> exact .next

theorem exec_isNext (c : Instr) (s : State) : Res.isNext (exec c s) := by
  cases c with
  | transferStart => exact execTransferStart_isNext s
  | firmwareVerified vbat => exact execFirmwareVerified_isNext vbat s
  | bootImageVerified => exact execBootImageVerified_isNext s
  | pitchVerified outside => exact execPitchVerified_isNext outside s
  | pitchLoaded crcBad => exact execPitchLoaded_isNext crcBad s
  | pitchSafetyCheck fault => exact execPitchSafetyCheck_isNext fault s
  | pitchCommit ue => exact execPitchCommit_isNext ue s
  | repitchChecked => exact execRepitchChecked_isNext s
  | repitchLoaded ue => exact execRepitchLoaded_isNext ue s
  | repitchStructured => exact execRepitchStructured_isNext s
  | repitchCommit => exact execRepitchCommit_isNext s
  | wakeScrubDone ue => exact execWakeScrubDone_isNext ue s
  | lpbCycleStart la bhen read both => exact execLpbCycleStart_isNext la bhen read both s
  | lpbCycleAck wdata ue => exact execLpbCycleAck_isNext wdata ue s
  | lpbCycleEnd => exact execLpbCycleEnd_isNext s
  | lpbPostedCommit => exact execLpbPostedCommit_isNext s
  | irqPulseEnd j => exact execIrqPulseEnd_isNext j s
  | interruptAcknowledge j abandoned => exact execInterruptAcknowledge_isNext j abandoned s
  | tenureStart => exact execTenureStart_isNext s
  | masterCycleDone data ue => exact execMasterCycleDone_isNext data ue s
  | modbusReply => exact execModbusReply_isNext s
  | ringCarrierReturn h p => exact execRingCarrierReturn_isNext h p s
  | syncEdge => exact execSyncEdge_isNext s
  | mailRead node tag addr count autoinc r ecc => exact execMailRead_isNext node tag addr count autoinc r ecc s
  | mailWrite node tag addr ws autoinc r => exact execMailWrite_isNext node tag addr ws autoinc r s
  | mailMailbox node tag ws r => exact execMailMailbox_isNext node tag ws r s
  | bulkOpen node tag session dir rsv2 z rsvD r => exact execBulkOpen_isNext node tag session dir rsv2 z rsvD r s
  | bulkAck node a x => exact execBulkAck_isNext node a x s
  | bulkDone node tag session z r => exact execBulkDone_isNext node tag session z r s
  | imageReq node q => exact execImageReq_isNext node q s
  | ringBulk node c west ovf => exact execRingBulk_isNext node c west ovf s
  | bulkStallTimeout tx => exact execBulkStallTimeout_isNext tx s
  | recordRelease l => exact execRecordRelease_isNext l s
  | kernelSubframeIn isB i errLife errData errCrc => exact execKernelSubframeIn_isNext isB i errLife errData errCrc s
  | captureBlockComplete q => exact execCaptureBlockComplete_isNext q s
  | inputConfirm isB f j => exact execInputConfirm_isNext isB f j s
  | discrepancyTimeout isB f => exact execDiscrepancyTimeout_isNext isB f s
  | pairTestRequest isB p => exact execPairTestRequest_isNext isB p s
  | cfgRepairDone ue => exact execCfgRepairDone_isNext ue s
  | imageStoreDone fail => exact execImageStoreDone_isNext fail s
  | fwVerifyDone => exact execFwVerifyDone_isNext s
  | fwProgramDone fail => exact execFwProgramDone_isNext fail s
  | bankStoreDone fail => exact execBankStoreDone_isNext fail s
  | calPointDone p c => exact execCalPointDone_isNext p c s
  | calPointTimeout p => exact execCalPointTimeout_isNext p s
  | islandScanCapture => exact execIslandScanCapture_isNext s
  | islandScanUpdate w => exact execIslandScanUpdate_isNext w s
  -- a Modbus request
  | readCoils | readDiscreteInputs | readHoldingRegisters | readInputRegisters | writeSingleCoil | writeSingleRegister
  | writeMultipleCoils | writeMultipleRegisters | readWriteMultipleRegisters =>
    exact State.modbus_isNext _ _ _ _
  -- one guard
  | hubResetRelease | tempWarnRaise | transferLimitShutdown | pllbUnlock | ringForwardStart | modbusSettingsApply
  | pitchStructured | deepPrepared | deepRetain | deepWake | wakeCoreRunning | wakeComplete | persAccumulate | tenureRequest
  | busGrant | tenureEnd | grantTimeout | masterErrorTimeout | foreignBusBusy | spiFrameStart | spiFrameEnd
  | modbusFrameError | ringCycleStart | ringPdReturn | ringEvtReturn | pdFrameLoss | syncnFall | weirCheck | slcFlushTimeout
  | guylineSlot | hubUplink | islandLinkTimeout | structureDiscard | loopStable | rungTakeEffect | brownOutStop
  | inputFilterChange | chatterBin | ssiRead | kernelCycle | twoHandSyncTimeout | ss1DelayEnd | safenReassert
  | wdgWindowOpen | wdgWindowClose | wdgClockTrip | logFlush | bankEraseDone | fwConfirmTimer | mbxRingPending
  | mbxResultSlotExpire | emberToVddio | emberLow | rtcAlarmMatch | loadCheck | islSelUpdate =>
    exact .ite .next .next
  -- two guards
  | railBelowReset | railWarnEnter | pfwRaise | deepCommit | spiWriteWord | unsupportedFunction | ringLinkUp
  | ringDlyTimeout | islandDownlink | kernelSubframeLoss | testPulseStart | supplyTestPulse | sensorUpdate =>
    exact .ite .next (.ite .next .next)
  | partnerRxFault => exact .ite (.ite .next .next) .next
  -- three guards and more
  | ringDly | islandLost | diagSet | testPulseEnd =>
    exact .ite .next (.ite .next (.ite .next .next))
  | spiReadFetch | supplyTestPulseEnd =>
    exact .ite .next (.ite .next (.ite .next (.ite .next .next)))
  | spiCommandWord => exact .ite .next (.ite .next (.ite .next (.ite .next (.ite .next (.ite .next .next)))))
  | cfgScrubWord =>
    exact .ite .next (.ite .next (.ite .next (.ite .next (.ite .next (.ite .next (.ite .next .next))))))
  | ringCyc => exact .ite .next (.ite .next (.ite .next (.ite (.ite .next .next) .next)))
  | ringEnumReturn => exact .ite .next (.ite (.ite .next .next) (.ite .next .next))
  -- no guard at all: the meaning is an update of the state
  | _ => exact .next

theorem step_isNext (s : State) : Res.isNext (step s) := by
  unfold step
  split
  · exact exec_isNext _ _
  · exact .next

/-- Settles O6: a command by the leaves of its meaning, a step by its command or its tick. -/
theorem noCommandStops : Obligations.NoCommandStops := ⟨exec_isNext, step_isNext⟩

end Sys2Proof.Machine
end

section
/-!
Stores of registers and of Eddy words, fields of registers and their counters: what reads back and what else stays.
-/
namespace Sys2Proof.Machine

theorem State.reg_setTime (s : State) (a b : Nat) (t : RingTime) :
    (s.setTime a t).reg b = if b = a + 1 then hi24 t else if b = a then lo24 t else s.reg b := by
  simp only [State.setTime, State.reg_setReg]
/-- Storing words from `a` upward touches Eddy alone. -/
theorem State.setEddyWords_frame (s : State) (a : Nat) (ws : List Word) :
    s.setEddyWords a ws = { s with eddy := (s.setEddyWords a ws).eddy } := by
  induction ws generalizing s a with
  | nil => rfl
  | cons w ws ih =>
    rw [State.setEddyWords, ih]
    rfl
theorem State.eddyAt_setEddyWords (s : State) (a b : Nat) (ws : List Word) :
    (s.setEddyWords a ws).eddyAt b = if a ≤ b ∧ b < a + ws.length then ws.getD (b - a) 0 else s.eddyAt b := by
  induction ws generalizing s a with
  | nil => simp [State.setEddyWords]
  | cons w ws ih =>
    rw [State.setEddyWords, ih, State.eddyAt_setEddy]
    rcases Nat.lt_trichotomy b a with h | rfl | h
    · grind
    · simp
    · obtain ⟨k, rfl⟩ := Nat.exists_eq_add_of_lt h
      rw [show a + k + 1 - a = k + 1 by omega, show a + k + 1 - (a + 1) = k by omega]
      grind

/-- Settles O7: by the read-after-write law of the sparse stores, and by induction on the words stored in Eddy. -/
theorem storeLaws : Obligations.StoreLaws := by
  refine ⟨fun s a b v => ⟨s.reg_setReg a b v, rfl⟩, fun s a t => ⟨?_, ?_, fun b ha hb => ?_⟩,
    fun s a b ws => ⟨s.eddyAt_setEddyWords a b ws, s.setEddyWords_frame a ws⟩⟩
  · simp [State.reg_setTime]
  · simp [State.reg_setTime]
  · simp [State.reg_setTime, ha, hb]

theorem State.toNat_reg_bump_same (s : State) (a : Nat) :
    ((s.bump a).reg a).toNat = min 0xFFFFFF ((s.reg a).toNat + 1) := by
  rw [State.reg_bump, if_pos rfl]
  generalize s.reg a = w
  split
  · next h => simp [h]
  · next h => bv_omega
theorem State.reg_bumpBy (s : State) (a n b : Nat) :
    (s.bumpBy a n).reg b = if b = a then toWord (min 0xFFFFFF ((s.reg a).toNat + n)) else s.reg b := s.reg_setReg a b _
theorem State.toNat_reg_bumpBy_same (s : State) (a n : Nat) :
    ((s.bumpBy a n).reg a).toNat = min 0xFFFFFF ((s.reg a).toNat + n) := by
  rw [State.reg_bumpBy, if_pos rfl, toWord, BitVec.toNat_ofNat]
  omega
/-- A counter field takes a write of 0 alone, from a role that may write it where the register's rules allow it. -/
theorem State.fieldOk_counter_iff (s : State) (p : Port) (a : Nat) (v : Word) (f : Fld) (hacc : f.acc = .rw)
    (hchk : f.chk = .counter) :
    s.fieldOk p a v f = true ↔ f.role ≤ s.roleOf p ∧ s.valueOk a v f = true ∧ v = 0 := by
  simp [State.fieldOk, hacc, hchk, and_assoc]

/-- Settles O8: by what `setFld`, `setBit`, `bump` and `bumpBy` leave in a register. -/
theorem registerLaws : Obligations.RegisterLaws := by
  refine ⟨fun s a hi lo v hle h24 => ⟨s.fld_setFld_same a hi lo v hle h24, fun b k hk => s.bit_setFld a hi lo v b k hle hk,
      fun k w hk => ?_⟩,
    fun s a => ⟨s.toNat_reg_bump_same a, fun b hb => ?_⟩, fun s a n => ⟨s.toNat_reg_bumpBy_same a n, fun b hb => ?_⟩,
    fun s p a v f hacc hchk => ⟨fun h => ?_, fun hv hrole hval => ?_⟩⟩
  · rw [State.bit_setBit s a k a k w hk, if_pos ⟨rfl, rfl⟩]
  · rw [State.reg_bump, if_neg hb]
  · rw [State.reg_bumpBy, if_neg hb]
  · obtain ⟨-, -, hv⟩ := (s.fieldOk_counter_iff p a v f hacc hchk).mp h
    exact hv
  · exact (s.fieldOk_counter_iff p a v f hacc hchk).mpr ⟨hrole, hval, hv⟩

end Sys2Proof.Machine
end

section
/-!
Native accesses: addresses without a register, the Eddy window, and what a write leaves of a register whose fields do not
take it (R13, R21, R426).
-/
namespace Sys2Proof.Machine

theorem State.peek_unassigned (s : State) (p : Port) (a : Nat) (ha : a < 0x80000) (hpers : a < 0x05800 ∨ 0x05A00 ≤ a)
    (hreg : regAt a = none) : s.peek p a = 0 := by
  have hpeek : a ≠ 0x00511 := by
    rintro rfl
    exact absurd hreg (by decide)
  rw [State.peek_plain s p a hpeek hpers]
  unfold State.plain
  rw [if_neg (by omega), hreg]
  rfl
theorem State.peek_above (s : State) (p : Port) (a : Nat) (ha : 0x100000 ≤ a) : s.peek p a = 0 := by
  rw [State.peek_plain s p a (by omega) (by omega)]
  unfold State.plain
  rw [if_pos (by omega), if_neg (by omega)]
theorem State.wr_unassigned (s : State) (p : Port) (a : Nat) (v : Word) (ha : a < 0x80000) (hreg : regAt a = none) :
    s.wr p a v = s := by
  unfold State.wr
  rw [if_neg (by omega), hreg]
theorem State.wrRefused_unassigned (s : State) (p : Port) (a : Nat) (v : Word) (ha : a < 0x80000)
    (hreg : regAt a = none) : s.wrRefused p a v = false := by
  unfold State.wrRefused
  rw [if_neg (by omega), hreg]
theorem State.wr_window (s : State) (p : Port) (a : Nat) (v : Word) (ha : 0x80000 ≤ a) :
    s.wr p a v = if a < 0x100000 ∧ 2 ≤ s.roleOf p ∧ s.eddyHeld (s.eddyOf p a) = false then s.setEddy (s.eddyOf p a) v
      else s := by
  unfold State.wr
  rw [if_pos ha]
theorem State.wrRefused_above (s : State) (p : Port) (a : Nat) (v : Word) (ha : 0x100000 ≤ a) :
    s.wrRefused p a v = false := by
  unfold State.wrRefused
  rw [if_pos (by omega), decide_eq_false (by omega), Bool.false_and, Bool.false_and]
/-- Which Eddy word a window address reaches hangs on the accessor's page alone. -/
theorem State.eddyOf_eq_of_page (s : State) (p q : Port) (a : Nat)
    (h : s.eddyPage.contains q = s.eddyPage.contains p) : s.eddyOf q a = s.eddyOf p a := by
  unfold State.eddyOf
  rw [h]
theorem State.peek_setEddy_window (s : State) (p : Port) (a e : Nat) (v : Word) (h1 : 0x80000 ≤ a) (h2 : a < 0x100000) :
    (s.setEddy e v).peek p a = if s.eddyOf p a = e then v else s.eddyAt (s.eddyOf p a) := by
  rw [State.peek_eddy _ p a h1 h2, State.eddyAt_setEddy]
  rfl

/-- Settles O20: the three cases of an address without a register, a write into the Eddy window, and a write there that the
role or a capture keeps out. -/
theorem nativeSpace : Obligations.NativeSpace := by
  refine ⟨fun s p a v h => ?_, fun s p a v h1 h2 hrole hheld => ?_, fun s p a v ha h => ?_⟩
  · rcases h with ⟨ha, hpers, hreg⟩ | ha
    · exact ⟨s.peek_unassigned p a ha hpers hreg, s.wr_unassigned p a v ha hreg, s.wrRefused_unassigned p a v ha hreg⟩
    · refine ⟨s.peek_above p a ha, ?_, s.wrRefused_above p a v ha⟩
      rw [s.wr_window p a v (by omega), if_neg (by omega)]
  · have hwr : s.wr p a v = s.setEddy (s.eddyOf p a) v := by
      rw [s.wr_window p a v h1, if_pos ⟨h2, hrole, hheld⟩]
    rw [hwr]
    refine ⟨rfl, ?_, fun q hq => ?_, fun b hb => ?_⟩
    · rw [s.peek_setEddy_window p a _ v h1 h2, if_pos rfl]
    · rw [s.peek_setEddy_window q a _ v h1 h2, if_pos (s.eddyOf_eq_of_page p q a hq)]
    · rw [State.eddyAt_setEddy, if_neg hb]
  · rw [s.wr_window p a v ha, if_neg]
    rintro ⟨-, hrole, hheld⟩
    rcases h with h | h
    · omega
    · simp [hheld] at h

/-- The fields of a register that a write can change take it from OPERATOR or a higher role only. -/
def RegDef.operatorUp (d : RegDef) : Bool :=
  d.flds.all fun f => decide (f.acc = .ro) || decide (f.acc = .rc) || decide (f.acc = .img) || decide (2 ≤ f.role)

theorem RegDef.eq_base_of_hit_one {base a reset : Nat} {flds : List Fld} (h : (one base flds reset).hit a = true) :
    a = base := by
  unfold RegDef.hit one at h
  simp only [Nat.div_one, Bool.and_eq_true, decide_eq_true_eq] at h
  omega
/-- EDDY_PAGE is the one register that an OBSERVER may write (R629). -/
theorem blockAt_operatorUp (a : Nat) :
    (blockAt a).all (fun d => d.operatorUp || decide (d = one 0x03C00 [fRW 1 0 0] 0)) = true := by
  unfold blockAt
  repeat' refine iteInduction (motive := fun l => List.all l _ = true) (fun _ => ?_) (fun _ => ?_)
  all_goals rfl
theorem regAt_operatorUp {a : Nat} {d : RegDef} (hreg : regAt a = some d) (ha : a ≠ 0x03C00) : d.operatorUp = true := by
  have hd := List.all_eq_true.mp (blockAt_operatorUp a) d (List.mem_of_find?_eq_some hreg)
  rw [Bool.or_eq_true, decide_eq_true_eq] at hd
  refine hd.resolve_right fun hone => ha (RegDef.eq_base_of_hit_one (hone ▸ List.find?_some hreg))
theorem State.fieldOk_of_observer (s : State) (p : Port) (a : Nat) (v : Word) {d : RegDef} (hrole : s.roleOf p < 2)
    (hd : d.operatorUp = true) {f : Fld} (hf : f ∈ d.flds) : s.fieldOk p a v f = false := by
  have h := List.all_eq_true.mp hd f hf
  simp only [Bool.or_eq_true, decide_eq_true_eq] at h
  unfold State.fieldOk
  rcases h with ((h | h) | h) | h
  · simp [h]
  · simp [h]
  · simp [h]
  · rw [decide_eq_false (by omega), Bool.false_and, Bool.false_and]

section untaken
variable (s : State) (p : Port) (a : Nat) (v : Word) (fs : List Fld)

theorem State.wrWord_untaken (h : ∀ f ∈ fs, s.fieldOk p a v f = false) : s.wrWord p a v fs = s.reg a := by
  unfold State.wrWord
  generalize s.reg a = w
  induction fs generalizing w with
  | nil => rfl
  | cons f fs ih =>
    rw [List.foldl_cons, if_pos (h f List.mem_cons_self)]
    exact ih (fun g hg => h g (List.mem_cons_of_mem f hg)) w
theorem State.took_untaken (h : ∀ f ∈ fs, s.fieldOk p a v f = false) : s.took p a v fs = fun _ => false := by
  funext lo
  refine List.any_eq_false.mpr fun f hf => ?_
  simp [h f hf]
theorem State.wrSlc_untaken : s.wrSlc a v (fun _ => false) = s := by simp [State.wrSlc]
theorem State.wrCh_untaken : s.wrCh a v (fun _ => false) = s := by simp [State.wrCh]
theorem State.wrFlt_untaken (old : State) (h : s.reg a = old.reg a) : s.wrFlt old a v (fun _ => false) = s := by
  simp [State.wrFlt, State.bit, h]
theorem State.wrCap_untaken : s.wrCap a v (fun _ => false) = s := by simp [State.wrCap]
theorem State.wrCoef_untaken : s.wrCoef a v (fun _ => false) = s := by simp [State.wrCoef]
theorem State.wrPos_untaken (old : State) : s.wrPos old a v (fun _ => false) = s := by simp [State.wrPos]

end untaken

/-- A write that no field of its register takes stores at most the word that was there, but for a service of the watchdog. -/
theorem State.wr_untaken (s : State) (p : Port) (a : Nat) (v : Word) {d : RegDef} (ha : a < 0x80000)
    (hreg : regAt a = some d) (hwdg : a ≠ 0x00401) (h : ∀ f ∈ d.flds, s.fieldOk p a v f = false) :
    s.wr p a v = s ∨ s.wr p a v = s.setReg a (s.reg a) := by
  have hn : (s.setReg a (s.reg a)).reg a = s.reg a := by rw [State.reg_setReg, if_pos rfl]
  unfold State.wr
  rw [if_neg (by omega), hreg]
  simp only [State.took_untaken s p a v d.flds h, State.wrWord_untaken s p a v d.flds h, if_neg hwdg, State.wrSlc_untaken,
    State.wrCh_untaken, State.wrFlt_untaken _ a v s hn, State.wrCap_untaken, State.wrCoef_untaken, State.wrPos_untaken,
    Bool.false_eq_true, Bool.false_and, Bool.or_self, false_and, and_false, if_false, ite_self]
  split_ifs <;> simp
theorem State.wr_wdgService_observer (s : State) (p : Port) (v : Word) (hrole : s.roleOf p < 2) :
    s.wr p 0x00401 v = s.bump WDG_REFUSED := by
  have hreg : regAt 0x00401 = some (one 0x00401 [fWO 3 23 0] 0) := by decide
  unfold State.wr
  rw [if_neg (by omega), hreg]
  simp only [if_pos (show s.roleOf p < 3 by omega), if_true]
  rfl

/-- Settles O22: no field takes the write, so the register keeps its word; only a service of the watchdog is counted. -/
theorem observerWritesNothing : Obligations.ObserverWritesNothing := by
  intro s p a v hrole hpage
  by_cases ha : 0x80000 ≤ a
  · have hwr : s.wr p a v = s := by rw [s.wr_window p a v ha, if_neg (by omega)]
    rw [hwr]
    exact ⟨rfl, fun b _ => rfl⟩
  by_cases hwdg : a = 0x00401
  · subst hwdg
    rw [s.wr_wdgService_observer p v hrole]
    refine ⟨rfl, fun b hb => ?_⟩
    rw [State.reg_bump, if_neg (hb rfl)]
  cases hreg : regAt a with
  | none =>
    rw [s.wr_unassigned p a v (by omega) hreg]
    exact ⟨rfl, fun b _ => rfl⟩
  | some d =>
    have hok : ∀ f ∈ d.flds, s.fieldOk p a v f = false := fun f hf =>
      s.fieldOk_of_observer p a v hrole (regAt_operatorUp hreg hpage) hf
    rcases s.wr_untaken p a v (by omega) hreg hwdg hok with h | h
    · rw [h]
      exact ⟨rfl, fun b _ => rfl⟩
    · rw [h]
      refine ⟨rfl, fun b _ => ?_⟩
      rw [State.reg_setReg]
      split
      · next hb => rw [hb]
      · rfl

end Sys2Proof.Machine
end

section
/-!
A read through the Eddy window has a side effect of its own: the Headwater marks the cell of its event buffer as read (R249;
log entry 80). So a read that takes no snapshot can still change the ring's state.
-/
namespace Sys2Proof.Machine

/-- A Headwater in PITCHED whose event buffer is the first Eddy word, with its cell 0 unread. -/
def headwaterUnread : State :=
  { State.reset with
    dev := .pitched
    regs := [(RNG_STAT, 1)]
    ring := { State.reset.ring with conf := List.replicate 18 0 ++ [1, 0, 0], evtUnread := [0] } }

theorem headwaterUnread_rd_evtUnread : (headwaterUnread.rd .lpb 0x80000).2.ring.evtUnread = [] := by decide

/-- Refutes O21: its premises allow 0x80000, the lowest word of no group. The Headwater's read of it takes cell 0 of the
event buffer from the unread ones, so the ring's state changes and not only the snapshots. -/
theorem not_readSnapshot : ¬ Obligations.ReadSnapshot := by
  intro h
  obtain ⟨-, hframe, -⟩ := h headwaterUnread .lpb 0x80000 (by decide) (by decide) (by decide)
  have hkept : (headwaterUnread.rd .lpb 0x80000).2.ring.evtUnread = [0] := by
    rw [hframe]
    rfl
  rw [headwaterUnread_rd_evtUnread] at hkept
  exact absurd hkept (by decide)

end Sys2Proof.Machine
end

section
/-!
What a hub reset leaves (R34, R44, R104, R105), and the causes that bring one (R70, R80, R104, R566).
-/
namespace Sys2Proof.Machine

/-- The hub reset restarts every register but the three views; its change of the device state writes no log register, since
no firmware runs after the reset. -/
theorem State.reg_hubResetTo (s : State) (d : Dev) (cause : Nat) (multi : Bool) (a : Nat)
    (ha : a ∉ [SYS_PWR_STAT, SYS_STRAPS, SYS_CLKSTAT]) : (s.hubResetTo d cause multi).reg a = resetWord a := by
  simp only [List.mem_cons, List.not_mem_nil, or_false, not_or] at ha
  obtain ⟨hpwr, hstraps, hclk⟩ := ha
  unfold State.hubResetTo
  rw [State.setDev_quiet _ _ _ rfl]
  change State.reg (State.setReg _ _ _) a = _
  rw [State.reg_setReg, if_neg hclk, State.reg_setReg, if_neg hstraps, State.reg_setReg, if_neg hpwr]
  rfl
theorem State.ember_hubResetTo (s : State) (d : Dev) (cause : Nat) (multi : Bool) :
    (s.hubResetTo d cause multi).ember = s.ember := by
  unfold State.hubResetTo
  rw [State.setDev_quiet _ _ _ rfl]
  rfl
theorem State.wasReset_hubResetTo (s : State) (d : Dev) (cause : Nat) (multi : Bool) :
    s.wasReset (s.hubResetTo d cause multi) d cause multi := by
  have hregs := s.reg_hubResetTo d cause multi
  unfold State.wasReset
  simp only [State.hubResetTo, State.setDev_fields, State.setReg_fields, true_and] at hregs ⊢
  exact ⟨rfl, rfl, rfl, rfl, rfl, rfl, hregs⟩

/-- Settles O9: both resets are `hubResetTo`, to BOOT and to OFF. -/
theorem hubResetLeaves : Obligations.HubResetLeaves := fun s cause multi =>
  ⟨⟨s.wasReset_hubResetTo .boot cause multi, s.ember_hubResetTo .boot cause multi⟩,
    s.wasReset_hubResetTo .off cause multi, s.ember_hubResetTo .off cause multi⟩

theorem State.down_eq_false_iff (s : State) : s.down = false ↔ s.dev ≠ .off ∧ s.hold.held = false := by
  simp [State.down, and_comm]
theorem State.runs_eq_true_iff (s : State) : s.runs = true ↔ s.down = false ∧ s.asleep = false := by
  simp [State.runs]

theorem execRstnAssert_of_up {s : State} (also : List ResetCause) (h : s.down = false) :
    execRstnAssert also s = .next (s.resetNow 4 also) := by
  simp [execRstnAssert, h]
theorem execRailBelowReset_of_up {s : State} (all : Bool) (also : List ResetCause) (h : s.down = false) :
    execRailBelowReset all also s = .next ((s.resetNow 2 also).railsDown all) := by
  obtain ⟨hoff, hheld⟩ := s.down_eq_false_iff.mp h
  simp [execRailBelowReset, hoff, hheld]
theorem execRailBelowReset_of_held {s : State} (all : Bool) (also : List ResetCause) (hoff : s.dev ≠ .off)
    (hheld : s.hold.held = true) : execRailBelowReset all also s =
      .next (({ s with hold := { s.hold with cause := min s.hold.cause 2 } } : State).railsDown all) := by
  simp [execRailBelowReset, hoff, hheld]
theorem execReferenceClockFail_of_up {s : State} (reference : Bool) (also : List ResetCause) (h : s.down = false) :
    execReferenceClockFail reference also s =
      .next ((s.resetNow 3 also).setBit SYS_CLKSTAT (if reference then 0 else 1) false) := by
  simp [execReferenceClockFail, h]
theorem execMssMonitor_of_runs {s : State} (also : List ResetCause) (h : s.runs = true) :
    execMssMonitor also s = .next (s.resetNow 6 also) := by
  obtain ⟨hup, hawake⟩ := s.runs_eq_true_iff.mp h
  simp [execMssMonitor, hup, hawake]
theorem execMssMonitor_of_asleep {s : State} (also : List ResetCause) (h : s.asleep = true) :
    execMssMonitor also s = .next s := by
  simp [execMssMonitor, h]
theorem execCommandReset_of_due {s : State} (also : List ResetCause) (h : s.mss.resetDue = true) :
    execCommandReset also s = .next (s.resetNow 7 also) := by
  simp [execCommandReset, h]
theorem execCommandReset_of_not_due {s : State} (also : List ResetCause) (h : s.mss.resetDue = false) :
    execCommandReset also s = .next s := by
  simp [execCommandReset, h]
theorem execPowerLoss_of_powered {s : State} (all : Bool) (h : s.dev ≠ .off) :
    execPowerLoss all s = .next ((s.hubResetTo .off 2 false).railsDown all) := by
  simp [execPowerLoss, h]
/-- A hub that is held or has no main power ignores every cause but a supply's (log entry 33). -/
theorem reset_ignored_of_down {s : State} (reference : Bool) (also : List ResetCause) (h : s.down = true) :
    execRstnAssert also s = .next s ∧ execReferenceClockFail reference also s = .next s ∧
      execMssMonitor also s = .next s := by
  simp [execRstnAssert, execReferenceClockFail, execMssMonitor, h]

/-- Settles O10: each cause by the guard of its row; `resetNow` takes the lowest of the cycle's causes. -/
theorem resetCauses : Obligations.ResetCauses := fun _ also all reference =>
  ⟨execRstnAssert_of_up also, execRailBelowReset_of_up all also, execRailBelowReset_of_held all also,
    execReferenceClockFail_of_up reference also, execMssMonitor_of_runs also, execMssMonitor_of_asleep also,
    execCommandReset_of_due also, execCommandReset_of_not_due also, execPowerLoss_of_powered all,
    reset_ignored_of_down reference also⟩

end Sys2Proof.Machine
end

section
/-!
Supply and temperature warnings, PFW, and the SAFE limits (R36, R37, R69–R72, R94, R95, R480, R588).
-/
namespace Sys2Proof.Machine

theorem State.down_of_powered {s : State} (h : s.dev ≠ .off) : s.down = s.hold.held := by
  simp [State.down, h]

theorem execRailWarnEnter_of_new {s : State} (r : Fin 5) (hoff : s.dev ≠ .off) (hnew : s.bit SYS_PWR_STAT r.val = false) :
    execRailWarnEnter r s = .next (
      let u := s.setBit SYS_PWR_STAT r.val true
      if s.hold.held then u else
        let v := (u.setBit SYS_PWR_EVT r.val true).fire 448 0
        v.logRec 0x401 (v.reg SYS_PWR_STAT) (toWord (r.val + 1)) (v.sensor ⟨r.val + 1, by omega⟩)) := by
  have hdown : (s.setBit SYS_PWR_STAT r.val true).down = s.hold.held := State.down_of_powered hoff
  cases hheld : s.hold.held <;> simp [execRailWarnEnter, hoff, hnew, hdown, hheld]
theorem execRailWarnEnter_of_raised {s : State} (r : Fin 5) (h : s.bit SYS_PWR_STAT r.val = true) :
    execRailWarnEnter r s = .next s := by
  simp [execRailWarnEnter, h]
theorem execPfwRaise_of_new {s : State} (hoff : s.dev ≠ .off) (hnew : s.bit SYS_PWR_STAT 5 = false) :
    execPfwRaise s = .next (
      let u := s.setBit SYS_PWR_STAT 5 true
      if s.hold.held then u else
        let v := ((u.setBit SYS_PWR_EVT 5 true).fire 449 0).logRec 0x403 0 0 0
        let w := if v.dev = .pitched ∨ v.dev = .doze then v.snapAll else v
        if w.mss.halted then w else w.flashAbort) := by
  have hdown : (s.setBit SYS_PWR_STAT 5 true).down = s.hold.held := State.down_of_powered hoff
  cases hheld : s.hold.held <;> simp [execPfwRaise, hoff, hnew, hdown, hheld, State.when]
theorem execTempWarnRaise_of_new {s : State} (hup : s.down = false) (hnew : s.bit SYS_PWR_STAT 6 = false) :
    execTempWarnRaise s = .next (
      let u := ((s.setBit SYS_PWR_STAT 6 true).setBit SYS_PWR_EVT 6 true).fire 450 0
      u.logRec 0x402 0 (u.sensor 0) 0) := by
  simp [execTempWarnRaise, hup, hnew]
theorem State.limitCross_eq (s : State) (b cause : Nat) (detail : Word) :
    s.limitCross b cause detail = if s.down then s else
      let u := s.setBit SYS_PWR_EVT b true
      if s.dev = .deep then { u with sleep := { u.sleep with limit := cause } }
      else (if s.dev = .doze then u.setBit SYS_WAKE_CAUSE 15 true else u).safeCause cause detail := by
  simp [State.limitCross, State.when]

/-- Settles O12: a warning by the guards of its row, a SAFE limit by what `limitCross` does in each device state. -/
theorem supplyLimits : Obligations.SupplyLimits :=
  ⟨fun _ r => execRailWarnEnter_of_new r, fun _ r => execRailWarnEnter_of_raised r, fun _ _ => rfl,
    fun _ => execPfwRaise_of_new, fun _ => rfl, fun _ => execTempWarnRaise_of_new, fun _ => rfl,
    fun s r => congrArg Host.Outcome.next (s.limitCross_eq 7 4 (toWord r.val)),
    fun s => congrArg Host.Outcome.next (s.limitCross_eq 8 5 (s.sensor 0))⟩

end Sys2Proof.Machine
end

section
/-!
The boot's steps from t3 (R106–R108, R550, R583, R595, R644).
-/
namespace Sys2Proof.Machine

section firmware
variable {s : State} (vbat : Nat) (hup : s.down = false) (hboot : s.dev = .boot) (hrun : s.mss.run = .none)
include hup hboot hrun

theorem execFirmwareVerified_of_slotA (h : s.flash.choose.1 = .slotA) : execFirmwareVerified vbat s =
    .next ((s.firmwareFound vbat).firmwareRing.firmwareStart false s.flash.choose.2) := by
  simp [execFirmwareVerified, hup, hboot, hrun, h]
theorem execFirmwareVerified_of_slotB (h : s.flash.choose.1 = .slotB) : execFirmwareVerified vbat s =
    .next ((s.firmwareFound vbat).firmwareRing.firmwareStart true s.flash.choose.2) := by
  simp [execFirmwareVerified, hup, hboot, hrun, h]
theorem execFirmwareVerified_of_oxbow (h : s.flash.choose.1 = .oxbow) : ∃ t, execFirmwareVerified vbat s = .next t ∧
    t.dev = .maintenance ∧ t.fld SYS_BOOT 3 0 = 0xF := by
  simp only [execFirmwareVerified, hup, hboot, hrun, h, Bool.false_eq_true, ne_eq, not_true_eq_false, or_self, if_false,
    Host.Outcome.next.injEq, exists_eq_left', State.setFld_fields, State.setDev_fields, true_and]
  exact State.fld_setFld_same _ _ _ _ _ (by decide) (by decide)

end firmware

theorem State.bootUnpitched_shows (s : State) :
    s.bootUnpitched.dev = .unpitched ∧ s.bootUnpitched.fld SYS_BOOT 3 0 = 0xF :=
  ⟨by simp [State.bootUnpitched], State.fld_setFld_same _ _ _ _ _ (by decide) (by decide)⟩

section image
variable {s : State} (hup : s.down = false) (hboot : s.dev = .boot) (hrun : s.mss.run ≠ .none) (hmss : s.mss.halted = false)
include hup hboot hrun hmss

/-- A test boot, BOOTSEL 3, and the ring boot of a Headwater take no image. -/
theorem execBootImageVerified_of_no_source (h : s.bit SYS_STRAPS 4 = true ∨ s.fld SYS_STRAPS 1 0 = 3 ∨
    (s.fld SYS_STRAPS 1 0 = 2 ∧ s.headwater = true)) : execBootImageVerified s = .next s.bootUnpitched := by
  rcases h with h | h | ⟨h, hw⟩
  · simp [execBootImageVerified, hup, hboot, hrun, hmss, h]
  · simp [execBootImageVerified, hup, hboot, hrun, hmss, h]
  · simp [execBootImageVerified, hup, hboot, hrun, hmss, h, hw]
theorem execBootImageVerified_of_slots (htest : s.bit SYS_STRAPS 4 = false) (hsel : s.fld SYS_STRAPS 1 0 < 2) :
    execBootImageVerified s = .next (s.bootSlots [s.bootCtl.imgSlot, 1 - s.bootCtl.imgSlot] true) := by
  simp [execBootImageVerified, hup, hboot, hrun, hmss, htest, show s.fld SYS_STRAPS 1 0 ≠ 3 by omega,
    show s.fld SYS_STRAPS 1 0 ≠ 2 by omega]
theorem execBootImageVerified_of_ring (htest : s.bit SYS_STRAPS 4 = false) (hsel : s.fld SYS_STRAPS 1 0 = 2)
    (hw : s.headwater = false) (im : Image) (himg : s.ringImg ≠ none) (hok : s.verifySource 3 = .ok im) :
    execBootImageVerified s = .next (s.bootImage 3 im) := by
  obtain ⟨n, hn⟩ := Option.ne_none_iff_exists'.mp himg
  simp [execBootImageVerified, hup, hboot, hrun, hmss, htest, hsel, hw, hn, hok]

end image

/-- With HOLD (BOOTSEL 1) the image is retained and not pitched. -/
theorem State.bootImage_of_hold {s : State} (src : Nat) (im : Image) (h : s.fld SYS_STRAPS 1 0 = 1) :
    (s.bootImage src im).dev = .unpitched ∧ (s.bootImage src im).cfg.img = some im ∧
      (s.bootImage src im).cfg.pitched = false := by
  simp [State.bootImage, h, State.bootUnpitched, CfgSram.reset]
theorem execRingImageTimeout_of_boot {s : State} (hup : s.down = false) (hboot : s.dev = .boot) (hrun : s.mss.run ≠ .none)
    (hsel : s.fld SYS_STRAPS 1 0 = 2) : execRingImageTimeout s =
      .next (((s.setRing fun r => { r with imgReq := false }).setDev .unpitched 0xFF).setFld SYS_BOOT 3 0 0xF) := by
  simp [execRingImageTimeout, State.bootEnd, hup, hboot, hrun, hsel]
theorem execModbusSettingsApply_of_ready {s : State} (hruns : s.runs = true) (hrun : s.mss.run ≠ .none)
    (hmss : s.mss.halted = false) (hidle : s.mod.answer = none) : execModbusSettingsApply s = .next (
      let t : State := { s with mss := { s.mss with modUp := true } }
      ((t.setFld 0x00640 7 0 (s.setting 1)).setFld 0x00640 11 8 (s.setting 2)).setFld 0x00640 13 12 (s.setting 3)) := by
  simp only [execModbusSettingsApply, hruns, hrun, hmss, hidle, Option.isSome_none, Bool.false_eq_true, reduceCtorEq,
    or_self, if_false]
  rfl

/-- Settles O17: each step of the boot by the guards of its row. -/
theorem bootSteps : Obligations.BootSteps := by
  refine ⟨fun s vbat hup hboot hrun => ⟨execFirmwareVerified_of_slotA vbat hup hboot hrun,
      execFirmwareVerified_of_slotB vbat hup hboot hrun, execFirmwareVerified_of_oxbow vbat hup hboot hrun⟩,
    fun s hup hboot hrun hmss => ⟨fun h => ?_, execBootImageVerified_of_slots hup hboot hrun hmss, ?_⟩,
    fun _ src im => State.bootImage_of_hold src im, fun _ => execRingImageTimeout_of_boot,
    fun _ => execModbusSettingsApply_of_ready⟩
  · exact ⟨_, execBootImageVerified_of_no_source hup hboot hrun hmss h, s.bootUnpitched_shows⟩
  · exact execBootImageVerified_of_ring hup hboot hrun hmss

end Sys2Proof.Machine
end

section
/-!
The entry of DEEP and the wake from it, instant by instant (R35, R40, R74, R90–R95).
-/
namespace Sys2Proof.Machine

theorem execDeepPrepared_of_asked {s : State} (hphase : s.sleep.phase = 1) (hup : s.down = false)
    (hdev : s.dev = s.sleep.origin) : execDeepPrepared s = .next (
      let t := (s.capStopAll.slcHaltAll.tenureOver).snapAll
      State.logRec { t with sleep := { t.sleep with phase := 2 } } 0x004 1 0 0) := by
  simp [execDeepPrepared, hphase, hup, hdev]
theorem execDeepPrepared_of_not {s : State} (h : s.sleep.phase ≠ 1 ∨ s.dev ≠ s.sleep.origin) :
    execDeepPrepared s = .next s := by
  rcases h with h | h <;> simp [execDeepPrepared, h]

section commit
variable {s : State} {asserted : Nat} (hphase : s.sleep.phase = 2) (hup : s.down = false) (hdev : s.dev = s.sleep.origin)
include hphase hup hdev

theorem execDeepCommit_of_source (h : s.wakeSet asserted true ≠ 0) : execDeepCommit asserted s =
    .next (State.setFld { s with sleep := { s.sleep with phase := 0 } } SYS_SLEEP_STAT 3 0 5) := by
  simp [execDeepCommit, hphase, hup, hdev, h]
theorem execDeepCommit_of_quiet (h : s.wakeSet asserted true = 0) : execDeepCommit asserted s = .next (
    let t : State := { s with sleep := { s.sleep with phase := 3, limit := 0 } }
    s.observe ((t.setReg SYS_WAKE_CAUSE 0).setDev .deep 6).islandsOff) := by
  simp [execDeepCommit, hphase, hup, hdev, h]

end commit

theorem execDeepCommit_of_not {s : State} (asserted : Nat) (h : s.sleep.phase ≠ 2 ∨ s.dev ≠ s.sleep.origin) :
    execDeepCommit asserted s = .next s := by
  rcases h with h | h <;> simp [execDeepCommit, h]
theorem execDeepRetain_of_committed {s : State} (h : s.sleep.phase = 3) : execDeepRetain s = .next (
    let t := ((s.wdgPause.setBit SYS_CLKSTAT 1 false).setDisc false).setBit RNG_STAT 2 false
    { t with sleep := { t.sleep with phase := 4 } }) := by
  simp [execDeepRetain, h]
theorem execDeepRetain_of_not {s : State} (h : s.sleep.phase ≠ 3) : execDeepRetain s = .next s := by
  simp [execDeepRetain, h]

/-- What wakes the module: the enabled sources and, as bit 15 of SYS_WAKE_CAUSE, a SAFE limit that DEEP has kept (R95). -/
def State.deepSources (s : State) (sources : Nat) : Nat :=
  s.wakeSet sources true + 32768 * (if s.sleep.limit = 0 then 0 else 1)
theorem execDeepWake_eq (s : State) (sources : Nat) : execDeepWake sources s =
    if s.dev ≠ .deep ∨ s.deepSources sources = 0 then .next s else .next (
      let t := ((s.setReg SYS_WAKE_CAUSE (toWord ((s.reg SYS_WAKE_CAUSE).toNat ||| s.deepSources sources))).setBit
        SYS_WAKE_CAUSE 16 true).setBit SYS_CLKSTAT 1 true
      { t with sleep := { t.sleep with phase := 5 } }) := by
  have hsrc : s.wakeSet sources true + 32768 * b2n (decide (s.sleep.limit ≠ 0)) = s.deepSources sources := by
    unfold State.deepSources
    by_cases h : s.sleep.limit = 0 <;> simp [h, b2n]
  simp only [execDeepWake, hsrc]

theorem execWakeCoreRunning_of_woken {s : State} (h : s.sleep.phase = 5) : execWakeCoreRunning s = .next (
    let a : State := { s with sleep := { s.sleep with phase := 6, limit := 0 } }
    let b := (a.setDev (if s.sleep.origin = .pitched then .pitching else .unpitched) 0xFF).wdgResume
    let c := b.logRec 0x004 1 (b.reg SYS_WAKE_CAUSE) 0
    if s.sleep.limit = 0 then c else c.safeCause s.sleep.limit (if s.sleep.limit = 5 then c.sensor 0 else 0)) := by
  by_cases hlimit : s.sleep.limit = 0 <;> simp [execWakeCoreRunning, h, hlimit, State.when]
theorem execWakeCoreRunning_of_not {s : State} (h : s.sleep.phase ≠ 5) : execWakeCoreRunning s = .next s := by
  simp [execWakeCoreRunning, h]

section scrub
variable {s : State} (hphase : s.sleep.phase = 6) (hup : s.down = false)
include hphase hup

theorem execWakeScrubDone_of_unpitched (ue : Option Nat) (h : s.dev ≠ .pitching) :
    execWakeScrubDone ue s = .next (s.islandsOn 0) := by
  simp [execWakeScrubDone, hphase, hup, h]
theorem execWakeScrubDone_of_sound (h : s.dev = .pitching) (hbad : s.cfg.bad = []) :
    execWakeScrubDone none s = .next (s.islandsOn 7) := by
  simp [execWakeScrubDone, hphase, hup, h, hbad]
theorem execWakeScrubDone_of_bad (h : s.dev = .pitching) (hbad : s.cfg.bad ≠ []) :
    execWakeScrubDone none s = .next (s.wakeUnpitched.islandsOn 0) := by
  simp [execWakeScrubDone, hphase, hup, h, hbad]
theorem execWakeScrubDone_of_uncorrectable (h : s.dev = .pitching) (a : Nat) :
    execWakeScrubDone (some a) s = .next (((s.cfgUe a).wakeUnpitched).islandsOn 0) := by
  simp [execWakeScrubDone, hphase, hup, h]

end scrub

theorem State.saf_foldl {α : Type} (f : State → α → State) (h : ∀ s x, (f s x).saf = s.saf) (l : List α) (s : State) :
    (l.foldl f s).saf = s.saf :=
  List.foldlRecOn (motive := fun t => t.saf = s.saf) l f rfl fun t ht x _ => (h t x).trans ht
theorem State.saf_unstructureAll (s : State) : s.unstructureAll.saf = s.saf := by
  simp [State.unstructureAll, State.saf_foldl]
theorem State.saf_clearImg (s : State) : s.clearImg.saf = s.saf := by
  simp only [State.clearImg, State.saf_foldl, State.setReg_fields, implies_true]
theorem State.armed_disarm (s : State) : s.disarm.saf.armed = false := by
  simp [State.disarm, State.saf_foldl]
theorem State.wakeUnpitched_shows (s : State) :
    s.wakeUnpitched.dev = .unpitched ∧ s.wakeUnpitched.saf.armed = false ∧ s.wakeUnpitched.cfg.img = none := by
  simp [State.wakeUnpitched, State.dropRing, State.saf_clearImg, State.saf_unstructureAll, State.armed_disarm,
    CfgSram.reset]

theorem execWakeComplete_of_structured {s : State} (hphase : s.sleep.phase = 7) (hdev : s.dev = .pitching)
    (hdone : ∀ i, s.structureDone i = true) : execWakeComplete s = .next (
      let a := State.setDev { s with sleep := { s.sleep with phase := 0 } } .pitched 0xFF
      let b := (List.finRange 8).foldl (fun s x => (s.setBit (POS x 2) 1 false).axisRestore x) a
      (s.observe ((State.fire { b with load := LoadSt.reset } 454 0).fire 453 0)).persFresh) := by
  simp [execWakeComplete, hphase, hdev, hdone]
theorem execWakeComplete_of_not {s : State}
    (h : s.sleep.phase ≠ 7 ∨ s.dev ≠ .pitching ∨ ∃ i, s.structureDone i = false) : execWakeComplete s = .next s := by
  rcases h with h | h | ⟨i, h⟩
  · simp [execWakeComplete, h]
  · simp [execWakeComplete, h]
  · have hall : (List.finRange 8).all s.structureDone = false :=
      List.all_eq_false.mpr ⟨i, List.mem_finRange i, by simp [h]⟩
    simp [execWakeComplete, hall]

/-- Settles O46: each instant of the entry and of the wake by the guard of its row. -/
theorem deepSteps : Obligations.DeepSteps := by
  refine ⟨fun _ => execDeepPrepared_of_asked, fun _ => execDeepPrepared_of_not,
    fun _ _ hphase hup hdev => ⟨execDeepCommit_of_source hphase hup hdev, execDeepCommit_of_quiet hphase hup hdev⟩,
    fun _ asserted => execDeepCommit_of_not asserted, fun _ => execDeepRetain_of_committed, fun _ => execDeepRetain_of_not,
    fun s sources w hdev hw => ⟨fun h0 => ?_, fun h0 => ?_⟩, fun _ => execWakeCoreRunning_of_woken,
    fun _ => execWakeCoreRunning_of_not, fun s ue hphase hup => ⟨execWakeScrubDone_of_unpitched hphase hup ue, ?_, ?_, ?_⟩,
    State.wakeUnpitched_shows, fun _ => execWakeComplete_of_structured, fun _ => execWakeComplete_of_not⟩
  · subst hw
    exact (execDeepWake_eq s sources).trans (if_pos (.inr h0))
  · subst hw
    exact (execDeepWake_eq s sources).trans (if_neg (not_or.mpr ⟨not_not.mpr hdev, h0⟩))
  · rintro h rfl hbad
    exact execWakeScrubDone_of_sound hphase hup h hbad
  · rintro h rfl hbad
    exact execWakeScrubDone_of_bad hphase hup h hbad
  · rintro a h rfl
    exact execWakeScrubDone_of_uncorrectable hphase hup h a

end Sys2Proof.Machine
end

section
/-!
The outputs of the safety kernels at the island (R27, R28, R329, R359, R362): what such a cell delivers, and what a downlink
frame, a missing subframe and a link timeout leave of the kernels' commands.
-/
namespace Sys2Proof.Machine

/-- No trigger that the island applies itself is active on a cell with a record: APPLY_SAFE, the link timeout, a low field
supply that the cell needs, or a latched fault (R359, R360). -/
def Isl.untriggered (x : Isl) (k : Fin 4) (r : Bytes) : Prop :=
  x.cells[k.val].appl = false ∧ x.tmo = false ∧ x.cells[k.val].lat5 = false ∧ x.cells[k.val].lat6 = false ∧
    (needsVfld r = true → x.vlow = false)
/-- Both kernels' latest commands energise the cell (R329). -/
def Isl.commanded (x : Isl) (k : Fin 4) : Bool := x.cells[k.val].cmdA && x.cells[k.val].cmdB

section owned
variable {x : Isl} {k : Fin 4} {b : Bytes} (hstore : x.store = some b) (howner : u8 (slice b (48 + 80 * k.val) 80) 2 = 3)
include hstore howner

/-- The one value that a kernels' cell can deliver, and all that it takes to deliver it. -/
theorem Isl.of_drive_ne_none (h : x.drive k ≠ none) : x.up = true ∧ x.commanded k = true ∧
    x.untriggered k (slice b (48 + 80 * k.val) 80) ∧ x.drive k = some 1 := by
  simp only [Isl.drive, hstore, howner, if_true] at h ⊢
  split_ifs at h ⊢ with hdead htrig hcmd
  · exact absurd rfl h
  · exact absurd rfl h
  · obtain ⟨hup, -⟩ := not_or.mp hdead
    simp only [Bool.not_eq_true, Bool.or_eq_false_iff, Bool.and_eq_false_iff] at htrig
    obtain ⟨⟨⟨⟨happl, htmo⟩, hvlow⟩, hlat5⟩, hlat6⟩ := htrig
    have hvfld (hneeds : needsVfld (slice b (48 + 80 * k.val) 80) = true) : x.vlow = false :=
      hvlow.resolve_right (by simp [hneeds])
    exact ⟨Bool.eq_true_of_not_eq_false hup, hcmd, ⟨happl, htmo, hlat5, hlat6, hvfld⟩, rfl⟩
  · exact absurd rfl h
theorem Isl.drive_of_not_commanded (h : x.commanded k = false) : x.drive k = none := by
  by_contra hne
  obtain ⟨-, hcmd, -⟩ := Isl.of_drive_ne_none hstore howner hne
  simp [h] at hcmd
theorem Isl.drive_of_tmo (h : x.tmo = true) : x.drive k = none := by
  by_contra hne
  obtain ⟨-, -, ⟨-, htmo, -⟩, -⟩ := Isl.of_drive_ne_none hstore howner hne
  simp [h] at htmo

end owned

section frame
variable (x : Isl) (i : Fin 8) (bs : Bytes) (now : RingTime) (k : Fin 4)

theorem Cell.kernel_cmdA (c : Cell) (isB good : Bool) (data : Nat) :
    (c.kernel isB good data k now).cmdA = if isB then c.cmdA else good && data.testBit k.val := by
  cases isB <;> rfl
theorem Cell.kernel_cmdB (c : Cell) (isB good : Bool) (data : Nat) :
    (c.kernel isB good data k now).cmdB = if isB then good && data.testBit k.val else c.cmdB := by
  cases isB <;> rfl
/-- A command of SK-A lives as long as good subframes renew it: one that is bad, repeats its LIFE or has the bit clear
takes it back (R329). -/
theorem Isl.safety_cmdA : (x.safety i bs now).cells[k.val].cmdA =
    (subTake false false i.val (frameSafA bs)).any fun v => lifeOk x.lifeA v.1 && v.2.testBit k.val := by
  simp only [Isl.safety, Vector.getElem_ofFn, Cell.kernel_cmdA, if_true, Bool.false_eq_true, if_false]
  cases subTake false false i.val (frameSafA bs) with
  | none => rfl
  | some v => cases h : lifeOk x.lifeA v.1 <;> simp [Option.filter, h]
theorem Isl.safety_cmdB : (x.safety i bs now).cells[k.val].cmdB =
    (subTake false true i.val (frameSafB bs)).any fun v => lifeOk x.lifeB v.1 && v.2.testBit k.val := by
  simp only [Isl.safety, Vector.getElem_ofFn, Cell.kernel_cmdB, if_true]
  cases subTake false true i.val (frameSafB bs) with
  | none => rfl
  | some v => cases h : lifeOk x.lifeB v.1 <;> simp [Option.filter, h]

theorem Cell.release_cmds (c : Cell) (host : Bool) :
    (c.release host).cmdA = c.cmdA ∧ (c.release host).cmdB = c.cmdB := by
  unfold Cell.release
  split <;> exact ⟨rfl, rfl⟩
theorem Cell.take_cmds (c : Cell) (d : DnFrame) : (c.take d k).cmdA = c.cmdA ∧ (c.take d k).cmdB = c.cmdB := by
  unfold Cell.take
  split
  · exact c.release_cmds true
  · exact ⟨rfl, rfl⟩
theorem Isl.endPulses_keeps : x.endPulses.store = x.store ∧ x.endPulses.commanded k = x.commanded k := by
  refine ⟨rfl, ?_⟩
  simp only [Isl.endPulses, Isl.commanded, Vector.getElem_ofFn]
  split <;> rfl
theorem Isl.lockStep_keeps (good : Bool) :
    (x.lockStep good).store = x.store ∧ (x.lockStep good).commanded k = x.commanded k := by
  unfold Isl.lockStep
  split_ifs <;> exact ⟨rfl, rfl⟩
theorem Isl.cfg_keeps (d : DnFrame) : (x.cfg d).store = x.store ∧ (x.cfg d).commanded k = x.commanded k := by
  dsimp only [Isl.cfg]
  split_ifs <;> exact ⟨rfl, rfl⟩
/-- The outputs and the decimator resets of a good downlink frame: the first part of what `obey` does. -/
def Isl.takeOutputs (x : Isl) (d : DnFrame) : Isl :=
  { x with cells := Vector.ofFn fun (k : Fin 4) =>
    let c := x.cells[k.val].take d k
    if d.rstMask.testBit (3 - k.val) then { c with srst := some d.rstEdge } else c }
theorem Isl.obey_eq (d : DnFrame) : x.obey d = { ((x.takeOutputs d).cfg d).endPulses with dnErr := false } := rfl
theorem Isl.takeOutputs_commanded (d : DnFrame) : (x.takeOutputs d).commanded k = x.commanded k := by
  obtain ⟨hA, hB⟩ := Cell.take_cmds k x.cells[k.val] d
  simp only [Isl.takeOutputs, Isl.commanded, Vector.getElem_ofFn]
  split <;> simp only [hA, hB]
theorem Isl.obey_keeps (d : DnFrame) : (x.obey d).store = x.store ∧ (x.obey d).commanded k = x.commanded k := by
  obtain ⟨hestore, hecmd⟩ := ((x.takeOutputs d).cfg d).endPulses_keeps k
  obtain ⟨hcstore, hccmd⟩ := (x.takeOutputs d).cfg_keeps k d
  rw [Isl.obey_eq]
  exact ⟨hestore.trans hcstore, (hecmd.trans hccmd).trans (x.takeOutputs_commanded k d)⟩
/-- Beyond the subframes, a received frame changes neither the structure nor a kernel's command. -/
theorem Isl.receive_keeps : (x.receive i bs now).store = x.store ∧
    (x.receive i bs now).commanded k = (x.safety i bs now).commanded k := by
  dsimp only [Isl.receive]
  split_ifs
  · exact (x.safety i bs now).lockStep_keeps k _
  · exact (x.safety i bs now).obey_keeps k _
  · exact (x.safety i bs now).endPulses_keeps k

/-- A subframe, as its CRC lets it through, that gives a cell no command: its LIFE repeats, or it has the cell's bit clear. -/
def noCommand (last : Option Nat) (sub : Option (Nat × Nat)) : Prop :=
  ∀ v, sub = some v → lifeOk last v.1 = false ∨ v.2.testBit k.val = false
theorem any_eq_false_of_noCommand {last : Option Nat} {sub : Option (Nat × Nat)} (h : noCommand k last sub) :
    (sub.any fun v => lifeOk last v.1 && v.2.testBit k.val) = false := by
  cases sub with
  | none => rfl
  | some v => rcases h v rfl with h | h <;> simp [h]
theorem Isl.safety_not_commanded (h : noCommand k x.lifeA (subTake false false i.val (frameSafA bs)) ∨
    noCommand k x.lifeB (subTake false true i.val (frameSafB bs))) : (x.safety i bs now).commanded k = false := by
  rw [Isl.commanded, Isl.safety_cmdA, Isl.safety_cmdB, Bool.and_eq_false_iff]
  exact h.imp (any_eq_false_of_noCommand k) (any_eq_false_of_noCommand k)

end frame

theorem State.isl_setIsl_same (s : State) (i : Fin 8) (f : Isl → Isl) : (s.setIsl i f).isl i = f (s.isl i) := by
  simp [State.isl, State.setIsl, updV]
/-- The loss of a kernel's subframes takes its commands back (R329). -/
theorem subframeLoss_uncommands {s t : State} {i : Fin 8} {isB : Bool} (ht : execIslandSubframeLoss i isB s = .next t)
    (k : Fin 4) : (t.isl i).store = (s.isl i).store ∧ (t.isl i).commanded k = false := by
  cases ht
  rw [State.isl_setIsl_same]
  cases isB <;> simp [Isl.commanded]
/-- An island with a structure marks the loss of its link, whose safe states it then applies itself (R330). -/
theorem linkTimeout_marks {s t : State} {i : Fin 8} (hup : (s.isl i).up = true) (hlock : (s.isl i).iLock = true)
    (ht : execIslandLinkTimeout i s = .next t) :
    (t.isl i).store = (s.isl i).store ∧ (t.isl i).tmo = (s.isl i).store.isSome := by
  simp only [execIslandLinkTimeout, hup, hlock, Bool.true_eq_false, or_self, if_false] at ht
  cases ht
  rw [State.isl_setIsl_same]
  exact ⟨rfl, rfl⟩

/-- Settles O39: a cell owned by the kernels delivers nothing without both commands or with a trigger of its own. -/
theorem safetyOutputs : Obligations.SafetyOutputs := by
  refine ⟨fun x k b hstore howner hdrive => ?_, fun x i k b bs now hstore howner hbad => ?_,
    fun s t i k b hstore howner hloss => ?_⟩
  · obtain ⟨hup, hcmd, ⟨happl, htmo, hlat5, hlat6, hvlow⟩, hone⟩ := Isl.of_drive_ne_none hstore howner hdrive
    obtain ⟨hA, hB⟩ := Bool.and_eq_true_iff.mp hcmd
    exact ⟨hup, hA, hB, happl, htmo, hlat5, hlat6, hvlow, hone⟩
  · have hcmd := x.safety_not_commanded i bs now k hbad
    obtain ⟨hrstore, hrcmd⟩ := x.receive_keeps i bs now k
    exact ⟨Isl.drive_of_not_commanded (x := x.safety i bs now) hstore howner hcmd,
      Isl.drive_of_not_commanded (hrstore.trans hstore) howner (hrcmd.trans hcmd)⟩
  · rcases hloss with ⟨isB, ht⟩ | ⟨hup, hlock, ht⟩
    · obtain ⟨htstore, hcmd⟩ := subframeLoss_uncommands ht k
      exact Isl.drive_of_not_commanded (htstore.trans hstore) howner hcmd
    · obtain ⟨htstore, htmo⟩ := linkTimeout_marks hup hlock ht
      exact Isl.drive_of_tmo (htstore.trans hstore) howner (by rw [htmo, hstore]; rfl)

end Sys2Proof.Machine
end

section
/-!
The release of a held hub: the straps' majority, the cause that it tells, and the boot that Ember counts (R55, R67,
R104–R107).
-/
namespace Sys2Proof.Machine

section strap
variable (a b c : Nat)

/-- At least two of three samples show a strap set (R55). -/
def strapMajority (k : Nat) : Bool :=
  (a.testBit k && b.testBit k) || (a.testBit k && c.testBit k) || (b.testBit k && c.testBit k)
theorem strap_eq (k : Nat) : strap a b c k = if strapMajority a b c k then 2 ^ k else 0 := by
  unfold strap strapMajority
  cases a.testBit k <;> cases b.testBit k <;> cases c.testBit k <;> rfl

/-- The sum of the first `n` straps is below bit `n`, and each of its bits is that strap's majority. -/
theorem sum_strap_bits (n : Nat) : (List.range n).foldl (fun m k => m + strap a b c k) 0 < 2 ^ n ∧
    ∀ k < n, ((List.range n).foldl (fun m k => m + strap a b c k) 0).testBit k = strapMajority a b c k := by
  induction n with
  | zero => simp
  | succ n ih =>
    obtain ⟨hlt, hbits⟩ := ih
    rw [List.range_succ, List.foldl_append]
    generalize (List.range n).foldl (fun m k => m + strap a b c k) 0 = m at hlt hbits
    simp only [List.foldl_cons, List.foldl_nil, strap_eq]
    refine ⟨by split <;> omega, fun k hk => ?_⟩
    cases hmaj : strapMajority a b c n with
    | false =>
      rcases Nat.lt_succ_iff_lt_or_eq.mp hk with hk | rfl
      · exact hbits k hk
      · simpa [hmaj] using Nat.testBit_lt_two_pow hlt
    | true =>
      rw [if_pos rfl, Nat.add_comm]
      rcases Nat.lt_succ_iff_lt_or_eq.mp hk with hk | rfl
      · rw [Nat.testBit_two_pow_add_gt hk]
        exact hbits k hk
      · rw [Nat.testBit_two_pow_add_eq, Nat.testBit_lt_two_pow hlt, hmaj]
        rfl
theorem bitOf_strapWord {k : Nat} (hk : k < 5) : bitOf (strapWord a b c) k = strapMajority a b c k := by
  obtain ⟨hlt, hbits⟩ := sum_strap_bits a b c 5
  unfold bitOf strapWord toWord
  rw [BitVec.getLsbD_ofNat, decide_eq_true (by omega : k < 24), Bool.true_and, Nat.add_comm,
    show (256 : Nat) = 2 ^ 8 from rfl, Nat.testBit_two_pow_mul_add _ (by omega), if_pos (by omega)]
  exact hbits k hk

end strap

theorem State.ember_setDev_of_quiet {s : State} (d : Dev) (n : Nat) (h : s.mss.run = .none) :
    (s.setDev d n).ember = s.ember := by
  rw [State.setDev_quiet _ _ _ h]
theorem EmberSt.release_of_valid {e : EmberSt} (cause : Nat) (hlow : e.low = false) (hcrc : e.crcOk = true) :
    e.release cause =
      { e with valid := true, bootCnt := e.bootCnt + 1, prevCause := cause, powerOn := false, lostSnaps := 0 } := by
  simp [EmberSt.release, hlow, hcrc]

theorem execHubResetRelease_of_waiting {s : State} (a b c : Nat) (h : s.hold.held = false ∨ s.hold.railsOk = false) :
    execHubResetRelease a b c s = .next s :=
  if_pos h
/-- The cause that the release tells: POWER_ON and SUPPLY are told apart by Ember's content and its flag (R104). -/
def State.releaseCause (s : State) : Nat :=
  if s.hold.cause ≤ 2 then (if (!s.ember.low && s.ember.crcOk) = false ∨ s.ember.powerOn = true then 1 else 2)
  else s.hold.cause
/-- The firmware does not run yet, so the entry of BOOT writes no record and leaves Ember as released. -/
theorem execHubResetRelease_of_ready {s : State} (a b c : Nat) (hheld : s.hold.held = true) (hrails : s.hold.railsOk = true)
    (hrun : s.mss.run = .none) : ∃ t, execHubResetRelease a b c s = .next t ∧ t.dev = .boot ∧ t.upUs = 0 ∧
      t.pending = s.pending ∧ t.flash = s.flash ∧
      t.hold = { s.hold with held := false, xferNext := 0, cause := s.releaseCause } ∧
      t.ember = s.ember.release s.releaseCause := by
  refine ⟨_, if_neg (by simp [hheld, hrails]), ?_⟩
  simp [State.ember_setDev_of_quiet, hrun, State.releaseCause]

/-- Settles O11: the release by its guard and by what Ember holds, each strap by the sum of the majorities. -/
theorem resetRelease : Obligations.ResetRelease := by
  refine ⟨fun _ => rfl, fun _ a b c => execHubResetRelease_of_waiting a b c, fun s a b c hheld hrails hrun => ?_,
    fun _ cause => EmberSt.release_of_valid cause, fun a b c _ => bitOf_strapWord a b c⟩
  obtain ⟨t, hexec, hdev, hup, hpending, hflash, hhold, hember⟩ := execHubResetRelease_of_ready a b c hheld hrails hrun
  have hcause : t.hold.cause = s.releaseCause := by rw [hhold]
  exact ⟨t, hexec, hdev, hup, hpending, hflash, by rw [hcause, hhold], hcause, by rw [hcause, hember]⟩

end Sys2Proof.Machine
end

section
/-!
The power transfers of the islands and the flags of their field supplies (R60, R73, R74, R77).
-/
namespace Sys2Proof.Machine

theorem execTransferStart_of_next {s : State} {i : Fin 8} (hnext : s.hold.xferNext = i.val) (hheld : s.hold.held = false)
    (hoff : s.dev ≠ .off) (hdeep : s.dev ≠ .deep) : execTransferStart s =
      .next (State.xferOn { s with hold := { s.hold with xferNext := i.val + 1 } } i) := by
  simp [execTransferStart, hnext, hheld, hoff, hdeep]
theorem execTransferStart_of_not {s : State}
    (h : 8 ≤ s.hold.xferNext ∨ s.hold.held = true ∨ s.dev = .off ∨ s.dev = .deep) : execTransferStart s = .next s := by
  by_cases hleft : s.hold.xferNext < 8
  · exact (dif_pos hleft).trans (if_pos (h.resolve_left (by omega)))
  · exact dif_neg hleft
theorem execTransferLimitShutdown_of_on {s : State} (i : Fin 8) (h : s.bit (ISL i 1) 0 = true) :
    execTransferLimitShutdown i s =
      .next (((s.setBit (ISL i 1) 0 false).setBit (ISL i 1) 1 true).setIsl i Isl.powerDown) :=
  if_pos h
theorem execTransferLimitShutdown_of_off {s : State} (i : Fin 8) (h : s.bit (ISL i 1) 0 = false) :
    execTransferLimitShutdown i s = .next s :=
  if_neg (by simp [h])
theorem execTransferRetry_of_limited {s : State} (i : Fin 8) (h : s.bit (ISL i 1) 1 = true) :
    execTransferRetry i s = .next (s.xferOn i) :=
  congrArg Host.Outcome.next (if_pos h)

@[simp] theorem State.isl_setFld (s : State) (a hi lo v : Nat) (i : Fin 8) : (s.setFld a hi lo v).isl i = s.isl i := rfl
@[simp] theorem State.isl_setBit (s : State) (a b : Nat) (v : Bool) (i : Fin 8) : (s.setBit a b v).isl i = s.isl i := rfl
theorem State.isl_setIsl_other (s : State) {i j : Fin 8} (f : Isl → Isl) (h : j ≠ i) : (s.setIsl i f).isl j = s.isl j :=
  Vector.getElem_set_ne i.isLt j.isLt fun e => h (Fin.ext e.symm)
theorem Isl.powerUp_starts (x : Isl) (rung : Nat) : (x.powerUp rung).up = true ∧ (x.powerUp rung).store = none ∧
    (x.powerUp rung).iLock = false ∧ (x.powerUp rung).rung = rung :=
  ⟨rfl, rfl, rfl, rfl⟩
theorem Isl.powerDown_forgets (x : Isl) :
    x.powerDown.up = false ∧ x.powerDown.store = none ∧ x.powerDown.words = [] ∧ x.powerDown.fpwr = false :=
  ⟨rfl, rfl, rfl, rfl⟩

section xferOn
variable (s : State) (i : Fin 8)

/-- The transfer's on bit is set and its limit bit is cleared; the rung stands in another register of the block. -/
theorem State.bit_xferOn : (s.xferOn i).bit (ISL i 1) 0 = true ∧ (s.xferOn i).bit (ISL i 1) 1 = false := by
  have hother : ISL i 1 ≠ ISL i 0 := by simp [ISL]
  simp [State.xferOn, State.bit_setFld, State.bit_setBit, hother]
theorem State.isl_xferOn : (s.xferOn i).isl i =
    if (s.isl i).up then { s.isl i with fpwr := false, rung := 3, next := 3, ann := 0 } else (s.isl i).powerUp 3 := by
  unfold State.xferOn
  rw [State.isl_setIsl_same, State.isl_setFld, State.isl_setBit, State.isl_setBit]
theorem State.isl_xferOn_other {j : Fin 8} (h : j ≠ i) : (s.xferOn i).isl j = s.isl j := by
  unfold State.xferOn
  rw [State.isl_setIsl_other _ _ h, State.isl_setFld, State.isl_setBit, State.isl_setBit]
theorem State.up_xferOn : ((s.xferOn i).isl i).up = true := by
  rw [State.isl_xferOn]
  split
  · assumption
  · rfl
theorem State.isl_xferOn_of_unsupplied (h : (s.isl i).up = false) : (s.xferOn i).isl i = (s.isl i).powerUp 3 := by
  rw [State.isl_xferOn, if_neg (by simp [h])]

end xferOn

/-- The flags of an island's field supply, and its supplies' test pulses, after its monitor has changed (R73). -/
def Isl.vfldLevel (x : Isl) (low high : Bool) (now : RingTime) : Isl :=
  { x with
    vlow := low, vhigh := high && !low, vfldAt := now
    cells := x.cells.map fun c => if low then { c with stp := 0, stpWait := false } else c }
theorem Isl.vfldLevel_cell (x : Isl) (low high : Bool) (now : RingTime) (k : Fin 4) :
    (x.vfldLevel low high now).cells[k.val] =
      if low then { x.cells[k.val] with stp := 0, stpWait := false } else x.cells[k.val] :=
  Vector.getElem_map ..
theorem State.setIsl_eq_of_isl_eq {s : State} {i : Fin 8} {f g : Isl → Isl} (h : f (s.isl i) = g (s.isl i)) :
    s.setIsl i f = s.setIsl i g := by
  unfold State.setIsl updV
  rw [show f s.isls[i.val] = g s.isls[i.val] from h]
theorem State.setIsl_id (s : State) (i : Fin 8) : s.setIsl i id = s := by
  simp [State.setIsl, updV]
theorem execVfldLevelChange_of_supplied {s : State} {i : Fin 8} (low high : Bool) (h : (s.isl i).up = true) :
    execVfldLevelChange i low high s = .next (s.setIsl i fun x => x.vfldLevel low high s.time) :=
  congrArg Host.Outcome.next (State.setIsl_eq_of_isl_eq (if_pos h))
theorem execVfldLevelChange_of_unsupplied {s : State} {i : Fin 8} (low high : Bool) (h : (s.isl i).up = false) :
    execVfldLevelChange i low high s = .next s :=
  congrArg Host.Outcome.next ((State.setIsl_eq_of_isl_eq (if_neg (by simp [h]))).trans (s.setIsl_id i))

/-- Settles O13: each transfer by the guard of its row, and the supplied island by what `xferOn` makes of it. -/
theorem transferPower : Obligations.TransferPower := by
  refine ⟨fun _ _ => execTransferStart_of_next, fun _ => execTransferStart_of_not,
    fun _ i => execTransferLimitShutdown_of_on i, fun _ i => execTransferLimitShutdown_of_off i,
    fun _ i => execTransferRetry_of_limited i, fun s i => ?_, Isl.powerDown_forgets,
    fun s i low high hup => ⟨_, execVfldLevelChange_of_supplied low high hup, ?_⟩,
    fun _ _ low high => execVfldLevelChange_of_unsupplied low high⟩
  · obtain ⟨hon, hlimit⟩ := s.bit_xferOn i
    refine ⟨hon, hlimit, s.up_xferOn i, fun hdown => ?_, fun j => s.isl_xferOn_other i⟩
    obtain ⟨-, hstarts⟩ := (s.isl i).powerUp_starts 3
    rw [s.isl_xferOn_of_unsupplied i hdown]
    exact hstarts
  · rw [State.isl_setIsl_same]
    exact ⟨rfl, rfl, rfl, (s.isl i).vfldLevel_cell low high s.time, fun j => s.isl_setIsl_other _, rfl⟩

end Sys2Proof.Machine
end

section
/-!
The short management commands, each asked by the SUPERVISOR (R53, R572–R574, R580, R582, R608).
-/
namespace Sys2Proof.Machine

theorem toWord_toNat (w : Word) : toWord w.toNat = w := (BitVec.ofNat_toNat 24 w).trans (BitVec.setWidth_eq w)

section asked
variable {s : State} {p : Port}

theorem State.asks.served {code : Nat} {args : List Word} (h : s.asks p code args) : s.dev.served = true := by
  obtain ⟨hserves, -⟩ := h
  exact (Bool.and_eq_true_iff.mp hserves).2

section command
variable {code : Nat} {args : List Word} {long ok : Bool} {bad : Job → Option Nat} {body : Job → State → State}

/-- A command that passes the checks of R580 does what its body makes of the arguments: neither the role that it carries nor
an earlier claim counts any more. -/
theorem State.command_of_asks {t : State} (h : s.asks p code args) (hok : ok = true) (hbusy : (long && s.busyOp) = false)
    (hargs : ∀ role claim, bad ⟨code, args, role, false, claim⟩ = none)
    (hbody : ∀ role claim, body ⟨code, args, role, false, claim⟩ s = t) : s.command p code long bad ok body = t := by
  obtain ⟨hserves, role, claim, hrole, hjob⟩ := h
  exact (State.command_runs hserves hjob rfl rfl hrole (hargs role claim) hok hbusy).trans (hbody role claim)
theorem State.command_of_bad_args {k : Nat} (h : s.asks p code args)
    (hargs : ∀ role claim, bad ⟨code, args, role, false, claim⟩ = some k) :
    s.command p code long bad ok body = s.finish p stBadArgs [toWord k] := by
  obtain ⟨hserves, role, claim, hrole, hjob⟩ := h
  have hsuper : ¬ (role < 3 ∧ code ≠ 2 ∧ code ≠ 3) := by omega
  simp [State.command, hjob, hserves, hsuper, hargs]

end command

theorem execPoll_of_asks (h : s.asks p 0 []) : execPoll p s = .next (s.finish p
    (if (s.mbxOf p).lastStatus = 0 then stOK else (s.mbxOf p).lastStatus) (s.mbxOf p).lastRes) :=
  congrArg Host.Outcome.next (State.command_of_asks h h.served rfl (fun _ _ => rfl) fun _ _ => rfl)
theorem execInfo_of_asks (h : s.asks p 1 []) : execInfo p s = .next (s.finish p stOK s.infoWords) :=
  congrArg Host.Outcome.next (State.command_of_asks h h.served rfl (fun _ _ => rfl) fun _ _ => rfl)
theorem execReset_of_asks (h : s.asks p 4 [0x00A55A]) :
    execReset p s = .next ((s.setMss fun m => { m with resetDue := true }).finish p stOK []) :=
  congrArg Host.Outcome.next (State.command_of_asks h h.served rfl (fun _ _ => rfl) fun _ _ => rfl)
theorem execReset_of_wrong_key {x : Word} (hx : x ≠ 0x00A55A) (h : s.asks p 4 [x]) :
    execReset p s = .next (s.finish p stBadArgs [0]) := by
  have hkey : x.toNat ≠ 0x00A55A := fun e => hx (BitVec.eq_of_toNat_eq e)
  exact congrArg Host.Outcome.next (State.command_of_bad_args (k := 0) h fun _ _ => if_neg hkey)

section logRead
variable {x n m : Word} (h : s.asks p 0x50 [x, n, m]) (hn : 1 ≤ n.toNat ∧ n.toNat ≤ 8) (hm : m.toNat ≤ 255)
include h hn hm

theorem execLogRead_of_asks : execLogRead p s = .next (
    if s.logFind x.toNat n.toNat m.toNat = [] then s.finish p stNoRecord []
    else s.finish p stOK ((s.logFind x.toNat n.toNat m.toNat).flatMap LogRec.words)) := by
  refine congrArg Host.Outcome.next (State.command_of_asks h h.served rfl (fun _ _ => ?_) fun _ _ => rfl)
  simp [Job.count, Job.arg, hn, hm]
theorem execLogRead_of_none (hfind : s.logFind x.toNat n.toNat m.toNat = []) :
    execLogRead p s = .next (s.finish p stNoRecord []) := by
  rw [execLogRead_of_asks h hn hm, if_pos hfind]
theorem execLogRead_of_some (hfind : s.logFind x.toNat n.toNat m.toNat ≠ []) : execLogRead p s =
    .next (s.finish p stOK ((s.logFind x.toNat n.toNat m.toNat).flatMap LogRec.words)) := by
  rw [execLogRead_of_asks h hn hm, if_neg hfind]

end logRead

/-- The word that LOG_WRITE answers: the SEQ that the record takes, or that of the buffered record which it is folded into;
none when it is lost. -/
def State.logWriteSeq (s : State) (d0 : Word) : List Word :=
  if s.logRoom false then [s.ember.logSeq]
  else ((s.log.buf.find? fun r => decide (r.code = 0x701 ∧ r.d0 = d0)).map fun r => toWord r.seq).toList
theorem execLogWrite_of_asks {x y z : Word} (h : s.asks p 0x51 [x, y, z]) :
    execLogWrite p s = .next ((s.logRec 0x701 x y z).finish p stOK (s.logWriteSeq x)) := by
  refine congrArg Host.Outcome.next (State.command_of_asks h h.served rfl (fun _ _ => rfl) fun _ _ => ?_)
  simp [Job.arg, toWord_toNat, State.logWriteSeq]
theorem execLogWrite_of_room {x y z : Word} (h : s.asks p 0x51 [x, y, z]) (hroom : s.logRoom false = true) :
    execLogWrite p s = .next ((s.logRec 0x701 x y z).finish p stOK [s.ember.logSeq]) := by
  rw [execLogWrite_of_asks h, State.logWriteSeq, if_pos hroom]

theorem execSensorMinmax_of_asks {n : Fin 24} {f : Word} (h : s.asks p 0x52 [toWord n.val, f]) :
    execSensorMinmax p s = .next (
      let t := if f.toNat % 2 = 1 then s.setMss fun m =>
        { m with sensMin := updV m.sensMin n fun _ => 0, sensMax := updV m.sensMax n fun _ => 0 } else s
      t.finish p stOK [s.mss.sensMin[n.val], s.mss.sensMax[n.val]]) := by
  have hword : (toWord n.val).toNat = n.val := (BitVec.toNat_ofNat n.val 24).trans (Nat.mod_eq_of_lt (by omega))
  refine congrArg Host.Outcome.next (State.command_of_asks h h.served rfl (fun _ _ => ?_) fun _ _ => ?_)
  · simp [Job.count, Job.arg, hword, show n.val ≤ 23 by omega]
  · simp [Job.arg, hword, State.when]

theorem secondsBad_of_byte {code role claim : Nat} {taken : Bool} {x y : Word} (hy : y.toNat ≤ 255) :
    secondsBad ⟨code, [x, y], role, taken, claim⟩ = none :=
  if_pos hy
theorem execRtcSet_of_asks {x y : Word} (h : s.asks p 0x60 [x, y]) (hy : y.toNat ≤ 255)
    (hdev : s.dev.servedNotMaint = true) (hidle : s.busyOp = false) : execRtcSet p s = .next (State.finish { s with ember := { s.ember with
      sec := x.toNat + 16777216 * y.toNat, ms := 0, us := 0, rtcValid := s.ember.oscOk } } p stOK []) :=
  congrArg Host.Outcome.next
    (State.command_of_asks h hdev (by simp [hidle]) (fun _ _ => secondsBad_of_byte hy) fun _ _ => rfl)
theorem execRtcAlarm_of_asks {x y : Word} {n : Nat} (h : s.asks p 0x61 [x, y]) (hy : y.toNat ≤ 255)
    (hdev : s.dev.servedNotMaint = true) (hn : n = x.toNat + 16777216 * y.toNat) : execRtcAlarm p s =
      .next (State.finish { s with ember := { s.ember with alarm := n, alarmEn := decide (n ≠ 0) } } p stOK []) := by
  subst hn
  exact congrArg Host.Outcome.next
    (State.command_of_asks h hdev rfl (fun _ _ => secondsBad_of_byte hy) fun _ _ => rfl)

end asked

/-- Settles O56: each command passes the checks of R580, and its body is what the row says. -/
theorem mgmtCommands : Obligations.MgmtCommands :=
  ⟨fun _ _ => execPoll_of_asks, fun _ _ => execInfo_of_asks, fun _ _ => execReset_of_asks,
    fun _ _ _ => execReset_of_wrong_key,
    fun _ _ _ _ _ h hpos hle hm => ⟨execLogRead_of_none h ⟨hpos, hle⟩ hm, execLogRead_of_some h ⟨hpos, hle⟩ hm⟩,
    fun _ _ _ _ _ => execLogWrite_of_room, fun _ _ _ _ _ h => ⟨_, execLogWrite_of_asks h⟩,
    fun _ _ _ _ => execSensorMinmax_of_asks, fun _ _ _ _ => execRtcSet_of_asks,
    fun _ _ _ _ _ => execRtcAlarm_of_asks⟩

end Sys2Proof.Machine
end

section
/-!
The clocks' events: PLL-B and the ring ports, the halt of the MSS, and Ember's oscillator, supply switch and alarm (R80, R101,
R106, R566, R606–R608).
-/
namespace Sys2Proof.Machine

section hub
variable {s : State}

/-- Each ring port goes down by its own rule, east first, with the signal that it still detects (R80, R101). -/
def State.portsDown (s : State) : State :=
  let t := s.linkDown false (s.bit (RNG_LINK false) 3)
  t.linkDown true (t.bit (RNG_LINK true) 3)
theorem execPllbUnlock_of_locked (hdown : s.down = false) (hlocked : s.bit SYS_CLKSTAT 2 = true) :
    execPllbUnlock s = .next ((s.setBit SYS_CLKSTAT 2 false).portsDown.fire 451 0) :=
  if_neg (by simp [hdown, hlocked])
theorem execPllbUnlock_of_idle (h : s.down = true ∨ s.bit SYS_CLKSTAT 2 = false) : execPllbUnlock s = .next s :=
  if_pos h
theorem execRingForwardStart_of_up (h : s.down = false) : execRingForwardStart s =
    .next ((s.setBit SYS_CLKSTAT 2 true).setRing fun r => { r with forward := true }) :=
  if_neg (by simp [h])
theorem execMssSramUncorrectable_of_running (h : s.mss.run ≠ .none) :
    execMssSramUncorrectable s = .next (s.setMss fun m => { m with halted := true }) :=
  congrArg Host.Outcome.next (if_neg h)

end hub

section ember
variable {s : State}

theorem execEmberToVddio_of_onVbat (ok low : Bool) (h : s.ember.onVbat = true) : execEmberToVddio ok low s =
    .next (State.setBit { s with ember := { s.ember with onVbat := false, crcOk := ok, low := s.ember.low || low } }
      SYS_PWR_STAT 7 false) :=
  if_neg (by simp [h])
theorem execEmberToVddio_of_onVddio (ok low : Bool) (h : s.ember.onVbat = false) : execEmberToVddio ok low s = .next s :=
  if_pos h
/-- Ember after its power-on reset on VBAT: EMBER_LOW latched, all content cleared, and the oscillator and the latest CRC as
they were (R606). -/
def EmberSt.lostOnVbat (e : EmberSt) : EmberSt :=
  { EmberSt.reset with
    low := true, crcOk := e.crcOk, onVbat := true, oscOk := e.oscOk, bootCnt := 0, logSeq := 0, powerOn := true }
theorem execEmberLow_of_onVbat (lost : Bool) (h : s.ember.onVbat = true) : execEmberLow lost s =
    .next { s with ember := if lost then s.ember.lostOnVbat else { s.ember with low := true } } :=
  if_neg (by simp [h])
theorem execEmberLow_of_onVddio (lost : Bool) (h : s.ember.onVbat = false) : execEmberLow lost s = .next s :=
  if_pos h
theorem EmberSt.lostOnVbat_content (e : EmberSt) : e.lostOnVbat.low = true ∧ e.lostOnVbat.onVbat = true ∧
    e.lostOnVbat.rtcValid = false ∧ e.lostOnVbat.alarmEn = false ∧ ∀ a : Fin 8, e.lostOnVbat.snaps[a.val] = none :=
  ⟨rfl, rfl, rfl, rfl, fun a => Vector.getElem_replicate a.isLt⟩
theorem execRtcAlarmMatch_of_match (hen : s.ember.alarmEn = true) (hosc : s.ember.oscOk = true)
    (hsec : s.ember.sec = s.ember.alarm) : execRtcAlarmMatch s =
      .next { s with ember := { s.ember with alarmEn := false, alarmHit := true, alarm := 0 } } :=
  if_neg (by simp [hen, hosc, hsec])
theorem execRtcAlarmMatch_of_not (h : s.ember.alarmEn = false ∨ s.ember.oscOk = false ∨ s.ember.sec ≠ s.ember.alarm) :
    execRtcAlarmMatch s = .next s :=
  if_pos h

end ember

/-- Settles O15: each event by the guard of its row. -/
theorem clockEvents : Obligations.ClockEvents :=
  ⟨fun _ => execPllbUnlock_of_locked, fun _ => execPllbUnlock_of_idle, fun _ => execRingForwardStart_of_up,
    fun _ => rfl, fun _ => execMssSramUncorrectable_of_running, fun _ => rfl, fun _ => execEmberToVddio_of_onVbat,
    fun s hvbat => by
      obtain ⟨hlow, hon, hrtc, halarm, hsnaps⟩ := s.ember.lostOnVbat_content
      exact ⟨execEmberLow_of_onVbat false hvbat, _, execEmberLow_of_onVbat true hvbat, hlow, hon, hrtc, halarm, hsnaps, rfl⟩,
    fun _ hvddio => ⟨fun ok low => execEmberToVddio_of_onVddio ok low hvddio,
      fun lost => execEmberLow_of_onVddio lost hvddio⟩,
    fun _ => execRtcAlarmMatch_of_match, fun _ => execRtcAlarmMatch_of_not⟩

end Sys2Proof.Machine
end

section
/-!
The Headwater's own frames carry NODE_ID as their SRC (R231), and nothing but the reset release makes a Headwater's NODE_ID 0.
-/
namespace Sys2Proof.Machine

/-- A frame of the node's own takes the next SEQ, and keeps its SRC. -/
theorem numbered_cons_own (n : Nat) {f : RFrame} (fs : List RFrame) (h : f.hdr.relayed = false) :
    numbered n (f :: fs) = { f with hdr := { f.hdr with seq := n % 65536 } } :: numbered (n + 1) fs :=
  if_neg (by simp [h])
theorem State.tx_sendFrames_own (s : State) (west : Bool) {f : RFrame} (fs : List RFrame) (h : f.hdr.relayed = false) :
    (s.sendFrames west (f :: fs)).ring.tx = ⟨west, false, { f with hdr := { f.hdr with seq := s.ring.seqNo % 65536 } }⟩ ::
      (numbered (s.ring.seqNo + 1) fs).map fun f => ⟨west, false, f⟩ := by
  simp [State.sendFrames, numbered_cons_own _ _ h]
/-- The CYC with which a cycle's frames begin is from the node whose ID NODE_ID shows (R231, R233). -/
theorem State.tx_cycleSend (s : State) : ∃ x rest, s.cycleSend.ring.tx = x :: rest ∧ x.f.hdr.src = s.nodeId := by
  dsimp only [State.cycleSend, State.cycleFrames]
  exact ⟨_, _, State.tx_sendFrames_own _ (s.outWest true) _ rfl, rfl⟩
theorem execRingCycleStart_of_headwater {s : State} (hhead : s.headwater = true) (hconflict : s.bit RNG_STAT 4 = false)
    (hawake : s.asleep = false) (hforwards : s.forwards = true) (hrun : s.mss.run ≠ .none) :
    execRingCycleStart s = .next s.cycleBegin.cycleSend :=
  if_neg (by simp [hhead, hconflict, hawake, hforwards, hrun])

/-- A Headwater at the start of its first cycle whose RNG_STAT shows NODE_ID 1. -/
def headwaterOne : State :=
  { State.reset with
    regs := [(SYS_CLKSTAT, 4), (RNG_STAT, 0x21)]
    mss := { State.reset.mss with run := .slotA }
    ring := { State.reset.ring with forward := true } }
theorem headwaterOne_cycle_nodeId : headwaterOne.cycleBegin.nodeId = 1 := by decide

/-- Refutes O33: its first clause says that the Headwater's CYC has SRC 0, and no premise of it says that NODE_ID is 0. The CYC
has NODE_ID as its SRC, here 1. (A reset release gives a Headwater NODE_ID 0.) -/
theorem not_ringCycle : ¬ Obligations.RingCycle := by
  rintro ⟨hstart, -⟩
  obtain ⟨t, hexec, -, -, -, -, -, -, ⟨hdr, cyc, fs, htx, -, hsrc, -⟩, -⟩ := hstart headwaterOne (by decide) (by decide)
    (by decide) (by decide) (by decide) (by decide) (by decide) (by decide)
  have hrow : execRingCycleStart headwaterOne = .next headwaterOne.cycleBegin.cycleSend :=
    execRingCycleStart_of_headwater (by decide) (by decide) (by decide) (by decide) (by decide)
  obtain rfl : headwaterOne.cycleBegin.cycleSend = t := Host.Outcome.next.inj (hrow.symm.trans hexec)
  obtain ⟨x, rest, hx, hid⟩ := headwaterOne.cycleBegin.tx_cycleSend
  obtain ⟨rfl, -⟩ := List.cons.inj (htx.symm.trans hx)
  rw [headwaterOne_cycle_nodeId] at hid
  exact absurd (hsrc.symm.trans hid) (by decide)

end Sys2Proof.Machine
end

section
/-!
Numbers as bytes and back, parts of a byte string, and the bounds of the 16-bit CRCs (R325–R328).
-/
namespace Sys2Proof.Machine

@[simp] theorem length_beBytes (n x : Nat) : (beBytes n x).length = n := by
  induction n with
  | zero => rfl
  | succ n ih => simp [beBytes, ih]
theorem beNat_concat (bs : Bytes) (b : Byte) : beNat (bs ++ [b]) = beNat bs * 256 + b.toNat := by
  simp [beNat]
/-- The leading bytes of a number are those of the number without its last byte. -/
theorem beBytes_succ (n x : Nat) : beBytes (n + 1) x = beBytes n (x / 256) ++ [BitVec.ofNat 8 x] := by
  induction n with
  | zero => simp [beBytes]
  | succ n ih =>
    rw [beBytes, ih, beBytes, Nat.div_div_eq_div_mul, Nat.pow_succ']
    rfl
theorem beNat_beBytes (n x : Nat) : beNat (beBytes n x) = x % 256 ^ n := by
  induction n generalizing x with
  | zero => simp [beBytes, beNat, Nat.mod_one]
  | succ n ih =>
    rw [beBytes_succ, beNat_concat, ih, BitVec.toNat_ofNat, show 256 ^ (n + 1) = 256 * 256 ^ n from Nat.pow_succ',
      Nat.mod_mul, Nat.mul_comm, Nat.add_comm]
theorem beNat_beBytes_of_lt {n x : Nat} (h : x < 256 ^ n) : beNat (beBytes n x) = x := by
  rw [beNat_beBytes, Nat.mod_eq_of_lt h]

theorem slice_append {off n : Nat} {pre part : Bytes} (hpre : pre.length = off) (hpart : part.length = n) (post : Bytes) :
    slice (pre ++ (part ++ post)) off n = part := by
  subst hpre hpart
  simp [slice]
theorem slice_append_right {k : Nat} {pre : Bytes} (hpre : pre.length = k) (post : Bytes) (off n : Nat) :
    slice (pre ++ post) (k + off) n = slice post off n := by
  subst hpre
  rw [slice, ← List.drop_drop, List.drop_left, slice]
/-- A part of a byte string that lies within its leading part. -/
theorem slice_append_left {off n : Nat} {pre : Bytes} (h : off + n ≤ pre.length) (post : Bytes) :
    slice (pre ++ post) off n = slice pre off n := by
  unfold slice
  rw [List.drop_append_of_le_length (by omega), List.take_append_of_le_length (by rw [List.length_drop]; omega)]
/-- Of strings of one length in a row, each is found at its multiple of the length. -/
theorem slice_flatMap {α : Type} {f : α → Bytes} {n : Nat} (hf : ∀ x, (f x).length = n) (l : List α) (post : Bytes)
    {k : Nat} (hk : k < l.length) : slice (l.flatMap f ++ post) (n * k) n = f l[k] := by
  induction l generalizing k with
  | nil => simp at hk
  | cons x l ih =>
    cases k with
    | zero => simpa [List.flatMap_cons, List.append_assoc] using slice_append (pre := []) rfl (hf x) (l.flatMap f ++ post)
    | succ k =>
      rw [List.flatMap_cons, List.append_assoc, Nat.mul_succ, Nat.add_comm, slice_append_right (hf x)]
      exact ih _

theorem repeat_lt {m : Nat} {f : Nat → Nat} (hf : ∀ c < m, f c < m) (n : Nat) {c : Nat} (hc : c < m) :
    Nat.repeat f n c < m := by
  induction n with
  | zero => exact hc
  | succ n ih => exact hf _ ih
theorem crcStepL_lt {poly c : Nat} (hpoly : poly < 2 ^ 16) : crcStepL 16 poly c < 2 ^ 16 := by
  unfold crcStepL
  split
  · exact Nat.xor_lt_two_pow (Nat.mod_lt _ (by decide)) hpoly
  · exact Nat.mod_lt _ (by decide)
theorem crcL_lt {poly init : Nat} (hpoly : poly < 2 ^ 16) (hinit : init < 2 ^ 16) (bs : Bytes) :
    crcL 16 poly init bs < 2 ^ 16 :=
  List.foldlRecOn (motive := fun c => c < 2 ^ 16) bs _ hinit fun _ hc b _ =>
    repeat_lt (fun _ _ => crcStepL_lt hpoly) 8 (Nat.xor_lt_two_pow hc (by have := b.isLt; omega))
theorem crcStepR_lt {poly c : Nat} (hpoly : poly < 2 ^ 16) (hc : c < 2 ^ 16) : crcStepR poly c < 2 ^ 16 := by
  unfold crcStepR
  split
  · exact Nat.xor_lt_two_pow (by omega) hpoly
  · omega
theorem crcP_lt (bs : Bytes) : crcP bs < 2 ^ 16 := crcL_lt (by decide) (by decide) bs
theorem crcSkA_lt (bs : Bytes) : crcSkA bs < 2 ^ 16 := crcL_lt (by decide) (by decide) bs
theorem crcSkB_lt (bs : Bytes) : crcSkB bs < 2 ^ 16 := by
  refine Nat.xor_lt_two_pow (List.foldlRecOn (motive := fun c => c < 2 ^ 16) bs _ (by decide) fun c hc b _ => ?_) (by decide)
  exact repeat_lt (fun _ h => crcStepR_lt (by decide) h) 8 (Nat.xor_lt_two_pow hc (by have := b.isLt; omega))
/-- The check values of the three CRCs (R327). -/
theorem crc_check_values {ascii : Bytes} (h : ascii = [0x31, 0x32, 0x33, 0x34, 0x35, 0x36, 0x37, 0x38, 0x39]) :
    crcP ascii = 0x29B1 ∧ crcSkA ascii = 0xD0DB ∧ crcSkB ascii = 0xEA82 := by
  subst h
  decide +kernel

end Sys2Proof.Machine
end

section
/-!
What a receiver finds in the bytes of a safety subframe and of a downlink frame that came without an error (R325, R327, R328).
-/
namespace Sys2Proof.Machine

theorem subCrc_lt (uplink isB : Bool) (i life data : Nat) : subCrc uplink isB i life data < 2 ^ 16 := by
  cases isB
  · exact crcSkA_lt _
  · exact crcSkB_lt _
theorem length_subBytes (uplink isB : Bool) (i life data : Nat) : (subBytes uplink isB i life data).length = 5 := rfl
/-- A subframe counts where it is judged by the direction, kernel and island that its CRC covers (R328). -/
theorem subTake_subBytes (uplink isB : Bool) (i : Nat) {life data : Nat} (hlife : life < 256) (hdata : data < 65536) :
    subTake uplink isB i (subBytes uplink isB i life data) = some (life, data) := by
  have hlife : beNat (slice (subBytes uplink isB i life data) 0 1) = life := beNat_beBytes_of_lt (n := 1) hlife
  have hdata : beNat (slice (subBytes uplink isB i life data) 1 2) = data := beNat_beBytes_of_lt (n := 2) hdata
  have hcrc : beNat (slice (subBytes uplink isB i life data) 3 2) = subCrc uplink isB i life data :=
    beNat_beBytes_of_lt (n := 2) (subCrc_lt ..)
  rw [subTake, hlife, hdata, hcrc, if_pos rfl]

section frame
variable {sync : Nat} {body safA safB : Bytes}

theorem frameBytes_eq :
    frameBytes sync body safA safB = beBytes 2 sync ++ (body ++ (beBytes 2 (crcP body) ++ (safA ++ (safB ++ [])))) := by
  simp [frameBytes]
theorem frameSync_frameBytes (hsync : sync < 65536) : frameSync sync (frameBytes sync body safA safB) = true := by
  rw [frameBytes_eq, frameSync, decide_eq_true_eq]
  exact beNat_beBytes_of_lt (n := 2) hsync

variable (hbody : body.length = 47)
include hbody

theorem slice_frameBytes {off n : Nat} (h : off + n ≤ 47) :
    slice (frameBytes sync body safA safB) (2 + off) n = slice body off n := by
  rw [frameBytes_eq, slice_append_right (length_beBytes 2 sync), slice_append_left (by rw [hbody]; exact h)]
theorem frameGood_frameBytes : frameGood (frameBytes sync body safA safB) = true := by
  have hpart : slice (frameBytes sync body safA safB) 2 47 = body := by
    rw [frameBytes_eq, slice_append (length_beBytes 2 sync) hbody]
  have hcrc : slice (frameBytes sync body safA safB) 49 2 = beBytes 2 (crcP body) := by
    rw [frameBytes_eq, ← List.append_assoc, slice_append (by simp [hbody]) (length_beBytes ..)]
  rw [frameGood, hpart, hcrc, decide_eq_true_eq]
  exact beNat_beBytes_of_lt (crcP_lt body)
theorem frameSafA_frameBytes (hA : safA.length = 5) : frameSafA (frameBytes sync body safA safB) = safA := by
  rw [frameBytes_eq, ← List.append_assoc, ← List.append_assoc]
  exact slice_append (by simp [hbody]) hA _
theorem frameSafB_frameBytes (hA : safA.length = 5) (hB : safB.length = 5) :
    frameSafB (frameBytes sync body safA safB) = safB := by
  rw [frameBytes_eq, ← List.append_assoc, ← List.append_assoc, ← List.append_assoc]
  exact slice_append (by simp [hbody, hA]) hB _

end frame

section downlink
variable (d : DnFrame) (i : Nat)

/-- The numbers that the fields of a downlink frame's body carry (R325): header, control bits of the four cells, the CFG
operation, and the decimator resets. -/
def DnFrame.header : Nat := d.seq % 256 * 65536 + d.slot % 128 * 512 + d.rungAck % 4 * 128 + b2n d.load * 64
def DnFrame.cellCtl (k : Fin 4) : Nat := 8 * b2n d.ena[k.val] + 4 * b2n d.appl[k.val] + b2n d.fr[k.val]
def DnFrame.octl : Nat := (List.finRange 4).foldl (fun n k => 16 * n + d.cellCtl k) 0
def DnFrame.cfgField : Nat := d.op % 256 * 4294967296 + d.word % 256 * 16777216 + d.data.toNat
def DnFrame.resets : Nat := d.rstMask % 16 * 4096 + d.rstEdge % 256
def DnFrame.outBytes : Bytes := d.outs.toList.flatMap fun w => beBytes 3 w.toNat

theorem DnFrame.length_outBytes : d.outBytes.length = 12 := by
  simp [DnFrame.outBytes, List.length_flatMap]
theorem DnFrame.body_eq : d.body = beBytes 3 d.header ++ (d.outBytes ++ (beBytes 2 d.octl ++ (beBytes 5 d.cfgField ++
    (beBytes 2 d.resets ++ List.replicate 23 0)))) := by
  simp only [DnFrame.body, DnFrame.header, DnFrame.outBytes, DnFrame.octl, DnFrame.cellCtl, DnFrame.cfgField, DnFrame.resets,
    List.append_assoc, Nat.add_assoc]
theorem DnFrame.length_body : d.body.length = 47 := by
  simp [DnFrame.body_eq, DnFrame.length_outBytes]

theorem DnFrame.cellCtl_lt (k : Fin 4) : d.cellCtl k < 16 := by
  cases hena : d.ena[k.val] <;> cases happl : d.appl[k.val] <;> cases hfr : d.fr[k.val] <;>
    simp [DnFrame.cellCtl, hena, happl, hfr, b2n]
theorem DnFrame.testBit_cellCtl (k : Fin 4) : (d.cellCtl k).testBit 3 = d.ena[k.val] ∧
    (d.cellCtl k).testBit 2 = d.appl[k.val] ∧ (d.cellCtl k).testBit 0 = d.fr[k.val] := by
  unfold DnFrame.cellCtl
  cases d.ena[k.val] <;> cases d.appl[k.val] <;> cases d.fr[k.val] <;> decide
theorem DnFrame.octl_eq : d.octl = 4096 * d.cellCtl 0 + 256 * d.cellCtl 1 + 16 * d.cellCtl 2 + d.cellCtl 3 := by
  change 16 * (16 * (16 * (16 * 0 + d.cellCtl 0) + d.cellCtl 1) + d.cellCtl 2) + d.cellCtl 3 = _
  omega
/-- The control bits of a cell stand in a nibble of their own, those of cell 0 highest. -/
theorem DnFrame.octl_nibble (k : Fin 4) : d.octl < 65536 ∧ d.octl / 2 ^ (4 * (3 - k.val)) % 2 ^ 4 = d.cellCtl k := by
  have h0 := d.cellCtl_lt 0
  have h1 := d.cellCtl_lt 1
  have h2 := d.cellCtl_lt 2
  have h3 := d.cellCtl_lt 3
  rw [d.octl_eq]
  refine ⟨by omega, ?_⟩
  fin_cases k <;> simp <;> omega
theorem DnFrame.testBit_octl (k : Fin 4) {j : Nat} (hj : j < 4) :
    d.octl.testBit (4 * (3 - k.val) + j) = (d.cellCtl k).testBit j := by
  obtain ⟨-, hnibble⟩ := d.octl_nibble k
  rw [← hnibble, Nat.testBit_mod_two_pow, Nat.testBit_div_two_pow, decide_eq_true hj, Bool.true_and, Nat.add_comm]
theorem DnFrame.testBit_octl_ena (k : Fin 4) : d.octl.testBit (15 - 4 * k.val) = d.ena[k.val] := by
  obtain ⟨hena, -, -⟩ := d.testBit_cellCtl k
  rw [← hena, ← d.testBit_octl k (by decide), show 15 - 4 * k.val = 4 * (3 - k.val) + 3 by omega]
theorem DnFrame.testBit_octl_appl (k : Fin 4) : d.octl.testBit (14 - 4 * k.val) = d.appl[k.val] := by
  obtain ⟨-, happl, -⟩ := d.testBit_cellCtl k
  rw [← happl, ← d.testBit_octl k (by decide), show 14 - 4 * k.val = 4 * (3 - k.val) + 2 by omega]
theorem DnFrame.testBit_octl_fr (k : Fin 4) : d.octl.testBit (12 - 4 * k.val) = d.fr[k.val] := by
  obtain ⟨-, -, hfr⟩ := d.testBit_cellCtl k
  rw [← hfr, ← d.testBit_octl k (by decide), show 12 - 4 * k.val = 4 * (3 - k.val) + 0 by omega]

variable {d}

theorem DnFrame.header_fields (hseq : d.seq < 256) (hslot : d.slot < 128) (hrung : d.rungAck < 4) :
    d.header / 65536 = d.seq ∧ d.header / 512 % 128 = d.slot ∧ d.header / 128 % 4 = d.rungAck ∧
      d.header.testBit 6 = d.load := by
  have hload : b2n d.load ≤ 1 := by unfold b2n; split <;> omega
  unfold DnFrame.header
  refine ⟨by omega, by omega, by omega, ?_⟩
  rw [Nat.testBit_eq_decide_div_mod_eq]
  cases hbit : d.load <;> simp [b2n] <;> omega
theorem DnFrame.cfgField_fields (hop : d.op < 256) (hword : d.word < 256) :
    d.cfgField / 4294967296 = d.op ∧ d.cfgField / 16777216 % 256 = d.word ∧ toWord d.cfgField = d.data := by
  have hdata := d.data.isLt
  unfold DnFrame.cfgField
  refine ⟨by omega, by omega, BitVec.eq_of_toNat_eq ?_⟩
  rw [toWord, BitVec.toNat_ofNat]
  omega
theorem DnFrame.resets_fields (hmask : d.rstMask < 16) (hedge : d.rstEdge < 256) :
    d.resets / 4096 = d.rstMask ∧ d.resets % 256 = d.rstEdge := by
  unfold DnFrame.resets
  omega

/-- A number of the body, read from the whole frame. -/
theorem DnFrame.number_of_bytes {pre post : Bytes} {off n v : Nat} (hbody : d.body = pre ++ (beBytes n v ++ post))
    (hpre : pre.length = off) (hfits : off + n ≤ 47) (hv : v < 256 ^ n) : beNat (slice (d.bytes i) (2 + off) n) = v := by
  rw [DnFrame.bytes, slice_frameBytes d.length_body hfits, hbody, slice_append hpre (length_beBytes ..),
    beNat_beBytes_of_lt hv]
theorem DnFrame.header_bytes : beNat (slice (d.bytes i) 2 3) = d.header := by
  refine DnFrame.number_of_bytes i (off := 0) (d.body_eq.trans (List.nil_append _).symm) rfl (by decide) ?_
  unfold DnFrame.header b2n
  split <;> omega
theorem DnFrame.octl_bytes : beNat (slice (d.bytes i) 17 2) = d.octl := by
  obtain ⟨hlt, -⟩ := d.octl_nibble 0
  exact DnFrame.number_of_bytes i (off := 15) (d.body_eq.trans (List.append_assoc ..).symm) (by simp [d.length_outBytes])
    (by decide) hlt
theorem DnFrame.cfgField_bytes : beNat (slice (d.bytes i) 19 5) = d.cfgField := by
  have hdata := d.data.isLt
  refine DnFrame.number_of_bytes i (off := 17) (pre := beBytes 3 d.header ++ d.outBytes ++ beBytes 2 d.octl)
    (post := beBytes 2 d.resets ++ List.replicate 23 0) (by simp only [d.body_eq, List.append_assoc])
    (by simp [d.length_outBytes]) (by decide) ?_
  unfold DnFrame.cfgField
  omega
theorem DnFrame.resets_bytes : beNat (slice (d.bytes i) 24 2) = d.resets := by
  refine DnFrame.number_of_bytes i (off := 22)
    (pre := beBytes 3 d.header ++ d.outBytes ++ beBytes 2 d.octl ++ beBytes 5 d.cfgField)
    (post := List.replicate 23 0) (by simp only [d.body_eq, List.append_assoc]) (by simp [d.length_outBytes]) (by decide) ?_
  unfold DnFrame.resets
  omega
theorem DnFrame.out_bytes (k : Fin 4) : toWord (beNat (slice (d.bytes i) (5 + 3 * k.val) 3)) = d.outs[k.val] := by
  have hpart : slice d.body (3 + 3 * k.val) 3 = beBytes 3 d.outs[k.val].toNat := by
    rw [d.body_eq, slice_append_right (length_beBytes ..)]
    exact slice_flatMap (fun _ => length_beBytes ..) _ _ (by simp)
  rw [show 5 + 3 * k.val = 2 + (3 + 3 * k.val) by omega, DnFrame.bytes, slice_frameBytes d.length_body (by omega), hpart,
    beNat_beBytes_of_lt d.outs[k.val].isLt]
  exact BitVec.ofNat_toNat ..

/-- The island reads back what the hub put into the frame; the subframes are judged apart (R325, R329). -/
theorem DnFrame.ofBytes_bytes (hseq : d.seq < 256) (hslot : d.slot < 128) (hrung : d.rungAck < 4) (hop : d.op < 256)
    (hword : d.word < 256) (hmask : d.rstMask < 16) (hedge : d.rstEdge < 256) :
    DnFrame.ofBytes (d.bytes i) = { d with lifeA := 0, dataA := 0, lifeB := 0, dataB := 0 } := by
  obtain ⟨hseq, hslot, hrung, hload⟩ := DnFrame.header_fields hseq hslot hrung
  obtain ⟨hop, hword, hdata⟩ := DnFrame.cfgField_fields hop hword
  obtain ⟨hmask, hedge⟩ := DnFrame.resets_fields hmask hedge
  simp only [DnFrame.ofBytes, DnFrame.header_bytes, DnFrame.octl_bytes, DnFrame.cfgField_bytes, DnFrame.resets_bytes,
    DnFrame.out_bytes, DnFrame.testBit_octl_ena, DnFrame.testBit_octl_appl, DnFrame.testBit_octl_fr, Vector.ofFn_getElem, hseq,
    hslot, hrung, hload, hop, hword, hdata, hmask, hedge]

end downlink

end Sys2Proof.Machine
end

section
/-!
The island's end of the Guyline: its lock, what a good and a bad downlink frame leave of its cells, and the losses (R325,
R329, R330).
-/
namespace Sys2Proof.Machine

section cells
variable (x : Isl) (d : DnFrame) (k : Fin 4)

/-- Two states of a cell with the same commands of both kernels. -/
def Cell.sameCmds (c c' : Cell) : Prop := c'.cmdA = c.cmdA ∧ c'.cmdB = c.cmdB
/-- The cell holds the outputs that a downlink frame gives it (R325). -/
def Cell.holdsOutputs (c : Cell) (d : DnFrame) (k : Fin 4) : Prop :=
  c.out = d.outs[k.val] ∧ c.ena = d.ena[k.val] ∧ c.appl = d.appl[k.val]

theorem Isl.cells_endPulses : x.endPulses.cells[k.val] =
    { x.cells[k.val] with tp := if (x.drive k).isNone then 0 else x.cells[k.val].tp } := by
  simp only [Isl.endPulses, Vector.getElem_ofFn]
  split <;> rfl
theorem Isl.cells_cfg : (x.cfg d).cells = x.cells := by
  dsimp only [Isl.cfg]
  split_ifs <;> rfl
theorem Isl.cells_takeOutputs : (x.takeOutputs d).cells[k.val] = { x.cells[k.val].take d k with
    srst := if d.rstMask.testBit (3 - k.val) then some d.rstEdge else (x.cells[k.val].take d k).srst } := by
  simp only [Isl.takeOutputs, Vector.getElem_ofFn]
  split <;> rfl
theorem Isl.cells_obey : (x.cells[k.val]).sameCmds (x.obey d).cells[k.val] ∧ ((x.obey d).cells[k.val]).holdsOutputs d k := by
  have hcmds := Cell.take_cmds k x.cells[k.val] d
  simp only [Isl.obey_eq, Isl.cells_endPulses, Isl.cells_cfg, Isl.cells_takeOutputs]
  exact ⟨hcmds, rfl, rfl, rfl⟩
theorem Isl.cells_lockStep (good : Bool) : (x.lockStep good).cells = x.cells := by
  unfold Isl.lockStep
  split_ifs <;> rfl

end cells

section receive
variable {x : Isl} (i : Fin 8) {bs : Bytes} (now : RingTime)

theorem Isl.receive_of_unlocked (hlock : x.iLock = false) :
    x.receive i bs now = (x.safety i bs now).lockStep (frameGood bs) :=
  if_pos hlock
theorem Isl.receive_of_locked_bad (hlock : x.iLock = true) (hbad : frameGood bs = false) :
    x.receive i bs now = { (x.safety i bs now).endPulses with dnErr := true, ask := none } := by
  simp [Isl.receive, hlock, hbad]
theorem Isl.receive_of_locked_good (hlock : x.iLock = true) (hgood : frameGood bs = true) :
    x.receive i bs now = (x.safety i bs now).obey (.ofBytes bs) := by
  simp [Isl.receive, hlock, hgood]

theorem Isl.receive_breaks_run (hlock : x.iLock = false) (hbad : frameGood bs = false) :
    x.receive i bs now = { x.safety i bs now with dnGood := 0 } := by
  rw [Isl.receive_of_unlocked i now hlock, hbad]
  rfl
theorem Isl.receive_counts (hlock : x.iLock = false) (hgood : frameGood bs = true) (hearly : x.dnGood < 7) :
    x.receive i bs now = { x.safety i bs now with dnGood := x.dnGood + 1 } := by
  rw [Isl.receive_of_unlocked i now hlock, hgood]
  exact if_pos (show x.dnGood + 1 < 8 by omega)
theorem Isl.receive_locks (hlock : x.iLock = false) (hgood : frameGood bs = true) (heighth : 7 ≤ x.dnGood) :
    x.receive i bs now = { x.safety i bs now with
      iLock := true, dnGood := 0, useq := 0, scan := false, dnErr := false, ask := none } := by
  rw [Isl.receive_of_unlocked i now hlock, hgood]
  exact if_neg (show ¬ x.dnGood + 1 < 8 by omega)
theorem Isl.receive_obeys (hlock : x.iLock = true) (hgood : frameGood bs = true) : (x.receive i bs now).dnErr = false ∧
    ∀ k : Fin 4, ((x.receive i bs now).cells[k.val]).holdsOutputs (DnFrame.ofBytes bs) k := by
  rw [Isl.receive_of_locked_good i now hlock hgood]
  refine ⟨rfl, fun k => ?_⟩
  obtain ⟨-, houtputs⟩ := (x.safety i bs now).cells_obey (DnFrame.ofBytes bs) k
  exact houtputs

variable (x bs)

theorem Isl.receive_sameCmds (k : Fin 4) :
    ((x.safety i bs now).cells[k.val]).sameCmds (x.receive i bs now).cells[k.val] := by
  cases hlock : x.iLock with
  | false =>
    rw [Isl.receive_of_unlocked i now hlock, Isl.cells_lockStep]
    exact ⟨rfl, rfl⟩
  | true =>
    cases hgood : frameGood bs with
    | false =>
      rw [Isl.receive_of_locked_bad i now hlock hgood]
      simp only [Isl.cells_endPulses]
      exact ⟨rfl, rfl⟩
    | true =>
      obtain ⟨hcmds, -⟩ := (x.safety i bs now).cells_obey (DnFrame.ofBytes bs) k
      rw [Isl.receive_of_locked_good i now hlock hgood]
      exact hcmds
/-- Each kernel's command follows that kernel's own subframe, whatever the rest of the frame is (R329). -/
theorem Isl.receive_cmds (k : Fin 4) : ((x.receive i bs now).cells[k.val].cmdA =
      ((subTake false false i.val (frameSafA bs)).any fun v => lifeOk x.lifeA v.1 && v.2.testBit k.val)) ∧
    ((x.receive i bs now).cells[k.val].cmdB =
      ((subTake false true i.val (frameSafB bs)).any fun v => lifeOk x.lifeB v.1 && v.2.testBit k.val)) := by
  obtain ⟨hA, hB⟩ := x.receive_sameCmds i bs now k
  exact ⟨hA.trans (x.safety_cmdA i bs now k), hB.trans (x.safety_cmdB i bs now k)⟩

end receive

section downlink
variable {s : State} {i : Fin 8} {err errA errB : Bytes}

/-- The bytes of the latest downlink frame as they reach the island, with the errors that they met. -/
def State.arriving (s : State) (i : Fin 8) (err errA errB : Bytes) : Bytes :=
  withErr ((s.isl i).dn.bytes i.val) (frameErr err errA errB)
theorem execIslandDownlink_of_sync (hup : (s.isl i).up = true) (hsync : frameSync dnSync (s.arriving i err errA errB) = true) :
    execIslandDownlink i err errA errB s =
      .next (s.setIsl i fun x => x.receive i (s.arriving i err errA errB) s.time) :=
  (if_neg (by simp [hup])).trans (if_neg fun hno => Bool.false_ne_true (hno.symm.trans hsync))
theorem execIslandDownlink_of_no_sync (hup : (s.isl i).up = true)
    (hsync : frameSync dnSync (s.arriving i err errA errB) = false) : execIslandDownlink i err errA errB s =
      .next (s.setIsl i fun x => if x.iLock then x else { x with dnGood := 0 }) :=
  (if_neg (by simp [hup])).trans (if_pos hsync)
theorem execIslandDownlink_of_no_sync_locked (hup : (s.isl i).up = true)
    (hsync : frameSync dnSync (s.arriving i err errA errB) = false) (hlock : (s.isl i).iLock = true) :
    execIslandDownlink i err errA errB s = .next s := by
  rw [execIslandDownlink_of_no_sync hup hsync]
  refine congrArg Host.Outcome.next ((State.setIsl_eq_of_isl_eq ?_).trans (s.setIsl_id i))
  exact if_pos hlock
theorem execIslandDownlink_of_no_sync_unlocked (hup : (s.isl i).up = true)
    (hsync : frameSync dnSync (s.arriving i err errA errB) = false) (hlock : (s.isl i).iLock = false) :
    execIslandDownlink i err errA errB s = .next (s.setIsl i fun x => { x with dnGood := 0 }) :=
  (execIslandDownlink_of_no_sync hup hsync).trans
    (congrArg Host.Outcome.next (State.setIsl_eq_of_isl_eq (if_neg (by simp [hlock]))))

end downlink

section loss
variable (s : State) (i : Fin 8)

/-- The island has lost its link: it ends its tests and applies its own safe states, and the kernels' bits stay (R330). -/
def Isl.unlock (x : Isl) : Isl :=
  { x with
    iLock := false, dnGood := 0, tmo := x.store.isSome, rung := if x.fpwr then 0 else x.rung
    cells := x.cells.map fun c => { c with tp := 0, tpWait := false, stp := 0, stpWait := false, inrush := false } }
theorem Isl.cells_unlock (x : Isl) (k : Fin 4) : (x.cells[k.val]).sameCmds x.unlock.cells[k.val] := by
  simp only [Isl.unlock, Vector.getElem_map]
  exact ⟨rfl, rfl⟩
variable {s i} in
theorem execIslandLinkTimeout_of_locked (hup : (s.isl i).up = true) (hlock : (s.isl i).iLock = true) :
    execIslandLinkTimeout i s = .next (s.setIsl i Isl.unlock) :=
  if_neg (by simp [hup, hlock])
theorem execGlDegradedClear_eq : execGlDegradedClear i s = .next
    ((if (s.isl i).errs = 0 then s.setBit (ISL i 0) 7 false else s).setIsl i fun x => { x with errs := 0 }) := by
  simp only [execGlDegradedClear, decide_eq_true_eq]

/-- A kernel's subframes have stayed out: its bits are clear, and its next LIFE counts as the first (R329). -/
def Isl.loseKernel (isB : Bool) (x : Isl) : Isl :=
  { x with
    lifeA := if isB then x.lifeA else none
    lifeB := if isB then none else x.lifeB
    cells := x.cells.map fun c => if isB then { c with cmdB := false } else { c with cmdA := false } }
theorem execIslandSubframeLoss_eq (isB : Bool) : execIslandSubframeLoss i isB s = .next (s.setIsl i (Isl.loseKernel isB)) :=
  rfl
theorem Isl.loseKernel_clears (isB : Bool) (x : Isl) :
    (∀ k : Fin 4, (if isB then (x.loseKernel isB).cells[k.val].cmdB else (x.loseKernel isB).cells[k.val].cmdA) = false) ∧
      (if isB then (x.loseKernel isB).lifeB else (x.loseKernel isB).lifeA) = none := by
  cases isB <;> simp [Isl.loseKernel]

end loss

end Sys2Proof.Machine
end

section
/-!
The hub's end of the Guyline: the downlink frame of a slot, and what it makes of an uplink frame (R82, R324–R330).
-/
namespace Sys2Proof.Machine

/-- A fold keeps what each of its steps keeps. -/
theorem State.foldl_keeps {α β : Type} (g : State → β) (f : State → α → State) (h : ∀ s x, g (f s x) = g s) (l : List α)
    (s : State) : g (l.foldl f s) = g s :=
  List.foldlRecOn (motive := fun t => g t = g s) l f rfl fun t ht x _ => (h t x).trans ht

section slot
variable (s : State) (i : Fin 8) (n : Nat)

variable {s i n} in
theorem execGuylineSlot_of_due (hoff : s.dev ≠ .off) (hheld : s.hold.held = false) (hdeep : s.dev ≠ .deep) (hn : n < 100)
    (hslot : s.fld (ISL i 0) 5 4 ≠ 0 ∨ n % 4 = 0) : execGuylineSlot i n s = .next ((s.slotWork i n).sendFrame i n) := by
  have hskip : ¬ (s.fld (ISL i 0) 5 4 = 0 ∧ n % 4 ≠ 0) := by tauto
  exact if_neg (by simp only [hoff, hheld, hdeep, hskip, Bool.false_eq_true, false_or, or_false]; omega)

/-- What the hub sends to a cell: value, ENERGISE, APPLY_SAFE, and whether the slew limit acts (R325). -/
def State.cellOut (k : Fin 4) : Word × Bool × Bool × Bool :=
  ((List.finRange 4).map fun k => s.dnCell (chOf i k)).getD k.val (0, false, false, false)
/-- The hub has noted what it sends to the four cells of an island. -/
def State.noted : State :=
  (List.finRange 4).foldl (fun t k => t.noteSent (chOf i k) (s.cellOut i k).1 (s.cellOut i k).2.2.2) s
/-- The frames that are left to carry FAULT_RESET for the cells of an island are one fewer (R325). -/
def State.countResets : State :=
  (islChans i).foldl (fun s c => s.setChan c fun y => { y with frLeft := y.frLeft - 1 }) s
/-- The hub before the frame leaves: the cells are noted, the CFG operation is chosen, and the resets are counted. -/
def State.framed : State := ((s.noted i).cfgOp i).2.countResets i
/-- The hub's record of an island after a frame: the counts of the slot, and the frame itself (R325, R328). -/
def Isl.sends (x : Isl) (now : RingTime) (d : DnFrame) : Isl :=
  { x.slot n now with
    seq := (x.seq + 1) % 256, got := false, ktxA := (x.ktxA + 1) % 256, ktxB := (x.ktxB + 1) % 256, dn := d }
/-- The fields of a frame that number it and its slot, and those that the kernels send (R325, R328). -/
def Isl.stamps (x : Isl) (d : DnFrame) : Prop :=
  d.seq = x.seq ∧ d.slot = n ∧ d.lifeA = (x.ktxA + 1) % 256 ∧ d.dataA = x.kdA ∧ d.lifeB = (x.ktxB + 1) % 256 ∧ d.dataB = x.kdB
/-- The model's own expression of the frame is the witness. -/
theorem State.sendFrame_eq : ∃ d : Isl → DnFrame, s.sendFrame i n =
    (s.framed i).setIsl i (fun x => x.sends n ((s.noted i).cfgOp i).2.time (d x)) ∧ ∀ x : Isl, x.stamps n (d x) := by
  constructor
  constructor
  · dsimp only [State.sendFrame, State.framed, State.noted, State.cellOut, State.countResets, Isl.sends]
  · exact fun _ => ⟨rfl, rfl, rfl, rfl, rfl, rfl⟩

theorem State.noteSent_keeps (c : Fin 32) (v : Word) (sl : Bool) :
    (s.noteSent c v sl).isls = s.isls ∧ (s.noteSent c v sl).time = s.time := by
  unfold State.noteSent
  split <;> exact ⟨rfl, rfl⟩
theorem State.reg_noteSent (c : Fin 32) (v : Word) (sl : Bool) {a : Nat} (ha : a ≠ CH c 0x36 ∧ a ≠ CH c 1) :
    (s.noteSent c v sl).reg a = s.reg a := by
  unfold State.noteSent
  split
  · simp [ha]
  · rfl
theorem State.noted_keeps : (s.noted i).isls = s.isls ∧ (s.noted i).time = s.time :=
  Prod.mk.inj (State.foldl_keeps (fun t => (t.isls, t.time)) _ (fun t _ => Prod.ext_iff.mpr (t.noteSent_keeps ..)) _ s)
theorem State.reg_noted {a : Nat} (ha : ∀ k, a ≠ CH (chOf i k) 0x36 ∧ a ≠ CH (chOf i k) 1) :
    (s.noted i).reg a = s.reg a :=
  State.foldl_keeps (fun t => t.reg a) _ (fun t k => t.reg_noteSent _ _ _ (ha k)) _ s
theorem State.countResets_keeps : (s.countResets i).isls = s.isls ∧ (s.countResets i).regs = s.regs := by
  refine ⟨State.foldl_keeps State.isls _ ?_ (islChans i) s, State.foldl_keeps State.regs _ ?_ (islChans i) s⟩ <;>
    exact fun _ _ => rfl

/-- Two records of an island with the same numbers of frames and the same words of the kernels. -/
def Isl.sameCounts (x y : Isl) : Prop :=
  y.seq = x.seq ∧ y.ktxA = x.ktxA ∧ y.ktxB = x.ktxB ∧ y.kdA = x.kdA ∧ y.kdB = x.kdB ∧ y.ulife = x.ulife
theorem Isl.sameCounts_self (x : Isl) : x.sameCounts x := ⟨rfl, rfl, rfl, rfl, rfl, rfl⟩
theorem Isl.stamps_of_sameCounts {x y : Isl} {d : DnFrame} (hxy : x.sameCounts y) (h : y.stamps n d) : x.stamps n d := by
  obtain ⟨hseq, hktxA, hktxB, hkdA, hkdB, -⟩ := hxy
  rwa [Isl.stamps, hseq, hktxA, hktxB, hkdA, hkdB] at h
/-- A CFG operation moves the structuring on, or takes the scan that was due. -/
theorem State.cfgOp_eq : ∃ f, (s.cfgOp i).2 = s.setIsl i f ∧ ∀ x : Isl, x.sameCounts (f x) := by
  dsimp only [State.cfgOp]
  split_ifs
  · exact ⟨_, rfl, fun x => by split <;> exact x.sameCounts_self⟩
  · exact ⟨_, rfl, Isl.sameCounts_self⟩
  · exact ⟨id, (s.setIsl_id i).symm, Isl.sameCounts_self⟩
  · exact ⟨_, rfl, Isl.sameCounts_self⟩
  · exact ⟨_, rfl, Isl.sameCounts_self⟩
  · exact ⟨id, (s.setIsl_id i).symm, Isl.sameCounts_self⟩

theorem Isl.slot_counts (x : Isl) (now : RingTime) :
    (x.slot n now).slotAt = now ∧ (x.slot n now).ulife = (x.ulife + 1) % 256 := by
  unfold Isl.slot
  dsimp only
  split <;> exact ⟨rfl, rfl⟩

theorem State.framed_keeps : (∃ f, (∀ x : Isl, x.sameCounts (f x)) ∧ (s.framed i).isls = (s.setIsl i f).isls) ∧
    ((s.noted i).cfgOp i).2.time = s.time ∧ (s.framed i).regs = (s.noted i).regs := by
  obtain ⟨f, hop, hf⟩ := (s.noted i).cfgOp_eq i
  obtain ⟨hisls, htime⟩ := s.noted_keeps i
  obtain ⟨hcisls, hcregs⟩ := ((s.noted i).cfgOp i).2.countResets_keeps i
  refine ⟨⟨f, hf, ?_⟩, ?_, ?_⟩
  · calc (s.framed i).isls = ((s.noted i).cfgOp i).2.isls := hcisls
      _ = ((s.noted i).setIsl i f).isls := by rw [hop]
      _ = (s.setIsl i f).isls := congrArg (updV · i f) hisls
  · simp only [hop, State.setIsl_fields, htime]
  · exact hcregs.trans (by simp only [hop, State.setIsl_fields])

/-- The hub's record after a slot's frame: the record that the CFG operation left, with the frame. -/
theorem State.isl_sendFrame : ∃ (y : Isl) (d : DnFrame), (s.isl i).sameCounts y ∧ (s.isl i).stamps n d ∧
    (s.sendFrame i n).isl i = y.sends n s.time d := by
  obtain ⟨d, hsend, hd⟩ := s.sendFrame_eq i n
  obtain ⟨⟨f, hf, hisls⟩, htime, -⟩ := s.framed_keeps i
  have hisl : (s.framed i).isl i = f (s.isl i) := (congrArg (·[i.val]) hisls).trans (s.isl_setIsl_same i f)
  refine ⟨f (s.isl i), d (f (s.isl i)), hf _, Isl.stamps_of_sameCounts n (hf _) (hd _), ?_⟩
  calc (s.sendFrame i n).isl i
      = ((s.framed i).isl i).sends n ((s.noted i).cfgOp i).2.time (d ((s.framed i).isl i)) := by
        rw [hsend, State.isl_setIsl_same]
    _ = (f (s.isl i)).sends n s.time (d (f (s.isl i))) := by rw [hisl, htime]
theorem State.isl_sendFrame_other {j : Fin 8} (h : j ≠ i) : (s.sendFrame i n).isl j = s.isl j := by
  obtain ⟨d, hsend, -⟩ := s.sendFrame_eq i n
  obtain ⟨⟨f, -, hisls⟩, -, -⟩ := s.framed_keeps i
  calc (s.sendFrame i n).isl j = (s.framed i).isl j := by rw [hsend, State.isl_setIsl_other _ _ h]
    _ = (s.setIsl i f).isl j := congrArg (·[j.val]) hisls
    _ = s.isl j := s.isl_setIsl_other f h
theorem State.reg_sendFrame {a : Nat} (ha : ∀ k, a ≠ CH (chOf i k) 0x36 ∧ a ≠ CH (chOf i k) 1) :
    (s.sendFrame i n).reg a = s.reg a := by
  obtain ⟨d, hsend, -⟩ := s.sendFrame_eq i n
  obtain ⟨-, -, hregs⟩ := s.framed_keeps i
  calc (s.sendFrame i n).reg a = (s.framed i).reg a := by rw [hsend, State.setIsl_reg]
    _ = (s.noted i).reg a := congrArg (Sparse.get resetWord · a) hregs
    _ = s.reg a := s.reg_noted i ha

end slot

section uplink
variable (s : State) (i : Fin 8)

theorem State.glRuns_ssiSent : (s.ssiSent i).glRuns = s.glRuns := by
  refine State.foldl_keeps State.glRuns _ (fun t a => ?_) (List.finRange 8) s
  split <;> rfl
variable {s i} in
/-- A locked island's frame leaves it as sent, and reaches the hub while the hub's receivers run (R326). -/
theorem execHubUplink_of_locked (m : UpMeas) (err : Bytes) (full : Bool) (hup : (s.isl i).up = true)
    (hlock : (s.isl i).iLock = true) :
    let got := s.sense i m
    let bs := withErr (got.2.upBytes i m (got.2.upFrame i m got.1.1 got.1.2)) err
    let v := (got.2.setIsl i Isl.sent).ssiSent i
    execHubUplink i m err full s = .next (if s.glRuns then v.receive i bs full else v) := by
  have hruns : (((s.sense i m).2.setIsl i Isl.sent).ssiSent i).glRuns = s.glRuns := State.glRuns_ssiSent ..
  simp [execHubUplink, hup, hlock, hruns]

/-- The subframes go to the kernels' own registers, whatever the rest of the frame is (R82, R329). -/
def State.subframesTaken (bs : Bytes) : State :=
  s.setIsl i fun x => { x with rxA := some (frameSafA bs), rxB := some (frameSafB bs) }

variable {bs : Bytes} (hsync : frameSync upSync bs = true)
include hsync

theorem State.receive_full : s.receive i bs true =
    (((s.subframesTaken i bs).bump (SYS_QOVF_GL i)).fire 452 0).setIsl i fun x => { x with upGood := 0 } := by
  simp [State.receive, hsync, State.subframesTaken]
theorem State.receive_bad (hbad : frameGood bs = false) : s.receive i bs false =
    (((s.subframesTaken i bs).bump (ISL i 0xA)).setIsl i fun x => { x with upBad := true, upGood := 0 }).glError i := by
  simp [State.receive, hsync, hbad, State.subframesTaken]
theorem State.receive_locked (hgood : frameGood bs = true) (hlock : s.bit (ISL i 0) 0 = true) :
    s.receive i bs false = (s.subframesTaken i bs).takeFrame i (UpFrame.ofBytes bs) := by
  simp [State.receive, hsync, hgood, hlock, State.subframesTaken]
theorem State.receive_unlocked (hgood : frameGood bs = true) (hlock : s.bit (ISL i 0) 0 = false) :
    s.receive i bs false = if (s.isl i).upGood + 1 < 8
      then ((s.subframesTaken i bs).takeHdr i (UpFrame.ofBytes bs)).setIsl i fun x => { x with upGood := x.upGood + 1 }
      else ((s.subframesTaken i bs).linkLock i (UpFrame.ofBytes bs).structOk).takeFrame i (UpFrame.ofBytes bs) := by
  simp [State.receive, hsync, hgood, hlock, State.subframesTaken, State.isl_setIsl_same]

end uplink

/-- Settles O37: the bytes by what a slice of them gives back, the hub's record by what a slot's frame leaves in it, and each
reception by the guards of its row. -/
theorem guylineFrames : Obligations.GuylineFrames := by
  refine ⟨fun _ => crc_check_values, fun up isB i _ _ => subTake_subBytes up isB i.val, fun d i => ?bytes,
    fun _ _ _ => execGuylineSlot_of_due, fun u i n => ?frame, fun s i err errA errB hup => ?downlink,
    fun x i bs now => ?island, fun s i m err full hup hlock => ?sent, fun s i bs hsync => ?uplink, fun s i hup hlock => ?timeout,
    fun s i => execGlDegradedClear_eq s i, fun s i isB => ?subframe⟩
  case bytes =>
    exact ⟨frameSync_frameBytes (by decide), frameGood_frameBytes d.length_body,
      frameSafA_frameBytes d.length_body (length_subBytes ..),
      frameSafB_frameBytes d.length_body (length_subBytes ..) (length_subBytes ..), DnFrame.ofBytes_bytes i⟩
  case frame =>
    obtain ⟨y, d, ⟨hcount, -, -, -, -, hulife⟩, ⟨hseq, hslot, hlifeA, hdataA, hlifeB, hdataB⟩, hisl⟩ := u.isl_sendFrame i n
    obtain ⟨hat, hnext⟩ := y.slot_counts n u.time
    simp only [hisl]
    rw [← hcount, ← hulife]
    exact ⟨rfl, hseq.trans hcount.symm, hslot, hlifeA, hdataA, hlifeB, hdataB, hat, rfl, hnext,
      fun j => u.isl_sendFrame_other i n, fun a => u.reg_sendFrame i n⟩
  case downlink =>
    exact ⟨execIslandDownlink_of_sync hup, execIslandDownlink_of_no_sync_locked hup,
      execIslandDownlink_of_no_sync_unlocked hup⟩
  case island =>
    exact ⟨Isl.receive_breaks_run i now, Isl.receive_counts i now, Isl.receive_locks i now, Isl.receive_of_locked_bad i now,
      Isl.receive_obeys i now, x.receive_cmds i bs now⟩
  case sent =>
    have hexec := execHubUplink_of_locked m err full hup hlock
    exact ⟨fun hruns => hexec.trans (congrArg Host.Outcome.next (if_pos hruns)),
      fun hstill => hexec.trans (congrArg Host.Outcome.next (if_neg (by simp [hstill])))⟩
  case uplink =>
    refine ⟨s.receive_full i hsync, s.receive_bad i hsync, s.receive_locked i hsync, fun hgood hlock hearly => ?_,
      fun hgood hlock heighth => ?_⟩
    · rw [s.receive_unlocked i hsync hgood hlock, if_pos (by omega)]
      rfl
    · rw [s.receive_unlocked i hsync hgood hlock, if_neg (by omega)]
      rfl
  case timeout =>
    refine ⟨_, execIslandLinkTimeout_of_locked hup hlock, ?_⟩
    rw [State.isl_setIsl_same]
    exact ⟨rfl, rfl, rfl, (s.isl i).cells_unlock, fun j => s.isl_setIsl_other _, rfl⟩
  case subframe =>
    obtain ⟨hcmd, hlife⟩ := (s.isl i).loseKernel_clears isB
    refine ⟨_, execIslandSubframeLoss_eq s i isB, ?_⟩
    rw [State.isl_setIsl_same]
    exact ⟨hcmd, hlife, fun j => s.isl_setIsl_other _, rfl⟩

end Sys2Proof.Machine
end

section
/-!
The safety kernels' pairs and functions: when a pair goes on and when it goes off, and how a function leaves and enters RUN
(R112, R518, R519, R521, R524).
-/
namespace Sys2Proof.Machine

theorem State.kern_setKern_same (s : State) (isB : Bool) (f : Kern → Kern) :
    (s.setKern isB f).kern isB = f (s.kern isB) := by
  cases isB <;> rfl
theorem State.kern_eq_of_saf {s t : State} (h : t.saf = s.saf) (isB : Bool) : t.kern isB = s.kern isB := by
  unfold State.kern
  rw [h]
theorem Kern.pair_setPair_same (k : Kern) (p : Fin 8) (g : KPair → KPair) : (k.setPair p g).pair p = g (k.pair p) :=
  Vector.getElem_set_self p.isLt

theorem State.kern_fire_if (s : State) (c : Prop) [Decidable c] (src : Nat) (w : Word) (isB : Bool) :
    (if c then s.fire src w else s).kern isB = s.kern isB :=
  iteInduction (motive := fun t => State.kern t isB = s.kern isB) (fun _ => State.kern_eq_of_saf (by simp) isB) fun _ => rfl

/-- A pair after it has been switched on or off. -/
def KPair.go (on timed : Bool) (cause : Nat) (x : KPair) : KPair :=
  { x with
    cmd := on, timed := timed, ss1 := none, test := 0, req := false
    cause := if cause = 0 then x.cause else cause
    diff := 0
    a := if x.cmd = on then x.a else { x.a with since := 0 }
    b := if x.cmd = on then x.b else { x.b with since := 0 } }

section pair
variable (s : State) (isB : Bool) (p : Fin 8)

theorem State.kern_pairGo (on timed : Bool) (cause : Nat) :
    (s.pairGo isB p on timed cause).kern isB = (s.kern isB).setPair p (KPair.go on timed cause) :=
  (State.kern_fire_if _ _ _ _ isB).trans (s.kern_setKern_same isB _)
theorem State.cmd_pairGo (on timed : Bool) (cause : Nat) :
    (((s.pairGo isB p on timed cause).kern isB).pair p).cmd = on := by
  rw [s.kern_pairGo isB p, Kern.pair_setPair_same]
  rfl

/-- What a kernel asks of a pair before it looks at the pair's functions (R112, R521–R524). -/
def State.pairAllowed : Bool :=
  s.r112Ready && s.restartAck && s.saf.armed && (s.kern isB).safen && !((s.kern isB).pair p).inter &&
    !((s.kern isB).pair p).pf
theorem State.pairAllowed_iff : s.pairAllowed isB p = true ↔ s.r112Ready = true ∧ s.restartAck = true ∧
    s.saf.armed = true ∧ (s.kern isB).safen = true ∧ ((s.kern isB).pair p).inter = false ∧
      ((s.kern isB).pair p).pf = false := by
  simp [State.pairAllowed, and_assoc]
/-- The functions that keep a pair from being on. -/
def Kern.notRunning (k : Kern) : List (Fin 16) := (k.drivers p).filter fun f => decide ((k.fn f).st ≠ 2)
theorem Kern.notRunning_isEmpty_iff (k : Kern) :
    (k.notRunning p).isEmpty = true ↔ ∀ f ∈ k.drivers p, (k.fn f).st = 2 := by
  simp [Kern.notRunning]

theorem State.pairCycle_of_unlisted (hrec : (s.kern isB).pairRec p = none) : State.pairCycle isB s p = s := by
  simp only [State.pairCycle, hrec]
theorem State.pairCycle_of_off {r : Bytes} (hrec : (s.kern isB).pairRec p = some r)
    (hoff : ((s.kern isB).pair p).cmd = false) : State.pairCycle isB s p =
      if s.pairAllowed isB p && !((s.kern isB).drivers p).isEmpty && ((s.kern isB).notRunning p).isEmpty then
        s.pairGo isB p true false 0
      else s := by
  simp only [State.pairCycle, hrec, hoff]
  rfl
theorem State.pairCycle_of_forbidden {r : Bytes} (hrec : (s.kern isB).pairRec p = some r)
    (hon : ((s.kern isB).pair p).cmd = true) (hforbidden : s.pairAllowed isB p = false) :
    State.pairCycle isB s p = s.pairGo isB p false false (if (s.kern isB).safen then 0 else 2) := by
  unfold State.pairAllowed at hforbidden
  simp only [State.pairCycle, hrec, hon, hforbidden]
  rfl

theorem State.pairCycle_switches_on (hoff : ((s.kern isB).pair p).cmd = false)
    (hon : (((State.pairCycle isB s p).kern isB).pair p).cmd = true) : s.pairAllowed isB p = true ∧
      (s.kern isB).drivers p ≠ [] ∧ ∀ f ∈ (s.kern isB).drivers p, ((s.kern isB).fn f).st = 2 := by
  cases hrec : (s.kern isB).pairRec p with
  | none => simp [s.pairCycle_of_unlisted isB p hrec, hoff] at hon
  | some r =>
  rw [s.pairCycle_of_off isB p hrec hoff] at hon
  split at hon
  next h =>
    simp only [Bool.and_eq_true, Kern.notRunning_isEmpty_iff] at h
    obtain ⟨⟨hallowed, hdrivers⟩, hrun⟩ := h
    exact ⟨hallowed, by simpa using hdrivers, hrun⟩
  next => simp [hoff] at hon
theorem State.pairCycle_switches_off {r : Bytes} (hrec : (s.kern isB).pairRec p = some r)
    (hon : ((s.kern isB).pair p).cmd = true) (hforbidden : s.pairAllowed isB p = false) :
    (((State.pairCycle isB s p).kern isB).pair p).cmd = false := by
  rw [s.pairCycle_of_forbidden isB p hrec hon hforbidden, State.cmd_pairGo]

end pair

section single
variable {x : KFn} {ins : List (Fin 4)} (auto : Bool) (dem : Nat)

theorem KFn.single_of_bad (hst : x.st = 2) (hbad : ∃ j ∈ ins, (x.inp j).d = false) : x.single auto ins dem = (4, 4) := by
  unfold KFn.single
  rw [hst]
  exact if_pos (by simpa using hbad)
theorem KFn.single_of_good (hst : x.st = 2) (hgood : ∀ j ∈ ins, (x.inp j).d = true) :
    x.single auto ins dem = if ins.all fun j => (x.inp j).g then (2, 0) else (0, dem) := by
  unfold KFn.single
  rw [hst]
  exact if_neg (by simpa using hgood)
theorem KFn.single_enters_run (hst : x.st ≠ 2) (hrun : (x.single auto ins dem).1 = 2) :
    x.st = 0 ∧ auto = true ∧ x.fsr = false ∧ ∀ j ∈ ins, (x.inp j).d = true ∧ (x.inp j).g = true := by
  dsimp only [KFn.single] at hrun
  split at hrun
  case h_1 hdemand =>
    obtain ⟨hgood, hgo, hauto, hfault⟩ : (∀ j ∈ ins, (x.inp j).d = true) ∧ (∀ j ∈ ins, (x.inp j).g = true) ∧
        auto = true ∧ x.fsr = false := by
      simpa [apply_ite Prod.fst, ite_eq_iff] using hrun
    exact ⟨hdemand, hauto, hfault, fun j hj => ⟨hgood j hj, hgo j hj⟩⟩
  case h_3 hst' => exact absurd hst' hst
  case h_6 => exact absurd hrun hst
  all_goals split_ifs at hrun <;> simp at hrun

end single

theorem KFn.actuated_of_hands {x : KFn} (h1 : x.handOn 0 1 = true) (h2 : x.handOn 2 3 = true) (j : Fin 4) :
    (x.inp j).g = true := by
  obtain ⟨h0, h1⟩ := Bool.and_eq_true_iff.mp h1
  obtain ⟨h2, h3⟩ := Bool.and_eq_true_iff.mp h2
  fin_cases j
  exacts [h0, h1, h2, h3]
/-- TWO_HAND enters RUN where both hands are actuated and every input is good: every input shows actuation (R519). -/
theorem KFn.twoHand_enters_run {x : KFn} {dem : Nat} (hst : x.st ≠ 2) (hrun : (x.twoHand dem).1 = 2) :
    (x.st = 5 ∨ x.st = 6) ∧ ∀ j : Fin 4, (x.inp j).d = true ∧ (x.inp j).g = true := by
  dsimp only [KFn.twoHand] at hrun
  split at hrun
  case h_2 h5 =>
    obtain ⟨hgood, h1, h2⟩ : (∀ j : Fin 4, (x.inp j).d = true) ∧ x.handOn 0 1 = true ∧ x.handOn 2 3 = true := by
      simpa [apply_ite Prod.fst, ite_eq_iff] using hrun
    exact ⟨.inl h5, fun j => ⟨hgood j, KFn.actuated_of_hands h1 h2 j⟩⟩
  case h_3 h6 =>
    obtain ⟨hgood, -, h1, h2⟩ : (∀ j : Fin 4, (x.inp j).d = true) ∧
        ((x.first = 1 → x.handOn 0 1 = true) ∧ (¬ x.first = 1 → x.handOn 2 3 = true)) ∧
        x.handOn 0 1 = true ∧ x.handOn 2 3 = true := by
      simpa [apply_ite Prod.fst, ite_eq_iff] using hrun
    exact ⟨.inr h6, fun j => ⟨hgood j, KFn.actuated_of_hands h1 h2 j⟩⟩
  case h_4 hst' => exact absurd hst' hst
  case h_7 => exact absurd hrun hst
  all_goals split_ifs at hrun <;> simp at hrun

/-- Settles O40: a pair by the two ways in which its cycle can switch it, a function by the branches of its state machine. -/
theorem kernelPairs : Obligations.KernelPairs := by
  refine ⟨fun s isB p hoff hon => ?_, fun s isB p r hrec hon hfails => ?_, fun x auto ins dem hst => ?_,
    fun x auto ins dem => KFn.single_enters_run auto dem, fun x dem => KFn.twoHand_enters_run⟩
  · obtain ⟨hallowed, hdrivers, hrun⟩ := s.pairCycle_switches_on isB p hoff hon
    obtain ⟨hready, hack, harmed, hsafen, hinter, hpf⟩ := (s.pairAllowed_iff isB p).mp hallowed
    exact ⟨hready, hack, harmed, hsafen, hinter, hpf, hdrivers, hrun⟩
  · refine s.pairCycle_switches_off isB p hrec hon (Bool.eq_false_iff.mpr fun hallowed => ?_)
    obtain ⟨hready, hack, harmed, hsafen, hinter, hpf⟩ := (s.pairAllowed_iff isB p).mp hallowed
    simp [hready, hack, harmed, hsafen, hinter, hpf] at hfails
  · refine ⟨KFn.single_of_bad auto dem hst, fun hgood hdemand => ?_, fun hgood => ?_⟩
    · rw [KFn.single_of_good auto dem hst hgood, if_neg (by simpa using hdemand)]
    · rw [KFn.single_of_good auto dem hst fun j hj => (hgood j hj).1, if_pos (by simpa using fun j hj => (hgood j hj).2)]

end Sys2Proof.Machine
end

section
/-!
The timers of the safety kernels and the restart acknowledge, each by the guard of its row (R113, R517–R522, R524).
-/
namespace Sys2Proof.Machine

section timers
variable {s : State} {isB : Bool}

theorem execInputConfirm_of_carried {f : Fin 16} {j : Fin 4} {r : Bytes} (hrec : (s.kern isB).fnRec f = some r)
    (hrun : 25 * u16 r 8 ≤ (((s.kern isB).fn f).inp j).run) : execInputConfirm isB f j s =
      .next (s.setKern isB fun k => k.setFn f fun x => { x with ins := updV x.ins j fun y => ⟨!y.g, y.d, 0⟩ }) := by
  simp only [execInputConfirm, hrec, if_pos hrun]
theorem execDiscrepancyTimeout_of_due {f : Fin 16} {r : Bytes} (hrec : (s.kern isB).fnRec f = some r)
    (hdue : 4 * u16 r 0xA ≤ ((s.kern isB).fn f).d1 ∨ 4 * u16 r 0xA ≤ ((s.kern isB).fn f).d2)
    (hst : ((s.kern isB).fn f).st ∉ [3, 4, 7]) :
    execDiscrepancyTimeout isB f s = .next ((s.fnGo isB f 3 3).pairsNow isB) := by
  obtain ⟨h3, h4, h7⟩ : ((s.kern isB).fn f).st ≠ 3 ∧ ((s.kern isB).fn f).st ≠ 4 ∧ ((s.kern isB).fn f).st ≠ 7 := by
    simpa using hst
  simp only [execDiscrepancyTimeout, hrec]
  exact if_pos ⟨hdue, h7, h3, h4⟩
theorem execTwoHandSyncTimeout_of_due {f : Fin 16} (hst : ((s.kern isB).fn f).st = 6)
    (hdue : 2000 ≤ ((s.kern isB).fn f).sync) : execTwoHandSyncTimeout isB f s = .next (s.fnGo isB f 0 6) :=
  if_pos ⟨hst, hdue⟩
theorem execSs1DelayEnd_of_expired {p : Fin 8} (hss1 : ((s.kern isB).pair p).ss1 = some 0) :
    execSs1DelayEnd isB p s = .next ((s.pairGo isB p false true 0).publish isB) :=
  if_pos hss1
theorem execPairTestRequest_of_due {p : Fin 8} {r : Bytes} (hrec : (s.kern isB).pairRec p = some r)
    (hon : ((s.kern isB).pair p).cmd = true) (hdue : 4 * u8 r 6 ≤ ((s.kern isB).pair p).test) :
    execPairTestRequest isB p s =
      .next (s.setKern isB fun k => k.setPair p fun x => { x with test := 0, req := true }) := by
  simp only [execPairTestRequest, hrec]
  exact if_pos (by simp [hon, hdue])
theorem execSafenReassert_of_shown (hrun : 40 ≤ (s.kern isB).run) (hlow : (s.kern isB).safen = false) :
    execSafenReassert isB s = .next ((s.setKern isB fun k => { k with safen := true }).safenView) :=
  if_pos ⟨hrun, hlow⟩
theorem execRestartAck_of_asks {p : Port} (h : s.asks p 0x15 []) (hdev : s.dev = .pitched) : execRestartAck p s =
    .next ((if s.r112Ready = true then s.ackAll s.saf.ka.waiting s.saf.kb.waiting else s).finish p stOK []) :=
  congrArg Host.Outcome.next
    (State.command_of_asks h (decide_eq_true hdev) rfl (fun _ _ => rfl) fun _ _ => rfl)

end timers

/-- Settles O42: each timer by the guard of its row, the acknowledge by the checks of R580. -/
theorem kernelTimers : Obligations.KernelTimers :=
  ⟨fun _ _ _ _ _ => execInputConfirm_of_carried, fun _ _ _ _ => execDiscrepancyTimeout_of_due,
    fun _ _ _ => execTwoHandSyncTimeout_of_due, fun _ _ _ => execSs1DelayEnd_of_expired,
    fun _ _ _ _ => execPairTestRequest_of_due, fun _ _ => execSafenReassert_of_shown,
    fun _ _ => execRestartAck_of_asks⟩

end Sys2Proof.Machine
end

section
/-!
A step on an empty queue: one microsecond of Ember, and while the hub runs of ring time, the windows of the watchdog and the
token buckets (R108, R250, R601, R608).
-/
namespace Sys2Proof.Machine

theorem step_of_idle {s : State} (h : s.pending = []) : step s = .next s.tick := by
  simp only [step, h]

section wdgTick
variable (s : State)

theorem State.wdgBootEnd_frame : s.wdgBootEnd = { s with regs := s.wdgBootEnd.regs } := by
  unfold State.wdgBootEnd State.when
  split <;> rfl
/-- A tick of the watchdog touches its own state and registers alone. -/
theorem State.wdgTick_frame : s.wdgTick = { s with wdg := s.wdgTick.wdg, regs := s.wdgTick.regs } := by
  unfold State.wdgTick
  split
  · rfl
  · rw [State.wdgBootEnd_frame]
    rfl
theorem State.wdgTick_keeps : s.wdgTick.time = s.time ∧ s.wdgTick.upUs = s.upUs ∧ s.wdgTick.ember = s.ember ∧
    s.wdgTick.pending = s.pending ∧ s.wdgTick.dev = s.dev ∧ s.wdgTick.mbx = s.mbx ∧ s.wdgTick.eddy = s.eddy ∧
    s.wdgTick.flash = s.flash ∧ s.wdgTick.saf = s.saf := by
  rw [State.wdgTick_frame]
  exact ⟨rfl, rfl, rfl, rfl, rfl, rfl, rfl, rfl, rfl⟩
theorem State.wdgTick_of_stopped (h : s.wdgRuns = false) : s.wdgTick = s := if_pos h
theorem State.reg_wdgBootEnd {a : Nat} (ha : a ≠ WDG_STAT) : s.wdgBootEnd.reg a = s.reg a := by
  unfold State.wdgBootEnd State.when
  split
  · rw [State.reg_setBit, if_neg ha]
  · rfl
theorem State.bit_wdgBootEnd {b : Nat} (hb : b < 24) (h3 : b ≠ 3) : s.wdgBootEnd.bit WDG_STAT b = s.bit WDG_STAT b := by
  unfold State.wdgBootEnd State.when
  split
  · rw [State.bit_setBit _ _ _ _ _ _ hb, if_neg (by simp [h3])]
  · rfl
theorem State.reg_wdgTick_of_runs (h : s.wdgRuns = true) {a : Nat} (ha : a ≠ WDG_LEFT) :
    s.wdgTick.reg a = s.wdgBootEnd.reg a := by
  unfold State.wdgTick
  rw [if_neg (by simp [h])]
  exact (State.reg_setReg _ _ _ _).trans (if_neg ha)
theorem State.reg_wdgTick {a : Nat} (hleft : a ≠ WDG_LEFT) (hstat : a ≠ WDG_STAT) : s.wdgTick.reg a = s.reg a := by
  cases h : s.wdgRuns with
  | false => rw [s.wdgTick_of_stopped h]
  | true => rw [s.reg_wdgTick_of_runs h hleft, s.reg_wdgBootEnd hstat]
theorem State.bit_wdgTick {b : Nat} (hb : b < 24) (h3 : b ≠ 3) : s.wdgTick.bit WDG_STAT b = s.bit WDG_STAT b := by
  cases h : s.wdgRuns with
  | false => rw [s.wdgTick_of_stopped h]
  | true =>
    unfold State.bit
    rw [s.reg_wdgTick_of_runs h (by decide)]
    exact s.bit_wdgBootEnd hb h3

end wdgTick

/-- A microsecond of Ember and of all of the hub but the watchdog. -/
def State.beforeWdgTick (s : State) : State := (State.hubTick { s with ember := s.ember.tick }).weirTick
theorem State.tick_of_held {s : State} (h : s.runs = false) : s.tick = { s with ember := s.ember.tick } :=
  if_neg (Bool.eq_false_iff.mp h)
theorem State.tick_of_runs {s : State} (h : s.runs = true) : s.tick = s.beforeWdgTick.wdgTick := if_pos h

theorem EmberSt.tick_of_microsecond {e : EmberSt} (hosc : e.oscOk = true) (hus : e.us < 999) :
    e.tick = { e with us := e.us + 1 } := by
  simp [EmberSt.tick, hosc, hus]
theorem EmberSt.tick_of_second {e : EmberSt} (hosc : e.oscOk = true) (hus : e.us = 999) (hms : e.ms = 999) :
    e.tick = { e with us := 0, ms := 0, sec := (e.sec + 1) % 2 ^ 32 } := by
  simp [EmberSt.tick, hosc, hus, hms]

/-- Settles O2: a tick is that of the watchdog after that of all else, and the watchdog's touches its registers alone. -/
theorem idleTick : Obligations.IdleTick := by
  refine fun s hidle => ⟨fun hheld => ?_, fun hruns => ⟨s.tick, step_of_idle hidle, ?_⟩, EmberSt.tick_of_microsecond,
    EmberSt.tick_of_second⟩
  · rw [step_of_idle hidle, State.tick_of_held hheld]
  · obtain ⟨htime, hup, hember, hpending, hdev, hmbx, heddy, hflash, hsaf⟩ := s.beforeWdgTick.wdgTick_keeps
    rw [State.tick_of_runs hruns]
    refine ⟨htime, hup, hember, hpending.trans hidle, hdev, hmbx, heddy, hflash, hsaf,
      fun a hleft hstat => s.beforeWdgTick.reg_wdgTick hleft hstat, fun b hb h3 => s.beforeWdgTick.bit_wdgTick hb h3,
      fun hstopped => ?_⟩
    rw [s.beforeWdgTick.wdgTick_of_stopped hstopped]
    rfl

end Sys2Proof.Machine
end

section
/-!
The state after reset (R104, R105, R199, R306, R426, R551, R581).
-/
namespace Sys2Proof.Machine

theorem State.reg_reset {a : Nat} (hcause : a ≠ SYS_CAUSE) (hchal : a ≠ WDG_CHAL) : State.reset.reg a = resetWord a := by
  have hnone : Sparse.find State.reset.regs a = none := (if_neg hcause).trans (if_neg hchal)
  unfold State.reg Sparse.get
  rw [hnone]
  rfl
theorem State.canonical_reset : State.reset.canonical := ⟨by decide, by decide⟩

/-- Settles O3: the registers by the two that differ from their reset values, the streams by their one content. -/
theorem resetState : Obligations.ResetState :=
  ⟨rfl, rfl, rfl, fun _ => State.reg_reset, fun _ => rfl, rfl, fun _ => rfl,
    fun k => congrArg Stream.buf (Vector.getElem_replicate k.isLt), rfl, rfl, rfl⟩
/-- Settles O4: two registers in the order of their addresses, neither at its reset value, and no Eddy word. -/
theorem resetSound : Obligations.ResetSound := ⟨State.canonical_reset, rfl, rfl, rfl, rfl⟩

end Sys2Proof.Machine
end

section
/-!
The structuring of an island and the loss of its link, each row by its guard (R105, R140, R149, R330, R331).
-/
namespace Sys2Proof.Machine

section island
variable {s : State} {i : Fin 8}

theorem execStructureCommit_of_ordered (raw : List Nat) (hphase : (s.isl i).sPhase = 3) (hlock : (s.isl i).iLock = true)
    (hcommit : (s.isl i).commit = true) :
    execStructureCommit i raw s = .next ((s.structCommit i raw).awaitDone i) :=
  congrArg Host.Outcome.next (if_pos ⟨hphase, hlock, hcommit⟩)
theorem execStructureCommit_of_not (raw : List Nat)
    (h : (s.isl i).sPhase ≠ 3 ∨ (s.isl i).iLock = false ∨ (s.isl i).commit = false) :
    execStructureCommit i raw s = .next s := by
  refine congrArg Host.Outcome.next (if_neg ?_)
  rintro ⟨hphase, hlock, hcommit⟩
  simp [hphase, hlock, hcommit] at h
/-- Structuring that no relock starts begins with the first word, and leaves the hub's registers as they are. -/
theorem State.startStructure_anew (hbody : (s.islBody i).isSome = true) : s.startStructure i false false =
    s.setIsl i fun x =>
      { x with barred := false, commit := false, sPhase := 1, sWord := 0, sTry := 0, sAsk := none, retry := false } :=
  if_neg (by simpa using Option.isSome_iff_ne_none.mp hbody)
theorem execStructureRetry_of_due (hretry : (s.isl i).retry = true) (hlock : s.bit (ISL i 0) 0 = true)
    (hbody : (s.islBody i).isSome = true) : execStructureRetry i s = .next (s.setIsl i fun x =>
      { x with barred := false, commit := false, sPhase := 1, sWord := 0, sTry := 0, sAsk := none, retry := false }) :=
  congrArg Host.Outcome.next ((if_pos ⟨hretry, hlock⟩).trans (State.startStructure_anew hbody))
theorem execStructureDiscard_of_unlocked (hfield : (s.isl i).fpwr = true) (hlock : (s.isl i).iLock = false) :
    execStructureDiscard i s = .next ((s.setIsl i Isl.unstructure).setBit (ISL i 0) 1 false) :=
  if_pos ⟨hfield, hlock⟩
theorem execStructureDiscard_of_not (h : (s.isl i).fpwr = false ∨ (s.isl i).iLock = true) :
    execStructureDiscard i s = .next s := by
  refine if_neg ?_
  rintro ⟨hfield, hlock⟩
  simp [hfield, hlock] at h

theorem execIslandLost_of_not {osc : Bool} (h : s.bit (ISL i 0) 0 = false ∨ s.runs = false) :
    execIslandLost i osc s = .next s :=
  if_pos h

section lost
variable {osc : Bool} (hlock : s.bit (ISL i 0) 0 = true) (hruns : s.runs = true)
include hlock hruns

/-- The loss is marked first; what it brings besides hangs on the re-pitch that is then under way (R140, R149). -/
theorem execIslandLost_of_locked : execIslandLost i osc s = .next (
    let u := s.islandLoss i osc
    if u.repitch.phase = 0 ∨ u.repitch.isl ≠ i.val then u
    else if u.repitch.phase ≤ 2 then u.abandonRepitch rejIslandLost ((u.repitch.cand.map (·.serial)).getD 0)
    else (((u.setRepitch fun _ => RepitchSt.idle).setIsl i fun x => { x with await := true }).setBit (ISL i 0) 1
      false).endOp stOK []) := by
  have hguard : ¬ (s.bit (ISL i 0) 0 = false ∨ s.runs = false) := by simp [hlock, hruns]
  simp only [execIslandLost, if_neg hguard, apply_ite Host.Outcome.next]
theorem execIslandLost_of_no_repitch
    (hnone : (s.islandLoss i osc).repitch.phase = 0 ∨ (s.islandLoss i osc).repitch.isl ≠ i.val) :
    execIslandLost i osc s = .next (s.islandLoss i osc) :=
  (execIslandLost_of_locked hlock hruns).trans (congrArg Host.Outcome.next (if_pos hnone))
theorem execIslandLost_of_early (hphase : (s.islandLoss i osc).repitch.phase ≠ 0)
    (hearly : (s.islandLoss i osc).repitch.phase ≤ 2) (hisl : (s.islandLoss i osc).repitch.isl = i.val) :
    execIslandLost i osc s = .next ((s.islandLoss i osc).abandonRepitch rejIslandLost
      (((s.islandLoss i osc).repitch.cand.map (·.serial)).getD 0)) :=
  (execIslandLost_of_locked hlock hruns).trans
    (congrArg Host.Outcome.next ((if_neg (by simp [hphase, hisl])).trans (if_pos hearly)))
theorem execIslandLost_of_late (hlate : 2 < (s.islandLoss i osc).repitch.phase)
    (hisl : (s.islandLoss i osc).repitch.isl = i.val) : execIslandLost i osc s = .next
      (((((s.islandLoss i osc).setRepitch fun _ => RepitchSt.idle).setIsl i fun x => { x with await := true }).setBit
        (ISL i 0) 1 false).endOp stOK []) :=
  (execIslandLost_of_locked hlock hruns).trans
    (congrArg Host.Outcome.next ((if_neg (by rintro (h | h) <;> omega)).trans (if_neg (by omega))))

end lost
end island

/-- Settles O38: each row by its guard, a lost island by the re-pitch that its loss meets. -/
theorem structuring : Obligations.Structuring :=
  ⟨fun _ _ raw => ⟨execStructureCommit_of_ordered raw, execStructureCommit_of_not raw⟩,
    fun _ _ => execStructureRetry_of_due, fun _ _ => execStructureDiscard_of_unlocked,
    fun _ _ => execStructureDiscard_of_not,
    fun _ _ _ hlock hruns => ⟨execIslandLost_of_no_repitch hlock hruns, execIslandLost_of_early hlock hruns,
      execIslandLost_of_late hlock hruns⟩,
    fun _ _ _ => execIslandLost_of_not⟩

end Sys2Proof.Machine
end

section
/-!
The ring's mails: which requests are turned in their carrier, how reads, writes, mailbox commands and image requests are
served, and how answers and lost carriers are taken (R109, R110, R264–R267, R270, R280, R584).
-/
namespace Sys2Proof.Machine

theorem firstIdx_eq_none {α : Type} {p : α → Bool} {l : List α} (h : ∀ a ∈ l, p a = false) (n : Nat) :
    firstIdx p l n = none := by
  induction l generalizing n with
  | nil => rfl
  | cons a l ih =>
    have ha : p a = false := h a List.mem_cons_self
    exact (if_neg (by simp [ha])).trans (ih (fun b hb => h b (List.mem_cons_of_mem a hb)) (n + 1))
theorem State.mbxOf_setMbx_same (s : State) (p : Port) (m : Mailbox) : (s.setMbx p m).mbxOf p = m := by
  have hold : (s.mbx.filter fun m => m.1 ≠ p).find? (fun m => m.1 = p) = none := by simp [List.find?_eq_none]
  unfold State.mbxOf State.setMbx
  rw [List.find?_append, hold]
  simp

section turned
variable {s : State} (n tag : Nat) (k : MailKind) (x : Rx) (q : Bool)

theorem State.mailTurned_of_unaddressed (h : s.addressed = false) : s.mailTurned n tag k x q = some s := if_pos h
theorem State.mailTurned_of_boot (haddr : s.addressed = true) (hboot : s.dev = .boot) :
    s.mailTurned n tag k x q = some (s.turnMail x n tag k s.bootHint) := by
  simp [State.mailTurned, haddr, hboot]

section awake
variable {n tag k x q} (haddr : s.addressed = true) (hboot : s.dev ≠ .boot) (hdeep : s.dev ≠ .deep)
include haddr hboot hdeep

/-- Outside BOOT and DEEP a request is turned only where a queue has no room for it or for its answer (R82, R266). -/
theorem State.mailTurned_of_awake : s.mailTurned n tag k x q =
    if x.ovf then some (s.ringOvf x.west)
    else if q || decide (16 ≤ s.ring.sendQ.length) then
      some (((s.bump RNG_MAIL_BUSY).deficit 0).turnMail x n tag k s.queueHint)
    else none := by
  simp [State.mailTurned, haddr, hboot, hdeep]
theorem State.mailTurned_of_ovf (hovf : x.ovf = true) : s.mailTurned n tag k x q = some (s.ringOvf x.west) :=
  (State.mailTurned_of_awake haddr hboot hdeep).trans (if_pos hovf)
theorem State.mailTurned_of_full (hovf : x.ovf = false) (hfull : q = true ∨ 16 ≤ s.ring.sendQ.length) :
    s.mailTurned n tag k x q = some (((s.bump RNG_MAIL_BUSY).deficit 0).turnMail x n tag k s.queueHint) :=
  (State.mailTurned_of_awake haddr hboot hdeep).trans ((if_neg (by simp [hovf])).trans (if_pos (by simpa using hfull)))
theorem State.mailTurned_of_room (hovf : x.ovf = false) (hq : q = false) (hroom : s.ring.sendQ.length < 16) :
    s.mailTurned n tag k x q = none :=
  (State.mailTurned_of_awake haddr hboot hdeep).trans
    ((if_neg (by simp [hovf])).trans (if_neg (by simp [hq, hroom])))

end awake

/-- A turned request leaves in its own carrier, with the node's next SEQ; nothing is queued (R231, R266). -/
theorem State.turnMail_sends (hint : Nat) : ∃ (h : RHdr) (m : Mail),
    (s.turnMail x n tag k hint).ring.tx = [⟨s.outWest x.west, false, ⟨h, .mail m⟩⟩] ∧ h.dest = n ∧ m.answer = true ∧
    m.tag = tag ∧ m.kind = k ∧ m.status = 1 ∧ m.hint = hint ∧
    (s.turnMail x n tag k hint).ring.sendQ = s.ring.sendQ ∧ (s.turnMail x n tag k hint).regs = s.regs :=
  ⟨_, _, s.tx_sendFrames_own _ [] rfl, rfl, rfl, rfl, rfl, rfl, rfl, rfl, rfl⟩

end turned

section read
variable {s : State} {n tag addr count : Nat} {inc q : Bool} {x : Rx} (hturn : s.mailTurned n tag .read x q = none)
include hturn

theorem execMailRead_of_count (hcount : count = 0 ∨ 85 < count) : execMailRead n tag addr count inc ⟨x, q⟩ none s =
    .next ((s.portWake 3).answerMail n tag .read 3 7 0 []) := by
  simp only [execMailRead, hturn, if_pos hcount]
theorem execMailRead_of_past_end (hpos : 1 ≤ count) (hle : count ≤ 85) (hend : 0x100000 < addr + count) :
    execMailRead n tag addr count inc ⟨x, q⟩ none s = .next ((s.portWake 3).answerMail n tag .read 3 4 0 []) := by
  have hcount : ¬ (count = 0 ∨ 85 < count) := by omega
  have hpast : 0xFFFFF < addr + count - 1 := by omega
  simp only [execMailRead, hturn, if_neg hcount, if_pos hpast]
theorem execMailRead_of_readable (hpos : 1 ≤ count) (hle : count ≤ 85) (hend : addr + count ≤ 0x100000)
    (hread : ∀ a ∈ mailAddrs addr count inc, (s.portWake 3).rdRefused (.ring n) a = false) :
    execMailRead n tag addr count inc ⟨x, q⟩ none s =
      .next (((s.portWake 3).rdList (.ring n) (mailAddrs addr count inc)).2.answerMail n tag .read 0 0 0
        ((s.portWake 3).rdList (.ring n) (mailAddrs addr count inc)).1) := by
  have hcount : ¬ (count = 0 ∨ 85 < count) := by omega
  have hwithin : ¬ 0xFFFFF < addr + count - 1 := by omega
  simp only [execMailRead, hturn, if_neg hcount, if_neg hwithin, firstIdx_eq_none hread 0, Option.filter_none]

end read

section write
variable {s : State} {n tag addr : Nat} {ws : List Word} {inc q : Bool} {x : Rx}
  (hturn : s.mailTurned n tag .write x q = none) (hws : ws ≠ []) (hle : ws.length ≤ 85)
  (hend : addr + ws.length ≤ 0x100000)
include hturn hws hle hend

/-- A WRITE whose words lie in the native space is judged word by word before any is written (R264). -/
theorem execMailWrite_of_within : execMailWrite n tag addr ws inc ⟨x, q⟩ s = .next (
    (firstIdx (fun x => (s.portWake 3).wrRefused (.ring n) x.1 x.2) ((mailAddrs addr ws.length inc).zip ws) 0).elim
      (((s.portWake 3).wrList (.ring n) ((mailAddrs addr ws.length inc).zip ws)).answerMail n tag .write 0 0 0 [])
      fun k => (s.portWake 3).answerMail n tag .write 2 k 0 []) := by
  have hpos : ws.length ≠ 0 := fun h => hws (List.eq_nil_of_length_eq_zero h)
  have hcount : ¬ (ws.length = 0 ∨ 85 < ws.length) := by omega
  have hwithin : ¬ 0xFFFFF < addr + ws.length - 1 := by omega
  simp only [execMailWrite, hturn, if_neg hcount, if_neg hwithin]
  cases firstIdx (fun x => (s.portWake 3).wrRefused (.ring n) x.1 x.2) ((mailAddrs addr ws.length inc).zip ws) 0 <;> rfl
theorem execMailWrite_of_taken
    (hwrite : ∀ x ∈ (mailAddrs addr ws.length inc).zip ws, (s.portWake 3).wrRefused (.ring n) x.1 x.2 = false) :
    execMailWrite n tag addr ws inc ⟨x, q⟩ s = .next
      (((s.portWake 3).wrList (.ring n) ((mailAddrs addr ws.length inc).zip ws)).answerMail n tag .write 0 0 0 []) := by
  rw [execMailWrite_of_within hturn hws hle hend, firstIdx_eq_none hwrite 0]
  rfl
theorem execMailWrite_of_refused {k : Nat} (hk : firstIdx (fun x => (s.portWake 3).wrRefused (.ring n) x.1 x.2)
    ((mailAddrs addr ws.length inc).zip ws) 0 = some k) :
    execMailWrite n tag addr ws inc ⟨x, q⟩ s = .next ((s.portWake 3).answerMail n tag .write 2 k 0 []) := by
  rw [execMailWrite_of_within hturn hws hle hend, hk]
  rfl

end write

section mailbox
variable {s : State} {n tag : Nat} {cmd : Word} {args : List Word} {x : Rx} {q : Bool}

/-- A result slot is held for the node, and its session has the arguments and waits for the answer (R584). -/
def State.mailboxTaken (u : State) (n tag : Nat) (args : List Word) : State :=
  (State.setMbx { u with slots := if u.slots.contains n then u.slots else u.slots ++ [n] } (.ring n)
    { u.mbxOf (.ring n) with args := resList args }).setRing fun r => { r with mbxWait := Sparse.put r.mbxWait n tag }
theorem State.mailboxTaken_of_held {u : State} (tag : Nat) (args : List Word) (h : n ∈ u.slots) :
    u.mailboxTaken n tag args = (u.setMbx (.ring n) { u.mbxOf (.ring n) with args := resList args }).setRing fun r =>
      { r with mbxWait := Sparse.put r.mbxWait n tag } := by
  unfold State.mailboxTaken
  rw [if_pos (List.contains_iff_mem.mpr h)]
theorem State.mailboxTaken_of_new {u : State} (tag : Nat) (args : List Word) (h : n ∉ u.slots) :
    (u.mailboxTaken n tag args).slots = u.slots ++ [n] ∧ (u.mailboxTaken n tag args).regs = u.regs ∧
      ((u.mailboxTaken n tag args).mbxOf (.ring n)).args = resList args := by
  refine ⟨if_neg (by simpa using h), rfl, congrArg Mailbox.args (State.mbxOf_setMbx_same _ _ _)⟩

/-- The check of R584 on the words of a MAILBOX mail: a command word and as many arguments as it says. -/
theorem mailbox_length_fits (hcount : args.length = bitsOf cmd 14 8) (hle : args.length ≤ 64) :
    ¬ ((cmd :: args).length = 0 ∨ 65 < (cmd :: args).length ∨
      (cmd :: args).length ≠ bitsOf ((cmd :: args).getD 0 0) 14 8 + 1) := by
  have hword : (cmd :: args).getD 0 0 = cmd := rfl
  rw [List.length_cons, hword]
  omega

variable (hturn : s.mailTurned n tag .mailbox x q = none) (hcount : args.length = bitsOf cmd 14 8) (hle : args.length ≤ 64)
include hturn hcount hle

theorem execMailMailbox_of_pending (hpending : ((s.portWake 3).mbxOf (.ring n)).status = 1) :
    execMailMailbox n tag (cmd :: args) ⟨x, q⟩ s = .next (
      let u := s.portWake 3
      let v := (u.setMbx (.ring n) { u.mbxOf (.ring n) with overrun := true }).deficit 3
      v.answerMail n tag .mailbox 0 0 0 [(v.mbxOf (.ring n)).statWord]) := by
  simp only [execMailMailbox, hturn, if_neg (mailbox_length_fits hcount hle)]
  exact if_pos hpending
theorem execMailMailbox_of_idle (hidle : ((s.portWake 3).mbxOf (.ring n)).status ≠ 1)
    (hslot : n ∈ (s.portWake 3).slots ∨ (s.portWake 3).slots.length < 4) :
    execMailMailbox n tag (cmd :: args) ⟨x, q⟩ s = .next (
      let v := (s.portWake 3).mailboxTaken n tag args
      v.submit (.ring n) cmd (v.roleOf (.ring n))) := by
  have hfree : ¬ ((s.portWake 3).slots.contains n = false ∧ 4 ≤ (s.portWake 3).slots.length) := by
    rintro ⟨hnew, hfull⟩
    rcases hslot with h | h
    · simp [h] at hnew
    · omega
  simp only [execMailMailbox, hturn, if_neg (mailbox_length_fits hcount hle)]
  exact (if_neg hidle).trans (if_neg hfree)

end mailbox

section image
variable {s : State} {n tag : Nat} {x : Rx} {q : Bool} (hhead : s.headwater = true)
  (hturn : s.mailTurned n tag .imageReq x q = none)
include hhead hturn

theorem execImageReq_of_no_slot (hslot : (s.portWake 3).ring.imgSlot = 0xFF) : execImageReq n ⟨tag, x, q⟩ s =
    .next ((s.portWake 3).answerMail n tag .imageReq 7 0 0 []) := by
  simp [execImageReq, hhead, hturn, hslot]
theorem execImageReq_of_image (hslot : (s.portWake 3).ring.imgSlot ≠ 0xFF)
    (himage : (s.portWake 3).slotBytes ((s.portWake 3).ring.imgSlot + 1) ≠ []) (hfree : (s.portWake 3).ring.bulkTx = none) :
    execImageReq n ⟨tag, x, q⟩ s = .next (
      let u := s.portWake 3
      let len := (u32 (u.slotBytes (u.ring.imgSlot + 1)) 8 + 2) / 3
      let v := (u.answerMail n tag .imageReq 0 0 0 []).setRing fun r =>
        { r with bulkTx := some ⟨tag % 255 + 1, n, 0, 0, len, 0, 0, 0, u.ring.imgSlot + 1, false⟩ }
      (v.setBit RNG_BULK 0 true).requestMail n (tag % 255 + 1) .bulkOpen (bulkOpenBytes (tag % 255 + 1) 0 0 0 len)) := by
  simp [execImageReq, hhead, hturn, hslot, himage, hfree]

end image

section answers
variable {s : State}

theorem execMailAnswer_of_taken {m : Mail} {x : Rx} (hforwards : s.forwards = true) (hanswer : m.answer = true)
    (hovf : x.ovf = false) : execMailAnswer ⟨m, x⟩ s = .next (s.takeAnswer m) := by
  simp [execMailAnswer, hforwards, hanswer, hovf]
theorem State.takeAnswer_of_read {m : Mail} (hwait : s.ring.waiting.contains m.tag = true) (hkind : m.kind = .read) :
    s.takeAnswer m = s.setRing fun r => { r with waiting := r.waiting.erase m.tag } := by
  unfold State.takeAnswer
  rw [if_neg (by simpa using hwait), hkind]
  rfl
theorem State.requestMail_of_full (n tag : Nat) (k : MailKind) (data : Bytes) (hfull : 16 ≤ s.ring.sendQ.length) :
    s.requestMail n tag k data = (s.deficit 1).answered k tag 9 :=
  if_neg (by omega)

section returned
variable {h : RHdr} (hhead : s.headwater = true) (hconflict : s.bit RNG_STAT 4 = false) (hforwards : s.forwards = true)
  (hawake : s.asleep = false)
include hhead hconflict hforwards hawake

theorem execRingCarrierReturn_of_first (hfirst : h.relayed = false) (p : RPay) : execRingCarrierReturn h p s =
    .next (s.setRing fun r => { r with relayQ := r.relayQ ++ [⟨{ h with relayed := true }, p⟩] }) := by
  simp [execRingCarrierReturn, hhead, hconflict, hforwards, hawake, hfirst]
theorem execRingCarrierReturn_of_mail (hsecond : h.relayed = true) (hsrc : h.src ≠ 0) (m : Mail) :
    execRingCarrierReturn h (.mail m) s = .next (s.sendMail
      { m with dest := h.src, src := 0, answer := true, status := 4, detail := 0, hint := 0, count := 0, data := [] }) := by
  simp [execRingCarrierReturn, hhead, hconflict, hforwards, hawake, hsecond, State.unreachable, hsrc]
theorem execRingCarrierReturn_of_bulk (hsecond : h.relayed = true) (hsrc : h.src ≠ 0) (b : Bulk) :
    execRingCarrierReturn h (.bulk b) s = .next (s.sendMail
      ⟨h.src, 0, .bulkDone, true, false, b.session, 0, 0, 4, 0, 0, 0, []⟩) := by
  simp [execRingCarrierReturn, hhead, hconflict, hforwards, hawake, hsecond, State.unreachable, hsrc]

end returned

theorem execMbxRingPending_of_pending {n : Nat} (h : (s.mbxOf (.ring n)).status = 1) :
    execMbxRingPending n s = .next (s.ringMbxAnswer (.ring n) []) ∧ execMbxResultSlotExpire n s = .next s :=
  ⟨if_pos h, if_pos h⟩
theorem execMbxRingPending_of_done {n : Nat} (h : (s.mbxOf (.ring n)).status ≠ 1) :
    execMbxRingPending n s = .next s ∧ execMbxResultSlotExpire n s = .next { s with slots := s.slots.erase n } :=
  ⟨if_neg h, if_neg h⟩

end answers

/-- Settles O35: a request by what turns it or, served, by its checks in their order; answers and returns by their rows. -/
theorem ringMails : Obligations.RingMails := by
  refine ⟨fun s n tag addr count inc q x hturn => ?read, fun s n tag addr ws inc q x hturn => ?write,
    fun s n tag cmd args x q hturn hcount hle => ?mailbox, fun s n tag x q hhead hturn => ?image,
    fun s n tag k x q => ?turned, fun s n tag hint k x => s.turnMail_sends n tag k x hint,
    fun _ _ _ => execMailAnswer_of_taken, fun _ _ => State.takeAnswer_of_read,
    fun _ n tag k data => State.requestMail_of_full n tag k data, fun _ _ _ => rfl,
    fun s h m b hhead hconflict hforwards hawake => ?returned,
    fun _ _ => ⟨execMbxRingPending_of_pending, execMbxRingPending_of_done⟩⟩
  case read =>
    exact ⟨execMailRead_of_readable hturn, execMailRead_of_count hturn, execMailRead_of_past_end hturn⟩
  case write =>
    exact fun hws hle hend =>
      ⟨execMailWrite_of_taken hturn hws hle hend, fun _ => execMailWrite_of_refused hturn hws hle hend⟩
  case mailbox =>
    refine ⟨execMailMailbox_of_pending hturn hcount hle, fun hidle hheld => ⟨_,
      execMailMailbox_of_idle hturn hcount hle hidle (.inl hheld), State.mailboxTaken_of_held tag args hheld⟩,
      fun hidle hnew hroom => ⟨_, execMailMailbox_of_idle hturn hcount hle hidle (.inr hroom),
        State.mailboxTaken_of_new tag args hnew⟩⟩
  case image => exact ⟨execImageReq_of_no_slot hhead hturn, execImageReq_of_image hhead hturn⟩
  case turned =>
    exact ⟨State.mailTurned_of_unaddressed n tag k x q, State.mailTurned_of_boot n tag k x q,
      fun haddr hboot hdeep => ⟨State.mailTurned_of_ovf haddr hboot hdeep, State.mailTurned_of_full haddr hboot hdeep,
        State.mailTurned_of_room haddr hboot hdeep⟩⟩
  case returned =>
    exact ⟨execRingCarrierReturn_of_first hhead hconflict hforwards hawake, fun hsecond hsrc =>
      ⟨execRingCarrierReturn_of_mail hhead hconflict hforwards hawake hsecond hsrc m,
        execRingCarrierReturn_of_bulk hhead hconflict hforwards hawake hsecond hsrc b⟩⟩

end Sys2Proof.Machine
end

section
/-!
Soundness along a run: each command keeps it, by the lemma about its meaning, and so does a tick (R129, R394, R426, R567,
R634).
-/
namespace Sys2Proof.Machine

/-- The outcome of a command in a sound state is a sound next state: the dispatch, arm by arm. -/
theorem exec_good {f : Flash} (c : Instr) (s : State) (hs : s.sound f) : Res.good f (exec c s) :=
  match c with
  | .powerLoss all => execPowerLoss_good all s hs
  | .mainRailsValid => execMainRailsValid_good s hs
  | .hubResetRelease a b c => execHubResetRelease_good a b c s hs
  | .rstnAssert also => execRstnAssert_good also s hs
  | .railBelowReset all also => execRailBelowReset_good all also s hs
  | .railWarnEnter rail => execRailWarnEnter_good rail s hs
  | .railWarnClear rail => execRailWarnClear_good rail s hs
  | .railSafeHigh rail => execRailSafeHigh_good rail s hs
  | .pfwRaise => execPfwRaise_good s hs
  | .pfwClear => execPfwClear_good s hs
  | .tempWarnRaise => execTempWarnRaise_good s hs
  | .tempWarnClear => execTempWarnClear_good s hs
  | .tempSafeLimit => execTempSafeLimit_good s hs
  | .vfldLevelChange i low high => execVfldLevelChange_good i low high s hs
  | .transferStart => execTransferStart_good s hs
  | .transferLimitShutdown i => execTransferLimitShutdown_good i s hs
  | .transferRetry i => execTransferRetry_good i s hs
  | .referenceClockFail reference also => execReferenceClockFail_good reference also s hs
  | .pllbUnlock => execPllbUnlock_good s hs
  | .emberOscStop => execEmberOscStop_good s hs
  | .mssMonitor also => execMssMonitor_good also s hs
  | .mssSramUncorrectable => execMssSramUncorrectable_good s hs
  | .ringForwardStart => execRingForwardStart_good s hs
  | .firmwareVerified vbat => execFirmwareVerified_good vbat s hs
  | .bootImageVerified => execBootImageVerified_good s hs
  | .ringImageTimeout => execRingImageTimeout_good s hs
  | .modbusSettingsApply => execModbusSettingsApply_good s hs
  | .pitch p outside => execPitch_good p outside s hs
  | .pitchVerified outside => execPitchVerified_good outside s hs
  | .pitchLoaded crcBad => execPitchLoaded_good crcBad s hs
  | .pitchStructured => execPitchStructured_good s hs
  | .pitchSafetyCheck fault => execPitchSafetyCheck_good fault s hs
  | .pitchCommit ue => execPitchCommit_good ue s hs
  | .repitch p => execRepitch_good p s hs
  | .repitchChecked => execRepitchChecked_good s hs
  | .repitchLoaded ue => execRepitchLoaded_good ue s hs
  | .repitchStructured => execRepitchStructured_good s hs
  | .repitchCommit => execRepitchCommit_good s hs
  | .doze p asserted => execDoze_good p asserted s hs
  | .dozeWake sources => execDozeWake_good sources s hs
  | .deep p asserted => execDeep_good p asserted s hs
  | .deepPrepared => execDeepPrepared_good s hs
  | .deepCommit asserted => execDeepCommit_good asserted s hs
  | .deepRetain => execDeepRetain_good s hs
  | .deepWake sources => execDeepWake_good sources s hs
  | .wakeCoreRunning => execWakeCoreRunning_good s hs
  | .wakeScrubDone ue => execWakeScrubDone_good ue s hs
  | .wakeComplete => execWakeComplete_good s hs
  | .maintenance p => execMaintenance_good p s hs
  | .lpbCycleStart la bhen read both => execLpbCycleStart_good la bhen read both s hs
  | .lpbCycleAck wdata ue => execLpbCycleAck_good wdata ue s hs
  | .lpbCycleEnd => execLpbCycleEnd_good s hs
  | .lpbPostedCommit => execLpbPostedCommit_good s hs
  | .persAccumulate => execPersAccumulate_good s hs
  | .irqPulseEnd j => execIrqPulseEnd_good j s hs
  | .interruptAcknowledge j abandoned => execInterruptAcknowledge_good j abandoned s hs
  | .tenureRequest => execTenureRequest_good s hs
  | .busGrant => execBusGrant_good s hs
  | .tenureStart => execTenureStart_good s hs
  | .masterCycleDone data ue => execMasterCycleDone_good data ue s hs
  | .tenureEnd => execTenureEnd_good s hs
  | .grantTimeout => execGrantTimeout_good s hs
  | .masterErrorTimeout => execMasterErrorTimeout_good s hs
  | .foreignBusBusy => execForeignBusBusy_good s hs
  | .spiFrameStart mode3 => execSpiFrameStart_good mode3 s hs
  | .spiCommandWord cmd crc0 cnt crc1 => execSpiCommandWord_good cmd crc0 cnt crc1 s hs
  | .spiReadFetch r ue => execSpiReadFetch_good r ue s hs
  | .spiWriteWord w crc full => execSpiWriteWord_good w crc full s hs
  | .spiFrameEnd bits part crc => execSpiFrameEnd_good bits part crc s hs
  | .modbusFrameError => execModbusFrameError_good s hs
  | .readCoils bcast a q ue => execReadCoils_good bcast a q ue s hs
  | .readDiscreteInputs bcast a q ue => execReadDiscreteInputs_good bcast a q ue s hs
  | .readHoldingRegisters bcast a q ue => execReadHoldingRegisters_good bcast a q ue s hs
  | .readInputRegisters bcast a q ue => execReadInputRegisters_good bcast a q ue s hs
  | .writeSingleCoil r a v => execWriteSingleCoil_good r a v s hs
  | .writeSingleRegister r a v => execWriteSingleRegister_good r a v s hs
  | .writeMultipleCoils r a q count d => execWriteMultipleCoils_good r a q count d s hs
  | .writeMultipleRegisters r a q count d => execWriteMultipleRegisters_good r a q count d s hs
  | .readWriteMultipleRegisters bcast a q wa wq count d ue =>
    execReadWriteMultipleRegisters_good bcast a q wa wq count d ue s hs
  | .unsupportedFunction bcast fn => execUnsupportedFunction_good bcast fn s hs
  | .modbusReply => execModbusReply_good s hs
  | .roleClaim p => execRoleClaim_good p s hs
  | .roleRelease p => execRoleRelease_good p s hs
  | .ringLinkUp w miswired => execRingLinkUp_good w miswired s hs
  | .ringLinkDown w signal => execRingLinkDown_good w signal s hs
  | .ringCycleStart => execRingCycleStart_good s hs
  | .ringCyc h c x resid foreign phaseErr => execRingCyc_good h c x resid foreign phaseErr s hs
  | .ringPd f pd fin => execRingPd_good f pd fin s hs
  | .ringEvt f => execRingEvt_good f s hs
  | .ringEmpty f => execRingEmpty_good f s hs
  | .ringSyncFrame f m groups seq => execRingSyncFrame_good f m groups seq s hs
  | .ringEnum f firstPos next es foreign => execRingEnum_good f firstPos next es foreign s hs
  | .ringDly w answer exch turn roundTrip => execRingDly_good w answer exch turn roundTrip s hs
  | .ringBadFrame w f => execRingBadFrame_good w f s hs
  | .ringPdReturn slots fin => execRingPdReturn_good slots fin s hs
  | .ringEvtReturn cells => execRingEvtReturn_good cells s hs
  | .ringEnumReturn next es => execRingEnumReturn_good next es s hs
  | .ringCarrierReturn h p => execRingCarrierReturn_good h p s hs
  | .ringDelayMeasure w => execRingDelayMeasure_good w s hs
  | .ringDlyTimeout w => execRingDlyTimeout_good w s hs
  | .ringHoldoverLapse => execRingHoldoverLapse_good s hs
  | .pdFrameLoss => execPdFrameLoss_good s hs
  | .ringHopStable w => execRingHopStable_good w s hs
  | .syncnFall err => execSyncnFall_good err s hs
  | .syncEdge => execSyncEdge_good s hs
  | .mailRead node tag addr count autoinc r ecc => execMailRead_good node tag addr count autoinc r ecc s hs
  | .mailWrite node tag addr ws autoinc r => execMailWrite_good node tag addr ws autoinc r s hs
  | .mailMailbox node tag ws r => execMailMailbox_good node tag ws r s hs
  | .bulkOpen node tag session dir rsv2 z rsvD r => execBulkOpen_good node tag session dir rsv2 z rsvD r s hs
  | .bulkAck node a x => execBulkAck_good node a x s hs
  | .bulkDone node tag session z r => execBulkDone_good node tag session z r s hs
  | .imageReq node q => execImageReq_good node q s hs
  | .ringBulk node b west ovf => execRingBulk_good node b west ovf s hs
  | .mailAnswer r => execMailAnswer_good r s hs
  | .ringMailTimeout tag kind => execRingMailTimeout_good tag kind s hs
  | .bulkStallTimeout tx => execBulkStallTimeout_good tx s hs
  | .recordRelease l => execRecordRelease_good l s hs
  | .weirCheck => execWeirCheck_good s hs
  | .slcFlushTimeout k => execSlcFlushTimeout_good k s hs
  | .guylineSlot i n => execGuylineSlot_good i n s hs
  | .islandDownlink i err errA errB => execIslandDownlink_good i err errA errB s hs
  | .hubUplink i m err full => execHubUplink_good i m err full s hs
  | .islandLost i osc => execIslandLost_good i osc s hs
  | .islandLinkTimeout i => execIslandLinkTimeout_good i s hs
  | .glDegradedClear i => execGlDegradedClear_good i s hs
  | .structureCommit i raw => execStructureCommit_good i raw s hs
  | .structureRetry i => execStructureRetry_good i s hs
  | .structureDiscard i => execStructureDiscard_good i s hs
  | .islandSubframeLoss i isB => execIslandSubframeLoss_good i isB s hs
  | .kernelSubframeIn isB i errLife errData errCrc => execKernelSubframeIn_good isB i errLife errData errCrc s hs
  | .kernelSubframeLoss isB i => execKernelSubframeLoss_good isB i s hs
  | .loopStable i => execLoopStable_good i s hs
  | .rungClimb i => execRungClimb_good i s hs
  | .rungDescent i rung reservoir => execRungDescent_good i rung reservoir s hs
  | .rungTakeEffect i => execRungTakeEffect_good i s hs
  | .brownOutStop i => execBrownOutStop_good i s hs
  | .islandRestart i => execIslandRestart_good i s hs
  | .inputFilterChange c st => execInputFilterChange_good c st s hs
  | .chatterBin c => execChatterBin_good c s hs
  | .diagSet c d again => execDiagSet_good c d again s hs
  | .diagClear c d => execDiagClear_good c d s hs
  | .inrushEnd c => execInrushEnd_good c s hs
  | .faultAutoRetry c => execFaultAutoRetry_good c s hs
  | .islandOvercurrent i again => execIslandOvercurrent_good i again s hs
  | .supplyLimitOff c => execSupplyLimitOff_good c s hs
  | .supplyRetry c held => execSupplyRetry_good c held s hs
  | .testPulseStart c => execTestPulseStart_good c s hs
  | .testPulseEnd c pass again => execTestPulseEnd_good c pass again s hs
  | .supplyTestPulse c raw => execSupplyTestPulse_good c raw s hs
  | .supplyTestPulseEnd c fell => execSupplyTestPulseEnd_good c fell s hs
  | .inputSwitchOpen c => execInputSwitchOpen_good c s hs
  | .inputSwitchRetry c => execInputSwitchRetry_good c s hs
  | .fineOutput c => execFineOutput_good c s hs
  | .riffleValue c => execRiffleValue_good c s hs
  | .filterReset c => execFilterReset_good c s hs
  | .captureTrigger q src => execCaptureTrigger_good q src s hs
  | .captureBlockComplete q => execCaptureBlockComplete_good q s hs
  | .homeDebounce a asserted => execHomeDebounce_good a asserted s hs
  | .homingTimeout a => execHomingTimeout_good a s hs
  | .limitRelease a pos => execLimitRelease_good a pos s hs
  | .standstillTimeout a => execStandstillTimeout_good a s hs
  | .ssiRead a idle word after back => execSsiRead_good a idle word after back s hs
  | .axisSnapshot => execAxisSnapshot_good s hs
  | .nrgEscalate c => execNrgEscalate_good c s hs
  | .kernelCycle isB safen fault => execKernelCycle_good isB safen fault s hs
  | .inputConfirm isB f j => execInputConfirm_good isB f j s hs
  | .discrepancyTimeout isB f => execDiscrepancyTimeout_good isB f s hs
  | .twoHandSyncTimeout isB f => execTwoHandSyncTimeout_good isB f s hs
  | .ss1DelayEnd isB p => execSs1DelayEnd_good isB p s hs
  | .pairTestRequest isB p => execPairTestRequest_good isB p s hs
  | .safenReassert isB => execSafenReassert_good isB s hs
  | .wdgWindowOpen => execWdgWindowOpen_good s hs
  | .wdgWindowClose => execWdgWindowClose_good s hs
  | .wdgClockTrip wosc => execWdgClockTrip_good wosc s hs
  | .cfgScrubWord addr ecc => execCfgScrubWord_good addr ecc s hs
  | .cfgRepairDone ue => execCfgRepairDone_good ue s hs
  | .sensorUpdate n mean low high => execSensorUpdate_good n mean low high s hs
  | .logFlush => execLogFlush_good s hs
  | .poll p => execPoll_good p s hs
  | .info p => execInfo_good p s hs
  | .reset p => execReset_good p s hs
  | .commandReset also => execCommandReset_good also s hs
  | .imageStore p => execImageStore_good p s hs
  | .imageStoreDone fail => execImageStoreDone_good fail s hs
  | .imageSelect p => execImageSelect_good p s hs
  | .safetyAccept p => execSafetyAccept_good p s hs
  | .restartAck p => execRestartAck_good p s hs
  | .keyEnrolFirst p => execKeyEnrolFirst_good p s hs
  | .keyEnrolReplace p => execKeyEnrolReplace_good p s hs
  | .keyEnrolRemove p => execKeyEnrolRemove_good p s hs
  | .fwStore p => execFwStore_good p s hs
  | .fwVerifyDone => execFwVerifyDone_good s hs
  | .fwProgramDone fail => execFwProgramDone_good fail s hs
  | .bankStoreDone fail => execBankStoreDone_good fail s hs
  | .bankEraseDone => execBankEraseDone_good s hs
  | .fwConfirm p => execFwConfirm_good p s hs
  | .fwConfirmTimer => execFwConfirmTimer_good s hs
  | .settingRead p => execSettingRead_good p s hs
  | .settingWrite p => execSettingWrite_good p s hs
  | .settingsPush p => execSettingsPush_good p s hs
  | .calPoint p => execCalPoint_good p s hs
  | .calPointDone p c => execCalPointDone_good p c s hs
  | .calPointTimeout p => execCalPointTimeout_good p s hs
  | .calCommit p => execCalCommit_good p s hs
  | .calClear p => execCalClear_good p s hs
  | .logRead p => execLogRead_good p s hs
  | .logWrite p => execLogWrite_good p s hs
  | .sensorMinmax p => execSensorMinmax_good p s hs
  | .rtcSet p => execRtcSet_good p s hs
  | .rtcAlarm p => execRtcAlarm_good p s hs
  | .mbxRingPending node => execMbxRingPending_good node s hs
  | .mbxResultSlotExpire node => execMbxResultSlotExpire_good node s hs
  | .emberToVbat => execEmberToVbat_good s hs
  | .emberToVddio crcOk low => execEmberToVddio_good crcOk low s hs
  | .emberLow lost => execEmberLow_good lost s hs
  | .rtcAlarmMatch => execRtcAlarmMatch_good s hs
  | .loadCheck => execLoadCheck_good s hs
  | .tapReset => execTapReset_good s hs
  | .extest => execExtest_good s hs
  | .samplePreload => execSamplePreload_good s hs
  | .idcode => execIdcode_good s hs
  | .clamp => execClamp_good s hs
  | .highz => execHighz_good s hs
  | .islSel => execIslSel_good s hs
  | .islandScan => execIslandScan_good s hs
  | .bypass => execBypass_good s hs
  | .boundaryCapture lands => execBoundaryCapture_good lands s hs
  | .boundaryUpdate w => execBoundaryUpdate_good w s hs
  | .islandScanCapture => execIslandScanCapture_good s hs
  | .islandScanUpdate w => execIslandScanUpdate_good w s hs
  | .partnerRxFault w => execPartnerRxFault_good w s hs
  | .islSelUpdate w => execIslSelUpdate_good w s hs

theorem step_good {f : Flash} {s : State} (hs : s.sound f) : Res.good f (step s) := by
  unfold step
  split
  · exact exec_good _ _ hs
  · exact ⟨_, rfl, s.tick_sound hs⟩

/-- Settles O5: a step by its command or its tick, each of which answers a sound state. -/
theorem stepKeepsSound : Obligations.StepKeepsSound := by
  intro f s t hs hstep
  obtain ⟨u, hu, husound⟩ := step_good hs
  cases hu.symm.trans hstep
  exact husound

end Sys2Proof.Machine
end

section
/-!
The full pitch, each instant by the guard of its row (R131–R136, R142–R146, R154, R155, R580).
-/
namespace Sys2Proof.Machine

/-- An image command that is allowed, with no image and no long operation running, does what its body makes of the
arguments. -/
theorem State.imageCommand_of_asks {s t : State} {p : Port} {code scope : Nat} {args : List Word} {isl : Job → Nat}
    {bad : Job → Option Nat} {ok : Bool} {body : Job → State → State} (h : s.asks p code args) (hok : ok = true)
    (himage : s.imageBusy = false) (hbusy : s.busyOp = false)
    (hargs : ∀ role claim, bad ⟨code, args, role, false, claim⟩ = none)
    (hbody : ∀ role claim, body ⟨code, args, role, false, claim⟩ s = t) :
    s.imageCommand p code scope isl bad ok body = t :=
  State.command_of_asks h rfl (by simp [hbusy]) hargs fun role claim => by simp [hok, himage, hbody]

theorem State.asks.has_job {s : State} {p : Port} {code : Nat} {args : List Word} (h : s.asks p code args) :
    ∃ role claim, (s.mbxOf p).job = some ⟨code, args, role, false, claim⟩ := by
  obtain ⟨-, role, claim, -, hjob⟩ := h
  exact ⟨role, claim, hjob⟩

theorem execPitch_of_asks {s : State} {p : Port} {n : Word} (h : s.asks p 0x10 [n]) (hdev : s.dev.stable = true)
    (himage : s.imageBusy = false) (hbusy : s.busyOp = false) (htest : s.bit SYS_STRAPS 4 = false)
    (hsrc : n = 1 ∨ n = 2 ∨ (n = 0 ∧ s.bit SYS_IMG_STAT 5 = true)) : ∃ j, (s.mbxOf p).job = some j ∧
      execPitch p false s = .next ((s.startOp p j).setPitch fun _ => ⟨.verifying, false,
        if n = 0 then s.fld SYS_IMG_STAT 1 0 else n.toNat, if n = 0 then s.cfg.img else none, 0⟩) := by
  obtain ⟨role, claim, hjob⟩ := h.has_job
  refine ⟨_, hjob, congrArg Host.Outcome.next
    (State.imageCommand_of_asks h hdev himage hbusy (fun _ _ => ?args) fun _ _ => ?body)⟩
  case args => rcases hsrc with rfl | rfl | ⟨rfl, hret⟩ <;> simp [Job.count, Job.arg, *]
  case body =>
    have hzero : n.toNat = 0 ↔ n = 0 := by bv_omega
    simp only [htest, Bool.or_self, Bool.false_eq_true, if_false, Job.arg, List.getD_cons_zero, hzero]
    rfl

section verified
variable {s : State} {im : Image} {c : Nat} (hphase : s.pitch.phase = .verifying) (hmss : s.mss.halted = false)
  (hdev : s.dev.stable = true) (hsleep : s.sleep.phase < 4) (hcand : s.pitch.cand = none)
include hphase hmss hdev hsleep hcand

theorem execPitchVerified_of_ok (h : s.verifySource s.pitch.src = .ok im) :
    execPitchVerified false s = .next (s.enterPitching im) := by
  simp [execPitchVerified, hphase, hmss, hdev, hsleep.ne, show s.sleep.phase ≠ 5 by omega, hcand, h]
theorem execPitchVerified_of_error (h : s.verifySource s.pitch.src = .error c) : execPitchVerified false s =
    .next ((s.setPitch fun _ => PitchSt.idle).rejectOp c 1 0 (s.serialOf s.pitch.src)) := by
  simp [execPitchVerified, hphase, hmss, hdev, hsleep.ne, show s.sleep.phase ≠ 5 by omega, hcand, h]

end verified

section loaded
variable {s : State} {im : Image} (hphase : s.pitch.phase = .entered) (hcand : s.pitch.cand = some im)
include hphase hcand

theorem execPitchLoaded_of_sound : execPitchLoaded false s =
    .next ((List.finRange 8).foldl State.structureIsland ((s.setCfg fun c =>
      { c with img := some im, src := sources im s.pitch.src, bad := [], repair := [], again := false, seen := [] }).setPitch
        fun p => { p with phase := .loaded })) := by
  simp only [execPitchLoaded, hphase, hcand, Bool.false_eq_true, if_false]
  rfl
theorem execPitchLoaded_of_crc : execPitchLoaded true s = .next (s.endPitch rejSecCrc false) := by
  simp only [execPitchLoaded, hphase, hcand, if_true]

end loaded

theorem execPitchStructured_of_done {s : State} (hphase : s.pitch.phase = .loaded)
    (hdone : ∀ i, s.structureDone i = true) : execPitchStructured s = .next (
      let t := s.setPitch fun p => { p with phase := .structured }
      if s.pitch.boot = true then t.setFld SYS_BOOT 3 0 4 else t) :=
  if_pos ⟨hphase, List.all_eq_true.mpr fun i _ => hdone i⟩

section spc
variable (s : State) (im : Image)

theorem State.reg_showSpc_of_not_mem {a : Nat} (h : a ∉ [SYS_SPC_LO, SYS_SPC_HI]) : (s.showSpc im).reg a = s.reg a := by
  obtain ⟨hlo, hhi⟩ : a ≠ SYS_SPC_LO ∧ a ≠ SYS_SPC_HI := by simpa using h
  simp [State.showSpc, hlo, hhi]
/-- SYS_SPC shows the 32 bits of the SPC of an image with a SAFETY section (R146). -/
theorem State.showSpc_shows (hspc : im.spc < 2 ^ 32) (hsec : im.sec tagSafety ≠ none) :
    ((s.showSpc im).reg SYS_SPC_LO).toNat + 2 ^ 24 * ((s.showSpc im).reg SYS_SPC_HI).toNat = im.spc := by
  have hlo : (s.showSpc im).reg SYS_SPC_LO = toWord (im.spc % 16777216) := by
    simp [State.showSpc, Option.isSome_iff_ne_none.mpr hsec]
  have hhi : (s.showSpc im).reg SYS_SPC_HI = toWord (im.spc / 16777216) := by
    simp [State.showSpc, Option.isSome_iff_ne_none.mpr hsec]
  rw [hlo, hhi, toWord, toWord, BitVec.toNat_ofNat, BitVec.toNat_ofNat]
  omega

end spc

/-- What p4 shows in SYS_BOOT, SYS_IMG_STAT and SYS_SPC: whether the SAFETY section is accepted, and its SPC (R145, R146). -/
def State.showSafety (s : State) (im : Image) (ok : Bool) : State :=
  ((s.setBit SYS_BOOT 10 ok).setFld SYS_IMG_STAT 4 2 (1 + (if ok then 4 else 2))).showSpc im

section safety
variable (s : State) (im : Image) (ok : Bool)

theorem State.reg_showSafety_of_not_mem {a : Nat} (h : a ∉ [SYS_BOOT, SYS_IMG_STAT, SYS_SPC_LO, SYS_SPC_HI]) :
    (s.showSafety im ok).reg a = s.reg a := by
  obtain ⟨hboot, hstat, hspc⟩ : a ≠ SYS_BOOT ∧ a ≠ SYS_IMG_STAT ∧ a ∉ [SYS_SPC_LO, SYS_SPC_HI] := by
    simpa using h
  simp [State.showSafety, State.reg_showSpc_of_not_mem _ _ hspc, hboot, hstat]
/-- KST_PASS is the acceptance. -/
theorem State.showSafety_kstPass : (s.showSafety im ok).bit SYS_BOOT 10 = ok := by
  rw [State.bit, State.showSafety, State.reg_showSpc_of_not_mem _ _ (by decide)]
  exact (State.bit_setFld _ _ _ _ _ _ _ (by decide) (by decide)).trans
    ((State.bit_setBit _ _ _ _ _ _ (by decide)).trans (if_pos ⟨rfl, rfl⟩))
/-- SAFETY_PENDING is its opposite. -/
theorem State.showSafety_pending : (s.showSafety im ok).bit SYS_IMG_STAT 3 = !ok := by
  rw [State.bit, State.showSafety, State.reg_showSpc_of_not_mem _ _ (by decide)]
  refine (State.bit_setFld _ _ _ _ _ _ _ (by decide) (by decide)).trans ?_
  cases ok <;> rfl

end safety

/-- The kernels of a pitch have taken a SAFETY body, which arms them or not (p4 of R135). -/
def State.safetyTaken (s : State) (b : Bytes) (ok : Bool) : State :=
  { s with
    pitch := { s.pitch with phase := .checked }
    saf := { s.saf with ka := s.saf.ka.load b, kb := s.saf.kb.load b, runs := 0, armed := ok } }
theorem execPitchSafetyCheck_of_good {s : State} {im : Image} {b : Bytes} (hphase : s.pitch.phase = .structured)
    (hcand : s.pitch.cand = some im) (hbody : im.body tagSafety = some b) (hboot : s.pitch.boot = false) :
    execPitchSafetyCheck 0 s = .next ((s.safetyTaken b (decide (s.settings.spc.map (·.1) = some im.spc))).showSafety im
      (decide (s.settings.spc.map (·.1) = some im.spc))) := by
  simp only [execPitchSafetyCheck, hphase, hcand, hbody]
  exact (if_neg (by decide)).trans (congrArg Host.Outcome.next (if_neg (show ¬ s.pitch.boot = true by simp [hboot])))

section commit
variable {s : State} {im : Image} (hcand : s.pitch.cand = some im)
  (hdue : s.pitch.phase = .checked ∨ (s.pitch.phase = .structured ∧ im.sec tagSafety = none))
include hcand hdue

theorem execPitchCommit_of_uncorrectable (a : Nat) :
    execPitchCommit (some a) s = .next ((s.cfgUe a).endPitch rejScrub false) := by
  rcases hdue with hphase | ⟨hphase, hsec⟩
  · simp [execPitchCommit, hcand, hphase]
  · simp [execPitchCommit, hcand, hphase, hsec]
/-- With every word sound, an island whose readback failed for good ends the pitch (R134). -/
theorem execPitchCommit_of_clean (hbad : s.cfg.bad = []) : execPitchCommit none s = .next (
    if ∃ i, (s.isl i).sPhase = 5 then s.endPitch rejReadback true else s.commitPitch im) := by
  rcases hdue with hphase | ⟨hphase, hsec⟩
  · simp [execPitchCommit, hcand, hphase, hbad, apply_ite Host.Outcome.next]
  · simp [execPitchCommit, hcand, hphase, hsec, hbad, apply_ite Host.Outcome.next]

end commit

/-- Settles O18: each instant by the guard of its row, the safety check by what it shows in three registers. -/
theorem pitchSteps : Obligations.PitchSteps := by
  refine ⟨fun _ _ _ => execPitch_of_asks,
    fun _ _ => execPitchVerified_of_ok, fun _ _ => execPitchVerified_of_error,
    fun _ _ hphase hcand => ⟨execPitchLoaded_of_sound hphase hcand, execPitchLoaded_of_crc hphase hcand⟩,
    fun _ => execPitchStructured_of_done, fun s im b hphase hcand hbody hboot => ?check,
    fun s im hcand hdue => ⟨fun hbad hnone => ?_, fun hbad hsome => ?_, execPitchCommit_of_uncorrectable hcand hdue⟩⟩
  case check =>
    exact ⟨_, execPitchSafetyCheck_of_good hphase hcand hbody hboot, rfl, rfl, rfl, rfl, State.showSafety_kstPass _ _ _,
      State.showSafety_pending _ _ _, State.showSpc_shows _ _, fun _ => State.reg_showSafety_of_not_mem _ _ _, rfl, rfl⟩
  · exact (execPitchCommit_of_clean hcand hdue hbad).trans (congrArg _ (if_neg (by simpa using hnone)))
  · exact (execPitchCommit_of_clean hcand hdue hbad).trans (congrArg _ (if_pos hsome))

end Sys2Proof.Machine
end

section
/-!
The re-pitch of an island, each instant by the guard of its row (R137–R140, R148–R151).
-/
namespace Sys2Proof.Machine

theorem execRepitch_of_asks {s : State} {p : Port} {i : Fin 8} {n : Word} (h : s.asks p 0x11 [toWord i.val, n])
    (hdev : s.dev = .pitched) (himage : s.imageBusy = false) (hbusy : s.busyOp = false)
    (htest : s.bit SYS_STRAPS 4 = false) (hsrc : n = 1 ∨ n = 2) : ∃ j, (s.mbxOf p).job = some j ∧
      execRepitch p s = .next ((s.startOp p j).setRepitch fun _ => ⟨1, i.val, n.toNat, none, false⟩) := by
  obtain ⟨role, claim, hjob⟩ := h.has_job
  have hword : (toWord i.val).toNat = i.val := (BitVec.toNat_ofNat i.val 24).trans (Nat.mod_eq_of_lt (by omega))
  refine ⟨_, hjob, congrArg Host.Outcome.next
    (State.imageCommand_of_asks h (decide_eq_true hdev) himage hbusy (fun _ _ => ?args) fun _ _ => ?body)⟩
  case args =>
    rcases hsrc with rfl | rfl <;> simp [Job.count, Job.arg, hword, show ¬ 7 < i.val by omega]
  case body =>
    simp only [htest, Bool.false_eq_true, if_false, Job.arg, List.getD_cons_zero, List.getD_cons_succ, hword]
    rfl

section checked
variable {s : State} {im old : Image} {c : Nat} (hphase : s.repitch.phase = 1) (hmss : s.mss.halted = false)
include hphase hmss

theorem execRepitchChecked_of_ok (h : s.verifySource s.repitch.src = .ok im) (hold : s.cfg.img = some old)
    (hscope : repitchScope old im s.repIsl.val (s.bit (ISL s.repIsl 8) 3) = none) (hbad : s.cfg.bad = [])
    (hlock : s.bit (ISL s.repIsl 0) 0 = true) : execRepitchChecked s = .next (s.observe
      ((s.setRepitch fun r => { r with phase := 2, cand := some im }).setBit (ISL s.repIsl 0) 1 false)) := by
  simp [execRepitchChecked, hphase, hmss, h, hold, hscope, hbad, hlock]
theorem execRepitchChecked_of_error (h : s.verifySource s.repitch.src = .error c) :
    execRepitchChecked s = .next (s.abandonRepitch c (s.serialOf s.repitch.src)) := by
  simp [execRepitchChecked, hphase, hmss, h]

end checked

section loading
variable {s : State} {im : Image} (hphase : s.repitch.phase = 2) (hcand : s.repitch.cand = some im)
include hphase hcand

theorem execRepitchLoaded_of_clean : execRepitchLoaded none s =
    .next (((s.takeSection s.repIsl im).structureIsland s.repIsl).setRepitch fun r => { r with phase := 3 }) := by
  simp only [execRepitchLoaded, hphase, hcand]
theorem execRepitchLoaded_of_first_error {a : Nat} (h : (s.cfgUe a).repitch.retried = false) : execRepitchLoaded (some a) s =
    .next ((s.cfgUe a).setRepitch fun r => { r with retried := true }) := by
  simp only [execRepitchLoaded, hphase, hcand, h, if_true]
theorem execRepitchLoaded_of_second_error {a : Nat} (h : (s.cfgUe a).repitch.retried = true) : execRepitchLoaded (some a) s =
    .next ((((s.cfgUe a).takeSection s.repIsl im).setCfg fun c =>
      { c with repair := c.repair ++ [tagIsland s.repIsl.val] }).abandonRepitch rejScrub im.serial) := by
  simp only [execRepitchLoaded, hphase, hcand, h, Bool.true_eq_false, if_false]

end loading

section structured
variable {s : State} {im : Image} (hphase : s.repitch.phase = 3) (hcand : s.repitch.cand = some im)
include hphase hcand

theorem execRepitchStructured_of_read_back (h : (s.isl s.repIsl).sPhase = 3) :
    execRepitchStructured s = .next (s.setRepitch fun r => { r with phase := 4 }) := by
  simp [execRepitchStructured, hphase, hcand, h]
theorem execRepitchStructured_of_mismatch (h : (s.isl s.repIsl).sPhase = 5) :
    execRepitchStructured s = .next (s.abandonRepitch rejReadback im.serial) := by
  simp [execRepitchStructured, hphase, hcand, h]

end structured

theorem execRepitchCommit_of_structured {s : State} {im : Image} (hphase : s.repitch.phase = 4)
    (hcand : s.repitch.cand = some im) (hbad : s.cfg.bad = []) (hstruct : s.bit (ISL s.repIsl 0) 1 = true) :
    execRepitchCommit s =
      .next (((s.setRepitch fun _ => RepitchSt.idle).repitchDone s.repIsl im s.opSession).endOp stOK []) := by
  simp [execRepitchCommit, hphase, hcand, hbad, hstruct]

/-- Settles O19: each instant by the guard of its row. -/
theorem repitchSteps : Obligations.RepitchSteps :=
  ⟨fun _ _ _ _ => execRepitch_of_asks,
    fun _ _ _ => execRepitchChecked_of_ok, fun _ _ => execRepitchChecked_of_error,
    fun _ _ hphase hcand => ⟨execRepitchLoaded_of_clean hphase hcand, fun _ =>
      ⟨execRepitchLoaded_of_first_error hphase hcand, execRepitchLoaded_of_second_error hphase hcand⟩⟩,
    fun _ _ hphase hcand =>
      ⟨execRepitchStructured_of_read_back hphase hcand, execRepitchStructured_of_mismatch hphase hcand⟩,
    fun _ _ => execRepitchCommit_of_structured⟩

end Sys2Proof.Machine
end

section
/-!
The commands that write an image slot, boot control, the acceptance and key 4, and the end of an image store (R129–R134,
R144, R580, R582, R588, R594).
-/
namespace Sys2Proof.Machine

section imageStore
variable {s : State} {p : Port} {k a n : Word} (h : s.asks p 0x12 [k, a, n]) (hk : k.toNat ≤ 1) (ha : a.toNat ≤ 0xFFFFF)
  (hn : 1 ≤ n.toNat) (hend : a.toNat + stagedWords n.toNat ≤ 0x100000) (hdev : s.dev.stable = true)
  (hbusy : s.busyOp = false) (himage : s.imageBusy = false)
include h hk ha hn hend hdev hbusy himage

/-- An image store with valid arguments: the protected slot, the length and PFW are judged in this order. -/
theorem execImageStore_of_asks : execImageStore p s = .next (
    if k.toNat = s.bootCtl.imgSlot then s.refuseImage p rejProtected 3 0
    else if 0x100000 < n.toNat then s.refuseImage p rejLength 3 0
    else if s.pfw then s.finish p stAborted []
    else s.startOp p ⟨0x12, [k, a, n], 3, false, 0⟩) := by
  refine congrArg Host.Outcome.next (State.imageCommand_of_asks h hdev himage hbusy (fun _ _ => ?_) fun _ _ => rfl)
  simp [imageStoreBad, Job.badStaged, Job.count, Job.arg, hk, ha.not_gt, hend.not_gt, show n.toNat ≠ 0 by omega]
theorem execImageStore_of_protected (hprot : k.toNat = s.bootCtl.imgSlot) :
    execImageStore p s = .next (s.refuseImage p rejProtected 3 0) := by
  rw [execImageStore_of_asks h hk ha hn hend hdev hbusy himage, if_pos hprot]
variable (hfree : k.toNat ≠ s.bootCtl.imgSlot)
include hfree
theorem execImageStore_of_long (hlong : 0x100000 < n.toNat) :
    execImageStore p s = .next (s.refuseImage p rejLength 3 0) := by
  rw [execImageStore_of_asks h hk ha hn hend hdev hbusy himage, if_neg hfree, if_pos hlong]
variable (hfits : n.toNat ≤ 0x100000)
include hfits
theorem execImageStore_of_pfw (hpfw : s.pfw = true) : execImageStore p s = .next (s.finish p stAborted []) := by
  rw [execImageStore_of_asks h hk ha hn hend hdev hbusy himage, if_neg hfree, if_neg hfits.not_gt, if_pos hpfw]
theorem execImageStore_of_started (hpfw : s.pfw = false) : ∃ role claim, execImageStore p s =
    .next (s.startOp p ⟨0x12, [k, a, n], role, false, claim⟩) := by
  refine ⟨3, 0, ?_⟩
  rw [execImageStore_of_asks h hk ha hn hend hdev hbusy himage, if_neg hfree, if_neg hfits.not_gt, if_neg (by simp [hpfw])]

end imageStore

section storeDone
variable {s : State} {o : LongOp} (hop : s.mss.op = some o) (hcode : o.code = 0x12) (hmss : s.mss.halted = false)
include hop hcode hmss

theorem execImageStoreDone_of_fail (e : Nat) : execImageStoreDone (some e) s = .next (((s.setFlash (·.setImg (o.arg 0)
    (cutImage s.fresh (s.staged (o.arg 1) (o.arg 2))))).takeFree).endOp stFlashError [toWord e]) := by
  simp [execImageStoreDone, hop, hcode, hmss]
variable {t : State} (ht : t = s.setFlash (·.setImg (o.arg 0) (s.staged (o.arg 1) (o.arg 2))))
include ht
theorem execImageStoreDone_of_error {c : Nat} (h : t.verifySource (o.arg 0 + 1) = .error c) :
    execImageStoreDone none s = .next (t.rejectOp c 3 0 (t.serialOf (o.arg 0 + 1))) := by
  subst ht
  simp [execImageStoreDone, hop, hcode, hmss, h]
theorem execImageStoreDone_of_ok {im : Image} (h : t.verifySource (o.arg 0 + 1) = .ok im) :
    execImageStoreDone none s = .next (t.endOp stOK []) := by
  subst ht
  simp [execImageStoreDone, hop, hcode, hmss, h]

end storeDone

theorem execImageStoreDone_of_not {s : State} (e : Option Nat) (h : s.mss.op = none ∨ s.mss.halted = true) :
    execImageStoreDone e s = .next s := by
  unfold execImageStoreDone
  split
  next o hop => exact if_pos (.inr (h.resolve_left (by simp [hop])))
  next => rfl

section imageSelect
variable {s : State} {p : Port} {k : Word} (h : s.asks p 0x13 [k]) (hk : k.toNat ≤ 1) (hdev : s.dev.stable = true)
  (hbusy : s.busyOp = false) (himage : s.imageBusy = false)
include h hk hdev hbusy himage

theorem execImageSelect_of_error {c : Nat} (hverify : s.verifySource (k.toNat + 1) = .error c) :
    execImageSelect p s = .next (
      let t := s.reject c 3 0 (s.serialOf (k.toNat + 1)) (sessionNo p)
      t.finish p stRejected [t.reg SYS_IMG_REJECT]) := by
  refine congrArg Host.Outcome.next (State.imageCommand_of_asks h hdev himage hbusy (fun _ _ => ?_) fun _ _ => ?_)
  · simp [Job.count, Job.arg, hk]
  · simp [Job.arg, hverify]
theorem execImageSelect_of_ok {im : Image} (hverify : s.verifySource (k.toNat + 1) = .ok im) : execImageSelect p s =
    .next ((s.startOp p ⟨0x13, [k], 3, false, 0⟩).storeOp (.bootCtl { s.bootCtl with imgSlot := k.toNat })) := by
  refine congrArg Host.Outcome.next (State.imageCommand_of_asks h hdev himage hbusy (fun _ _ => ?_) fun _ _ => ?_)
  · simp [Job.count, Job.arg, hk]
  · simp only [Job.arg, List.getD_cons_zero, hverify]
    rfl

end imageSelect

section safetyAccept
variable {s : State} {p : Port} {x y z : Word} {spc : Nat} (h : s.asks p 0x14 [x, y, z]) (hy : y.toNat ≤ 255)
  (hdev : s.dev = .pitched) (hbusy : s.busyOp = false) (himage : s.imageBusy = false)
  (hspc : spc = x.toNat + 16777216 * y.toNat)
include h hy hdev hbusy himage hspc

/-- An acceptance that is allowed: both kernels and the serial of the pitched image decide (R144). -/
theorem execSafetyAccept_of_asks : execSafetyAccept p s = .next (
    if s.saf.ka.sec.map crc32 = some spc ∧ s.saf.kb.sec.map crc32 = some spc ∧ z = s.reg SYS_IMG_SERIAL then
      (s.startOp p ⟨0x14, [x, y, z], 3, false, 0⟩).storeSettings { s.settings with spc := some (spc, z.toNat) }
    else s.refuseImage p rejSpcMismatch 4 0) := by
  subst hspc
  refine congrArg Host.Outcome.next
    (State.imageCommand_of_asks h (decide_eq_true hdev) himage hbusy (fun _ _ => ?_) fun _ _ => ?_)
  · simp [Job.count, Job.arg, hy]
  · simp only [Job.arg, List.getD_cons_zero, List.getD_cons_succ, BitVec.toNat_inj]
    rfl
theorem execSafetyAccept_of_match (hka : s.saf.ka.sec.map crc32 = some spc) (hkb : s.saf.kb.sec.map crc32 = some spc)
    (hserial : z = s.reg SYS_IMG_SERIAL) : ∃ role claim, execSafetyAccept p s = .next (
      let t := s.startOp p ⟨0x14, [x, y, z], role, false, claim⟩
      t.storeOp (.settings { s.settings with spc := some (spc, z.toNat), schema := t.writeSchema })) := by
  refine ⟨3, 0, ?_⟩
  rw [execSafetyAccept_of_asks h hy hdev hbusy himage hspc, if_pos ⟨hka, hkb, hserial⟩]
  rfl
theorem execSafetyAccept_of_mismatch (hnot : s.saf.ka.sec.map crc32 ≠ some spc ∨ s.saf.kb.sec.map crc32 ≠ some spc ∨
    z ≠ s.reg SYS_IMG_SERIAL) : execSafetyAccept p s = .next (s.refuseImage p rejSpcMismatch 4 0) := by
  rw [execSafetyAccept_of_asks h hy hdev hbusy himage hspc, if_neg (by tauto)]

end safetyAccept

section keyEnrol
variable {s : State} {p : Port} {j : Job} {action : Nat} {allow : Bool} {proof : Job → Bool} {new : Job → Option PubKey}
  (hjob : (s.mbxOf p).job = some j) (hcode : j.code = 0x16) (htaken : j.taken = false) (hrole : 3 ≤ j.role)
  (hserves : s.mssServes = true) (hargs : keyBad j = none) (hdev : s.dev.keyOk = true) (hbusy : s.busyOp = false)
  (haction : j.arg 0 = action)
include hjob hcode htaken hrole hserves hargs hdev hbusy haction

/-- KEY_ENROL with valid arguments: its action's condition, then its proof. -/
theorem State.keyEnrol_of_asks : s.keyEnrol p action allow proof new =
    if allow = false then s.finish p stState [toWord s.dev.code]
    else if proof j then (s.startOp p j).storeSettings { s.settings with key4 := new j }
    else (s.logRec 0x302 (toWord (j.arg 0)) (toWord (sessionNo p)) 0).finish p stVerifyFail [1] := by
  subst haction
  simp only [State.keyEnrol, hjob, ne_eq, not_true_eq_false, false_and, if_false]
  exact State.command_runs hserves hjob hcode htaken hrole hargs hdev (by simp [hbusy])

end keyEnrol

/-- Settles O57: each command by the checks of R580 and by what its body judges, the end of a store by its row's guards. -/
theorem imageCommands : Obligations.ImageCommands := by
  refine ⟨fun s p k a n h hk ha hn hend hdev hbusy himage => ?store,
    fun s o hop hcode hmss => ⟨execImageStoreDone_of_fail hop hcode hmss, fun t ht => ?stored⟩,
    fun _ => execImageStoreDone_of_not, fun s p k h hk hdev hbusy himage => ?select,
    fun s p x y z spc h hy hdev hbusy himage hspc => ?accept,
    fun s p j i allow proof new hjob hcode htaken hrole hserves hargs hdev hbusy hinstr => ?key⟩
  case store =>
    exact ⟨execImageStore_of_protected h hk ha hn hend hdev hbusy himage,
      execImageStore_of_long h hk ha hn hend hdev hbusy himage, execImageStore_of_pfw h hk ha hn hend hdev hbusy himage,
      execImageStore_of_started h hk ha hn hend hdev hbusy himage⟩
  case stored =>
    exact ⟨fun _ => execImageStoreDone_of_error hop hcode hmss ht, fun _ => execImageStoreDone_of_ok hop hcode hmss ht⟩
  case select =>
    exact ⟨fun _ => execImageSelect_of_error h hk hdev hbusy himage,
      fun _ hverify => ⟨3, 0, execImageSelect_of_ok h hk hdev hbusy himage hverify⟩⟩
  case accept =>
    exact ⟨execSafetyAccept_of_match h hy hdev hbusy himage hspc,
      execSafetyAccept_of_mismatch h hy hdev hbusy himage hspc⟩
  case key =>
    have hexec : exec i s = .next (
        if allow = false then s.finish p stState [toWord s.dev.code]
        else if proof then (s.startOp p j).storeSettings { s.settings with key4 := new }
        else (s.logRec 0x302 (toWord (j.arg 0)) (toWord (sessionNo p)) 0).finish p stVerifyFail [1]) := by
      rcases hinstr with ⟨rfl, haction, rfl, rfl, rfl⟩ | ⟨rfl, haction, rfl, rfl, rfl⟩ |
        ⟨rfl, haction, rfl, rfl, rfl⟩
      all_goals
        exact congrArg Host.Outcome.next
          (State.keyEnrol_of_asks hjob hcode htaken hrole hserves hargs hdev hbusy haction)
    refine ⟨fun hallow => ?_, fun hallow hproof => ?_, fun hallow hproof => ?_⟩
    · rw [hexec, if_pos hallow]
    · rw [hexec, if_neg (by simp [hallow]), if_neg (by simp [hproof])]
    · rw [hexec, if_neg (by simp [hallow]), if_pos hproof]
      rfl

end Sys2Proof.Machine
end

section
/-!
Host cycles on the legacy bus, from their decode to LACKN, the end and the posted writes' commits (R156–R163, R174, R175).
-/
namespace Sys2Proof.Machine

/-- The aperture offset of an access at LA in the port's width (R156). -/
def State.lpbOff (u : State) (la : Nat) : Nat := if u.lpbWide then la % 65536 / 2 * 2 else la % 65536
/-- An aperture offset lies in the native window (R160). -/
abbrev State.inWindow (u : State) (off : Nat) : Prop := u.nativeOff ≤ off ∧ off < u.nativeOff + 8
/-- The cycle that a start at LA begins: its direction and its lanes, with what the decode made of its address. -/
def State.beginCycle (u : State) (la : Nat) (bhen read : Bool) (off kind reg : Nat) : State := u.setLpb fun l =>
  { l with cyc := some ⟨read, off, if u.lpbWide then decide (la % 2 = 0) else true, u.lpbWide && bhen, kind, reg, false, 0⟩ }

section start
variable {s : State} {la : Nat} {bhen read both : Bool}

theorem execLpbCycleStart_of_not (h : s.lpbListens = false ∨ s.lpb.cyc ≠ none) :
    execLpbCycleStart la bhen read both s = .next s :=
  if_pos (h.imp_right Option.isSome_iff_ne_none.mpr)

variable (hlisten : s.lpbListens = true) (hfree : s.lpb.cyc = none)
include hlisten hfree

theorem execLpbCycleStart_of_both_strobes (hstyle : (s.portWake 0).bit SYS_STRAPS 2 = false) :
    execLpbCycleStart la bhen read true s = .next ((s.portWake 0).bump 0x0050A) := by
  simp [execLpbCycleStart, hlisten, hfree, hstyle]

variable {u : State} (hu : u = s.portWake 0)
include hu
theorem execLpbCycleStart_of_outside (hout : u.inAperture la = false) :
    execLpbCycleStart la bhen read false s = .next u := by
  subst hu
  simp [execLpbCycleStart, hlisten, hfree, hout]

variable (hin : u.inAperture la = true) {off : Nat} (hoff : off = u.lpbOff la)
include hin hoff

/-- In the aperture the native window comes first, then the default decode, then the personality's registers. -/
theorem execLpbCycleStart_of_inside : execLpbCycleStart la bhen read false s = .next (
    if u.inWindow off then u.beginCycle la bhen read (off - u.nativeOff) 0 0
    else if u.persActive = false then u.beginCycle la bhen read off 3 0
    else (u.persAt off).elim
      (if u.unmappedNoack = true then u.bump 0x0050B else u.beginCycle la bhen read off 2 0)
      (u.beginCycle la bhen read off 1)) := by
  subst hu hoff
  have hguard : ¬ (s.lpbListens = false ∨ s.lpb.cyc.isSome = true) := by simp [hlisten, hfree]
  refine (if_neg hguard).trans ((if_neg (by simp)).trans ((if_neg (by simp [hin])).trans ?_))
  simp only [apply_ite Host.Outcome.next]
  refine if_congr Iff.rfl rfl (if_congr Iff.rfl rfl ?_)
  split
  next n hrec => rw [show (s.portWake 0).persAt ((s.portWake 0).lpbOff la) = some n from hrec]; rfl
  next hrec =>
    rw [show (s.portWake 0).persAt ((s.portWake 0).lpbOff la) = none from hrec]
    exact (apply_ite Host.Outcome.next _ _ _).symm

theorem execLpbCycleStart_of_window (hwindow : u.inWindow off) :
    execLpbCycleStart la bhen read false s = .next (u.beginCycle la bhen read (off - u.nativeOff) 0 0) :=
  (execLpbCycleStart_of_inside hlisten hfree hu hin hoff).trans (congrArg Host.Outcome.next (if_pos hwindow))

variable (hwindow : ¬ u.inWindow off)
include hwindow

theorem execLpbCycleStart_of_default (hpers : u.persActive = false) :
    execLpbCycleStart la bhen read false s = .next (u.beginCycle la bhen read off 3 0) :=
  (execLpbCycleStart_of_inside hlisten hfree hu hin hoff).trans
    (congrArg Host.Outcome.next ((if_neg hwindow).trans (if_pos hpers)))
theorem execLpbCycleStart_of_register {n : Nat} (hpers : u.persActive = true) (hrec : u.persAt off = some n) :
    execLpbCycleStart la bhen read false s = .next (u.beginCycle la bhen read off 1 n) := by
  rw [execLpbCycleStart_of_inside hlisten hfree hu hin hoff, if_neg hwindow, if_neg (by simp [hpers]), hrec, Option.elim_some]
theorem execLpbCycleStart_of_unmapped (hpers : u.persActive = true) (hrec : u.persAt off = none) :
    execLpbCycleStart la bhen read false s =
      .next (if u.unmappedNoack = true then u.bump 0x0050B else u.beginCycle la bhen read off 2 0) := by
  rw [execLpbCycleStart_of_inside hlisten hfree hu hin hoff, if_neg hwindow, if_neg (by simp [hpers]), hrec, Option.elim_none]

end start

theorem State.persDiscard_eq (s : State) : s.persDiscard =
    if s.dev = .boot ∨ s.dev = .unpitched ∨ s.dev = .pitching then s.bump SYS_BOOT_DISC else s := by
  simp [State.persDiscard, State.when]

/-- What a read cycle drives at LACKN, and what its access leaves (R158, R164, R169). -/
def State.cycleRead (s : State) (c : LpbCyc) (ue : Bool) : Nat × State :=
  if c.kind = 0 then s.nativeRead c.off c.lo ue
  else if c.kind = 1 ∧ s.persActive then s.persRead c.reg c.lo c.hi ue
  else (0, if c.kind = 2 then s.bump 0x0050B else s)
/-- What a write cycle leaves at LACKN: a posted write, or a discarded one (R161, R163, R175). -/
def State.cycleWrite (s : State) (c : LpbCyc) (wdata : Nat) : State :=
  if c.kind = 2 then s.bump 0x0050B
  else if c.kind = 3 then s.persDiscard
  else s.setLpb fun l => { l with q := l.q ++ [⟨c.off, c.lo, c.hi, c.kind, c.reg, wdata % 65536⟩] }

section ack
variable {s : State} {c : LpbCyc} {wdata : Nat} {ue : Bool}

theorem execLpbCycleAck_of_none (h : s.lpb.cyc = none) : execLpbCycleAck wdata ue s = .next s := by
  simp [execLpbCycleAck, h]

variable (hcyc : s.lpb.cyc = some c) (hlisten : s.lpbListens = true) (hopen : c.acked = false)
include hcyc hlisten hopen

section read
variable (hread : c.read = true)
include hread

theorem execLpbCycleAck_of_read_behind_writes (hq : s.lpb.q ≠ []) : execLpbCycleAck wdata ue s = .next s := by
  simp [execLpbCycleAck, hcyc, hlisten, hopen, hread, hq]

variable (hq : s.lpb.q = [])
include hq

/-- A read with no write posted gives what it drives through its lanes. -/
theorem execLpbCycleAck_of_read : execLpbCycleAck wdata ue s = .next ((s.cycleRead c ue).2.setLpb fun l =>
    { l with cyc := some { c with acked := true, out := (s.cycleRead c ue).1 &&& laneMask c.lo c.hi } }) := by
  simp [execLpbCycleAck, State.cycleRead, State.when, hcyc, hlisten, hopen, hread, hq]
theorem execLpbCycleAck_of_window_read (hkind : c.kind = 0) : execLpbCycleAck wdata ue s = .next (
    let got := s.nativeRead c.off c.lo ue
    got.2.setLpb fun l => { l with cyc := some { c with acked := true, out := got.1 &&& laneMask c.lo c.hi } }) := by
  rw [execLpbCycleAck_of_read hcyc hlisten hopen hread hq, State.cycleRead, if_pos hkind]
theorem execLpbCycleAck_of_register_read (hkind : c.kind = 1) (hpers : s.persActive = true) :
    execLpbCycleAck wdata ue s = .next (
      let got := s.persRead c.reg c.lo c.hi ue
      got.2.setLpb fun l => { l with cyc := some { c with acked := true, out := got.1 &&& laneMask c.lo c.hi } }) := by
  rw [execLpbCycleAck_of_read hcyc hlisten hopen hread hq, State.cycleRead, if_neg (by omega), if_pos ⟨hkind, hpers⟩]
theorem execLpbCycleAck_of_unserved_read (h : 2 ≤ c.kind ∨ (c.kind = 1 ∧ s.persActive = false)) :
    execLpbCycleAck wdata ue s = .next ((if c.kind = 2 then s.bump 0x0050B else s).setLpb fun l =>
      { l with cyc := some { c with acked := true, out := 0 } }) := by
  have hwindow : c.kind ≠ 0 := by omega
  have hreg : ¬ (c.kind = 1 ∧ s.persActive = true) := by
    rintro ⟨hkind, hpers⟩
    simp [hkind, hpers] at h
  rw [execLpbCycleAck_of_read hcyc hlisten hopen hread hq, State.cycleRead, if_neg hwindow, if_neg hreg]
  simp only [Nat.zero_and]

end read

section write
variable (hwrite : c.read = false)
include hwrite

theorem execLpbCycleAck_of_full_queue (hfull : 8 ≤ s.lpb.q.length) : execLpbCycleAck wdata ue s = .next (s.deficit 2) := by
  simp [execLpbCycleAck, hcyc, hlisten, hopen, hwrite, hfull]

variable (hroom : s.lpb.q.length < 8)
include hroom

theorem execLpbCycleAck_of_write : execLpbCycleAck wdata ue s =
    .next ((s.cycleWrite c wdata).setLpb fun l => { l with cyc := some { c with acked := true } }) := by
  simp [execLpbCycleAck, State.cycleWrite, hcyc, hlisten, hopen, hwrite, hroom.not_ge]
theorem execLpbCycleAck_of_posted_write (hkind : c.kind < 2) : execLpbCycleAck wdata ue s = .next ((s.setLpb fun l =>
    { l with q := l.q ++ [⟨c.off, c.lo, c.hi, c.kind, c.reg, wdata % 65536⟩] }).setLpb fun l =>
      { l with cyc := some { c with acked := true } }) := by
  rw [execLpbCycleAck_of_write hcyc hlisten hopen hwrite hroom, State.cycleWrite, if_neg (by omega), if_neg (by omega)]
theorem execLpbCycleAck_of_unmapped_write (hkind : c.kind = 2) : execLpbCycleAck wdata ue s =
    .next ((s.bump 0x0050B).setLpb fun l => { l with cyc := some { c with acked := true } }) := by
  rw [execLpbCycleAck_of_write hcyc hlisten hopen hwrite hroom, State.cycleWrite, if_pos hkind]
theorem execLpbCycleAck_of_default_write (hkind : c.kind = 3) : execLpbCycleAck wdata ue s = .next (
    (if s.dev = .boot ∨ s.dev = .unpitched ∨ s.dev = .pitching then s.bump SYS_BOOT_DISC else s).setLpb fun l =>
      { l with cyc := some { c with acked := true } }) := by
  rw [execLpbCycleAck_of_write hcyc hlisten hopen hwrite hroom, State.cycleWrite, if_neg (by omega), if_pos hkind,
    State.persDiscard_eq]

end write
end ack

section finish
variable {s : State}

theorem execLpbCycleEnd_of_none (h : s.lpb.cyc = none) : execLpbCycleEnd s = .next s := by
  simp [execLpbCycleEnd, h]
theorem execLpbCycleEnd_of_cycle {c : LpbCyc} (hcyc : s.lpb.cyc = some c) : execLpbCycleEnd s =
    .next ((if c.acked = true then s else s.bump 0x00509).setLpb fun l => { l with cyc := none }) := by
  cases hacked : c.acked <;> simp [execLpbCycleEnd, State.when, hcyc, hacked]
theorem execLpbPostedCommit_of_empty (h : s.lpb.q = []) : execLpbPostedCommit s = .next s := by
  simp [execLpbPostedCommit, h]

variable {w : LpbWrite} {q : List LpbWrite} (hq : s.lpb.q = w :: q) {u : State} (hu : u = s.setLpb fun l => { l with q := q })
include hq hu

/-- The oldest posted write leaves the queue and goes where its cycle was decoded. -/
theorem execLpbPostedCommit_of_cons : execLpbPostedCommit s = .next (
    if w.kind = 0 then u.nativeWrite w.off w.data w.lo w.hi
    else if s.persActive then u.persWrite w.reg w.data w.lo w.hi else u.persDiscard) := by
  subst hu
  simp only [execLpbPostedCommit, hq]
  rfl
theorem execLpbPostedCommit_of_window (hkind : w.kind = 0) :
    execLpbPostedCommit s = .next (u.nativeWrite w.off w.data w.lo w.hi) := by
  rw [execLpbPostedCommit_of_cons hq hu, if_pos hkind]
theorem execLpbPostedCommit_of_register (hkind : w.kind ≠ 0) (hpers : s.persActive = true) :
    execLpbPostedCommit s = .next (u.persWrite w.reg w.data w.lo w.hi) := by
  rw [execLpbPostedCommit_of_cons hq hu, if_neg hkind, if_pos hpers]
theorem execLpbPostedCommit_of_unserved (hkind : w.kind ≠ 0) (hpers : s.persActive = false) : execLpbPostedCommit s =
    .next (if s.dev = .boot ∨ s.dev = .unpitched ∨ s.dev = .pitching then u.bump SYS_BOOT_DISC else u) := by
  rw [execLpbPostedCommit_of_cons hq hu, if_neg hkind, if_neg (by simp [hpers]), State.persDiscard_eq]
  subst hu
  rfl

end finish

/-- Settles O24: a start by its decode, LACKN by the cycle's direction and the queue, the end and a commit by their rows. -/
theorem lpbCycles : Obligations.LpbCycles := by
  refine ⟨fun _ _ _ _ => execLpbCycleStart_of_both_strobes, fun s la bhen read hlisten hfree => ?start,
    fun _ _ _ _ _ => execLpbCycleStart_of_not, fun s c wdata ue hcyc hlisten hopen => ?ack,
    fun _ _ => execLpbCycleEnd_of_cycle, fun _ hcyc => ⟨execLpbCycleEnd_of_none hcyc, fun _ _ => execLpbCycleAck_of_none hcyc⟩,
    fun s w q hq => ⟨execLpbPostedCommit_of_window hq rfl, execLpbPostedCommit_of_register hq rfl,
      execLpbPostedCommit_of_unserved hq rfl⟩,
    fun _ => execLpbPostedCommit_of_empty⟩
  case start =>
    exact ⟨execLpbCycleStart_of_outside hlisten hfree rfl,
      fun hin => execLpbCycleStart_of_window hlisten hfree rfl hin rfl,
      fun hin => execLpbCycleStart_of_default hlisten hfree rfl hin rfl,
      fun hin hwindow hpers _ => execLpbCycleStart_of_register hlisten hfree rfl hin rfl hwindow hpers,
      fun hin => execLpbCycleStart_of_unmapped hlisten hfree rfl hin rfl⟩
  case ack =>
    exact ⟨execLpbCycleAck_of_window_read hcyc hlisten hopen, execLpbCycleAck_of_register_read hcyc hlisten hopen,
      execLpbCycleAck_of_read_behind_writes hcyc hlisten hopen, execLpbCycleAck_of_unserved_read hcyc hlisten hopen,
      execLpbCycleAck_of_posted_write hcyc hlisten hopen, execLpbCycleAck_of_unmapped_write hcyc hlisten hopen,
      execLpbCycleAck_of_default_write hcyc hlisten hopen, execLpbCycleAck_of_full_queue hcyc hlisten hopen⟩

end Sys2Proof.Machine
end

section
/-!
The personality's interrupt lines: accumulation, the end of a pulse and the acknowledge with its vector (R170, R177, R178,
R188).
-/
namespace Sys2Proof.Machine

theorem execPersAccumulate_of_active {s : State} (hup : s.down = false) (hpers : s.persActive = true) :
    execPersAccumulate s = .next (((s.persRecs 1).zipIdx.foldl (fun s x =>
      if prCode x.1 = 3 ∨ prCode x.1 = 4 then
        let now := prBits x.1 (s.persSrc x.1)
        let was := (Sparse.find s.lpb.prev x.2).getD 0
        let add := if prFlag x.1 1 then now else now - (now &&& was)
        (s.persPut x.2 (s.persGet x.2 ||| add)).setLpb fun l => { l with prev := Sparse.put l.prev x.2 now }
      else s) s).irqAll) :=
  if_neg (by simp [hup, hpers])
/-- A line is switched off, and its condition is as it was (R177). -/
def State.irqOff (s : State) (j : Fin 4) : State :=
  s.setLpb fun l => { l with irq := updV l.irq j fun x => { x with on := false } }
theorem execIrqPulseEnd_of_pulse {s : State} {j : Fin 4} {r : Bytes} (hrec : s.irqRec j = some r) (hmode : u8 r 6 = 1) :
    execIrqPulseEnd j s = .next (s.irqOff j) := by
  simp only [execIrqPulseEnd, hrec, if_pos hmode]
  rfl

/-- An acknowledge wakes the hub from DOZE and drops the vector of the latest one (R178). -/
def State.irqAckBegin (s : State) : State := (s.portWake 0).setLpb fun l => { l with vec := none }
/-- The acknowledge releases a latched line (R177). -/
def State.irqRelease (s : State) (j : Fin 4) (r : Bytes) : State := if u8 r 6 = 2 then s.irqOff j else s
/-- The vector that an acknowledge is given; with VEC_MODE 2 and no condition bit it is free (R178, log entry 4). -/
def State.irqVector (s : State) (r : Bytes) : Nat :=
  if u8 r 7 = 2 ∧ s.irqCond r = 0 then bitsOf (Config.freeWord s.fresh) 7 0
  else u8 r 8 + (if u8 r 7 = 2 then lowBit (s.irqCond r) else 0)

section acknowledge
variable {s t : State} {j : Fin 4} {ab : Bool} (hruns : s.runs = true) (ht : t = s.irqAckBegin)
include hruns ht

theorem execInterruptAcknowledge_of_inactive (h : t.irqRec j = none ∨ t.down = true ∨ t.underTest = true ∨
    t.ten.phase = 3 ∨ (t.lpb.irq[j.val]).on = false) : execInterruptAcknowledge j ab s = .next t := by
  subst ht
  simp only [execInterruptAcknowledge, if_pos hruns]
  split
  next => rfl
  next r hrec => exact if_pos (h.resolve_left (by
    intro hnone
    cases hrec.symm.trans hnone))

variable {r : Bytes} (hrec : t.irqRec j = some r) (hup : t.down = false) (htest : t.underTest = false)
  (hten : t.ten.phase ≠ 3) (hon : (t.lpb.irq[j.val]).on = true)
include hrec hup htest hten hon

/-- The acknowledge of an active line: without a vector only the release, with one the vector as well unless abandoned. -/
theorem execInterruptAcknowledge_of_active : execInterruptAcknowledge j ab s = .next (
    if u8 r 7 = 0 then t.irqRelease j r
    else if ab then t.bump 0x00509
    else { (t.irqRelease j r).setLpb (fun l => { l with vec := some (t.irqVector r) }) with fresh := t.fresh + 1 }) := by
  subst ht
  simp only [execInterruptAcknowledge, if_pos hruns]
  split
  next hnone => cases hrec.symm.trans hnone
  next r' hrec' =>
    obtain rfl : r = r' := Option.some.inj (hrec.symm.trans hrec')
    refine (if_neg (show ¬ (s.irqAckBegin.down = true ∨ s.irqAckBegin.underTest = true ∨ s.irqAckBegin.ten.phase = 3 ∨
      (s.irqAckBegin.lpb.irq[j.val]).on = false) by simp [hup, htest, hten, hon])).trans ?_
    exact ((apply_ite Host.Outcome.next _ _ _).trans
      (if_congr Iff.rfl rfl (apply_ite Host.Outcome.next _ _ _))).symm

theorem execInterruptAcknowledge_of_no_vector (hmode : u8 r 7 = 0) :
    execInterruptAcknowledge j ab s = .next (t.irqRelease j r) := by
  rw [execInterruptAcknowledge_of_active hruns ht hrec hup htest hten hon, if_pos hmode]

variable (hmode : u8 r 7 ≠ 0)
include hmode

theorem execInterruptAcknowledge_of_abandoned : execInterruptAcknowledge j true s = .next (t.bump 0x00509) := by
  rw [execInterruptAcknowledge_of_active hruns ht hrec hup htest hten hon, if_neg hmode, if_pos rfl]
/-- The vector; what a free one is taken from moves on at every vector. -/
theorem execInterruptAcknowledge_of_vector {v : Nat} (hv : t.irqVector r = v) :
    ∃ u, execInterruptAcknowledge j false s = .next u ∧
      u = { (t.irqRelease j r).setLpb (fun l => { l with vec := some v }) with fresh := u.fresh } := by
  subst hv
  rw [execInterruptAcknowledge_of_active hruns ht hrec hup htest hten hon, if_neg hmode, if_neg Bool.false_ne_true]
  exact ⟨_, rfl, rfl⟩

end acknowledge

theorem State.irqVector_of_bit {s : State} {r : Bytes} (h : u8 r 7 = 2 → s.irqCond r ≠ 0) :
    s.irqVector r = u8 r 8 + (if u8 r 7 = 2 then lowBit (s.irqCond r) else 0) :=
  if_neg fun ⟨hmode, hnone⟩ => h hmode hnone

/-- Settles O25: a cycle and a pulse's end by their guards, an acknowledge by its line and by what its vector is. -/
theorem personalityLines : Obligations.PersonalityLines := by
  refine ⟨fun _ => execPersAccumulate_of_active, fun _ _ _ => execIrqPulseEnd_of_pulse,
    fun s j r hruns hrec hup htest hten hon =>
      ⟨fun hmode _ => execInterruptAcknowledge_of_no_vector hruns rfl hrec hup htest hten hon hmode,
        execInterruptAcknowledge_of_abandoned hruns rfl hrec hup htest hten hon, fun hmode hbit =>
          execInterruptAcknowledge_of_vector hruns rfl hrec hup htest hten hon hmode (State.irqVector_of_bit hbit),
        fun hmode _ => ?free⟩,
    fun _ _ _ hruns => execInterruptAcknowledge_of_inactive hruns rfl⟩
  case free =>
    have hvec : u8 r 7 ≠ 0 := by omega
    obtain ⟨u, hnext, hu⟩ := execInterruptAcknowledge_of_vector hruns rfl hrec hup htest hten hon hvec rfl
    exact ⟨u, _, hnext, hu⟩

end Sys2Proof.Machine
end

section
/-!
A bus tenure from its request to its end, and what breaks it off (R180–R182, R296, R300, R304, R305, R318).
-/
namespace Sys2Proof.Machine

section request
variable {s : State}

theorem execTenureRequest_of_work (hmoves : s.slcMoves = true) (hidle : s.ten.phase = 0) (hpick : s.slcPick ≠ none) :
    execTenureRequest s = .next (s.setTen fun t => { t with phase := 1 }) :=
  if_pos ⟨hmoves, hidle, Option.isSome_iff_ne_none.mpr hpick⟩
theorem execBusGrant_of_requested (hphase : s.ten.phase = 1) (htest : s.underTest = false) :
    execBusGrant s = .next (s.setTen fun t => { t with phase := 2 }) :=
  if_pos ⟨hphase, htest⟩
theorem execBusGrant_of_not (hphase : s.ten.phase ≠ 1) : execBusGrant s = .next s :=
  if_neg fun h => hphase h.1
theorem execTenureStart_of_granted {k : Fin 8} (hphase : s.ten.phase = 2) (hfree : s.lpb.cyc = none)
    (hpick : s.slcPick = some k) : execTenureStart s = .next (s.setTen fun t => { t with
      phase := 3, stream := k, moved := 0, allow := s.slcTok k / 1000, desc := [], ret := none }) := by
  simp [execTenureStart, hphase, hfree, hpick]
theorem execTenureStart_of_not (h : s.ten.phase ≠ 2 ∨ s.lpb.cyc ≠ none) : execTenureStart s = .next s :=
  if_pos (h.imp_right Option.isSome_iff_ne_none.mpr)

end request

section cycle
variable {s : State} {d : Word} {ue : Bool}

theorem execMasterCycleDone_of_not (h : s.ten.phase ≠ 3 ∨ s.slcMoves = false ∨ s.tenRoom s.ten.stream = false) :
    execMasterCycleDone d ue s = .next s :=
  if_pos h

variable (hphase : s.ten.phase = 3) (hmoves : s.slcMoves = true) (hroom : s.tenRoom s.ten.stream = true)
  {k : Fin 8} (hk : k = s.ten.stream) {u : State} (hu : u = s.setTen fun t => { t with moved := t.moved + 1 })
include hphase hmoves hroom hk hu

/-- A word of a descriptor is read from its place in it (R298). -/
theorem execMasterCycleDone_of_desc (hnext : s.slcNext k = .desc) (hlen : s.ten.desc.length < 3) :
    execMasterCycleDone d ue s = .next (u.setTen fun t =>
      { t with cyc := some (false, s.slcDesc k + 4 * s.ten.desc.length, d), desc := s.ten.desc ++ [d] }) := by
  subst hk hu
  simp [execMasterCycleDone, State.slcAddr, hphase, hmoves, hroom, hnext, show s.ten.desc.length + 1 < 4 by omega]
/-- The fourth word of a descriptor opens its buffer (R298, R300). -/
theorem execMasterCycleDone_of_last_desc (hnext : s.slcNext k = .desc) (hlen : s.ten.desc.length = 3) :
    execMasterCycleDone d ue s = .next (((u.setTen fun t =>
      { t with cyc := some (false, s.slcDesc k + 12, d), desc := s.ten.desc ++ [d] }).setTen fun t =>
        { t with desc := [] }).slcOpen k (s.ten.desc ++ [d])) := by
  subst hk hu
  simp [execMasterCycleDone, State.slcAddr, hphase, hmoves, hroom, hnext, hlen]
theorem execMasterCycleDone_of_data (hnext : s.slcNext k = .data) (hallow : 0 < s.ten.allow) : execMasterCycleDone d ue s =
    .next (((u.setTen fun t => { t with allow := t.allow - 1 }).slcWrite k ue).slcMark k) := by
  subst hk hu
  simp [execMasterCycleDone, hphase, hmoves, hroom, hnext, hallow.ne']

variable {b : SBuf} (hnext : s.slcNext k = .ret) (hbuf : (s.stream k).buf = some b)
include hnext hbuf

/-- The first word of a return takes the stream's LOST_BEFORE with it (R298). -/
theorem execMasterCycleDone_of_ret (hret : s.ten.ret = none) : execMasterCycleDone d ue s = .next ((u.setTen fun t =>
    { t with ret := some (s.stream k).lostBefore,
             cyc := some (true, s.slcDesc k + 8, b.word2 (s.stream k).lostBefore) }).setStream k fun x =>
      { x with lostBefore := false }) := by
  subst hk hu
  simp [execMasterCycleDone, State.slcAddr, hphase, hmoves, hroom, hnext, hbuf, hret]
theorem execMasterCycleDone_of_last_ret (hret : s.ten.ret ≠ none) : execMasterCycleDone d ue s =
    .next ((u.setTen fun t => { t with ret := none, cyc := some (true, s.slcDesc k + 12, b.word3) }).slcReturned k) := by
  subst hk hu
  simp [execMasterCycleDone, State.slcAddr, hphase, hmoves, hroom, hnext, hbuf, hret]

end cycle

section finish
variable {s : State}

theorem State.tenureOver_of_kept (hret : s.ten.ret ≠ some true) :
    s.tenureOver = s.setTen fun t => { t with phase := 0, desc := [], ret := none } := by
  simp [State.tenureOver, hret]
/-- A return cut short after its first word gives LOST_BEFORE back to its stream (R180, m4). -/
theorem State.tenureOver_of_lost (hret : s.ten.ret = some true) : s.tenureOver =
    (s.setStream s.ten.stream fun x => { x with lostBefore := true }).setTen fun t =>
      { t with phase := 0, desc := [], ret := none } := by
  simp [State.tenureOver, hret]

theorem execTenureEnd_of_held (hphase : s.ten.phase = 3) : execTenureEnd s = .next s.tenureOver := if_pos hphase
theorem execTenureEnd_of_not (hphase : s.ten.phase ≠ 3) : execTenureEnd s = .next s := if_neg hphase
theorem execGrantTimeout_of_requested (hphase : s.ten.phase = 1) :
    execGrantTimeout s = .next ((s.tenureOver.bump 0x0050D).fire 460 1) :=
  if_pos hphase
theorem execGrantTimeout_of_not (hphase : s.ten.phase ≠ 1) : execGrantTimeout s = .next s := if_neg hphase
theorem execMasterErrorTimeout_of_held (hphase : s.ten.phase = 3) (hown : s.fld 0x00503 14 7 = 0) :
    execMasterErrorTimeout s = .next (s.masterError 2) :=
  if_pos ⟨hphase, hown⟩
theorem execMasterErrorTimeout_of_not (hphase : s.ten.phase ≠ 3) : execMasterErrorTimeout s = .next s :=
  if_neg fun h => hphase h.1
theorem execForeignBusBusy_of_held (hphase : s.ten.phase = 3) : execForeignBusBusy s = .next (s.masterError 3) :=
  if_pos hphase
theorem execForeignBusBusy_of_not (hphase : s.ten.phase ≠ 3) : execForeignBusBusy s = .next s := if_neg hphase

end finish

/-- Settles O28: each row by its guard, a master cycle by what its stream does next. -/
theorem busTenures : Obligations.BusTenures := by
  refine ⟨fun _ => execTenureRequest_of_work, fun _ => execBusGrant_of_requested, fun _ _ => execTenureStart_of_granted,
    fun _ hcyc => execTenureStart_of_not (.inr hcyc), fun s d ue hphase hmoves hroom => ?cycle,
    fun _ _ _ => execMasterCycleDone_of_not, fun _ hphase hret => ?kept, fun _ hphase hret => ?lost,
    fun _ => execGrantTimeout_of_requested, fun _ => execMasterErrorTimeout_of_held, fun _ => execForeignBusBusy_of_held,
    fun s hidle => ?idle⟩
  case cycle =>
    exact ⟨execMasterCycleDone_of_desc hphase hmoves hroom rfl rfl,
      execMasterCycleDone_of_last_desc hphase hmoves hroom rfl rfl,
      execMasterCycleDone_of_data hphase hmoves hroom rfl rfl,
      fun _ => execMasterCycleDone_of_ret hphase hmoves hroom rfl rfl,
      fun _ => execMasterCycleDone_of_last_ret hphase hmoves hroom rfl rfl⟩
  case kept => exact (execTenureEnd_of_held hphase).trans (congrArg Host.Outcome.next (State.tenureOver_of_kept hret))
  case lost => exact (execTenureEnd_of_held hphase).trans (congrArg Host.Outcome.next (State.tenureOver_of_lost hret))
  case idle =>
    have hfree : s.ten.phase ≠ 1 ∧ s.ten.phase ≠ 2 ∧ s.ten.phase ≠ 3 := by omega
    obtain ⟨hrequested, hgranted, hheld⟩ := hfree
    exact ⟨execBusGrant_of_not hrequested, execTenureStart_of_not (.inl hgranted), execTenureEnd_of_not hheld,
      execGrantTimeout_of_not hrequested, execMasterErrorTimeout_of_not hheld, execForeignBusBusy_of_not hheld⟩

end Sys2Proof.Machine
end

section
/-!
The record of a grant of SUPERVISOR (R199–R201). The data word of ROLE_CHANGE holds a node's ID in ten bits; a port of the model
names its node by any number, and a wider one runs over into the previous HOLDER.
-/
namespace Sys2Proof.Machine

/-- A log record that arises where the MSS and the log are as at reset, before the firmware runs, waits as it arose (R573). -/
theorem State.late_logRec_of_reset {s : State} (hmss : s.mss = State.reset.mss) (hsleep : s.sleep = State.reset.sleep)
    (hlog : s.log = State.reset.log) (code : Nat) (d0 d1 d2 : Word) :
    (s.logRec code d0 d1 d2).log.late = [(code, d0, d1, d2)] := by
  have hwrites : ¬ (s.mss.halted = true ∨ s.sleep.phase = 4 ∨ s.sleep.phase = 5) := by
    rw [hmss, hsleep]
    decide
  have hrun : s.mss.run = .none := congrArg MssSt.run hmss
  rw [State.logRec, if_neg hwrites, if_pos hrun, hlog]
  rfl
/-- A change of the holder at reset leaves its data word in the log. -/
theorem late_roleChange_reset (new : Option Port) (w : Word) :
    (((({ State.reset with role := { State.reset.role with holder := new } } : State).bumpFld SYS_ROLE_SEQ 15 0).fire
      461 w).logRec 0x303 w 0 0).log.late = [(0x303, w, 0, 0)] :=
  State.late_logRec_of_reset (by simp) (by simp) (by simp) 0x303 w 0 0

/-- Refutes O23: its second clause gives the word's [15:13] the previous HOLDER for every new holder, with the node's number
taken modulo 1024 in [12:3]. A grant to node 1024 of the ring, with no holder before, logs 0x002004: its [15:13] is 1, where
HOLDER was 0. -/
theorem not_accessRole : ¬ Obligations.AccessRole := by
  rintro ⟨-, hset, -⟩
  obtain ⟨w, -, -, hprevious, hgrant⟩ := hset State.reset (some (.ring 1024))
  have hlate := (congrArg (·.log.late) hgrant).symm.trans (late_roleChange_reset _ (roleWordOf (some (.ring 1024)) none))
  obtain rfl : w = roleWordOf (some (.ring 1024)) none := by
    simpa using (late_roleChange_reset (some (.ring 1024)) w).symm.trans hlate
  exact absurd hprevious (by decide)

end Sys2Proof.Machine
end

section
/-!
An SPI frame from SCSN's fall to its rise (R198, R202–R205, R207, R208, R637).
-/
namespace Sys2Proof.Machine

theorem execSpiFrameStart_of_idle {s : State} (mode3 : Bool) (hruns : s.runs = true) (htest : s.underTest = false)
    (hidle : s.spi.active = false) : execSpiFrameStart mode3 s = .next (
      let served := decide (s.dev ≠ .boot) && decide (s.dev ≠ .doze)
      ((s.portWake 1).setBit 0x00600 5 mode3).setSpi fun x =>
        { SpiSt.reset with active := true, served := served, prev := x.prev, out := [s.spiStatus (!served)] }) :=
  if_neg (by simp [hruns, htest, hidle])

section inactive
variable {s : State} (hidle : s.spi.active = false)
include hidle

theorem execSpiCommandWord_of_idle (cmd cnt : Word) (c0 c1 : Byte) : execSpiCommandWord cmd c0 cnt c1 s = .next s :=
  if_pos (.inl hidle)
theorem execSpiReadFetch_of_idle (r : SpiRx) (ue : Bool) : execSpiReadFetch r ue s = .next s := if_pos (.inl hidle)
theorem execSpiWriteWord_of_idle (w : Word) (crc : Byte) (full : Bool) : execSpiWriteWord w crc full s = .next s :=
  if_pos (.inl hidle)
theorem execSpiFrameEnd_of_idle (bits : Nat) (part : Word) (crc : Byte) : execSpiFrameEnd bits part crc s = .next s :=
  if_pos hidle

end inactive

/-- A frame has taken its command word and, in a read, its count word (R203). -/
def State.spiBegin (s : State) (cmd cnt : Word) : State := s.setSpi fun x => { x with
  gotCmd := true, rd := bitOf cmd 23, inc := bitOf cmd 22, crc := bitOf cmd 21, addr := bitsOf cmd 19 0,
  count := bitsOf cnt 11 0 }
/-- The rest of the frame has no effect (R205). -/
def State.spiDead (s : State) : State := s.setSpi fun x => { x with dead := true }
/-- A command word with the CRC-8 that follows it in a CRC frame; a frame without CRC is refused where CRC is required
(R205, R206). -/
abbrev State.spiCmdGood (s : State) (cmd : Word) (c0 : Byte) : Prop :=
  (bitOf cmd 21 = true ∧ c0.toNat = crc8 cmd) ∨ (bitOf cmd 21 = false ∧ s.bit 0x00600 6 = false)

section command
variable {s : State} {cmd cnt : Word} {c0 c1 : Byte} (hactive : s.spi.active = true) (hfirst : s.spi.gotCmd = false)
  {t : State} (ht : t = s.spiBegin cmd cnt)
include hactive hfirst ht

theorem execSpiCommandWord_of_bad (hbad : ¬ t.spiCmdGood cmd c0) :
    execSpiCommandWord cmd c0 cnt c1 s = .next (t.spiCrc 0) := by
  subst ht
  refine (if_neg (by simp [hactive, hfirst])).trans (if_pos ?_)
  change (bitOf cmd 21 && decide (c0.toNat ≠ crc8 cmd)) || (!bitOf cmd 21 && (s.spiBegin cmd cnt).bit 0x00600 6)
  cases hcrc : bitOf cmd 21 <;> simpa [State.spiCmdGood, hcrc] using hbad

variable (hgood : t.spiCmdGood cmd c0)
include hgood

/-- After a good command word its reserved bit is judged first, then the direction, then the count word and its CRC. -/
theorem execSpiCommandWord_of_good : execSpiCommandWord cmd c0 cnt c1 s = .next (
    if bitOf cmd 20 then t.spiFerr.spiDead
    else if bitOf cmd 23 = false then t
    else if bitOf cmd 21 && decide (c1.toNat ≠ crc8 cnt) then (t.spiSend [cmd]).spiCrc 1
    else if bitsOf cnt 11 0 = 0 ∨ bitsOf cnt 23 12 ≠ 0 then (t.spiSend [cmd]).spiFerr.spiDead
    else t.spiSend [cmd, 0]) := by
  subst ht
  refine (if_neg (by simp [hactive, hfirst])).trans ((if_neg ?_).trans ?_)
  · change ¬ ((bitOf cmd 21 && decide (c0.toNat ≠ crc8 cmd)) || (!bitOf cmd 21 && (s.spiBegin cmd cnt).bit 0x00600 6)) = true
    rcases hgood with ⟨hcrc, h⟩ | ⟨hcrc, h⟩ <;> simp [hcrc, h]
  · simp only [apply_ite Host.Outcome.next]
    rfl
theorem execSpiCommandWord_of_reserved (hres : bitOf cmd 20 = true) :
    execSpiCommandWord cmd c0 cnt c1 s = .next t.spiFerr.spiDead := by
  rw [execSpiCommandWord_of_good hactive hfirst ht hgood, if_pos hres]

variable (hres : bitOf cmd 20 = false)
include hres

theorem execSpiCommandWord_of_write (hwrite : bitOf cmd 23 = false) : execSpiCommandWord cmd c0 cnt c1 s = .next t := by
  rw [execSpiCommandWord_of_good hactive hfirst ht hgood, if_neg (by simp [hres]), if_pos hwrite]

variable (hread : bitOf cmd 23 = true)
include hread

theorem execSpiCommandWord_of_bad_count_crc (hcrc : ¬ (bitOf cmd 21 = true → c1.toNat = crc8 cnt)) :
    execSpiCommandWord cmd c0 cnt c1 s = .next ((t.spiSend [cmd]).spiCrc 1) := by
  rw [execSpiCommandWord_of_good hactive hfirst ht hgood, if_neg (by simp [hres]), if_neg (by simp [hread]),
    if_pos (by simpa using hcrc)]

variable (hcrc : bitOf cmd 21 = true → c1.toNat = crc8 cnt)
include hcrc

theorem execSpiCommandWord_of_bad_count (hcount : bitsOf cnt 11 0 = 0 ∨ bitsOf cnt 23 12 ≠ 0) :
    execSpiCommandWord cmd c0 cnt c1 s = .next (t.spiSend [cmd]).spiFerr.spiDead := by
  rw [execSpiCommandWord_of_good hactive hfirst ht hgood, if_neg (by simp [hres]), if_neg (by simp [hread]),
    if_neg (by simpa using hcrc), if_pos hcount]
theorem execSpiCommandWord_of_read (hpos : bitsOf cnt 11 0 ≠ 0) (hcount : bitsOf cnt 23 12 = 0) :
    execSpiCommandWord cmd c0 cnt c1 s = .next (t.spiSend [cmd, 0]) := by
  rw [execSpiCommandWord_of_good hactive hfirst ht hgood, if_neg (by simp [hres]), if_neg (by simp [hread]),
    if_neg (by simpa using hcrc), if_neg (by simp [hpos, hcount])]

end command

section read
variable {s : State} {sdi : Word} {crc : Byte} {ue : Bool} (hactive : s.spi.active = true) (hcmd : s.spi.gotCmd = true)
  (hread : s.spi.rd = true) (halive : s.spi.dead = false) {k : Nat} (hk : k = s.spi.ends + 1)
  {u : State} (hu : u = s.setSpi fun x => { x with ends := k })
include hactive hcmd hread halive hk hu

theorem execSpiReadFetch_of_bad (hbad : ¬ (s.spi.crc = false ∨ k = 1 ∨ crc.toNat = crc8 sdi)) :
    execSpiReadFetch ⟨sdi, crc⟩ ue s = .next (u.spiCrc k) := by
  simp only [not_or, Bool.not_eq_false] at hbad
  obtain ⟨hcrc, hlater, hne⟩ := hbad
  have hk1 : 1 < k := by omega
  subst hk hu
  simp [execSpiReadFetch, hactive, hcmd, hread, halive, hcrc, hne, hk1]

variable (hgood : s.spi.crc = false ∨ k = 1 ∨ crc.toNat = crc8 sdi)
include hgood

/-- A position that arrives in order: past COUNT + 2 it is a fault, past COUNT nothing, before that a word is fetched. -/
theorem execSpiReadFetch_of_good : execSpiReadFetch ⟨sdi, crc⟩ ue s = .next (
    if s.spi.count + 2 < k then (if k = s.spi.count + 3 then u.spiFerr else u)
    else if s.spi.count < k then u
    else
      let got := if s.spi.past then (0, u.spiPast)
        else if s.spi.served = false ∧ s.dev ≠ .boot then (0, u)
        else if ue ∧ 0x80000 ≤ s.spi.addr ∧ s.dev ≠ .boot then (0, u.eddyUe .spi s.spi.addr)
        else
          let r := u.rd .spi s.spi.addr
          (r.1, if u.rdRefused .spi s.spi.addr && s.spi.served then r.2.spiRefused else r.2)
      (got.2.spiSend [got.1]).setSpi fun x => { x.next with fetched := x.fetched + 1 }) := by
  have hpass : ¬ (s.spi.crc && decide (1 < k) && decide (crc.toNat ≠ crc8 sdi)) = true := by
    rcases hgood with h | h | h <;> simp [h]
  subst hk hu
  refine (if_neg (by simp [hactive, hcmd, hread, halive])).trans ((if_neg hpass).trans ?_)
  simp only [apply_ite Host.Outcome.next]
  rfl
theorem execSpiReadFetch_of_fetch (hk' : k ≤ s.spi.count) (hin : s.spi.past = false) (hserved : s.spi.served = true)
    (hue : ue = false) : execSpiReadFetch ⟨sdi, crc⟩ ue s = .next (
      let r := u.rd .spi s.spi.addr
      let v := if u.rdRefused .spi s.spi.addr = true then r.2.spiRefused else r.2
      (v.spiSend [r.1]).setSpi fun x => { x.next with fetched := x.fetched + 1 }) := by
  rw [execSpiReadFetch_of_good hactive hcmd hread halive hk hu hgood, if_neg (by omega), if_neg (by omega)]
  simp [hin, hserved, hue]
theorem execSpiReadFetch_of_past (hk' : k ≤ s.spi.count) (hpast : s.spi.past = true) :
    execSpiReadFetch ⟨sdi, crc⟩ ue s =
      .next ((u.spiPast.spiSend [0]).setSpi fun x => { x.next with fetched := x.fetched + 1 }) := by
  rw [execSpiReadFetch_of_good hactive hcmd hread halive hk hu hgood, if_neg (by omega), if_neg (by omega)]
  simp only [hpast, if_true]
theorem execSpiReadFetch_of_checked (hk' : s.spi.count < k) (hend : k ≠ s.spi.count + 3) :
    execSpiReadFetch ⟨sdi, crc⟩ ue s = .next u := by
  rw [execSpiReadFetch_of_good hactive hcmd hread halive hk hu hgood, if_neg hend, if_pos hk', ite_self]
theorem execSpiReadFetch_of_excess (hend : k = s.spi.count + 3) : execSpiReadFetch ⟨sdi, crc⟩ ue s = .next u.spiFerr := by
  rw [execSpiReadFetch_of_good hactive hcmd hread halive hk hu hgood, if_pos (by omega), if_pos hend]

end read

section write
variable {s : State} {w : Word} {crc : Byte} {full : Bool} (hactive : s.spi.active = true) (hcmd : s.spi.gotCmd = true)
  (hwrite : s.spi.rd = false) (halive : s.spi.dead = false)
include hactive hcmd hwrite halive

theorem execSpiWriteWord_of_bad (hbad : ¬ (s.spi.crc = false ∨ crc.toNat = crc8 w)) :
    execSpiWriteWord w crc full s = .next (s.spiCrc 0) := by
  obtain ⟨hcrc, hne⟩ : s.spi.crc = true ∧ crc.toNat ≠ crc8 w := by simpa using hbad
  simp [execSpiWriteWord, hactive, hcmd, hwrite, halive, hcrc, hne]

variable (hgood : s.spi.crc = false ∨ crc.toNat = crc8 w)
include hgood

/-- What a good data word of a write brings (R108, R204, R205, R637). -/
theorem execSpiWriteWord_of_good : execSpiWriteWord w crc full s = .next ((
    if s.spi.past then s.spiPast
    else if s.dev = .boot then s.bump SYS_BOOT_DISC
    else if s.spi.served = false then s.bump 0x0060B
    else if full then ((s.bump SYS_QOVF_SPI).fire 452 0).spiFlag fun f => { f with ovf := true }
    else (s.when (s.wrRefused .spi s.spi.addr w) State.spiRefused).wr .spi s.spi.addr w).setSpi SpiSt.next) := by
  have hpass : ¬ (s.spi.crc && decide (crc.toNat ≠ crc8 w)) = true := by rcases hgood with h | h <;> simp [h]
  exact (if_neg (by simp [hactive, hcmd, hwrite, halive])).trans (if_neg hpass)
theorem execSpiWriteWord_of_past (hpast : s.spi.past = true) :
    execSpiWriteWord w crc full s = .next (s.spiPast.setSpi SpiSt.next) := by
  rw [execSpiWriteWord_of_good hactive hcmd hwrite halive hgood, if_pos hpast]

variable (hin : s.spi.past = false)
include hin

theorem execSpiWriteWord_of_boot (hboot : s.dev = .boot) :
    execSpiWriteWord w crc full s = .next ((s.bump SYS_BOOT_DISC).setSpi SpiSt.next) := by
  rw [execSpiWriteWord_of_good hactive hcmd hwrite halive hgood, if_neg (by simp [hin]), if_pos hboot]

variable (hboot : s.dev ≠ .boot) (hserved : s.spi.served = true)
include hboot hserved

theorem execSpiWriteWord_of_overflow (hfull : full = true) : execSpiWriteWord w crc full s = .next
    ((((s.bump SYS_QOVF_SPI).fire 452 0).spiFlag fun f => { f with ovf := true }).setSpi SpiSt.next) := by
  rw [execSpiWriteWord_of_good hactive hcmd hwrite halive hgood, if_neg (by simp [hin]), if_neg hboot,
    if_neg (by simp [hserved]), if_pos hfull]
theorem execSpiWriteWord_of_room (hroom : full = false) : execSpiWriteWord w crc full s = .next (
    let u := if s.wrRefused .spi s.spi.addr w = true then s.spiRefused else s
    (u.wr .spi s.spi.addr w).setSpi SpiSt.next) := by
  rw [execSpiWriteWord_of_good hactive hcmd hwrite halive hgood, if_neg (by simp [hin]), if_neg hboot,
    if_neg (by simp [hserved]), if_neg (by simp [hroom])]
  rfl

end write

theorem execSpiFrameEnd_of_active {s : State} (bits : Nat) (part : Word) (crc : Byte) (hactive : s.spi.active = true) :
    execSpiFrameEnd bits part crc s = .next (
      let a := if bits ≠ 0 then s.spiFerr else s
      let b := if s.spi.rd = true ∧ s.spi.ends < s.spi.fetched + 2 ∧ 0 < s.spi.fetched then
        (a.bump 0x00609).spiFlag fun f => { f with lost := true } else a
      let f := b.spi.cur
      (b.setReg 0x00600 (b.reg 0x00600 ||| toWord (b2n f.lost + 2 * b2n f.ferr + 4 * b2n f.crcErr + 8 * b2n f.refused +
        16 * b2n f.ovf))).setSpi fun y => { y with active := false, prev := f, cur := .none }) := by
  refine (if_neg (by simp [hactive])).trans ?_
  simp only [Bool.and_eq_true, decide_eq_true_eq, and_assoc]

theorem State.spi_spiCrc (s : State) (pos : Nat) : ((s.spiCrc pos).spi.dead = true ∧ (s.spiCrc pos).spi.cur.crcErr = true) ∧
    (s.spiCrc pos).spi.out = s.spi.out.take (pos + 1) :=
  ⟨⟨rfl, rfl⟩, rfl⟩

/-- Settles O29: each row by its guards, a word of the frame by the faults it may have and then by its place in the frame. -/
theorem spiFrames : Obligations.SpiFrames := by
  refine ⟨fun _ => execSpiFrameStart_of_idle, fun s cmd cnt c0 c1 hactive hfirst => ?command,
    fun s sdi crc hactive hcmd hread halive => ?read, fun s w crc hactive hcmd hwrite halive => ?write,
    fun _ => execSpiFrameEnd_of_active, State.spi_spiCrc,
    fun _ hidle => ⟨execSpiFrameEnd_of_idle hidle 0 0 0,
      fun w c f => ⟨execSpiWriteWord_of_idle hidle w c f, execSpiReadFetch_of_idle hidle ⟨w, c⟩ f⟩,
      fun w c v d => execSpiCommandWord_of_idle hidle w v c d⟩⟩
  case command =>
    exact ⟨execSpiCommandWord_of_write hactive hfirst rfl, execSpiCommandWord_of_read hactive hfirst rfl,
      execSpiCommandWord_of_bad_count hactive hfirst rfl, execSpiCommandWord_of_bad_count_crc hactive hfirst rfl,
      execSpiCommandWord_of_reserved hactive hfirst rfl, execSpiCommandWord_of_bad hactive hfirst rfl⟩
  case read =>
    exact ⟨fun hbad _ => execSpiReadFetch_of_bad hactive hcmd hread halive rfl rfl hbad,
      fun hgood hk hin hserved => execSpiReadFetch_of_fetch hactive hcmd hread halive rfl rfl hgood hk hin hserved rfl,
      fun hgood hk hpast _ => execSpiReadFetch_of_past hactive hcmd hread halive rfl rfl hgood hk hpast,
      fun hgood hk hend _ => execSpiReadFetch_of_checked hactive hcmd hread halive rfl rfl hgood hk hend,
      fun hgood hend _ => execSpiReadFetch_of_excess hactive hcmd hread halive rfl rfl hgood hend⟩
  case write =>
    exact ⟨fun hbad _ => execSpiWriteWord_of_bad hactive hcmd hwrite halive hbad,
      fun hgood hin hboot hserved => execSpiWriteWord_of_room hactive hcmd hwrite halive hgood hin hboot hserved rfl,
      fun hgood hin hboot _ => execSpiWriteWord_of_boot hactive hcmd hwrite halive hgood hin hboot,
      fun hgood hin hboot hserved => execSpiWriteWord_of_overflow hactive hcmd hwrite halive hgood hin hboot hserved rfl,
      fun hgood hpast _ => execSpiWriteWord_of_past hactive hcmd hwrite halive hgood hpast⟩

end Sys2Proof.Machine
end

section
/-!
The Modbus server from a request to its answer (R209–R212, R214, R221). The checks and the execution are `State.modRun`.
-/
namespace Sys2Proof.Machine

section answering
variable {s : State} (hruns : s.runs = true) (htest : s.underTest = false) (hup : s.mss.modUp = true)
include hruns htest hup

theorem execModbusFrameError_of_up : execModbusFrameError s = .next (s.bump 0x00649) :=
  if_neg (by simp [hruns, htest, hup])

section waiting
variable (hwaits : s.mod.answer ≠ none)
include hwaits

theorem State.modbus_of_answering (bcast : Bool) (q : MReq) (reply : List Nat → Bytes) :
    s.modbus bcast q reply = .next (s.bump 0x00649) := by
  simp [State.modbus, hruns, htest, hup, Option.isSome_iff_ne_none, hwaits]
theorem execUnsupportedFunction_of_answering (bcast : Bool) (fn : Nat) :
    execUnsupportedFunction bcast fn s = .next (s.bump 0x00649) := by
  simp [execUnsupportedFunction, hruns, htest, hup, Option.isSome_iff_ne_none, hwaits]

end waiting

section free
variable (hfree : s.mod.answer = none) {u : State} (hu : u = (s.portWake 2).bump 0x00648)
include hfree hu

/-- A request that arrives while no answer waits runs when it is addressed, or a write that BCAST_WRITE lets pass (R212). -/
theorem State.modbus_of_free {bcast : Bool} {q : MReq}
    (hcast : bcast = true → (q.fn = 5 ∨ q.fn = 6 ∨ q.fn = 15 ∨ q.fn = 16) ∧ u.bit 0x00640 14 = true)
    (reply : List Nat → Bytes) : s.modbus bcast q reply = .next (u.modRun bcast q reply) := by
  have hpass : ¬ (bcast = true ∧ (decide (q.fn = 5 ∨ q.fn = 6 ∨ q.fn = 15 ∨ q.fn = 16) = false ∨
      u.bit 0x00640 14 = false)) := by
    rintro ⟨hb, hnot⟩
    obtain ⟨hfn, hbit⟩ := hcast hb
    simp [hfn, hbit] at hnot
  subst hu
  have hguard : ¬ (s.runs = false ∨ s.underTest = true ∨ s.mss.modUp = false) := by simp [hruns, htest, hup]
  exact (if_neg hguard).trans ((if_neg (by simp [hfree])).trans (if_neg hpass))
theorem State.modbus_of_read_broadcast {q : MReq} (hread : ¬ (q.fn = 5 ∨ q.fn = 6 ∨ q.fn = 15 ∨ q.fn = 16))
    (reply : List Nat → Bytes) : s.modbus true q reply = .next (u.bump 0x0064A) := by
  subst hu
  simp [State.modbus, hruns, htest, hup, hfree, hread]
theorem execUnsupportedFunction_of_addressed (fn : Nat) : execUnsupportedFunction false fn s =
    .next (u.modExcept false (fn % 128) (if u.dev = .boot then 6 else 1) none) := by
  subst hu
  simp [execUnsupportedFunction, hruns, htest, hup, hfree]
theorem execUnsupportedFunction_of_broadcast (fn : Nat) :
    execUnsupportedFunction true fn s = .next (u.bump 0x0064A) := by
  subst hu
  simp [execUnsupportedFunction, hruns, htest, hup, hfree]

end free

end answering

theorem execModbusReply_of_answer {s : State} {b : Bytes} (hanswer : s.mod.answer = some b) (hruns : s.runs = true) :
    execModbusReply s = .next (s.setMod fun m => { m with answer := none, sent := b }) := by
  simp [execModbusReply, hanswer, hruns]

/-- Settles O30: a request by whether an answer waits and how it is addressed; each function is one such request. -/
theorem modbusRequests : Obligations.ModbusRequests := by
  refine ⟨fun s hruns htest hup hfree => ?free, fun s hruns htest hup hwaits bc a q ue v fn => ?waiting,
    fun _ _ => execModbusReply_of_answer⟩
  case free =>
    have hrun := @State.modbus_of_free s hruns htest hup hfree _ rfl
    have hread := @State.modbus_of_read_broadcast s hruns htest hup hfree _ rfl
    refine ⟨fun _ _ _ => ⟨hrun (by simp) _, hrun (by simp) _, hrun (by simp) _, hrun (by simp) _⟩,
      fun _ _ _ _ hcast => ⟨hrun (fun hb => ⟨by simp, hcast hb⟩) _, hrun (fun hb => ⟨by simp, hcast hb⟩) _⟩,
      fun _ _ _ _ _ _ hcast => ⟨hrun (fun hb => ⟨by simp, hcast hb⟩) _, hrun (fun hb => ⟨by simp, hcast hb⟩) _⟩,
      fun _ _ _ _ _ _ _ => hrun (by simp) _,
      fun fn => ⟨execUnsupportedFunction_of_addressed hruns htest hup hfree rfl fn,
        execUnsupportedFunction_of_broadcast hruns htest hup hfree rfl fn⟩,
      fun _ _ _ => ⟨hread (by simp) _, hread (by simp) _⟩, execModbusFrameError_of_up hruns htest hup⟩
  case waiting =>
    have hcounted := State.modbus_of_answering hruns htest hup hwaits
    exact ⟨hcounted _ _ _, hcounted _ _ _, execUnsupportedFunction_of_answering hruns htest hup hwaits bc fn⟩

end Sys2Proof.Machine
end

section
/-!
The field trim: the points of a calibration, their average, and the trim stored or cleared (R394, R395, R404, R581, R604).
-/
namespace Sys2Proof.Machine

section channel
variable (c : Fin 32) (code role claim : Nat) (args : List Word)

theorem Job.arg_zero_of_channel : (Job.mk code (toWord c.val :: args) role false claim).arg 0 = c.val :=
  (BitVec.toNat_ofNat c.val 24).trans (Nat.mod_eq_of_lt (by omega))
theorem Job.chan_of_channel : (Job.mk code (toWord c.val :: args) role false claim).chan = c :=
  Fin.ext ((congrArg (· % 32) (Job.arg_zero_of_channel c code role claim args)).trans (Nat.mod_eq_of_lt c.isLt))
theorem State.calBad_of_analogue {s : State} {c : Fin 32} (hfunc : isAnalogue (s.func c) = true) :
    s.calBad (Job.mk code (toWord c.val :: args) role false claim) = none := by
  simp [State.calBad, Job.arg_zero_of_channel, Job.chan_of_channel, hfunc, show ¬ 31 < c.val by omega]
theorem State.calOk_of_channel (s : State) : s.calOk (Job.mk code (toWord c.val :: args) role false claim) =
    (s.structured c && !s.inRepitch (chIsl c)) := by
  rw [State.calOk, Job.chan_of_channel]
theorem State.calOk_of_unstructured {s : State} {c : Fin 32}
    (hnot : s.structured c = false ∨ s.inRepitch (chIsl c) = true) :
    s.calOk (Job.mk code (toWord c.val :: args) role false claim) = false := by
  rw [State.calOk_of_channel]
  rcases hnot with h | h <;> simp [h]

end channel

section asked
variable {s : State} {p : Port} {c : Fin 32} (hfunc : isAnalogue (s.func c) = true) (hdev : s.dev = .pitched)
include hfunc hdev

section point
variable {k nom : Word} (hk : k.toNat ≤ 1) (hstruct : s.structured c = true) (hrepitch : s.inRepitch (chIsl c) = false)
include hk hstruct hrepitch

theorem execCalPoint_of_output {meas : Word} (h : s.asks p 0x40 [toWord c.val, k, nom, meas])
    (hout : isOutput (s.func c) = true) :
    execCalPoint p s = .next ((s.setPoint c k.toNat (nom.toInt, meas.toInt)).finish p stOK []) := by
  refine congrArg Host.Outcome.next (State.command_of_asks h (decide_eq_true hdev) rfl (fun _ _ => ?_) fun _ _ => ?_)
  · simp [State.calBad_of_analogue _ _ _ _ hfunc, Job.chan_of_channel, hout, Job.count, Job.arg, hk]
  · simp [State.calOk_of_channel, hstruct, hrepitch, Job.chan_of_channel, hout, Job.arg, toWord_toNat]
theorem execCalPoint_of_input (h : s.asks p 0x40 [toWord c.val, k, nom]) (hin : isOutput (s.func c) = false) :
    execCalPoint p s = .next ((s.takeJob p).setChan c fun x =>
      { x with cal := x.cal ++ [⟨p, k.toNat, nom.toInt, 0, 0⟩] }) := by
  refine congrArg Host.Outcome.next (State.command_of_asks h (decide_eq_true hdev) rfl (fun _ _ => ?_) fun _ _ => ?_)
  · simp [State.calBad_of_analogue _ _ _ _ hfunc, Job.chan_of_channel, hin, Job.count, Job.arg, hk]
  · simp [State.calOk_of_channel, hstruct, hrepitch, Job.chan_of_channel, hin, Job.arg, toWord_toNat]

end point

section stored
variable (hbusy : s.busyOp = false)
include hbusy

/-- CAL_COMMIT and CAL_CLEAR take a channel alone and pass the same checks (R580, R582). -/
theorem State.calCommand_of_asks {code : Nat} {body : Job → State → State} {t : State} (h : s.asks p code [toWord c.val])
    (hbody : ∀ role claim, body ⟨code, [toWord c.val], role, false, claim⟩ s = t) :
    s.command p code true (fun j => (s.calBad j).or (j.count 1)) (decide (s.dev = .pitched)) body = t :=
  State.command_of_asks h (decide_eq_true hdev) (by simp [hbusy])
    (fun _ _ => by simp [State.calBad_of_analogue _ _ _ _ hfunc, Job.count]) hbody

section commit
variable (h : s.asks p 0x41 [toWord c.val])
include h

theorem execCalCommit_of_state (hnot : s.structured c = false ∨ s.inRepitch (chIsl c) = true) :
    execCalCommit p s = .next (s.finish p stState [toWord s.dev.code]) := by
  refine congrArg Host.Outcome.next (State.calCommand_of_asks hfunc hdev hbusy h fun _ _ => ?_)
  exact if_pos (State.calOk_of_unstructured _ _ _ _ hnot)

variable (hstruct : s.structured c = true) (hrepitch : s.inRepitch (chIsl c) = false)
include hstruct hrepitch

theorem execCalCommit_of_error {n : Nat} (htrim : s.newTrim c = .error n) :
    execCalCommit p s = .next (s.finish p stCalLimit [toWord n]) := by
  refine congrArg Host.Outcome.next (State.calCommand_of_asks hfunc hdev hbusy h fun _ _ => ?_)
  simp [State.calOk_of_channel, hstruct, hrepitch, Job.chan_of_channel, htrim]
theorem execCalCommit_of_ok {t : Int × Int} (htrim : s.newTrim c = .ok t) : execCalCommit p s =
    .next ((s.startOp p ⟨0x41, [toWord c.val], 3, false, 0⟩).storeOp (.calib (s.calWithout c ++
      [⟨c.val, s.func c, s.range c, codeWord t.1, codeWord t.2⟩]))) := by
  refine congrArg Host.Outcome.next (State.calCommand_of_asks hfunc hdev hbusy h fun _ _ => ?_)
  simp only [State.calOk_of_channel, hstruct, hrepitch, Job.chan_of_channel, htrim]
  rfl

end commit

section clear
variable (h : s.asks p 0x42 [toWord c.val])
include h

theorem execCalClear_of_state (hnot : s.structured c = false ∨ s.inRepitch (chIsl c) = true) :
    execCalClear p s = .next (s.finish p stState [toWord s.dev.code]) := by
  refine congrArg Host.Outcome.next (State.calCommand_of_asks hfunc hdev hbusy h fun _ _ => ?_)
  exact if_pos (State.calOk_of_unstructured _ _ _ _ hnot)
theorem execCalClear_of_ok (hstruct : s.structured c = true) (hrepitch : s.inRepitch (chIsl c) = false) :
    execCalClear p s =
      .next ((s.startOp p ⟨0x42, [toWord c.val], 3, false, 0⟩).storeOp (.calib (s.calWithout c))) := by
  refine congrArg Host.Outcome.next (State.calCommand_of_asks hfunc hdev hbusy h fun _ _ => ?_)
  simp only [State.calOk_of_channel, hstruct, hrepitch, Job.chan_of_channel]
  rfl

end clear

end stored

end asked

section average
variable {s : State} {p : Port} {c : Fin 32}

theorem execCalPointDone_of_none (hcal : (s.chan c).cal.find? (fun k => decide (k.port = p)) = none) :
    execCalPointDone p c s = .next s := by
  simp only [execCalPointDone, hcal]
variable {k : CalAvg} (hcal : (s.chan c).cal.find? (fun k => decide (k.port = p)) = some k)
include hcal
theorem execCalPointDone_of_full (hn : 256 ≤ k.n) (hmss : s.mss.halted = false) : execCalPointDone p c s =
    .next (((s.calDrop c p).setPoint c k.point (k.nominal, Config.calMean k.sum)).finish p stOK
      [codeWord (Config.calMean k.sum)]) := by
  simp only [execCalPointDone, hcal]
  exact if_neg (by simp [hn, hmss])
theorem execCalPointDone_of_not (h : k.n < 256 ∨ s.mss.halted = true) : execCalPointDone p c s = .next s := by
  simp only [execCalPointDone, hcal]
  exact if_pos h

end average

section timeout
variable {s : State} {p : Port} {j : Job} (hjob : (s.mbxOf p).job = some j)
include hjob

theorem execCalPointTimeout_of_taken (hcode : j.code = 0x40) (htaken : j.taken = true) (hmss : s.mss.halted = false) :
    execCalPointTimeout p s = .next ((s.calDrop j.chan p).finish p stTimeout []) := by
  simp [execCalPointTimeout, hjob, hcode, htaken, hmss]
theorem execCalPointTimeout_of_not (h : j.code ≠ 0x40 ∨ j.taken = false ∨ s.mss.halted = true) :
    execCalPointTimeout p s = .next s := by
  simp only [execCalPointTimeout, hjob]
  exact if_pos h

end timeout

theorem State.newTrim_of_missing {s : State} {c : Fin 32} (h : (s.chan c).pt0 = none ∨ (s.chan c).pt1 = none) :
    s.newTrim c = .error 1 := by
  unfold State.newTrim
  split
  next a b h0 h1 => simp [h0, h1] at h
  next => rfl
theorem State.newTrim_of_close {s : State} {c : Fin 32} {a b : Int × Int} (h0 : (s.chan c).pt0 = some a)
    (h1 : (s.chan c).pt1 = some b) (hclose : 2 * (a.1 - b.1).natAbs < rbSpan (s.func c)) : s.newTrim c = .error 2 := by
  simp only [State.newTrim, h0, h1]
  exact if_pos hclose

/-- Settles O59: each command by the checks of R580 and by its channel, a point's end by its average. -/
theorem calibration : Obligations.Calibration := by
  refine ⟨fun _ _ _ _ _ _ h hfunc hout hk hdev hstruct hrepitch => execCalPoint_of_output hfunc hdev hk hstruct hrepitch h hout,
    fun _ _ _ _ _ h hfunc hin hk hdev hstruct hrepitch => execCalPoint_of_input hfunc hdev hk hstruct hrepitch h hin,
    fun s p c i hfunc hdev hnot hbusy hasks => ?state,
    fun _ _ _ _ hcal => ⟨execCalPointDone_of_full hcal, execCalPointDone_of_not hcal⟩,
    fun _ _ _ => execCalPointDone_of_none,
    fun _ _ _ hjob => ⟨execCalPointTimeout_of_taken hjob, execCalPointTimeout_of_not hjob⟩,
    fun s p c h hfunc hdev hstruct hrepitch hbusy => ⟨3, 0, ?commit⟩,
    fun _ _ => ⟨State.newTrim_of_missing, fun _ _ => State.newTrim_of_close⟩,
    fun _ _ _ h hfunc hdev hstruct hrepitch hbusy => ⟨3, 0, execCalClear_of_ok hfunc hdev hbusy h hstruct hrepitch⟩⟩
  case state =>
    rcases hasks with ⟨h, rfl⟩ | ⟨h, rfl⟩
    · exact execCalCommit_of_state hfunc hdev hbusy h hnot
    · exact execCalClear_of_state hfunc hdev hbusy h hnot
  case commit =>
    cases htrim : s.newTrim c with
    | error n => exact execCalCommit_of_error hfunc hdev hbusy h hstruct hrepitch htrim
    | ok t => exact execCalCommit_of_ok hfunc hdev hbusy h hstruct hrepitch htrim

end Sys2Proof.Machine
end

section
/-!
The ring's links: coming up, miswired and going down, a partner's receive fault, a stable hop, a bad frame, and the exchanges
of a delay measurement (R228, R230, R251, R252, R260, R262).
-/
namespace Sys2Proof.Machine

/-- RING_CHANGED waits for the next CYC, and the 100 ms of the port's hop start again (R228, R262). -/
def State.linkChanged (s : State) (w : Bool) : State :=
  s.setRing fun r => if w then { r with changed := true, stableW := false } else { r with changed := true, stableE := false }
/-- The 100 ms of the port's hop start again (R262, R279). -/
def State.hopRestart (s : State) (w : Bool) : State :=
  s.setRing fun r => if w then { r with stableW := false } else { r with stableE := false }

section ports
variable {s : State} {w : Bool} (hports : s.portsRun = true)
include hports

theorem execRingLinkUp_of_good : execRingLinkUp w false s = .next ((((((s.setBit (RNG_LINK w) 0 true).setBit (RNG_LINK w) 2
    false).setBit (RNG_LINK w) 3 true).dlyStart w).linkChanged w).linkEvent w) :=
  if_neg (by simp [hports])
theorem execRingLinkUp_of_miswired : execRingLinkUp w true s =
    .next (((s.setBit (RNG_LINK w) 2 true).setBit (RNG_LINK w) 3 true).linkEvent w) :=
  if_neg (by simp [hports])

theorem execRingLinkDown_of_up (sig : Bool) (hup : s.bit (RNG_LINK w) 0 = true) : execRingLinkDown w sig s =
    .next (((((((s.setBit (RNG_LINK w) 0 false).setBit (RNG_LINK w) 1 true).setBit (RNG_LINK w) 3 sig).bump
      (RNG_LDOWN w)).setBit RNG_DISC 17 true).linkChanged w).linkEvent w) :=
  congrArg Host.Outcome.next ((if_pos hports).trans (if_pos hup))
theorem execRingLinkDown_of_down (sig : Bool) (hdown : s.bit (RNG_LINK w) 0 = false) :
    execRingLinkDown w sig s = .next s :=
  congrArg Host.Outcome.next ((if_pos hports).trans (if_neg (by simp [hdown])))

theorem execPartnerRxFault_of_wrapped (hup : s.bit (RNG_LINK w) 0 = true) (hwrapped : s.bit (RNG_LINK w) 1 = true) :
    execPartnerRxFault w s = .next (s.hopRestart w) :=
  (if_pos (by simp [hports, hup])).trans (if_pos hwrapped)
theorem execPartnerRxFault_of_whole (hup : s.bit (RNG_LINK w) 0 = true) (hwhole : s.bit (RNG_LINK w) 1 = false) :
    execPartnerRxFault w s = .next ((((s.hopRestart w).setBit (RNG_LINK w) 1 true).setRing fun r =>
      { r with changed := true }).linkEvent w) := by
  have hclear : ¬ (s.hopRestart w).bit (RNG_LINK w) 1 = true := Bool.eq_false_iff.mp hwhole
  exact (if_pos (by simp [hports, hup])).trans (if_neg hclear)
theorem execRingDelayMeasure_of_up (hup : s.bit (RNG_LINK w) 0 = true) :
    execRingDelayMeasure w s = .next (s.dlyStart w) :=
  congrArg Host.Outcome.next (if_pos (by simp [hports, hup]))

/-- A bad frame goes on ending in EBAD; it is counted unless it came so (R230). -/
theorem execRingBadFrame_of_forward (ebad : Bool) (bs : Bytes) (hforward : s.ring.forward = true) :
    execRingBadFrame w ⟨ebad, bs⟩ s = .next ((s.when (!ebad) fun s => s.bump (RNG_CRC w)).sendOn w true
      ⟨⟨false, 0, 0, 0, 0⟩, .raw bs⟩) :=
  congrArg Host.Outcome.next ((if_neg (by simp [hports])).trans (if_pos hforward))

end ports

theorem execRingHopStable_of_wrapped {s : State} {w : Bool} (hup : s.bit (RNG_LINK w) 0 = true)
    (hwrapped : s.bit (RNG_LINK w) 1 = true) : ∃ t, execRingHopStable w s = .next t ∧ t = { s with ring := t.ring } ∧
      (if w then t.ring.stableW else t.ring.stableE) = true ∧ t.ring.unwrapReq = (s.ring.unwrapReq || s.headwater) := by
  refine ⟨_, rfl, rfl, ?_, rfl⟩
  cases w <;> simp [hup, hwrapped]
theorem State.sendOn_of_node {s : State} (w bad : Bool) (f : RFrame) (hnode : s.headwater = false) :
    s.sendOn w bad f = s.setRing fun r => { r with tx := [⟨s.outWest w, bad, f⟩] } :=
  if_neg (by simp [hnode])

section delay
variable (s : State) (w : Bool)

theorem State.tx_dlyAsk (exch : Nat) :
    ∃ f, (s.dlyAsk w exch).ring.tx = [⟨w, false, f⟩] ∧ f.pay = .dly false exch 0 :=
  ⟨_, State.tx_sendFrames_own _ _ [] rfl, rfl⟩
theorem State.dly_dlyStart : (s.dlyStart w).dly w = ⟨true, 0, 0, 0, false, (s.dly w).delay⟩ := by
  cases w <;> rfl

/-- What one answered exchange adds to the sum of a measurement (R251, R252). -/
def State.dlyOne (turn trip : Nat) : Nat :=
  ((trip - turn : Int) / 2 + (if w then (BitVec.ofNat 16 (s.rcfg 0xA 2)).toInt * 4 else 0)).toNat

variable {s w} {d : DlySt}

theorem State.dlyNext_of_more (hmore : d.exch < 8) : s.dlyNext w d = (s.setDly w d).dlyAsk w d.exch := if_pos hmore
theorem State.dlyNext_of_last (hlast : d.exch = 8) (hgood : d.good ≠ 0) : s.dlyNext w d =
    (s.setDly w { d with active := false, delay := d.sum / d.good }).setFld (RNG_LINK w) 23 8
      (min 0xFFFF (d.sum / d.good / 4)) := by
  simp [State.dlyNext, hlast, hgood]

section request
variable (hports : s.portsRun = true)
include hports

/-- A request is answered on the port it came from, with its EXCH and the turnaround (R252). -/
theorem execRingDly_of_request (exch turn trip : Nat) : ∃ t, execRingDly w false exch turn trip s = .next t ∧
    t.regs = s.regs ∧ ∃ f, t.ring.tx = [⟨w, false, f⟩] ∧ f.pay = .dly true exch turn :=
  ⟨_, if_neg (by simp [hports]), rfl, _, State.tx_sendFrames_own _ _ [] rfl, rfl⟩
theorem execRingDly_of_stray {exch turn trip : Nat} (hstray : (s.dly w).active = false ∨ (s.dly w).exch ≠ exch) :
    execRingDly w true exch turn trip s = .next s :=
  (if_neg (by simp [hports])).trans (if_pos hstray)

section awaited
variable {exch : Nat} (turn trip : Nat) (hactive : (s.dly w).active = true) (hexch : (s.dly w).exch = exch)
include hactive hexch

theorem execRingDly_of_awaited : execRingDly w true exch turn trip s = .next (s.dlyNext w
    ⟨(s.dly w).active, exch + 1, (s.dly w).sum + s.dlyOne w turn trip, (s.dly w).good + 1, false, (s.dly w).delay⟩) := by
  have hstray : ¬ ((s.dly w).active = false ∨ (s.dly w).exch ≠ exch) := by simp [hactive, hexch]
  exact (if_neg (by simp [hports])).trans (if_neg hstray)
theorem execRingDly_of_more (hmore : exch < 7) : execRingDly w true exch turn trip s =
    .next ((s.setDly w ⟨true, exch + 1, (s.dly w).sum + s.dlyOne w turn trip, (s.dly w).good + 1, false,
      (s.dly w).delay⟩).dlyAsk w (exch + 1)) := by
  rw [execRingDly_of_awaited hports turn trip hactive hexch, State.dlyNext_of_more (Nat.succ_lt_succ hmore), hactive]
theorem execRingDly_of_eighth (hlast : exch = 7) : execRingDly w true exch turn trip s =
    .next ((s.setDly w ⟨false, 8, (s.dly w).sum + s.dlyOne w turn trip, (s.dly w).good + 1, false,
      ((s.dly w).sum + s.dlyOne w turn trip) / ((s.dly w).good + 1)⟩).setFld (RNG_LINK w) 23 8
        (min 0xFFFF (((s.dly w).sum + s.dlyOne w turn trip) / ((s.dly w).good + 1) / 4))) := by
  subst hlast
  exact (execRingDly_of_awaited hports turn trip hactive hexch).trans
    (congrArg Host.Outcome.next (State.dlyNext_of_last rfl (Nat.succ_ne_zero _)))

end awaited
end request

section timeout
variable (hactive : (s.dly w).active = true)
include hactive

theorem execRingDlyTimeout_of_first (hfirst : (s.dly w).again = false) : execRingDlyTimeout w s =
    .next ((s.setDly w { s.dly w with again := true }).dlyAsk w (s.dly w).exch) :=
  (if_neg (by simp [hactive])).trans (if_neg (by simp [hfirst]))
theorem execRingDlyTimeout_of_second (hagain : (s.dly w).again = true) (hmore : (s.dly w).exch < 7) :
    execRingDlyTimeout w s = .next ((s.setDly w { s.dly w with exch := (s.dly w).exch + 1, again := false }).dlyAsk w
      ((s.dly w).exch + 1)) :=
  ((if_neg (by simp [hactive])).trans (if_pos hagain)).trans
    (congrArg Host.Outcome.next (State.dlyNext_of_more (Nat.succ_lt_succ hmore)))

end timeout
end delay

/-- Settles O32: each row by its guards, an exchange of a measurement by what `dlyNext` does after it. -/
theorem ringLinks : Obligations.RingLinks := by
  refine ⟨fun s w hports => ⟨execRingLinkUp_of_good hports, execRingLinkUp_of_miswired hports,
      execRingLinkDown_of_up hports, execRingLinkDown_of_down hports, fun hup => ?_, fun bs hforward => ?_⟩,
    fun _ _ => execRingHopStable_of_wrapped, fun s w bad f hnode => ?_,
    fun s w => ⟨s.dly_dlyStart w, State.tx_dlyAsk _ w 0⟩,
    fun s w exch turn trip hports => ⟨execRingDly_of_request hports exch turn trip, execRingDly_of_more hports turn trip,
      execRingDly_of_eighth hports turn trip, execRingDly_of_stray hports⟩,
    fun _ _ hactive => ⟨execRingDlyTimeout_of_first hactive, execRingDlyTimeout_of_second hactive⟩⟩
  · exact ⟨execPartnerRxFault_of_wrapped hports hup, execPartnerRxFault_of_whole hports hup,
      execRingDelayMeasure_of_up hports hup⟩
  · exact ⟨execRingBadFrame_of_forward hports false bs hforward, execRingBadFrame_of_forward hports true bs hforward⟩
  · rw [State.sendOn_of_node w bad f hnode]
    exact ⟨rfl, rfl⟩

end Sys2Proof.Machine
end

section
/-!
The registers that an event can write: those of the events themselves and those of the Sluice streams (R286–R291, R300).
-/
namespace Sys2Proof.Machine

theorem State.reg_markDef (s : State) (k : Fin 8) (a : Nat) : (s.markDef k).reg a = s.reg a := rfl

section kept
variable {src a : Nat} (hsrc : src < 512) (ha : 0x380 ≤ a)
include hsrc ha

theorem State.reg_record (s : State) (stamp : RingTime) (data : Word) : (s.record src stamp data).reg a = s.reg a := by
  have hcount : a ≠ EVT_SRC0 + src := by
    unfold EVT_SRC0
    omega
  have hlost : a ≠ WEIR_LOST (s.lineOf src) := by
    have := (s.lineOf src).isLt
    unfold WEIR_LOST
    omega
  unfold State.record
  dsimp only
  split
  · rfl
  · split
    · exact (State.reg_setFld ..).trans (if_neg hcount)
    · split
      · exact (State.reg_setFld ..).trans (if_neg hcount)
      · exact (State.reg_bump ..).trans (if_neg hlost)
theorem State.reg_occur (s : State) (stamp : RingTime) (data : Word) : (s.occur src stamp data).reg a = s.reg a := by
  unfold State.occur
  split
  · have hstat : a ≠ EVT_STAT0 + src / 24 := by
      unfold EVT_STAT0
      omega
    rw [State.reg_record hsrc ha, State.reg_setBit, if_neg hstat]
  · rfl

variable (hslc : a < 0x800)
include hslc

theorem State.reg_fireN (n : Nat) (s : State) (stamp : RingTime) (data : Word) :
    (s.fireN n src stamp data).reg a = s.reg a := by
  induction n generalizing s src stamp data with
  | zero => exact State.reg_occur hsrc ha s stamp data
  | succ n ih =>
    have hoccur := State.reg_occur hsrc ha s stamp data
    have hlag (k : Fin 8) (u : State) (hu : u.reg a = s.reg a) :
        (if u.wantsLag k then ((u.setBit (SLC k 1) 1 true).markDef k).fireN n 469 u.time (toWord (k.val + 8))
          else u).reg a = s.reg a := by
      have hslc : a ≠ SLC k 1 := by
        unfold SLC
        omega
      split
      · rw [ih (by decide), State.reg_markDef, State.reg_setBit, if_neg hslc, hu]
      · exact hu
    unfold State.fireN
    dsimp only
    split
    · exact hoccur
    · refine hlag _ _ ?_
      split <;> exact hoccur
theorem State.reg_fire (s : State) (data : Word) : (s.fire src data).reg a = s.reg a := by
  unfold State.fire State.fireAt
  split
  · exact State.reg_fireN hsrc ha hslc 8 s s.time data
  · rfl
theorem State.bit_fire (s : State) (data : Word) (k : Nat) : (s.fire src data).bit a k = s.bit a k :=
  congrArg (bitOf · k) (State.reg_fire hsrc ha hslc s data)
theorem State.fld_fire (s : State) (data : Word) (hi lo : Nat) : (s.fire src data).fld a hi lo = s.fld a hi lo :=
  congrArg (bitsOf · hi lo) (State.reg_fire hsrc ha hslc s data)

end kept
end Sys2Proof.Machine
end

section
/-!
The census and ring time: a node's entry and its assignment, the Headwater's passes, SYNC frames and edges, SYNCN, and the
lapse of discipline (R240, R241, R254, R256, R258, R259).
-/
namespace Sys2Proof.Machine

/-- Sending a frame on changes the frames that leave, and nothing else. -/
theorem State.sendOn_eq_setRing (s : State) (w bad : Bool) (f : RFrame) :
    ∃ tx, s.sendOn w bad f = s.setRing fun r => { r with tx := tx } := by
  unfold State.sendOn
  split
  · exact ⟨s.ring.tx, rfl⟩
  · exact ⟨_, rfl⟩

/-- What a frame of pass B leaves of a node: its entry, where it found one, and with the last frame the nodes present
(R240). -/
def State.enumTaken (s : State) (fp n : Nat) (mine : Option EnumEntry) : State :=
  (s.setRing fun r => { r with
    placed := false, assignDue := mine.or r.assignDue, assignLast := r.assignLast || lastEnum fp n }).when (lastEnum fp n)
    fun s => s.setFld RNG_POS 20 10 (fp + n + 1)

section handled
variable {s : State} {h : RHdr} {x : Rx} (hforwards : s.forwards = true) (hawake : s.asleep = false)
  (hdown : s.downstream x.west = true) (hovf : x.ovf = false)
include hforwards hawake hdown hovf

theorem State.passing_of_handled (f : RFrame) (go : State → State) : s.passing x f go = go s := by
  simp [State.passing, hforwards, hawake, hdown, hovf]

section enum
variable {fp n : Nat} {es : List EnumEntry}

theorem execRingEnum_of_conflict (hhead : s.headwater = true) : execRingEnum ⟨h, x⟩ fp n es true s =
    .next ((s.conflict h.src).sendOn x.west false ⟨h, .enum fp n es⟩) :=
  congrArg Host.Outcome.next ((State.passing_of_handled hforwards hawake hdown hovf _ _).trans (if_pos hhead))

variable (hrun : s.mss.run ≠ .none) (hnode : s.headwater = false)
include hrun hnode

/-- Pass A of the census: the entries so far have neither an ID nor a DUPLICATE mark (R238, R240). -/
theorem execRingEnum_of_passA (hes : ∀ e ∈ es, e.nodeId = 0 ∧ e.hasId = true) : execRingEnum ⟨h, x⟩ fp n es false s =
    .next (if n < 128 ∧ s.ring.placed = false then
      ((s.setFld RNG_POS 9 0 (fp + n)).setRing fun r =>
        { r with placed := true, assignDue := none, assignLast := false }).sendOn x.west false
          ⟨h, .enum fp (n + 1) (es.take n ++ [s.ownEntry])⟩
      else s.sendOn x.west false ⟨h, .enum fp n es⟩) := by
  have hpassA : ¬ (es.any fun e => decide (e.nodeId ≠ 0) || !e.hasId) = true := by
    simpa using hes
  refine congrArg Host.Outcome.next ((State.passing_of_handled hforwards hawake hdown hovf _ _).trans ?_)
  exact (if_neg (by simp [hnode])).trans ((if_neg hrun).trans (if_neg hpassA))
theorem execRingEnum_of_place (hes : ∀ e ∈ es, e.nodeId = 0 ∧ e.hasId = true) (hroom : n < 128)
    (hplaced : s.ring.placed = false) : execRingEnum ⟨h, x⟩ fp n es false s =
    .next (((s.setFld RNG_POS 9 0 (fp + n)).setRing fun r =>
      { r with placed := true, assignDue := none, assignLast := false }).sendOn x.west false
        ⟨h, .enum fp (n + 1) (es.take n ++ [s.ownEntry])⟩) :=
  (execRingEnum_of_passA hforwards hawake hdown hovf hrun hnode hes).trans
    (congrArg Host.Outcome.next (if_pos ⟨hroom, hplaced⟩))
theorem execRingEnum_of_placed (hes : ∀ e ∈ es, e.nodeId = 0 ∧ e.hasId = true)
    (hpast : 128 ≤ n ∨ s.ring.placed = true) : execRingEnum ⟨h, x⟩ fp n es false s =
    .next (s.sendOn x.west false ⟨h, .enum fp n es⟩) := by
  have hnot : ¬ (n < 128 ∧ s.ring.placed = false) := by
    rintro ⟨hroom, hplaced⟩
    exact hpast.elim (by omega) (by simp [hplaced])
  exact (execRingEnum_of_passA hforwards hawake hdown hovf hrun hnode hes).trans
    (congrArg Host.Outcome.next (if_neg hnot))

theorem execRingEnum_of_passB {a : EnumEntry} (ha : a ∈ es) (hid : a.nodeId ≠ 0) : execRingEnum ⟨h, x⟩ fp n es false s =
    .next ((s.enumTaken fp n (es.find? fun e => decide (e.uid = s.flash.uid.toNat))).sendOn x.west false
      ⟨h, .enum fp n es⟩) := by
  have hpassB : (es.any fun e => decide (e.nodeId ≠ 0) || !e.hasId) = true :=
    List.any_eq_true.mpr ⟨a, ha, by simp [hid]⟩
  refine congrArg Host.Outcome.next ((State.passing_of_handled hforwards hawake hdown hovf _ _).trans ?_)
  exact (if_neg (by simp [hnode])).trans ((if_neg hrun).trans (if_pos hpassB))

end enum

section sync
variable {mark : RingTime} {edge groups seq : Nat}

/-- A SYNC frame goes on, and a node that it selects arms by it unless it has armed or served this SEQ (R258). -/
theorem execRingSyncFrame_of_handled : execRingSyncFrame ⟨h, x⟩ ⟨mark, edge⟩ groups seq s = .next (
    let u := s.sendOn x.west false ⟨h, .sync mark edge groups seq⟩
    if (s.rcfg 1 1).testBit 1 = false ∨ s.fld RNG_SYNC_SEL 7 0 &&& groups = 0 ∨
      (s.fld RNG_SYNC_STAT 1 0 ≠ 0 ∧ s.fld RNG_SYNC_STAT 9 2 = seq) ∨ s.ring.armed ≠ none then u
    else ((u.setFld RNG_SYNC_STAT 1 0 1).setFld RNG_SYNC_STAT 9 2 seq).setRing fun r =>
      { r with armed := some (mark, edge, seq), stepped := false }) := by
  obtain ⟨tx, htx⟩ := s.sendOn_eq_setRing x.west false ⟨h, .sync mark edge groups seq⟩
  refine congrArg Host.Outcome.next ((State.passing_of_handled hforwards hawake hdown hovf _ _).trans ?_)
  simp only [htx, State.setRing_fld, Bool.and_eq_true, decide_eq_true_eq, Option.isSome_iff_ne_none]
  rfl
theorem execRingSyncFrame_of_armed (hdisc : (s.rcfg 1 1).testBit 1 = true)
    (hsel : s.fld RNG_SYNC_SEL 7 0 &&& groups ≠ 0) (harmed : s.ring.armed = none)
    (hnew : s.fld RNG_SYNC_STAT 1 0 = 0 ∨ s.fld RNG_SYNC_STAT 9 2 ≠ seq) :
    execRingSyncFrame ⟨h, x⟩ ⟨mark, edge⟩ groups seq s =
      .next ((((s.sendOn x.west false ⟨h, .sync mark edge groups seq⟩).setFld RNG_SYNC_STAT 1 0 1).setFld
        RNG_SYNC_STAT 9 2 seq).setRing fun r => { r with armed := some (mark, edge, seq), stepped := false }) := by
  refine (execRingSyncFrame_of_handled hforwards hawake hdown hovf).trans (congrArg Host.Outcome.next (if_neg ?_))
  rintro (hoff | hnone | ⟨hstate, hseq⟩ | hstill)
  · simp [hdisc] at hoff
  · exact hsel hnone
  · exact hnew.elim hstate fun hne => hne hseq
  · exact hstill harmed
theorem execRingSyncFrame_of_not (hnot : (s.rcfg 1 1).testBit 1 = false ∨ s.fld RNG_SYNC_SEL 7 0 &&& groups = 0 ∨
      s.ring.armed ≠ none ∨ (s.fld RNG_SYNC_STAT 1 0 ≠ 0 ∧ s.fld RNG_SYNC_STAT 9 2 = seq)) :
    execRingSyncFrame ⟨h, x⟩ ⟨mark, edge⟩ groups seq s =
      .next (s.sendOn x.west false ⟨h, .sync mark edge groups seq⟩) :=
  (execRingSyncFrame_of_handled hforwards hawake hdown hovf).trans
    (congrArg Host.Outcome.next (if_pos (hnot.imp_right (Or.imp_right Or.symm))))

end sync
end handled

section passB
variable (s : State) (fp n : Nat) (mine : Option EnumEntry)

theorem State.ring_enumTaken : (s.enumTaken fp n mine).ring = { s.ring with
    placed := false, assignDue := mine.or s.ring.assignDue, assignLast := s.ring.assignLast || lastEnum fp n } := by
  unfold State.enumTaken State.when
  split <;> rfl
theorem State.ember_enumTaken : (s.enumTaken fp n mine).ember = s.ember := by
  unfold State.enumTaken State.when
  split <;> rfl
theorem State.fld_enumTaken (hlast : n < 128) : (s.enumTaken fp n mine).fld RNG_POS 20 10 = (fp + n + 1) % 2048 := by
  unfold State.enumTaken
  rw [State.when, if_pos (by simp [lastEnum, hlast])]
  exact State.fld_setFld_same _ RNG_POS 20 10 _ (by decide) (by decide)
theorem State.reg_enumTaken {b : Nat} (hb : b ≠ RNG_POS) : (s.enumTaken fp n mine).reg b = s.reg b := by
  unfold State.enumTaken State.when
  split
  · exact (State.reg_setFld ..).trans (if_neg hb)
  · rfl

end passB

section assignment
variable {s : State} {c : Cyc} {acc : Nat} {a : EnumEntry}

/-- A CYC's time and what the registers show of it (R253). -/
def State.cycTimed (s : State) (c : Cyc) (acc : Nat) : State :=
  ((((s.setReg RNG_PATH_DLY (toWord (acc / 32))).takeTime (c.tTx + BitVec.ofNat 48 (acc / 32))).setReg RNG_CYCNO
    (toWord c.cycleNo)).setFld RNG_CYCLE 13 0 c.cycleUs).setBit RNG_STAT 3 c.stretched
/-- What a node keeps of a CYC for its cycle (R243, R254, R262). -/
def State.cycKept (s : State) (c : Cyc) : State :=
  s.setRing fun r => { r with
    cycleNo := some c.cycleNo, filled := 0, markPhase := (c.tTx.toNat + c.markOff) % 500000
    unwrapDue := c.unwrap, placed := c.census && r.placed, changed := false }

theorem State.ring_takeTime (s : State) (t : RingTime) :
    ∃ stepped err, (s.takeTime t).ring = { s.ring with stepped := stepped, rateErr := err } := by
  unfold State.takeTime
  dsimp only
  split
  · exact ⟨_, _, rfl⟩
  · split <;> exact ⟨_, _, rfl⟩
theorem State.ring_cycTimed (s : State) (c : Cyc) (acc : Nat) :
    ∃ stepped err, (s.cycTimed c acc).ring = { s.ring with stepped := stepped, rateErr := err } :=
  State.ring_takeTime (s.setReg RNG_PATH_DLY (toWord (acc / 32))) _
/-- An assignment whose pass has ended takes effect with the CYC (R240). -/
theorem State.nodeCyc_of_assigned (hunwrap : s.ring.unwrapDue = false) (hdue : s.ring.assignDue = some a)
    (heff : s.ring.assignLast = true ∨ c.census = false) :
    s.nodeCyc c acc = ((s.cycTimed c acc).takeAssign a).cycKept c := by
  obtain ⟨stepped, err, hring⟩ := s.ring_cycTimed c acc
  have hdue : (s.cycTimed c acc).ring.assignDue = some a := by rw [hring]; exact hdue
  have heff : ((s.cycTimed c acc).ring.assignLast || !c.census) = true := by simpa [hring] using heff
  simp only [State.cycTimed] at hdue heff
  simp only [State.nodeCyc, State.when, State.setReg_fields, hunwrap, hdue, heff, Bool.false_eq_true, if_false, if_true]
  rfl

/-- The request for an image changes no more of the ring than the mails to be sent. -/
theorem State.ring_requestImage (s : State) (dest tag : Nat) (data : Bytes) :
    (s.requestMail dest tag .imageReq data).ring =
      { s.ring with sendQ := (s.requestMail dest tag .imageReq data).ring.sendQ } := by
  unfold State.requestMail State.sendMail
  split <;> rfl

/-- The first part of an assignment: the slot is the entry's, whatever ID it gives (R240). -/
theorem State.takeAssign_slot (s : State) (a : EnumEntry) : (s.takeAssign a).ring.assignDue = none ∧
    (s.takeAssign a).ring.slotSize = a.slotSize ∧ (s.takeAssign a).ring.slotOff = a.slotOff := by
  unfold State.takeAssign
  dsimp only
  split
  · exact ⟨rfl, rfl, rfl⟩
  · unfold State.when
    split
    · rw [State.ring_requestImage]
      simp
    · simp
theorem State.takeAssign_of_duplicate (hdup : a.status.testBit 1 = true) :
    (s.takeAssign a).ember.nodeId = none ∧ (s.takeAssign a).bit RNG_STAT 1 = false := by
  unfold State.takeAssign
  rw [if_pos (by simp [EnumEntry.hasId, hdup])]
  exact ⟨rfl, (State.bit_setBit _ RNG_STAT 1 RNG_STAT 1 false (by decide)).trans (if_pos ⟨rfl, rfl⟩)⟩
theorem State.takeAssign_of_id (hid : a.status.testBit 1 = false) (himage : s.ring.imgReq = false) :
    (s.takeAssign a).ember.nodeId = some a.nodeId ∧ (s.takeAssign a).fld RNG_STAT 14 5 = a.nodeId % 1024 ∧
      (s.takeAssign a).bit RNG_STAT 1 = true := by
  unfold State.takeAssign
  rw [if_neg (by simp [EnumEntry.hasId, hid])]
  dsimp only
  rw [State.when, if_neg (by simp [himage]), State.fld_fire (by decide) (by decide) (by decide),
    State.bit_fire (by decide) (by decide) (by decide)]
  exact ⟨by simp, (State.fld_setFld_other _ RNG_STAT 1 1 _ RNG_STAT 14 5 (by decide) (by decide) (by decide)).trans
    (State.fld_setFld_same _ RNG_STAT 14 5 _ (by decide) (by decide)),
    (State.bit_setBit _ RNG_STAT 1 RNG_STAT 1 true (by decide)).trans (if_pos ⟨rfl, rfl⟩)⟩

end assignment

/-- The end of pass B before its event: the assignment takes effect with the next cycle, and RNG_POS shows the count
(R240). -/
def State.censusDone (s : State) : State :=
  (s.setFld RNG_POS 20 10 (s.ring.entries.length + 1)).setRing fun r => { r with
    censusPass := 0, layoutDue := true
    tMin := tMinUs (s.ring.layoutNew.foldl (fun t e => t + 4 * e.slotSize) 0) (s.rcfg 3 1) (s.reg RNG_PATH_DLY).toNat }
theorem State.fld_censusDone (s : State) : s.censusDone.fld RNG_POS 20 10 = (s.ring.entries.length + 1) % 2048 :=
  State.fld_setFld_same s RNG_POS 20 10 _ (by decide) (by decide)
theorem State.reg_censusDone (s : State) {b : Nat} (hb : b ≠ RNG_POS) : s.censusDone.reg b = s.reg b :=
  (s.reg_setFld RNG_POS 20 10 _ b).trans (if_neg hb)

section headwater
variable {s : State} {n : Nat} {es : List EnumEntry} (hhead : s.headwater = true) (hconflict : s.bit RNG_STAT 4 = false)
  (hforwards : s.forwards = true) (hawake : s.asleep = false)
include hhead hconflict hforwards hawake

theorem State.enumReturn_taken (hpass : s.ring.censusPass ≠ 0) :
    ¬ (s.headwater = false ∨ s.bit RNG_STAT 4 ∨ s.forwards = false ∨ s.asleep ∨ s.ring.censusPass = 0) := by
  simp [hhead, hconflict, hforwards, hawake, hpass]

section passA
variable (hpass : s.ring.censusPass = 1)
include hpass

theorem execRingEnumReturn_of_passA : execRingEnumReturn n es s = .next (
    if lastEnum s.ring.firstPos n then s.censusEnd (s.ring.entries ++ es)
    else s.setRing fun r => { r with entries := s.ring.entries ++ es, firstPos := r.firstPos + 128 }) := by
  have hguard := State.enumReturn_taken hhead hconflict hforwards hawake (by simp [hpass])
  exact ((if_neg hguard).trans (if_pos hpass)).trans (apply_ite Host.Outcome.next _ _ _).symm
theorem execRingEnumReturn_of_more (hfull : 128 ≤ n) (hroom : s.ring.firstPos < 896) : execRingEnumReturn n es s =
    .next (s.setRing fun r => { r with entries := s.ring.entries ++ es, firstPos := r.firstPos + 128 }) :=
  (execRingEnumReturn_of_passA hhead hconflict hforwards hawake hpass).trans
    (congrArg Host.Outcome.next (if_neg (by simp [lastEnum, hfull, hroom])))
theorem execRingEnumReturn_of_last (hlast : n < 128 ∨ 896 ≤ s.ring.firstPos) : execRingEnumReturn n es s =
    .next (s.censusEnd (s.ring.entries ++ es)) :=
  (execRingEnumReturn_of_passA hhead hconflict hforwards hawake hpass).trans
    (congrArg Host.Outcome.next (if_pos (by simpa [lastEnum] using hlast)))

end passA

theorem execRingEnumReturn_of_passB (hpass : s.ring.censusPass = 2)
    (hend : s.ring.entries.length < s.ring.firstPos + 128) :
    execRingEnumReturn n es s = .next (s.censusDone.fire 464 (toWord (s.ring.entries.length + 1))) := by
  have hguard := State.enumReturn_taken hhead hconflict hforwards hawake (by simp [hpass])
  have hpassB : ¬ s.ring.censusPass = 1 := by simp [hpass]
  exact (if_neg hguard).trans ((if_neg hpassB).trans (if_pos (.inl hend)))

end headwater

section edge
variable {s : State}

theorem execSyncEdge_of_idle (hidle : s.ring.armed = none) : execSyncEdge s = .next s := by
  unfold execSyncEdge
  rw [hidle]
theorem execSyncEdge_of_cancelled (harmed : s.ring.armed ≠ none) (hoff : s.disc = false ∨ s.ring.stepped = true) :
    execSyncEdge s = .next (s.syncEnd true) := by
  obtain ⟨m, harmed⟩ := Option.ne_none_iff_exists'.mp harmed
  simp only [execSyncEdge, harmed, if_pos hoff]
theorem execSyncEdge_of_executed (harmed : s.ring.armed ≠ none) (hdisc : s.disc = true)
    (hsteady : s.ring.stepped = false) : execSyncEdge s =
    .next ((s.syncChannels.foldl (fun s c => s.channelReset c 2) s).syncEnd false) := by
  obtain ⟨m, harmed⟩ := Option.ne_none_iff_exists'.mp harmed
  have hon : ¬ (s.disc = false ∨ s.ring.stepped = true) := by simp [hdisc, hsteady]
  simp only [execSyncEdge, harmed, if_neg hon]

/-- A capture is off by at most three units of 2 ns (R256). -/
theorem timeDiff_captured (t : RingTime) (err : Fin 7) :
    timeDiff (t + BitVec.ofNat 48 err.val - 3) t = (err.val : Int) - 3 := by
  have hdiff : t + BitVec.ofNat 48 err.val - 3 - t = BitVec.ofNat 48 err.val - 3 := by ring
  rw [timeDiff, hdiff]
  clear hdiff
  revert err
  decide
theorem execSyncnFall_of_runs (err : Fin 7) (hruns : s.runs = true) (htest : s.underTest = false) :
    execSyncnFall err s = .next (
      let t := s.time + BitVec.ofNat 48 err.val - 3
      (s.setTime RNG_SYNCN_LO t).fire 467 (lo24 t)) :=
  if_neg (by simp [hruns, htest])

end edge

section lapse
variable {s : State}

/-- What a lapse of discipline leaves before its event (R254). -/
def State.lapsed (s : State) : State :=
  (((s.setBit RNG_DISC 17 true).setDisc false).setBit RNG_STAT 2 false).setRing fun r =>
    { r with lockRun := 0, frozen := true }
theorem State.reg_lapsed {b : Nat} (hb : b ∉ [SYS_CLKSTAT, RNG_DISC, RNG_STAT]) : s.lapsed.reg b = s.reg b := by
  obtain ⟨hclk, hdisc, hstat⟩ : b ≠ SYS_CLKSTAT ∧ b ≠ RNG_DISC ∧ b ≠ RNG_STAT := by simpa using hb
  simp only [State.lapsed, State.setDisc, State.setRing_reg, State.reg_setBit, if_neg hclk, if_neg hdisc, if_neg hstat]
theorem State.bits_lapsed : s.lapsed.disc = false ∧ s.lapsed.bit RNG_STAT 2 = false ∧ s.lapsed.bit RNG_DISC 17 = true := by
  simp [State.lapsed, State.setDisc, State.disc, State.bit_setBit]
theorem State.bit_link_lapsed (w : Bool) : (s.lapsed.fire 451 0).bit (RNG_LINK w) 0 = s.bit (RNG_LINK w) 0 := by
  cases w <;>
    exact (State.bit_fire (by decide) (by decide) (by decide) ..).trans (congrArg (bitOf · 0) (State.reg_lapsed (by decide)))
/-- With a link up the lapse leaves an armed SYNC as it is (R254, R274). -/
theorem execRingHoldoverLapse_of_link (hruns : s.runs = true) (hheld : s.disc = true ∨ s.bit RNG_STAT 2 = true)
    (hlink : s.bit (RNG_LINK false) 0 = true ∨ s.bit (RNG_LINK true) 0 = true) :
    execRingHoldoverLapse s = .next (s.lapsed.fire 451 0) := by
  have hcond : ((s.setBit RNG_DISC 17 true).disc || (s.setBit RNG_DISC 17 true).bit RNG_STAT 2) = true := by
    simpa [State.disc, State.bit_setBit] using hheld
  have hup : ¬ (!(s.lapsed.fire 451 0).bit (RNG_LINK false) 0 && !(s.lapsed.fire 451 0).bit (RNG_LINK true) 0) = true := by
    rw [State.bit_link_lapsed, State.bit_link_lapsed]
    rcases hlink with h | h <;> simp [h]
  exact congrArg Host.Outcome.next ((if_pos hruns).trans ((if_pos hcond).trans (if_neg hup)))

end lapse

/-- Settles O34: a frame by its pass, an assignment by the CYC after its pass, each row of ring time by its guards. -/
theorem ringCensus : Obligations.RingCensus := by
  refine ⟨fun s h fp n es x hforwards hawake hdown hovf hrun hnode => ⟨fun hes =>
      ⟨execRingEnum_of_place hforwards hawake hdown hovf hrun hnode hes,
        execRingEnum_of_placed hforwards hawake hdown hovf hrun hnode hes⟩, fun a ha huid hid hfind => ?passB⟩,
    fun s c acc a hunwrap hdue heff => ?assignment,
    fun _ _ _ _ _ _ hforwards hawake hdown hovf => execRingEnum_of_conflict hforwards hawake hdown hovf,
    fun s n es hhead hconflict hforwards hawake => ⟨execRingEnumReturn_of_more hhead hconflict hforwards hawake,
      execRingEnumReturn_of_last hhead hconflict hforwards hawake, fun hpass hend => ⟨s.censusDone,
        execRingEnumReturn_of_passB hhead hconflict hforwards hawake hpass hend, rfl, rfl, s.fld_censusDone,
        fun _ => s.reg_censusDone⟩⟩,
    fun _ _ _ _ _ _ _ hforwards hawake hdown hovf => ⟨execRingSyncFrame_of_armed hforwards hawake hdown hovf,
      execRingSyncFrame_of_not hforwards hawake hdown hovf⟩,
    fun _ => ⟨execSyncEdge_of_idle, execSyncEdge_of_cancelled, execSyncEdge_of_executed⟩,
    fun s err hruns htest => ⟨_, execSyncnFall_of_runs err hruns htest, timeDiff_captured s.time err⟩,
    fun s hruns hheld hlink => ?lapse⟩
  case passB =>
    refine ⟨_, execRingEnum_of_passB hforwards hawake hdown hovf hrun hnode ha hid, ?_⟩
    rw [hfind]
    obtain ⟨tx, htx⟩ := (s.enumTaken fp n (some a)).sendOn_eq_setRing x.west false ⟨h, .enum fp n es⟩
    rw [htx]
    refine ⟨?_, ?_, s.fld_enumTaken fp n (some a), s.ember_enumTaken fp n (some a), fun b => s.reg_enumTaken fp n (some a)⟩
    · simp [State.ring_enumTaken]
    · simp [State.ring_enumTaken, lastEnum, Bool.or_assoc]
  case assignment =>
    obtain ⟨stepped, err, hring⟩ := s.ring_cycTimed c acc
    obtain ⟨hnone, hsize, hoff⟩ := (s.cycTimed c acc).takeAssign_slot a
    dsimp only
    rw [State.nodeCyc_of_assigned hunwrap hdue heff]
    exact ⟨hnone, hsize, hoff, fun hid himage => State.takeAssign_of_id hid (by simpa [hring] using himage),
      State.takeAssign_of_duplicate⟩
  case lapse =>
    obtain ⟨hdisc, htime, hholdover⟩ := s.bits_lapsed
    exact ⟨s.lapsed, execRingHoldoverLapse_of_link hruns hheld hlink, hdisc, htime, rfl, rfl, hholdover,
      fun _ => State.reg_lapsed⟩

end Sys2Proof.Machine
end

section
/-!
Bulk transfers: opening, carriers and their acknowledgements, the end of a session and its stall (R268–R270, R272).
-/
namespace Sys2Proof.Machine

section opening
variable {s : State} {n tag sess src dst len : Nat} {x : Rx} {q : Bool}

/-- A region of Eddy words within its end passes the check of R269, and one beyond it does not. -/
theorem pastEddy_of_within {a len : Nat} (hpos : 1 ≤ len) (hend : a + len ≤ 0x100000) : pastEddy a len = false := by
  simp only [pastEddy, Bool.or_eq_false_iff, Bool.and_eq_false_iff, decide_eq_false_iff_not]
  omega
theorem pastEddy_of_beyond {a len : Nat} (hlen : len ≤ 0x100000) (hend : 0x100000 < a + len) : pastEddy a len = true := by
  simp only [pastEddy, Bool.or_eq_true, Bool.and_eq_true, decide_eq_true_eq]
  omega

section fields
variable (hsess : 1 ≤ sess) (hsess' : sess ≤ 255) (hlen : 1 ≤ len) (hlen' : len ≤ 0x100000) {dir : Nat} (hdir : dir ≤ 1)
include hsess hsess' hlen hlen' hdir

/-- Of a BULK_OPEN whose other fields are good the two regions are judged, the source first (R269). -/
theorem bulkOpenBad_of_regions : bulkOpenBad sess dir 0 src dst len 0 =
    if pastEddy src len then some 20 else if pastEddy dst len then some 23 else none := by
  have hid : ¬ (sess = 0 ∨ 255 < sess) := by omega
  have hway : ¬ 1 < dir := by omega
  have hcount : ¬ (len = 0 ∨ 0x100000 < len) := by omega
  simp only [bulkOpenBad, if_neg hid, if_neg hway, if_neg hcount, ne_eq, not_true_eq_false, if_false]
theorem bulkOpenBad_of_within (hsrc : src + len ≤ 0x100000) (hdst : dst + len ≤ 0x100000) :
    bulkOpenBad sess dir 0 src dst len 0 = none := by
  simp [bulkOpenBad_of_regions hsess hsess' hlen hlen' hdir, pastEddy_of_within hlen hsrc, pastEddy_of_within hlen hdst]
theorem bulkOpenBad_of_source (hsrc : 0x100000 < src + len) : bulkOpenBad sess dir 0 src dst len 0 = some 20 := by
  simp [bulkOpenBad_of_regions hsess hsess' hlen hlen' hdir, pastEddy_of_beyond hlen' hsrc]
theorem bulkOpenBad_of_target (hsrc : src + len ≤ 0x100000) (hdst : 0x100000 < dst + len) :
    bulkOpenBad sess dir 0 src dst len 0 = some 23 := by
  simp [bulkOpenBad_of_regions hsess hsess' hlen hlen' hdir, pastEddy_of_within hlen hsrc, pastEddy_of_beyond hlen' hdst]

end fields

variable (hturn : s.mailTurned n tag .bulkOpen x q = none)
include hturn

/-- A request that is served is so whether or not a waiting boot would take it besides (R270). -/
theorem bulkOpen_served (dir : Nat) : (if s.bulkLive && s.wantsImage n dir dst && !x.ovf then none
    else s.mailTurned n tag .bulkOpen x q) = none := by
  rw [hturn, ite_self]
theorem execBulkOpen_of_bad {dir d : Nat} (hbad : bulkOpenBad sess dir 0 src dst len 0 = some d) :
    execBulkOpen n tag sess dir 0 ⟨src, dst, len⟩ 0 ⟨x, q⟩ s =
      .next ((s.portWake 3).answerMail n tag .bulkOpen 3 d 0 []) := by
  simp only [execBulkOpen, bulkOpen_served hturn, hbad]
/-- A good BULK_OPEN opens the session of its direction unless one runs there already (R268, R269). -/
theorem execBulkOpen_of_good {dir : Nat} (hgood : bulkOpenBad sess dir 0 src dst len 0 = none) :
    execBulkOpen n tag sess dir 0 ⟨src, dst, len⟩ 0 ⟨x, q⟩ s = .next (
    let u := s.portWake 3
    if (if dir = 0 then u.ring.bulkRx.isSome else u.ring.bulkTx.isSome) then
      u.answerMail n tag .bulkOpen 1 0 u.queueHint []
    else ((u.setRing fun r =>
      if dir = 0 then { r with bulkRx := some ⟨sess, n, src, dst, len, 0, 0, 0, 0, true⟩ }
      else { r with bulkTx := some ⟨sess, n, src, dst, len, 0, 0, 0, 0, true⟩ }).setBit RNG_BULK (if dir = 0 then 1 else 0)
        true).answerMail n tag .bulkOpen 0 0 0 []) := by
  simp only [execBulkOpen, bulkOpen_served hturn, hgood, apply_ite Host.Outcome.next]
theorem execBulkOpen_of_receive (hgood : bulkOpenBad sess 0 0 src dst len 0 = none)
    (hfree : (s.portWake 3).ring.bulkRx = none) : execBulkOpen n tag sess 0 0 ⟨src, dst, len⟩ 0 ⟨x, q⟩ s =
    .next ((((s.portWake 3).setRing fun r =>
      { r with bulkRx := some ⟨sess, n, src, dst, len, 0, 0, 0, 0, true⟩ }).setBit RNG_BULK 1 true).answerMail n tag
        .bulkOpen 0 0 0 []) :=
  (execBulkOpen_of_good hturn hgood).trans (congrArg Host.Outcome.next (if_neg (by simp [hfree])))
theorem execBulkOpen_of_send (hgood : bulkOpenBad sess 1 0 src dst len 0 = none)
    (hfree : (s.portWake 3).ring.bulkTx = none) : execBulkOpen n tag sess 1 0 ⟨src, dst, len⟩ 0 ⟨x, q⟩ s =
    .next ((((s.portWake 3).setRing fun r =>
      { r with bulkTx := some ⟨sess, n, src, dst, len, 0, 0, 0, 0, true⟩ }).setBit RNG_BULK 0 true).answerMail n tag
        .bulkOpen 0 0 0 []) :=
  (execBulkOpen_of_good hturn hgood).trans (congrArg Host.Outcome.next (if_neg (by simp [hfree])))
theorem execBulkOpen_of_busy (hgood : bulkOpenBad sess 0 0 src dst len 0 = none)
    (hbusy : (s.portWake 3).ring.bulkRx ≠ none) : execBulkOpen n tag sess 0 0 ⟨src, dst, len⟩ 0 ⟨x, q⟩ s =
    .next ((s.portWake 3).answerMail n tag .bulkOpen 1 0 (s.portWake 3).queueHint []) :=
  (execBulkOpen_of_good hturn hgood).trans
    (congrArg Host.Outcome.next (if_pos (Option.isSome_iff_ne_none.mpr hbusy)))

end opening

/-- An acknowledgement is due after 32 carriers, with the sender's last and at the end of the session (R268). -/
def BulkSt.ackDue (b : BulkSt) (c : Bulk) (next : Nat) : Bool :=
  decide (32 ≤ b.taken + 1) || c.last || decide (next = b.len)
/-- The offset expected next, and the acknowledgement where one is due (R268). -/
def State.bulkCounted (s : State) (b : BulkSt) (c : Bulk) (next : Nat) : State :=
  (s.setRing fun r => { r with
    bulkRx := some { b with ofs := next, taken := if b.ackDue c next then 0 else b.taken + 1 } }).when (b.ackDue c next)
    fun s => s.requestMail b.node c.session .bulkAck (bulkAckBytes c.session next)

section session
variable {s : State} {b : BulkSt} (hlive : s.bulkLive = true)
include hlive

section carrier
variable {c : Bulk} {west : Bool} (hsess : c.session = b.session)
include hsess

theorem bulkCarrier_taken : ¬ (s.bulkLive = false ∨ b.session ≠ c.session ∨ b.node ≠ b.node) := by
  simp [hlive, hsess]

variable (hrx : s.ring.bulkRx = some b)
include hrx

theorem execRingBulk_of_expected (hofs : c.ofs = b.ofs) (hfits : b.ofs + c.ws.length ≤ b.len) :
    execRingBulk b.node c west false s =
      .next ((s.setEddyWords (b.dst + b.ofs) c.ws).bulkCounted b c (b.ofs + c.ws.length)) := by
  have hguard := bulkCarrier_taken hlive hsess
  have hwithin : decide (b.ofs = c.ofs ∧ c.ofs + c.ws.length ≤ b.len) = true := by simp [hofs, hfits]
  simp only [execRingBulk, hrx, if_neg hguard, hwithin]
  rw [hofs]
  rfl
theorem execRingBulk_of_other (hofs : c.ofs ≠ b.ofs) :
    execRingBulk b.node c west false s = .next (s.bulkCounted b c b.ofs) := by
  have hguard := bulkCarrier_taken hlive hsess
  have hwithin : decide (b.ofs = c.ofs ∧ c.ofs + c.ws.length ≤ b.len) = false := by simp [hofs.symm]
  simp only [execRingBulk, hrx, if_neg hguard, hwithin]
  rfl

end carrier

/-- An acknowledgement that does not end the session sets the sender back to its offset (R268). -/
theorem execBulkAck_of_more {next : Nat} {x : Rx} (htx : s.ring.bulkTx = some b) (hovf : x.ovf = false)
    (hmore : next ≠ b.len) : execBulkAck b.node ⟨b.session, next⟩ x s = .next ((s.portWake 3).setRing fun r =>
      { r with bulkTx := some { b with acked := next, ofs := min b.ofs next } }) := by
  simp [execBulkAck, hlive, hovf, htx, State.when, hmore]

section done
variable {tag crc words : Nat} {x : Rx} (hwords : words ≠ 0xFFFFFF) (hovf : x.ovf = false)
  (hrx : s.ring.bulkRx = some b)
include hwords hovf hrx

/-- The end of a session that receives hangs on its words and their CRC (R268, R269). -/
theorem execBulkDone_of_receiver : execBulkDone b.node tag b.session ⟨crc, words⟩ ⟨x, false⟩ s = .next (
    let u := s.portWake 3
    if b.ofs = b.len ∧ words = b.len ∧ crc32 (wordsBytes (u.eddyWords b.dst b.len)) = crc then
      ((u.bulkClose false 0).ringStaged b).answerMail b.node tag .bulkDone 0 0 0 []
    else (u.bulkClose false 8).answerMail b.node tag .bulkDone 8 1 0 []) := by
  simp [execBulkDone, hlive, hwords, hovf, hrx, apply_ite Host.Outcome.next]
theorem execBulkDone_of_whole (hofs : b.ofs = b.len) (hcount : words = b.len)
    (hcrc : crc32 (wordsBytes ((s.portWake 3).eddyWords b.dst b.len)) = crc) :
    execBulkDone b.node tag b.session ⟨crc, words⟩ ⟨x, false⟩ s =
      .next ((((s.portWake 3).bulkClose false 0).ringStaged b).answerMail b.node tag .bulkDone 0 0 0 []) :=
  (execBulkDone_of_receiver hlive hwords hovf hrx).trans (congrArg Host.Outcome.next (if_pos ⟨hofs, hcount, hcrc⟩))
theorem execBulkDone_of_fault (hfault : b.ofs ≠ b.len ∨ words ≠ b.len ∨
      crc32 (wordsBytes ((s.portWake 3).eddyWords b.dst b.len)) ≠ crc) :
    execBulkDone b.node tag b.session ⟨crc, words⟩ ⟨x, false⟩ s =
      .next (((s.portWake 3).bulkClose false 8).answerMail b.node tag .bulkDone 8 1 0 []) := by
  have hnot : ¬ (b.ofs = b.len ∧ words = b.len ∧
      crc32 (wordsBytes ((s.portWake 3).eddyWords b.dst b.len)) = crc) := by
    rintro ⟨hofs, hcount, hcrc⟩
    exact hfault.elim (· hofs) fun h => h.elim (· hcount) (· hcrc)
  exact (execBulkDone_of_receiver hlive hwords hovf hrx).trans (congrArg Host.Outcome.next (if_neg hnot))

end done
end session

theorem execBulkStallTimeout_of_session {s : State} {tx : Bool} {b : BulkSt} (hawake : s.asleep = false)
    (hsess : (if tx then s.ring.bulkTx else s.ring.bulkRx) = some b) : execBulkStallTimeout tx s =
    .next ((s.bulkClose tx 8).requestMail b.node b.session .bulkDone (bulkDoneBytes b.session 0 0xFFFFFF)) := by
  simp [execBulkStallTimeout, hsess, hawake]

/-- Settles O36: an opening by its fields, a carrier by its offset, the end by the words received and their CRC. -/
theorem bulkTransfers : Obligations.BulkTransfers := by
  refine ⟨fun s n tag sess src dst len x q hturn hsess hsess' hlen hlen' => ?opening,
    fun _ _ _ _ hlive hrx hsess => ⟨execRingBulk_of_expected hlive hsess hrx, execRingBulk_of_other hlive hsess hrx⟩,
    fun _ _ _ _ hlive => execBulkAck_of_more hlive,
    fun _ _ _ _ _ _ hwords hovf hlive hrx => ⟨execBulkDone_of_whole hlive hwords hovf hrx,
      execBulkDone_of_fault hlive hwords hovf hrx⟩,
    fun _ _ _ => execBulkStallTimeout_of_session⟩
  case opening =>
    have hgood {dir : Nat} (hdir : dir ≤ 1) := bulkOpenBad_of_within (src := src) (dst := dst) hsess hsess' hlen hlen' hdir
    exact ⟨fun hsrc hdst => execBulkOpen_of_receive hturn (hgood (by decide) hsrc hdst),
      fun hsrc hdst => execBulkOpen_of_send hturn (hgood (by decide) hsrc hdst),
      fun hsrc hdst => execBulkOpen_of_busy hturn (hgood (by decide) hsrc hdst),
      fun _ hdir hsrc => execBulkOpen_of_bad hturn (bulkOpenBad_of_source hsess hsess' hlen hlen' hdir hsrc),
      fun _ hdir hsrc hdst => execBulkOpen_of_bad hturn (bulkOpenBad_of_target hsess hsess' hlen hlen' hdir hsrc hdst)⟩

end Sys2Proof.Machine
end

section
/-!
Capture sequences: a trigger in each of their states, and a block that has all its sets (R302, R429–R433, R436).
-/
namespace Sys2Proof.Machine

theorem State.capt_setCapt (s : State) (q : Fin 16) (f : Capt → Capt) : (s.setCapt q f).capt q = f (s.capt q) := by
  simp [State.capt, State.setCapt, updV]
theorem State.capt_setCapState (s : State) (q r : Fin 16) (n : Nat) : (s.setCapState r n).capt q = s.capt q := rfl
theorem State.capt_capBegin (s : State) (q : Fin 16) (queued : Bool) (ofs : Int) :
    (s.capBegin q queued ofs).capt q = { s.capt q with
      fired := true, got := 0, queued := queued, ofs := ofs, addr := s.capStart q, no := (s.capt q).nextNo
      goal := if queued then s.fld (CAP q 4) 11 0 + s.fld (CAP q 4) 23 12 else s.fld (CAP q 4) 23 12 } :=
  (State.capt_setCapState ..).trans (State.capt_setCapt ..)

section trigger
variable {s : State} {q : Fin 16}

theorem execCaptureTrigger_of_deaf {src : Nat} (hdeaf : s.capRec q = none ∨ src = 0 ∨ s.fld (CAP q 1) 1 0 ≠ src) :
    execCaptureTrigger q src s = .next s := by
  unfold execCaptureTrigger
  obtain hrec | hsrc | hsel := hdeaf
  · simp [hrec]
  · simp [hsrc]
  · simp [hsel]
theorem execCaptureTrigger_of_selected {src : Nat} (hrec : s.capRec q ≠ none) (hsrc : src ≠ 0)
    (hsel : s.fld (CAP q 1) 1 0 = src) : execCaptureTrigger q src s = .next (s.capTrigger q) := by
  simp [execCaptureTrigger, Option.isSome_iff_ne_none.mpr hrec, hsrc, hsel]

theorem State.capTrigger_of_idle (hstate : s.capState q = 0) : s.capTrigger q = s := by
  simp [State.capTrigger, hstate]
theorem State.capTrigger_of_armed (hstate : s.capState q = 1) : s.capTrigger q = s.capBegin q false 0 := by
  simp [State.capTrigger, hstate]
theorem State.capTrigger_of_full (hstate : s.capState q = 3) : s.capTrigger q = s.capMiss q 1 := by
  simp [State.capTrigger, hstate]

section running
variable (hrun : s.capState q = 2)
include hrun

theorem State.capTrigger_of_counting (hmode : s.fld (CAP q 0) 4 3 = 0) : s.capTrigger q = s.capMiss q 0 := by
  simp [State.capTrigger, hrun, hmode]
theorem State.capTrigger_of_queueing (hmode : s.fld (CAP q 0) 4 3 = 1) : s.capTrigger q =
    if (s.capt q).pendSets.isSome then s.capMiss q 2
    else (s.setBit (CAP q 5) 2 true).setCapt q fun b => { b with pendSets := some 0 } := by
  simp [State.capTrigger, hrun, hmode]
theorem State.capTrigger_of_aborting (hmode : 2 ≤ s.fld (CAP q 0) 4 3) : s.capTrigger q =
    let t := (s.capFinish q true).capArm q
    if t.capState q = 3 then t.capMiss q 1 else t.capBegin q false 0 := by
  obtain ⟨m, hm⟩ := Nat.exists_eq_add_of_le' hmode
  simp [State.capTrigger, hrun, hm]

end running
end trigger

section complete
variable {s : State} {q : Fin 16}

theorem execCaptureBlockComplete_of_open (hopen : s.capState q ≠ 2 ∨ (s.capt q).fired = true ∨
    (s.capt q).got < (s.capt q).goal ∨ (s.capt q).goal = 0) : execCaptureBlockComplete q s = .next s :=
  if_pos hopen

variable (hrun : s.capState q = 2) (hfired : (s.capt q).fired = false) (hgot : (s.capt q).goal ≤ (s.capt q).got)
  (hgoal : (s.capt q).goal ≠ 0)
include hrun hfired hgot hgoal

theorem execCaptureBlockComplete_of_unqueued (hpend : (s.capt q).pendSets = none) : execCaptureBlockComplete q s =
    .next (if (s.capFinish q false).bit (CAP q 0) 5 then (s.capFinish q false).capArm q
      else (s.capFinish q false).setCapState q 0) := by
  simp [execCaptureBlockComplete, hrun, hfired, hgot, hgoal, hpend]
theorem execCaptureBlockComplete_of_queued {n : Nat} (hpend : (s.capt q).pendSets = some n) :
    execCaptureBlockComplete q s = .next (
      let u := (((s.capFinish q false).setBit (CAP q 5) 2 false).setCapt q fun b => { b with pendSets := none }).capArm q
      if u.capState q = 3 then u.capMiss q 1 else u.capBegin q true (-(n : Int))) := by
  simp [execCaptureBlockComplete, hrun, hfired, hgot, hgoal, hpend]

end complete

/-- Settles O49: a trigger by the state that it meets, a block's end by its guard and by whether a trigger is queued. -/
theorem captures : Obligations.Captures := by
  refine ⟨fun _ _ _ => execCaptureTrigger_of_deaf, fun s q src hrec hsrc hsel => ?trigger,
    fun _ _ => execCaptureBlockComplete_of_open,
    fun s q hrun hfired hgot hgoal => ⟨_, rfl, execCaptureBlockComplete_of_unqueued hrun hfired hgot hgoal,
      fun _ => execCaptureBlockComplete_of_queued hrun hfired hgot hgoal⟩,
    fun s q b ofs => ?begun⟩
  case trigger =>
    have hanswer {t : State} (htrigger : s.capTrigger q = t) : exec (.captureTrigger q src) s = .next t :=
      (execCaptureTrigger_of_selected hrec hsrc hsel).trans (congrArg _ htrigger)
    exact ⟨fun hidle => hanswer (State.capTrigger_of_idle hidle),
      fun harmed => hanswer (State.capTrigger_of_armed harmed),
      fun hrun hmode => hanswer (State.capTrigger_of_counting hrun hmode),
      fun hrun hmode hpend => hanswer ((State.capTrigger_of_queueing hrun hmode).trans
        (if_pos (Option.isSome_iff_ne_none.mpr hpend))),
      fun hrun hmode hpend => hanswer ((State.capTrigger_of_queueing hrun hmode).trans
        (if_neg (by simp [hpend]))),
      fun hrun hmode => hanswer (State.capTrigger_of_aborting hrun hmode),
      fun hfull => hanswer (State.capTrigger_of_full hfull)⟩
  case begun =>
    rw [State.capt_capBegin]
    exact ⟨rfl, rfl, rfl⟩

end Sys2Proof.Machine
end

section
/-!
An event source that fires: its status bit and its record (R285, R286, R290), and the SLUICE_LAG that the record of a stream
with nothing lent causes (R294, R300).
-/
namespace Sys2Proof.Machine

theorem State.bit_setBit_of_bit {s : State} {a b j k : Nat} (hk : k < 24) (hbit : s.bit b k = true) :
    (s.setBit a j true).bit b k = true := by
  rw [State.bit_setBit _ _ _ _ _ _ hk, hbit, ite_self]

section record
variable {s : State} {src : Nat} (stamp : RingTime) (data : Word)

/-- A source's count and its line's WEIR_LOST are all that a record writes among the registers. -/
theorem State.reg_record_other {a : Nat} (hcount : a ≠ EVT_SRC0 + src) (hlost : ∀ k, a ≠ WEIR_LOST k) :
    (s.record src stamp data).reg a = s.reg a := by
  unfold State.record
  dsimp only
  split
  · rfl
  · split
    · exact (State.reg_setFld ..).trans (if_neg hcount)
    · split
      · exact (State.reg_setFld ..).trans (if_neg hcount)
      · exact (State.reg_bump ..).trans (if_neg (hlost _))
theorem State.strDef_record : (s.record src stamp data).evt.strDef = s.evt.strDef := by
  unfold State.record
  dsimp only
  split
  · rfl
  · split
    · rfl
    · split <;> rfl
theorem State.record_of_noDest (hdest : s.recDest (s.lineOf src) = 0) : s.record src stamp data = s := if_pos hdest

variable (hdest : s.recDest (s.lineOf src) ≠ 0)
include hdest

theorem State.record_of_first (hcount : s.fld (EVT_SRC0 + src) 14 0 = 0) : s.record src stamp data =
    ({ s with evt := { s.evt with pend := s.evt.pend ++ [⟨src, stamp, data⟩] } } : State).setFld (EVT_SRC0 + src) 14 0 1 :=
  (if_neg hdest).trans (if_pos hcount)

section later
variable (hcount : 0 < s.fld (EVT_SRC0 + src) 14 0)
include hcount

theorem State.pend_record_of_later : (s.record src stamp data).evt.pend =
    s.evt.pend.map fun r => if r.src = src then { r with data := data } else r := by
  unfold State.record
  dsimp only
  rw [if_neg hdest, if_neg hcount.ne']
  split <;> rfl
/-- The count of a source sticks at 0x7FFF; the occurrences beyond it are counted in WEIR_LOST. -/
theorem State.count_record_of_later (hsrc : src < 512) : (s.record src stamp data).fld (EVT_SRC0 + src) 14 0 =
    min 0x7FFF (s.fld (EVT_SRC0 + src) 14 0 + 1) := by
  have hlost : EVT_SRC0 + src ≠ WEIR_LOST (s.lineOf src) := by
    have := (s.lineOf src).isLt
    unfold EVT_SRC0 WEIR_LOST
    omega
  have htop : s.fld (EVT_SRC0 + src) 14 0 < 2 ^ 15 := Nat.mod_lt _ (by decide)
  unfold State.record
  dsimp only
  rw [if_neg hdest, if_neg hcount.ne']
  split
  · rw [State.fld_setFld_same _ _ _ _ _ (by decide) (by decide)]
    omega
  · calc
      _ = s.fld (EVT_SRC0 + src) 14 0 := congrArg (bitsOf · 14 0) ((State.reg_bump ..).trans (if_neg hlost))
      _ = _ := by omega

end later
end record

theorem EVT_HMASK0_le_source (src : Nat) : EVT_HMASK0 ≤ EVT_SRC0 + src := by
  unfold EVT_HMASK0 EVT_SRC0
  omega

section occur
variable {s : State} {src : Nat} (stamp : RingTime) (data : Word)

theorem State.occur_of_held (hheld : s.canFire src = false) : s.occur src stamp data = s := by
  simp [State.occur, hheld]
theorem State.occur_of_fires (hfires : s.canFire src = true) :
    s.occur src stamp data = (s.setBit (EVT_STAT0 + src / 24) (src % 24) true).record src stamp data := if_pos hfires
theorem State.strDef_occur : (s.occur src stamp data).evt.strDef = s.evt.strDef := by
  unfold State.occur
  split
  · exact State.strDef_record stamp data
  · rfl

variable (hsrc : src < 512)
include hsrc

/-- The status bit of a source changes no route, no line's destination and no count. -/
theorem State.reg_setStat {a : Nat} (ha : EVT_HMASK0 ≤ a) :
    (s.setBit (EVT_STAT0 + src / 24) (src % 24) true).reg a = s.reg a := by
  have hstat : a ≠ EVT_STAT0 + src / 24 := by
    unfold EVT_HMASK0 at ha
    unfold EVT_STAT0
    omega
  exact (State.reg_setBit ..).trans (if_neg hstat)
theorem State.fld_setStat {a : Nat} (ha : EVT_HMASK0 ≤ a) (hi lo : Nat) :
    (s.setBit (EVT_STAT0 + src / 24) (src % 24) true).fld a hi lo = s.fld a hi lo :=
  congrArg (bitsOf · hi lo) (State.reg_setStat hsrc ha)
theorem State.lineOf_setStat (x : Nat) :
    (s.setBit (EVT_STAT0 + src / 24) (src % 24) true).lineOf x = s.lineOf x :=
  congrArg (Fin.ofNat 8) (State.fld_setStat hsrc (EVT_HMASK0_le_source x) 18 16)
theorem State.recDest_setStat (k : Fin 8) :
    (s.setBit (EVT_STAT0 + src / 24) (src % 24) true).recDest k = s.recDest k :=
  State.fld_setStat hsrc (by unfold EVT_HMASK0 EVT_LCFG; omega) 15 8

theorem State.reg_occur_source {x : Nat} (hother : x ≠ src) :
    (s.occur src stamp data).reg (EVT_SRC0 + x) = s.reg (EVT_SRC0 + x) := by
  unfold State.occur
  split
  · have hlost (k : Fin 8) : EVT_SRC0 + x ≠ WEIR_LOST k := by
      unfold EVT_SRC0 WEIR_LOST
      omega
    rw [State.reg_record_other stamp data (by omega) hlost, State.reg_setStat hsrc (EVT_HMASK0_le_source x)]
  · rfl
theorem State.bit_occur_stat {w b : Nat} (hw : w < 22) (hb : b < 24) : (s.occur src stamp data).bit (EVT_STAT0 + w) b =
    if s.canFire src = true ∧ 24 * w + b = src then true else s.bit (EVT_STAT0 + w) b := by
  by_cases hfires : s.canFire src = true
  · have hcount : EVT_STAT0 + w ≠ EVT_SRC0 + src := by
      unfold EVT_STAT0 EVT_SRC0
      omega
    have hlost (k : Fin 8) : EVT_STAT0 + w ≠ WEIR_LOST k := by
      unfold EVT_STAT0 WEIR_LOST
      omega
    have hplace : EVT_STAT0 + w = EVT_STAT0 + src / 24 ∧ b = src % 24 ↔ 24 * w + b = src := by omega
    calc
      _ = (s.setBit (EVT_STAT0 + src / 24) (src % 24) true).bit (EVT_STAT0 + w) b := by
        rw [State.occur_of_fires stamp data hfires]
        exact congrArg (bitOf · b) (State.reg_record_other stamp data hcount hlost)
      _ = _ := by simp only [State.bit_setBit _ _ _ _ _ _ hb, hplace, hfires, true_and]
  · rw [State.occur_of_held stamp data (Bool.eq_false_iff.mpr hfires), if_neg (hfires ·.1)]

end occur

section fires
variable {s : State} {src : Nat} (stamp : RingTime) (data : Word) (hsrc : src < 512) (hfires : s.canFire src = true)
include hsrc hfires

theorem State.bit_occur_own : (s.occur src stamp data).bit (EVT_STAT0 + src / 24) (src % 24) = true := by
  rw [State.bit_occur_stat stamp data hsrc (by omega) (by omega), if_pos ⟨hfires, Nat.div_add_mod ..⟩]
theorem State.occur_of_noDest (hdest : s.recDest (s.lineOf src) = 0) :
    s.occur src stamp data = s.setBit (EVT_STAT0 + src / 24) (src % 24) true := by
  rw [State.occur_of_fires stamp data hfires, State.record_of_noDest]
  rwa [State.lineOf_setStat hsrc, State.recDest_setStat hsrc]

variable (hdest : s.recDest (s.lineOf src) ≠ 0)
include hdest

theorem State.occur_of_first (hcount : s.fld (EVT_SRC0 + src) 14 0 = 0) :
    (s.occur src stamp data).evt = { s.evt with pend := s.evt.pend ++ [⟨src, stamp, data⟩] } ∧
    (s.occur src stamp data).fld (EVT_SRC0 + src) 14 0 = 1 := by
  rw [State.occur_of_fires stamp data hfires, State.record_of_first]
  · exact ⟨rfl, State.fld_setFld_same _ _ _ _ _ (by decide) (by decide)⟩
  · rwa [State.lineOf_setStat hsrc, State.recDest_setStat hsrc]
  · rwa [State.fld_setStat hsrc (EVT_HMASK0_le_source src)]
theorem State.occur_of_later (hcount : 0 < s.fld (EVT_SRC0 + src) 14 0) :
    (s.occur src stamp data).evt.pend = s.evt.pend.map (fun r => if r.src = src then { r with data := data } else r) ∧
    (s.occur src stamp data).fld (EVT_SRC0 + src) 14 0 = min 0x7FFF (s.fld (EVT_SRC0 + src) 14 0 + 1) := by
  have hkept := State.fld_setStat (s := s) hsrc (EVT_HMASK0_le_source src) 14 0
  rw [← State.lineOf_setStat hsrc, ← State.recDest_setStat hsrc] at hdest
  rw [← hkept] at hcount ⊢
  rw [State.occur_of_fires stamp data hfires]
  exact ⟨State.pend_record_of_later stamp data hdest hcount, State.count_record_of_later stamp data hdest hcount hsrc⟩

end fires

theorem State.strDef_markDef (s : State) (j k : Fin 8) :
    (s.markDef k).evt.strDef[j.val] = if k = j then true else s.evt.strDef[j.val] := by
  simp [State.markDef, updV, Vector.getElem_set, Fin.ext_iff]

/-- A stream without a token has its deficit marked by a record that waits for it (R297). -/
def State.markShort (s : State) (k : Fin 8) : State := if s.evt.strTok[k.val] < 1000 then s.markDef k else s
theorem State.markShort_of_token {s : State} {k : Fin 8} (htoken : 1000 ≤ s.evt.strTok[k.val]) : s.markShort k = s :=
  if_neg (Nat.not_lt.mpr htoken)
theorem State.wantsLag_markShort (s : State) (j k : Fin 8) : (s.markShort k).wantsLag j = s.wantsLag j := by
  unfold State.markShort
  split <;> rfl

/-- A stream sets LAG, which is a deficit of its own (R297, R300). -/
def State.setLag (s : State) (k : Fin 8) : State := (s.setBit (SLC k 1) 1 true).markDef k
theorem State.bit_setLag (s : State) (k : Fin 8) : (s.setLag k).bit (SLC k 1) 1 = true :=
  (State.bit_setBit s (SLC k 1) 1 _ 1 true (by decide)).trans (if_pos ⟨rfl, rfl⟩)
theorem State.strDef_setLag (s : State) (k : Fin 8) : (s.setLag k).evt.strDef[k.val] = true :=
  (State.strDef_markDef ..).trans (if_pos rfl)

/-- What no SLUICE_LAG takes back: the status bits but its own stay, and what is set of its own bit, of the streams' LAG and
of their deficits stays set (R297, R300). -/
structure State.LagKeeps (s t : State) : Prop where
  stat : ∀ w b, w < 22 → b < 24 → 24 * w + b ≠ 469 → t.bit (EVT_STAT0 + w) b = s.bit (EVT_STAT0 + w) b
  own : s.bit (EVT_STAT0 + 19) 13 = true → t.bit (EVT_STAT0 + 19) 13 = true
  lag : ∀ k : Fin 8, s.bit (SLC k 1) 1 = true → t.bit (SLC k 1) 1 = true
  deficit : ∀ k : Fin 8, s.evt.strDef[k.val] = true → t.evt.strDef[k.val] = true

namespace State.LagKeeps

theorem refl (s : State) : s.LagKeeps s := ⟨fun _ _ _ _ _ => rfl, id, fun _ => id, fun _ => id⟩
theorem trans {s t u : State} (hst : s.LagKeeps t) (htu : t.LagKeeps u) : s.LagKeeps u where
  stat w b hw hb h := (htu.stat w b hw hb h).trans (hst.stat w b hw hb h)
  own := htu.own ∘ hst.own
  lag k := htu.lag k ∘ hst.lag k
  deficit k := htu.deficit k ∘ hst.deficit k
theorem occur (s : State) (stamp : RingTime) (data : Word) : s.LagKeeps (s.occur 469 stamp data) where
  stat w b hw hb h := by rw [State.bit_occur_stat stamp data (by decide) hw hb, if_neg (h ·.2)]
  own h := by rw [State.bit_occur_stat stamp data (by decide) (by decide) (by decide), h, ite_self]
  lag k h := by
    have hslc : 0x380 ≤ SLC k 1 := by
      unfold SLC
      omega
    exact (congrArg (bitOf · 1) (State.reg_occur (by decide) hslc s stamp data)).trans h
  deficit k h := by rwa [State.strDef_occur]
theorem markDef (s : State) (k : Fin 8) : s.LagKeeps (s.markDef k) where
  stat _ _ _ _ _ := rfl
  own := id
  lag _ := id
  deficit j h := by rw [State.strDef_markDef, h, ite_self]
theorem markShort (s : State) (k : Fin 8) : s.LagKeeps (s.markShort k) := by
  unfold State.markShort
  split
  · exact markDef s k
  · exact refl s
theorem setLag (s : State) (k : Fin 8) : s.LagKeeps (s.setLag k) := by
  have hbit : s.LagKeeps (s.setBit (SLC k 1) 1 true) :=
    { stat := fun w b _ hb _ => by
        have hslc : EVT_STAT0 + w ≠ SLC k 1 := by
          unfold EVT_STAT0 SLC
          omega
        rw [State.bit_setBit _ _ _ _ _ _ hb, if_neg (hslc ·.1)]
      own := State.bit_setBit_of_bit (by decide)
      lag := fun _ => State.bit_setBit_of_bit (by decide)
      deficit := fun _ => id }
  exact hbit.trans (markDef _ k)

end State.LagKeeps

section fireN
variable {s : State} {src : Nat} {stamp : RingTime} {data : Word} {n : Nat}

theorem State.fireN_of_unfed (hfeeds : (s.occur src stamp data).feeds src = none) :
    s.fireN (n + 1) src stamp data = s.occur src stamp data := by
  simp [State.fireN, hfeeds]

variable {k : Fin 8} (hfeeds : (s.occur src stamp data).feeds src = some k)
include hfeeds

theorem State.fireN_of_fed : s.fireN (n + 1) src stamp data =
    let u := (s.occur src stamp data).markShort k
    if u.wantsLag k then (u.setLag k).fireN n 469 u.time (toWord (k.val + 8)) else u := by
  rw [State.fireN]
  dsimp only
  rw [hfeeds]
  rfl
theorem State.fireN_of_content (hlag : (s.occur src stamp data).wantsLag k = false) :
    s.fireN (n + 1) src stamp data = (s.occur src stamp data).markShort k := by
  rw [← State.wantsLag_markShort _ k k] at hlag
  exact (State.fireN_of_fed hfeeds).trans (if_neg (Bool.eq_false_iff.mp hlag))
theorem State.fireN_of_lagging (hlag : (s.occur src stamp data).wantsLag k = true) : s.fireN (n + 1) src stamp data =
    let u := (s.occur src stamp data).markShort k
    (u.setLag k).fireN n 469 u.time (toWord (k.val + 8)) := by
  rw [← State.wantsLag_markShort _ k k] at hlag
  exact (State.fireN_of_fed hfeeds).trans (if_pos hlag)

end fireN

/-- What follows from an occurrence takes nothing back of it. -/
theorem State.LagKeeps.fireN (n : Nat) (s : State) (src : Nat) (stamp : RingTime) (data : Word) :
    (s.occur src stamp data).LagKeeps (s.fireN n src stamp data) := by
  induction n generalizing s src stamp data with
  | zero => exact refl _
  | succ n ih =>
    cases hfeeds : (s.occur src stamp data).feeds src with
    | none =>
      rw [State.fireN_of_unfed hfeeds]
      exact refl _
    | some k =>
      cases hlag : (s.occur src stamp data).wantsLag k with
      | false =>
        rw [State.fireN_of_content hfeeds hlag]
        exact markShort _ k
      | true =>
        rw [State.fireN_of_lagging hfeeds hlag]
        exact (markShort _ k).trans ((setLag _ k).trans ((occur ..).trans (ih ..)))

section fire
variable {s : State} {src : Nat} (data : Word)

theorem State.fire_of_held (hheld : s.canFire src = false) : s.fire src data = s := by
  simp [State.fire, State.fireAt, hheld]

variable (hfires : s.canFire src = true)
include hfires

theorem State.fire_of_fires : s.fire src data = s.fireN 8 src s.time data := if_pos hfires
theorem State.LagKeeps.fire : (s.occur src s.time data).LagKeeps (s.fire src data) := by
  rw [State.fire_of_fires data hfires]
  exact .fireN 8 s src s.time data
/-- A record for a stream with nothing lent sets that stream's LAG at once (R300). -/
theorem State.fire_sets_lag {k : Fin 8} (hfeeds : (s.occur src s.time data).feeds src = some k)
    (hlag : (s.occur src s.time data).wantsLag k = true) :
    (s.fire src data).bit (SLC k 1) 1 = true ∧ (s.fire src data).evt.strDef[k.val] = true := by
  have hkeeps : (((s.occur src s.time data).markShort k).setLag k).LagKeeps (s.fire src data) := by
    rw [State.fire_of_fires data hfires, State.fireN_of_lagging hfeeds hlag]
    exact (State.LagKeeps.occur ..).trans (.fireN ..)
  exact ⟨hkeeps.lag k (State.bit_setLag _ k), hkeeps.deficit k (State.strDef_setLag _ k)⟩

variable (hsrc : src < 512)
include hsrc

theorem State.bit_fire_own : (s.fire src data).bit (EVT_STAT0 + src / 24) (src % 24) = true := by
  have hown := State.bit_occur_own s.time data hsrc hfires
  have hkeeps := State.LagKeeps.fire data hfires
  by_cases hlag : src = 469
  · subst hlag
    exact hkeeps.own hown
  · rwa [hkeeps.stat _ _ (by omega) (by omega) (by omega)]
theorem State.bit_fire_other {w b : Nat} (hw : w < 22) (hb : b < 24) (hother : 24 * w + b ≠ src)
    (hlag : 24 * w + b ≠ 469) : (s.fire src data).bit (EVT_STAT0 + w) b = s.bit (EVT_STAT0 + w) b := by
  rw [(State.LagKeeps.fire data hfires).stat w b hw hb hlag, State.bit_occur_stat s.time data hsrc hw hb,
    if_neg (hother ·.2)]

end fire

/-- Settles O26: an occurrence by its status bit and its record, what follows by what no SLUICE_LAG takes back. -/
theorem eventFires : Obligations.EventFires := by
  refine ⟨fun _ _ => State.fire_of_held, fun s src t d hsrc hfires => ?occurrence, fun s src d hfires => ?followed,
    fun s src d hsrc hfires => ⟨State.bit_fire_own d hfires hsrc, fun _ _ => State.bit_fire_other d hfires hsrc,
      State.fire_frame s src d⟩⟩
  case occurrence =>
    exact ⟨State.bit_occur_own t d hsrc hfires,
      fun w b hw hb hother => (State.bit_occur_stat t d hsrc hw hb).trans (if_neg (hother ·.2)),
      State.occur_of_noDest t d hsrc hfires, State.occur_of_first t d hsrc hfires,
      State.occur_of_later t d hsrc hfires, fun _ _ => State.reg_occur_source t d hsrc⟩
  case followed =>
    rw [State.fire_of_fires d hfires]
    exact ⟨State.fireN_of_unfed,
      fun k hfeeds htoken hlag => (State.fireN_of_content hfeeds hlag).trans (State.markShort_of_token htoken),
      fun k hfeeds hlag => State.fire_of_fires d hfires ▸ State.fire_sets_lag d hfires hfeeds hlag⟩

end Sys2Proof.Machine
end

section
/-!
Field power: the changeover to the loop, the clock ladder, brown-out and restart, each row by its guard (R333–R335, R337).
-/
namespace Sys2Proof.Machine

section field
variable {s : State} {i : Fin 8}

theorem execLoopStable_of_waiting (hwait : s.bit (ISL i 0) 3 = true) (hloop : s.fieldPowered i = true) :
    execLoopStable i s = .next (((((s.setBit (ISL i 0) 3 false).setBit (ISL i 1) 0 false).setFld (ISL i 0) 5 4 0).setIsl i
      fun x => { x with fpwr := true, rung := 0, next := 0 }).loopReset i) :=
  if_pos (Bool.and_eq_true_iff.mpr ⟨hwait, hloop⟩)
theorem execLoopStable_of_not (h : s.bit (ISL i 0) 3 = false ∨ s.fieldPowered i = false) :
    execLoopStable i s = .next s :=
  if_neg (by rwa [Bool.not_eq_true, Bool.and_eq_false_iff])

theorem execRungClimb_of_lower (hfield : (s.isl i).fpwr = true) (hsettled : (s.isl i).next = (s.isl i).rung)
    (hlower : (s.isl i).rung < min 3 (u8 (s.islRec i) 3)) : execRungClimb i s =
      .next (s.setIsl i fun x => { x with next := x.rung + 1, ann := 2, annRes := false }) :=
  congrArg Host.Outcome.next (if_pos ⟨hfield, hsettled, hlower⟩)
/-- The rung to which a descent goes: the one that the current qualifies for, or one down for a low reservoir (R334). -/
def Isl.descentRung (x : Isl) (rung : Nat) (reservoir : Bool) : Nat := if reservoir then x.rung - 1 else rung
theorem execRungDescent_of_lower {rung : Nat} {reservoir : Bool} (hfield : (s.isl i).fpwr = true)
    (hlower : (s.isl i).descentRung rung reservoir < (s.isl i).rung) : execRungDescent i rung reservoir s =
      .next (s.setIsl i fun x =>
        { x with next := (s.isl i).descentRung rung reservoir, ann := 2, annRes := reservoir }) :=
  congrArg Host.Outcome.next (if_pos ⟨hfield, hlower⟩)

section supplied
variable (hfield : (s.isl i).fpwr = false)
include hfield

theorem execRungClimb_of_supplied : execRungClimb i s = .next s :=
  congrArg Host.Outcome.next (if_neg fun h => Bool.eq_false_iff.mp hfield h.1)
theorem execRungDescent_of_supplied (rung : Nat) (reservoir : Bool) : execRungDescent i rung reservoir s = .next s :=
  congrArg Host.Outcome.next (if_neg fun h => Bool.eq_false_iff.mp hfield h.1)

end supplied

/-- The hub's part of a rung change: the rung in the island's register, the count and the event (R335). -/
def State.rungChange (s : State) (i : Fin 8) : State :=
  (((s.setFld (ISL i 0) 5 4 (s.isl i).next).setIsl i fun y => { y with rung := y.next }).bumpFld (ISL i 3) 13 2).fire
    (384 + 8 * i.val + 3) (toWord ((s.isl i).next + 4 * (s.isl i).rung + 16 * b2n (s.isl i).annRes))
theorem execRungTakeEffect_of_announced (hchange : (s.isl i).next ≠ (s.isl i).rung) (htold : (s.isl i).ann = 0) :
    execRungTakeEffect i s = .next ((s.rungChange i).loopReset i) :=
  if_neg (not_or.mpr ⟨hchange, not_not.mpr htold⟩)
theorem execRungTakeEffect_of_not (h : (s.isl i).next = (s.isl i).rung ∨ (s.isl i).ann ≠ 0) :
    execRungTakeEffect i s = .next s :=
  if_pos h

theorem execBrownOutStop_of_running (hfield : (s.isl i).fpwr = true) (hup : (s.isl i).up = true)
    (hbrown : (s.isl i).brown = none) : execBrownOutStop i s =
      .next (s.setIsl i fun x => if x.iLock = true then { x with brown := some 2 } else x.stop) :=
  if_pos ⟨hfield, hup, hbrown⟩
theorem execBrownOutStop_of_not (h : (s.isl i).fpwr = false ∨ (s.isl i).up = false ∨ (s.isl i).brown ≠ none) :
    execBrownOutStop i s = .next s := by
  refine if_neg ?_
  rintro ⟨hfield, hup, hbrown⟩
  simp [hfield, hup, hbrown] at h
theorem execIslandRestart_of_stopped (hfield : (s.isl i).fpwr = true) (hdown : (s.isl i).up = false) :
    execIslandRestart i s = .next ((s.setIsl i fun x => x.powerUp 0).setFld (ISL i 0) 5 4 0) :=
  congrArg Host.Outcome.next (if_pos ⟨hfield, hdown⟩)

end field

/-- Settles O14: each row by its guard; a descent for a low reservoir is the descent to the next rung down. -/
theorem fieldPower : Obligations.FieldPower :=
  ⟨fun _ _ => execLoopStable_of_waiting, fun _ _ => rfl, fun _ _ => execLoopStable_of_not,
    fun _ _ => execRungClimb_of_lower,
    fun _ _ _ hfield hlower => execRungDescent_of_lower (reservoir := false) hfield hlower,
    fun _ _ rung hfield hpos =>
      execRungDescent_of_lower (rung := rung) (reservoir := true) hfield (Nat.sub_one_lt_of_lt hpos),
    fun _ _ hfield => ⟨execRungClimb_of_supplied hfield, execRungDescent_of_supplied hfield⟩,
    fun _ _ => execRungTakeEffect_of_announced, fun _ _ => execRungTakeEffect_of_not,
    fun _ _ => execBrownOutStop_of_running, fun _ _ => execBrownOutStop_of_not,
    fun _ _ => execIslandRestart_of_stopped⟩

end Sys2Proof.Machine
end

section
/-!
A kernel's cycle, and an uplink subframe that a kernel takes, finds bad or misses (R328, R329, R509, R516, R517, R520).
-/
namespace Sys2Proof.Machine

section subframe
variable {s : State} {isB : Bool} {i : Fin 8} {bs : Bytes}

theorem State.subframeIn_of_bad (hbad : subTake true isB i.val bs = none) :
    s.subframeIn isB i bs = s.subframeBad isB i := by
  simp [State.subframeIn, hbad]

section good
variable {life data : Nat} (hgood : subTake true isB i.val bs = some (life, data))
include hgood

theorem State.subframeIn_of_first (hlife : (s.kern isB).life[i.val] = none) :
    s.subframeIn isB i bs = s.subframeTake isB i life data 1 := by
  simp [State.subframeIn, hgood, hlife]

variable {p n : Nat} (hlife : (s.kern isB).life[i.val] = some p) (hn : n = (life + 256 - p) % 256)
include hlife hn

theorem State.subframeIn_of_step (hlow : 1 ≤ n) (hhigh : n ≤ 3) :
    s.subframeIn isB i bs = s.subframeTake isB i life data n := by
  subst hn
  simp [State.subframeIn, hgood, hlife, hlow, hhigh]
theorem State.subframeIn_of_jump (hjump : n = 0 ∨ 3 < n) : s.subframeIn isB i bs = s.subframeStep isB i := by
  have hnot : ¬ (1 ≤ n ∧ n ≤ 3) := by omega
  subst hn
  simp only [State.subframeIn, hgood, hlife]
  exact if_neg hnot

end good

theorem execKernelSubframeIn_of_none {eL eD eC : Nat}
    (hnone : (if isB then (s.isl i).rxB else (s.isl i).rxA) = none) :
    execKernelSubframeIn isB i eL eD eC s = .next s := by
  simp only [execKernelSubframeIn, hnone]
/-- A running kernel takes the bytes out of their buffer and judges them as the errors on their way have left them (R83). -/
theorem execKernelSubframeIn_of_got {eL eD eC : Nat} {got : Bytes} (hrun : s.kernelsRun = true)
    (hgot : (if isB then (s.isl i).rxB else (s.isl i).rxA) = some got) : execKernelSubframeIn isB i eL eD eC s =
      .next ((s.setIsl i fun x => if isB then { x with rxB := none } else { x with rxA := none }).subframeIn isB i
        (withErr got (subErr eL eD eC))) := by
  simp only [execKernelSubframeIn, hgot]
  exact congrArg Host.Outcome.next (if_pos hrun)

end subframe

/-- What is made of the inputs on an island is a matter of the functions alone. -/
theorem Kern.mapInputs_frame (k : Kern) (i : Fin 8) (f : Nat → Nat → KIn → KIn) :
    k.mapInputs i f = { k with fns := (k.mapInputs i f).fns } := by
  unfold Kern.mapInputs
  refine List.foldlRecOn (motive := fun x : Kern => x = { k with fns := x.fns }) _ _ rfl fun x hx q _ => ?_
  split
  · exact hx
  · refine List.foldlRecOn (motive := fun x : Kern => x = { k with fns := x.fns }) _ _ hx fun x hx ch _ => ?_
    split
    · rw [hx]
      rfl
    · exact hx

/-- A kernel after the loss of an island's subframes: its inputs are demands, and a press of a restart input there has ended
(R329, R516, R520). -/
def Kern.loseIsland (i : Fin 8) (k : Kern) : Kern :=
  let k := { k with life := updV k.life i fun _ => none, miss := updV k.miss i fun _ => true }
  let k := k.mapInputs i fun _ _ _ => ⟨false, true, 0⟩
  if safRestart (k.sec.getD []) / 4 = i.val then { k with press := none, inact := false, units := [] } else k
theorem Kern.loseIsland_forgets (k : Kern) (i : Fin 8) :
    (k.loseIsland i).life[i.val] = none ∧ (k.loseIsland i).miss[i.val] = true := by
  unfold Kern.loseIsland
  dsimp only
  rw [Kern.mapInputs_frame]
  split <;> simp [updV]

section loss
variable {s : State} {isB : Bool} {i : Fin 8}

theorem State.armed_setKern (f : Kern → Kern) : (s.setKern isB f).saf.armed = s.saf.armed := by
  cases isB <;> rfl
theorem State.kern_loseIsland : ((s.setKern isB (Kern.loseIsland i)).kern isB).life[i.val] = none ∧
    ((s.setKern isB (Kern.loseIsland i)).kern isB).miss[i.val] = true := by
  rw [State.kern_setKern_same]
  exact Kern.loseIsland_forgets _ i

theorem execKernelSubframeLoss_of_unarmed (hrun : s.kernelsRun = true) (harmed : s.saf.armed = false) :
    execKernelSubframeLoss isB i s = .next (s.setKern isB (Kern.loseIsland i)) :=
  (if_neg (by simp [hrun])).trans (if_pos ((State.armed_setKern _).trans harmed))

end loss

/-- Settles O41: the cycle by its guard, a subframe by its CRC and then by the step of its LIFE, a loss by what a kernel
forgets of its island. -/
theorem kernelCycle : Obligations.KernelCycle := by
  refine ⟨fun s isB safen fault hrun => ?cycle, fun _ _ _ _ hstill => if_pos hstill,
    fun _ _ _ _ _ _ => execKernelSubframeIn_of_none, fun s isB i eL eD eC got hrun hgot => ?subframe,
    fun s isB i hrun harmed => ?unarmed, fun s isB i hrun harmed => ?armed⟩
  case cycle =>
    refine (if_neg (by simp [hrun])).trans ?_
    cases isB <;> rfl
  case subframe =>
    intro bs u
    have hanswer {t : State} (htaken : u.subframeIn isB i bs = t) :
        exec (.kernelSubframeIn isB i eL eD eC) s = .next t :=
      (execKernelSubframeIn_of_got hrun hgot).trans (congrArg _ htaken)
    exact ⟨fun hbad => hanswer (State.subframeIn_of_bad hbad), fun life data hgood =>
      ⟨fun hlife => hanswer (State.subframeIn_of_first hgood hlife), fun p n hlife hn =>
        ⟨fun hlow hhigh => hanswer (State.subframeIn_of_step hgood hlife hn hlow hhigh),
          fun hjump => hanswer (State.subframeIn_of_jump hgood hlife hn hjump)⟩⟩⟩
  case unarmed =>
    obtain ⟨hlife, hmiss⟩ := State.kern_loseIsland (s := s) (isB := isB) (i := i)
    exact ⟨_, execKernelSubframeLoss_of_unarmed hrun harmed, hlife, hmiss, rfl⟩
  case armed =>
    obtain ⟨-, hmiss⟩ := State.kern_loseIsland (s := s) (isB := isB) (i := i)
    refine ⟨s.setKern isB (Kern.loseIsland i), rfl, hmiss,
      (if_neg (by simp [hrun])).trans ((if_neg (by simp [State.armed_setKern, harmed])).trans ?_)⟩
    refine congrArg (fun f => Host.Outcome.next
      (State.publish ((List.finRange 8).foldl f (s.setKern isB (Kern.loseIsland i))) isB)) ?_
    funext s p
    cases (s.kern isB).pairRec p <;> rfl

end Sys2Proof.Machine
end

section
/-!
The outputs of a channel's filter chain, their captures, and its reset (R332, R384, R391, R409, R414–R421, R429).
-/
namespace Sys2Proof.Machine

theorem State.filt_setFilt (s : State) (c : Fin 32) (f : Filt → Filt) : (s.setFilt c f).filt c = f (s.filt c) := by
  simp [State.filt, State.setFilt, updV]
theorem State.filt_setChan (s : State) (c d : Fin 32) (f : Chan → Chan) : (s.setChan c f).filt d = s.filt d := rfl

/-- A channel's samples that one fine output takes (R406). -/
def State.fineTaps (s : State) (c : Fin 32) : Nat := 2 ^ presetStages (s.presetNow c)
def State.dropFine (s : State) (c : Fin 32) : State := s.setFilt c fun f => { f with inq := f.inq.drop (s.fineTaps c) }
/-- A fine output of a user set: its stages run, its guard overflows are flagged and its last output is published. -/
def State.userOutput (s : State) (c : Fin 32) (u : UserSet) : State × Bool :=
  let z := stagesRun (u.stages.take (presetStages (s.presetNow c))) (s.filt c).hist
    (((s.filt c).inq.take (s.fineTaps c)).map fun x => (x, false))
  let y := z.1.outs.getLastD (0, false)
  let a := ((s.dropFine c).setFilt c fun f => { f with
    hist := z.2.1, wide := clampTo (-2147483648) 2147483647 (roundEven z.1.acc 1024) }).guards c z.2.2 0
  a.publishFine c y.1 y.2 z.1.sat
/-- A fine output of a ROM set, whose coefficients the manual does not give. -/
def State.romOutput (s : State) (c : Fin 32) : State × Bool :=
  let e := s.dropFine c
  let r := (((s.filt c).inq.take (s.fineTaps c)).reverse ++ (s.filt c).recent).take (e.reach c + 1)
  let q := Config.romOutput (s.presetNow c) (u8 (e.chRec c) 5) r
  let y := clampTo (-8388608) 8388607 q
  let w := clampTo (-2147483648) 2147483647 (Config.romOutput (s.presetNow c) (256 + u8 (e.chRec c) 5) r)
  (e.setFilt c fun f => { f with recent := r, wide := w }).publishFine c y false (decide (y ≠ q))
/-- The captures of fine values, and those of averages where one was published, take sets (R429). -/
def State.captureFine (b : State × Bool) (c : Fin 32) : State :=
  let t : RingTime := (b.1.reg (FLT c 3)).append (b.1.reg (FLT c 2))
  let d := b.1.captures c 0 t
  if b.2 then d.captures c 2 t else d

section fine
variable {s : State} {c : Fin 32}

theorem State.fineOutput_of_nothing_due (h : isAI (s.func c) = false ∨ s.structured c = false ∨ s.dev = .doze ∨
    (s.filt c).inq.length < s.fineTaps c) : s.fineOutput c = (s, false, false) :=
  if_pos h

section due
variable (hai : isAI (s.func c) = true) (hstr : s.structured c = true) (hdoze : s.dev ≠ .doze)
  (hlen : s.fineTaps c ≤ (s.filt c).inq.length)
include hai hstr hdoze hlen

theorem State.fine_due : ¬ (isAI (s.func c) = false ∨ s.structured c = false ∨ s.dev = .doze ∨
    (s.filt c).inq.length < s.fineTaps c) := by
  simp [hai, hstr, hdoze, hlen]
theorem State.fineOutput_of_stopped (hstop : s.bit (FLT c 9) 1 = true) :
    s.fineOutput c = (s.dropFine c, false, false) :=
  (if_neg (State.fine_due hai hstr hdoze hlen)).trans (if_pos hstop)

variable (hgo : s.bit (FLT c 9) 1 = false)
include hgo

theorem State.fineOutput_of_user {u : UserSet} (huser : s.userSet c = some u) :
    s.fineOutput c = ((s.userOutput c u).1, true, (s.userOutput c u).2) := by
  have huser' : (s.dropFine c).userSet c = some u := huser
  refine (if_neg (State.fine_due hai hstr hdoze hlen)).trans ((if_neg (by simp [hgo])).trans ?_)
  unfold State.dropFine State.fineTaps at huser'
  simp only [huser']
  rfl
theorem State.fineOutput_of_rom (hrom : s.userSet c = none) :
    s.fineOutput c = ((s.romOutput c).1, true, (s.romOutput c).2) := by
  have hrom' : (s.dropFine c).userSet c = none := hrom
  refine (if_neg (State.fine_due hai hstr hdoze hlen)).trans ((if_neg (by simp [hgo])).trans ?_)
  unfold State.dropFine State.fineTaps at hrom'
  simp only [hrom']
  rfl

end due

theorem execFineOutput_of_unpublished {t : State} (h : s.fineOutput c = (t, false, false)) :
    execFineOutput c s = .next t := by
  simp [execFineOutput, h]
theorem execFineOutput_of_published {b : State × Bool} (h : s.fineOutput c = (b.1, true, b.2)) :
    execFineOutput c s = .next (State.captureFine b c) := by
  simp [execFineOutput, State.captureFine, h]

end fine

section riffle
variable {s : State} {c : Fin 32}

/-- A sinc output leaves its queue and is counted (R417). -/
def State.takeSinc (s : State) (c : Fin 32) (vs : List Int) : State :=
  s.setFilt c fun f => { f with rifq := vs, sincs := (s.filt c).sincs + 1 }
/-- The Riffle value's registers and history after `v`, and the window comparator where the channel has no fault
(R417, R418). -/
def State.publishRiffle (a : State) (c : Fin 32) (v : Int) (t : RingTime) : State :=
  let b := (a.setReg (FLT c 4) (codeWord v)).setBit (FLT c 5) 0 true
  let d := (((b.setBit (FLT c 5) 4 (a.chFault c)).setFld (FLT c 5) 23 16 (b.fld (FLT c 5) 23 16 + 1)).setTime (FLT c 6)
    t).setChan c fun x => { x with rif := (t, codeWord v) :: x.rif.filter fun y => decide ((t - y.1).toNat ≤ 500000) }
  if a.chFault c then d else d.riffleWindow c v t

theorem State.riffleValue_of_none (h : (s.filt c).rifq = [] ∨ s.dev = .doze) : s.riffleValue c = (s, false) := by
  unfold State.riffleValue
  split
  · rfl
  · next v vs hq => exact if_pos (h.resolve_left (by simp [hq]))

section queued
variable {v : Int} {vs : List Int} (hq : (s.filt c).rifq = v :: vs) (hdoze : s.dev ≠ .doze)
include hq hdoze

theorem State.riffleValue_of_early (hearly : (s.filt c).sincs < 2) : s.riffleValue c = (s.takeSinc c vs, false) := by
  simp only [State.riffleValue, hq]
  exact (if_neg hdoze).trans (if_pos (by omega))
theorem State.riffleValue_of_settled (hthird : 2 ≤ (s.filt c).sincs) : s.riffleValue c =
    ((s.takeSinc c vs).publishRiffle c v (edgeTime (s.filt c).at0 (128 * ((s.filt c).sincs + 1))), true) := by
  simp only [State.riffleValue, hq]
  exact (if_neg hdoze).trans (if_neg (by omega))

end queued

theorem execRiffleValue_of_unpublished {t : State} (h : s.riffleValue c = (t, false)) :
    execRiffleValue c s = .next t := by
  simp [execRiffleValue, h]
theorem execRiffleValue_of_published {e : State} (h : s.riffleValue c = (e, true)) : execRiffleValue c s =
    .next (e.captures c 1 ((e.reg (FLT c 7)).append (e.reg (FLT c 6)))) := by
  simp [execRiffleValue, h]

end riffle

/-- A filter reset empties the chain and counts its outputs from now on (R421). -/
theorem State.filt_channelReset {s : State} {c : Fin 32} (cause : Nat) (hai : isAI (s.func c) = true) :
    (s.channelReset c cause).filt c = { s.filt c with
      inq := [], rifq := [], recent := [], hist := [], at0 := s.time, outs := 0, sincs := 0, runKind := 0, run := 0
      acc := 0, due := 0 } := by
  unfold State.channelReset
  rw [if_neg (by simp [hai])]
  dsimp only
  rw [State.filt_setChan, State.filt_setFilt]
  simp [State.filt]

/-- Settles O48: a fine output by what is due and by the kind of its set, a Riffle value by the sinc outputs before it, a
reset by what it leaves of the chain. -/
theorem filterSteps : Obligations.FilterSteps := by
  refine ⟨fun s c h => execFineOutput_of_unpublished (State.fineOutput_of_nothing_due h),
    fun s c n hai hstr hdoze hn hlen hstop => ?stopped, fun s c n u hai hstr hdoze hn hlen hgo huser => ?user,
    fun s c n hai hstr hdoze hn hlen hgo hrom => ?rom,
    fun s c h => execRiffleValue_of_unpublished (State.riffleValue_of_none h),
    fun s c v vs hq hdoze hearly => execRiffleValue_of_unpublished (State.riffleValue_of_early hq hdoze hearly),
    fun s c v vs hq hdoze hthird => execRiffleValue_of_published (State.riffleValue_of_settled hq hdoze hthird),
    fun _ _ => rfl, fun _ _ n hai => State.filt_channelReset n hai⟩
  case stopped =>
    subst hn
    exact execFineOutput_of_unpublished (State.fineOutput_of_stopped hai hstr hdoze hlen hstop)
  case user =>
    subst hn
    exact execFineOutput_of_published (State.fineOutput_of_user hai hstr hdoze hlen hgo huser)
  case rom =>
    subst hn
    exact execFineOutput_of_published (State.fineOutput_of_rom hai hstr hdoze hlen hgo hrom)

end Sys2Proof.Machine
end

section
/-!
A step with a command waiting is that command's meaning (00_scope.md).
-/
namespace Sys2Proof.Machine

/-- Settles O1: `step` takes the head of the queue, and `front` put the command there. -/
theorem stepRunsFront : Obligations.StepRunsFront := fun _ _ => rfl

end Sys2Proof.Machine
end

section
/-!
What boot ROM starts: the ACTIVE slot, the other one as a fallback, or Oxbow (R592, R595).
-/
namespace Sys2Proof.Machine

theorem Flash.passes_iff (f : Flash) (b : Bool) (floor : Nat) : f.passes b floor = true ↔
    checkPackage f.anchors (f.fw b) = none ∧ floor ≤ u16 (f.fw b) 0xC := by
  simp [Flash.passes]
theorem Flash.activeOk_iff (f : Flash) (c : BootCtl) : f.activeOk c = true ↔
    f.passes (decide (c.active = 1)) c.minSec = true ∧
      (c.st (decide (c.active = 1)) = 2 ∨ (c.st (decide (c.active = 1)) = 1 ∧ c.tries < 3)) := by
  simp [Flash.activeOk, and_comm]

section choice
variable {f : Flash}

theorem Flash.choose_of_no_record (hctl : f.ctl.active = none) :
    f.choose = (if (checkPackage f.anchors f.fwA).isNone then .slotA else .oxbow, false) := by
  simp only [Flash.choose, hctl]

variable {c : BootCtl} (hctl : f.ctl.active = some c)
include hctl

theorem Flash.choose_of_oxbow_request (hox : c.oxReq = true) : f.choose = (.oxbow, false) := by
  simp [Flash.choose, hctl, hox]
theorem Flash.choose_of_active (hox : c.oxReq = false) (hgood : f.activeOk c = true) :
    f.choose = (if decide (c.active = 1) then .slotB else .slotA, false) := by
  simp [Flash.choose, hctl, hox, hgood]

variable (hox : c.oxReq = false) (hbad : f.activeOk c = false)
include hox hbad

theorem Flash.choose_of_other (hother : c.st (!decide (c.active = 1)) = 2)
    (hpass : f.passes (!decide (c.active = 1)) c.minSec = true) :
    f.choose = (if !decide (c.active = 1) then .slotB else .slotA, true) := by
  simp only [Flash.choose, hctl, hox, hbad, hother, hpass, and_self, if_true, Bool.false_eq_true, if_false]
theorem Flash.choose_of_none_good (hother : ¬ (f.passes (!decide (c.active = 1)) c.minSec = true ∧
    c.st (!decide (c.active = 1)) = 2)) : f.choose = (.oxbow, true) := by
  simp only [Flash.choose, hctl, hox, hbad, Bool.false_eq_true, if_false]
  exact if_neg fun h => hother h.symm

end choice

/-- Settles O16: each choice by the record, the Oxbow request, the ACTIVE slot and the other one, in this order. -/
theorem firmwareChoice : Obligations.FirmwareChoice := by
  refine ⟨fun f hctl => ⟨fun hA => ?_, fun hA => ?_⟩, fun _ _ => Flash.choose_of_oxbow_request,
    fun f c b hctl hox hb => ?_, Flash.passes_iff⟩
  · simp [Flash.choose_of_no_record hctl, hA]
  · simp [Flash.choose_of_no_record hctl, hA]
  · subst hb
    refine ⟨fun hgood => Flash.choose_of_active hctl hox ((f.activeOk_iff c).mpr hgood), fun hbad hother => ?_,
      fun hbad => Flash.choose_of_none_good hctl hox ?_⟩
    · obtain ⟨hpass, hst⟩ := hother
      exact Flash.choose_of_other hctl hox (Bool.eq_false_of_not_eq_true (mt (f.activeOk_iff c).mp hbad)) hst hpass
    · exact Bool.eq_false_of_not_eq_true (mt (f.activeOk_iff c).mp hbad)

end Sys2Proof.Machine
end

section
/-!
The sinc3 decimator as three running sums and three differences over r samples (R408). In the ring of the 24-bit words the
third difference of the third running sum is the sum over the filter's taps, whatever the registers wrapped on the way; as
that sum is small, the word read as a signed number is the sum itself.
-/
namespace Sys2Proof.Machine

section difference
variable {f g : ℕ → Word} {r n t : ℕ}

/-- What an integrator holds after n inputs. -/
def integ (f : ℕ → Word) (n : ℕ) : Word := ∑ k ∈ Finset.range n, f k
/-- What a differentiator gives at time t: the change since r inputs ago, or since the start. -/
def diff (r : ℕ) (f : ℕ → Word) (t : ℕ) : Word := f t - f (t - r)

theorem integ_succ (f : ℕ → Word) (n : ℕ) : integ f (n + 1) = integ f n + f n := Finset.sum_range_succ f n
theorem diff_integ (h : r ≤ t) : diff r (integ f) t = ∑ k ∈ Finset.range r, f (t - 1 - k) := by
  obtain ⟨u, rfl⟩ := Nat.exists_eq_add_of_le' h
  rw [diff, Nat.add_sub_cancel, integ, Finset.sum_range_add, integ, add_sub_cancel_left,
    ← Finset.sum_range_reflect]
  refine Finset.sum_congr rfl fun k hk => congrArg f ?_
  have := Finset.mem_range.mp hk
  omega
theorem diff_integ_next (h : r ≤ t) : diff r (integ fun k => f (k + 1)) t = ∑ k ∈ Finset.range r, f (t - k) := by
  rw [diff_integ h]
  refine Finset.sum_congr rfl fun k hk => congrArg f ?_
  have := Finset.mem_range.mp hk
  omega
/-- The difference of a sum over the last r samples is the sum of their differences. -/
theorem diff_window (h : ∀ t, n ≤ t → f t = ∑ k ∈ Finset.range r, g (t - k)) (ht : n + r ≤ t) :
    diff r f t = ∑ k ∈ Finset.range r, diff r g (t - k) := by
  rw [diff, h t (by omega), h (t - r) (by omega), ← Finset.sum_sub_distrib]
  exact Finset.sum_congr rfl fun k _ => by rw [diff, Nat.sub_right_comm]

end difference

section taps
variable (x : ℕ → Word) {r t : ℕ}

/-- The second and the third integrator, each of which adds the new value of the one before it. -/
def integ2 : ℕ → Word := integ fun k => integ x (k + 1)
def integ3 : ℕ → Word := integ fun k => integ2 x (k + 1)

/-- The sum of the first integrator's r values up to time t. -/
def integWindow (r t : ℕ) : Word := ∑ j ∈ Finset.range r, integ x (t - j)

theorem diff_diff_integ3 (h : 2 * r ≤ t) :
    diff r (diff r (integ3 x)) t = ∑ i ∈ Finset.range r, integWindow x r (t - i) := by
  have hwindow (u : ℕ) (hu : r ≤ u) : diff r (integ3 x) u = ∑ i ∈ Finset.range r, integ2 x (u - i) :=
    diff_integ_next hu
  rw [diff_window hwindow (by omega)]
  refine Finset.sum_congr rfl fun i hi => diff_integ_next ?_
  have := Finset.mem_range.mp hi
  omega
theorem diff_diff_diff_integ3 (h : 3 * r ≤ t) : diff r (diff r (diff r (integ3 x))) t =
    ∑ i ∈ Finset.range r, ∑ j ∈ Finset.range r, ∑ k ∈ Finset.range r, x (t - 1 - i - j - k) := by
  rw [diff_window (fun _ => diff_diff_integ3 x) (by omega)]
  refine Finset.sum_congr rfl fun i hi => ?_
  have hi := Finset.mem_range.mp hi
  have hrow : diff r (integWindow x r) (t - i) = ∑ j ∈ Finset.range r, diff r (integ x) (t - i - j) :=
    diff_window (n := 0) (fun _ _ => rfl) (by omega)
  rw [hrow]
  refine Finset.sum_congr rfl fun j hj => ?_
  have hj := Finset.mem_range.mp hj
  rw [diff_integ (by omega)]
  exact Finset.sum_congr rfl fun k _ => congrArg x (by omega)

end taps

section feed
variable (r : ℕ) (x : ℕ → Word) (n : ℕ)

/-- The decimator after n bits of a sequence. Its latest decimated sample came with bit n / r * r. -/
def Sinc.after : Sinc :=
  ⟨integ x n, integ2 x n, integ3 x n, integ3 x (n / r * r), diff r (integ3 x) (n / r * r),
    diff r (diff r (integ3 x)) (n / r * r), n % r⟩
/-- The latest output of the decimator after n bits: none before the first r. -/
def Sinc.latest : Option Word :=
  if n / r = 0 then none else some (diff r (diff r (diff r (integ3 x))) (n / r * r))

theorem Sinc.after_zero : Sinc.after r x 0 = Sinc.reset := by
  simp [Sinc.after, Sinc.reset, integ, integ2, integ3, diff]
theorem Sinc.feed_after {b : Bool} (hr : 0 < r) (hb : x n = if b then 1 else -1) :
    ((Sinc.after r x n).feed r b).1 = Sinc.after r x (n + 1) ∧
    ((Sinc.after r x n).feed r b).2.or (Sinc.latest r x n) = Sinc.latest r x (n + 1) := by
  have h1 : integ x n + (if b then 1 else -1) = integ x (n + 1) := by rw [integ_succ, hb]
  have h2 : integ2 x n + integ x (n + 1) = integ2 x (n + 1) := (integ_succ _ n).symm
  have h3 : integ3 x n + integ2 x (n + 1) = integ3 x (n + 1) := (integ_succ _ n).symm
  have hn := Nat.mod_add_div n r
  simp only [Sinc.feed, Sinc.after, h1, h2, h3]
  split_ifs with hlt
  case pos =>
    obtain ⟨hdiv, hmod⟩ := (Nat.div_mod_unique (a := n + 1) (d := n / r) (c := n % r + 1) hr).mpr ⟨by omega, hlt⟩
    simp [Sinc.latest, hdiv, hmod]
  case neg =>
    have hsucc : 0 + r * (n / r + 1) = n + 1 := by have := Nat.mod_lt n hr; rw [Nat.mul_add]; omega
    obtain ⟨hdiv, hmod⟩ := (Nat.div_mod_unique (a := n + 1) (d := n / r + 1) (c := 0) hr).mpr ⟨hsucc, hr⟩
    have hsample : (n / r + 1) * r = n + 1 := by rw [Nat.mul_comm]; omega
    have hback : n + 1 - r = n / r * r := by rw [← hsample, Nat.add_mul]; omega
    simp [Sinc.latest, hdiv, hmod, hsample, diff, hback]

/-- A modulator bit as a word: a one as +1, a zero as -1 (R408). -/
def bitWord (y : ℕ → Bool) (k : ℕ) : Word := if y k then 1 else -1
theorem Sinc.foldl_feed (y : ℕ → Bool) (hr : 0 < r) : ((List.range n).map y).foldl
    (fun p b => ((p.1.feed r b).1, ((p.1.feed r b).2).or p.2)) ((Sinc.reset, none) : Sinc × Option Word) =
      (Sinc.after r (bitWord y) n, Sinc.latest r (bitWord y) n) := by
  induction n with
  | zero => simp [Sinc.after_zero, Sinc.latest]
  | succ n ih =>
    obtain ⟨hregs, hout⟩ := Sinc.feed_after r (bitWord y) n hr (b := y n) rfl
    rw [List.range_succ, List.map_append, List.foldl_append, ih]
    exact Prod.ext hregs hout

end feed

section tapSum
variable (r : ℕ) (y : ℕ → Bool) (t : ℕ)

/-- The sum over the filter's taps of the bits up to bit t, ones as +1 and zeros as -1 (R408). -/
def tapSum : Int := ∑ i ∈ Finset.range r, ∑ j ∈ Finset.range r, ∑ k ∈ Finset.range r,
  if y (t - 1 - i - j - k) then 1 else -1

theorem bitWord_eq (k : ℕ) : bitWord y k = ((if y k then 1 else -1 : Int) : Word) := by
  unfold bitWord
  split <;> rfl
theorem abs_sum_range_le {f : ℕ → Int} {B : Int} (h : ∀ k, |f k| ≤ B) : |∑ k ∈ Finset.range r, f k| ≤ r * B := by
  calc |∑ k ∈ Finset.range r, f k| ≤ ∑ k ∈ Finset.range r, |f k| := Finset.abs_sum_le_sum_abs _ _
    _ ≤ (Finset.range r).card • B := Finset.sum_le_card_nsmul _ _ _ fun k _ => h k
    _ = r * B := by simp
theorem abs_tapSum_le : |tapSum r y t| ≤ r * (r * (r * 1)) :=
  abs_sum_range_le r fun _ => abs_sum_range_le r fun _ => abs_sum_range_le r fun _ => by split <;> decide
/-- An output is the exact sum although the registers wrap: the sum fits the word. -/
theorem toInt_diff_diff_diff_integ3 (hr : r ≤ 16) (ht : 3 * r ≤ t) :
    (diff r (diff r (diff r (integ3 (bitWord y)))) t).toInt = tapSum r y t := by
  have hword : diff r (diff r (diff r (integ3 (bitWord y)))) t = ((tapSum r y t : Int) : Word) := by
    simp only [diff_diff_diff_integ3 _ ht, tapSum, Int.cast_sum, bitWord_eq]
  have hbound : (r : Int) * (r * (r * 1)) ≤ 4096 := by
    exact_mod_cast (by gcongr : r * (r * (r * 1)) ≤ 16 * (16 * (16 * 1)))
  obtain ⟨hlo, hhi⟩ := abs_le.mp ((abs_tapSum_le r y t).trans hbound)
  rw [hword]
  exact BitVec.toInt_ofInt_eq_self (by decide) (by omega) (by omega)

theorem tapSum_eq_sum_flatMap : tapSum r y t = ((List.range r).flatMap fun i => (List.range r).flatMap fun j =>
    (List.range r).map fun k => if y (t - 1 - i - j - k) then (1 : Int) else -1).sum := by
  simp only [List.flatMap_def, List.sum_flatten, List.map_map, Function.comp_def]
  rfl

/-- The decimator over a run of bits, three frames of taps or more, ends with the exact sum as its latest output. -/
theorem Sinc.foldl_feed_latest {m : ℕ} {bs : List Bool} (hpos : 0 < r) (hr : r ≤ 16) (hm : 3 ≤ m)
    (hlen : bs.length = r * m) : (bs.foldl (fun p b => ((p.1.feed r b).1, ((p.1.feed r b).2).or p.2))
      ((Sinc.reset, none) : Sinc × Option Word)).2.map BitVec.toInt = some (tapSum r (bs.getD · false) bs.length) := by
  have hbs : (List.range bs.length).map (bs.getD · false) = bs := by
    refine List.ext_getElem (by simp) fun k _ hk => ?_
    simp [hk]
  have hlatest : Sinc.latest r (bitWord (bs.getD · false)) bs.length =
      some (diff r (diff r (diff r (integ3 (bitWord (bs.getD · false))))) bs.length) := by
    rw [Sinc.latest, hlen, Nat.mul_div_cancel_left m hpos, if_neg (by omega), Nat.mul_comm]
  have hfold := Sinc.foldl_feed r bs.length (bs.getD · false) hpos
  rw [hbs] at hfold
  have hframes : 3 * r ≤ bs.length := by rw [hlen, Nat.mul_comm]; exact Nat.mul_le_mul_left r hm
  rw [hfold, hlatest, Option.map_some, toInt_diff_diff_diff_integ3 r _ _ hr hframes]

end tapSum

end Sys2Proof.Machine
end

section
/-!
The half-band filter's arithmetic: the accumulator and its guard bits, rounding to nearest with ties to even, and one output
of a stage (R409, R411–R413).
-/
namespace Sys2Proof.Machine

theorem roundEven_near (n : Int) {d : ℕ} (hd : 0 < d) : (2 * (n - roundEven n d * d)).natAbs ≤ d ∧
    ((2 * (n - roundEven n d * d)).natAbs = d → roundEven n d % 2 = 0) := by
  have hdiv := Int.mul_ediv_add_emod n d
  have hlo := Int.emod_nonneg n (b := d) (by omega)
  have hhi := Int.emod_lt_of_pos n (b := d) (by omega)
  have hdown : n - n / d * d = n % d := by rw [Int.mul_comm]; omega
  have hup : n - (n / d + 1) * d = n % d - d := by rw [Int.add_mul]; omega
  simp only [roundEven]
  split_ifs <;> simp only [hdown, hup] <;> omega

section accumulator
variable (t : Int) (ts : List Int) (x : Int × Bool) (xs : List (Int × Bool)) (a : Int)

/-- The sign of a sum that leaves the 48 bits of the accumulator (R412). -/
def guardBit (a : Int) : Option Bool :=
  if 140737488355327 < a then some true else if a < -140737488355328 then some false else none
theorem guardBit_eq_none : guardBit a = none ↔ -140737488355328 ≤ a ∧ a ≤ 140737488355327 := by
  unfold guardBit
  split_ifs with hhi hlo
  · simp [hhi]
  · simp [hlo]
  · simpa [and_comm] using And.intro hhi hlo
theorem macSum_cons (o : Option Bool) : macSum (t :: ts) (x :: xs) a o =
    macSum ts xs (a + t * x.1) (if o.isSome then o else guardBit (a + t * x.1)) := rfl
theorem macSum_fst (o : Option Bool) : (macSum ts xs a o).1 = a + ((ts.zip xs).map fun p => p.1 * p.2.1).sum := by
  induction ts generalizing xs a o with
  | nil => simp [macSum]
  | cons t ts ih => cases xs with
    | nil => simp [macSum]
    | cons x xs =>
      rw [macSum_cons, ih]
      simp [Int.add_assoc]
theorem macSum_snd_of_some (up : Bool) : (macSum ts xs a (some up)).2 = some up := by
  induction ts generalizing xs a with
  | nil => rfl
  | cons t ts ih => cases xs with
    | nil => rfl
    | cons x xs => exact ih xs _
/-- The accumulator's guard stays clear exactly if no partial sum leaves the 48 bits (R412). -/
theorem macSum_snd_eq_none : (macSum ts xs a none).2 = none ↔ ∀ k, 1 ≤ k → k ≤ (ts.zip xs).length →
    guardBit (a + (((ts.zip xs).take k).map fun p => p.1 * p.2.1).sum) = none := by
  induction ts generalizing xs a with
  | nil => simp [macSum]; omega
  | cons t ts ih => cases xs with
    | nil => simp [macSum]; omega
    | cons x xs =>
      have hsplit : (∀ k, 1 ≤ k → k ≤ ((t :: ts).zip (x :: xs)).length →
          guardBit (a + ((((t :: ts).zip (x :: xs)).take k).map fun p => p.1 * p.2.1).sum) = none) ↔
          guardBit (a + t * x.1) = none ∧ ∀ k, 1 ≤ k → k ≤ (ts.zip xs).length →
            guardBit (a + t * x.1 + (((ts.zip xs).take k).map fun p => p.1 * p.2.1).sum) = none := by
        constructor
        · intro h
          refine ⟨by simpa using h 1 le_rfl (by simp), fun k hk hlen => ?_⟩
          simpa [Int.add_assoc] using h (k + 1) (by omega) (by simpa using hlen)
        · rintro ⟨hfirst, hrest⟩ k hk hlen
          obtain ⟨k, rfl⟩ := Nat.exists_eq_add_of_le' hk
          cases k with
          | zero => simpa using hfirst
          | succ k => simpa [Int.add_assoc] using hrest (k + 1) (by omega) (by simpa using hlen)
      rw [hsplit, macSum_cons]
      cases hguard : guardBit (a + t * x.1) with
      | none => simpa using ih xs (a + t * x.1)
      | some up => simp [macSum_snd_of_some]

end accumulator

section stage
variable (st : Stage) (x1 x2 : Int × Bool) (h : List (Int × Bool))

/-- The samples that a stage keeps: its latest 47 (R409). -/
def window : List (Int × Bool) := (x2 :: x1 :: h).take 47

theorem stageRun_hist : (stageRun st [x1, x2] ⟨[], h, 0, false, 0⟩).hist = window x1 x2 h := rfl
theorem stageRun_of_in_range (hguard : (macSum st.taps (window x1 x2 h) 0 none).2 = none) :
    (stageRun st [x1, x2] ⟨[], h, 0, false, 0⟩).guards = 0 ∧ (stageRun st [x1, x2] ⟨[], h, 0, false, 0⟩).outs =
      [(clampTo (-8388608) 8388607 (roundEven (macSum st.taps (window x1 x2 h) 0 none).1 262144),
        ((window x1 x2 h).take st.taps.length).any (·.2))] := by
  rw [window] at hguard
  simp only [stageRun, hguard]
  exact ⟨rfl, rfl⟩
theorem stageRun_of_overflow {up : Bool} (hguard : (macSum st.taps (window x1 x2 h) 0 none).2 = some up) :
    (stageRun st [x1, x2] ⟨[], h, 0, false, 0⟩).guards = 1 ∧ (stageRun st [x1, x2] ⟨[], h, 0, false, 0⟩).outs =
      [(if up then 8388607 else -8388608, true)] := by
  rw [window] at hguard
  simp only [stageRun, hguard]
  cases up <;> exact ⟨rfl, rfl⟩

end stage

/-- Settles O47: the sinc output by its third difference, the accumulator by induction on the taps, a stage by its guard. -/
theorem filterArithmetic : Obligations.FilterArithmetic := by
  refine ⟨fun r m bs hr hm hlen => ?_, fun t x a o => macSum_fst t x a o, fun n d hd => roundEven_near n hd,
    fun t x a => ?_, fun st x1 x2 h => ⟨stageRun_hist st x1 x2 h, rfl, stageRun_of_in_range st x1 x2 h,
      fun _ => stageRun_of_overflow st x1 x2 h⟩⟩
  · exact (Sinc.foldl_feed_latest r (by omega) (by omega) hm hlen).trans (congrArg some (tapSum_eq_sum_flatMap r _ _))
  · simp only [macSum_snd_eq_none, guardBit_eq_none]

end Sys2Proof.Machine
end

section
/-!
The events of an input cell: its filtered change, the chatter bin, diagnostics, its sensor supply and its input switch (R345,
R346, R351, R355, R358, R364, R377, R386, R449).
-/
namespace Sys2Proof.Machine

section change
variable {s : State} {c : Fin 32} {st : Nat}

/-- A cell counts for a quadrature axis as its A, its B or its index input (R447). -/
def State.inQuad (s : State) (c : Fin 32) : Prop :=
  ∃ q ∈ s.quadUses (chIsl c), q.a = chCell c ∨ q.b = chCell c ∨ q.z = some (chCell c)
theorem State.not_inQuad (h : ∀ q ∈ s.quadUses (chIsl c), q.a ≠ chCell c ∧ q.b ≠ chCell c ∧ q.z ≠ some (chCell c)) :
    ¬ s.inQuad c := by
  rintro ⟨q, hq, hcell⟩
  obtain ⟨ha, hb, hz⟩ := h q hq
  exact hcell.elim ha fun h => h.elim hb hz
theorem State.quadUses_any : ((s.quadUses (chIsl c)).any fun q =>
    decide (q.a = chCell c ∨ q.b = chCell c ∨ q.z = some (chCell c))) = true ↔ s.inQuad c := by
  simp only [List.any_eq_true, decide_eq_true_eq, State.inQuad]

theorem execInputFilterChange_of_quad (h : s.inQuad c) : execInputFilterChange c st s = .next s :=
  if_pos (.inr (.inr (.inr (State.quadUses_any.mpr h))))
theorem execInputFilterChange_of_pulse (h : (s.cell c).stp ≠ 0) : execInputFilterChange c st s = .next s :=
  if_pos (.inr (.inl h))

section own
variable (hstp : (s.cell c).stp = 0) (hquad : ¬ s.inQuad c)
include hstp hquad

theorem execInputFilterChange_of_digital (hfunc : u8 (s.cellRec c) 0 ∈ [1, 2, 4]) (hnew : st % 2 ≠ (s.cell c).filt) :
    execInputFilterChange c st s = .next (s.setCell c fun y =>
      { y with filt := st % 2, chg := y.chg + 1, tidx := s.tidxNow (chIsl c) }) := by
  have hhall : u8 (s.cellRec c) 0 ≠ 5 := fun h => by simp [h] at hfunc
  simp only [List.mem_cons, List.not_mem_nil, or_false] at hfunc
  dsimp only [execInputFilterChange]
  simp only [if_neg hhall]
  refine if_neg ?_
  rw [State.quadUses_any]
  tauto
theorem execInputFilterChange_of_hall (hfunc : u8 (s.cellRec c) 0 = 5) (hnew : st % 8 ≠ (s.cell c).filt)
    (haxis : ∀ a, s.axCh a 7 ≠ some c) : execInputFilterChange c st s = .next (s.setCell c fun y =>
      { y.hallStep (st % 8) false with
        filt := st % 8, chg := (y.hallStep (st % 8) false).chg + 1, tidx := s.tidxNow (chIsl c) }) := by
  have hrev : ((List.finRange 8).any fun a => decide (s.axCh a 7 = some c) && decide (s.axCfg a 0xF 1 = 1)) = false := by
    simp [haxis]
  dsimp only [execInputFilterChange]
  simp only [if_pos hfunc, hrev]
  refine if_neg ?_
  rw [State.quadUses_any]
  tauto

end own

end change

theorem execChatterBin_of_input {s : State} {c : Fin 32} (h : s.func c = 1 ∨ s.func c = 2) : execChatterBin c s =
    .next (((s.chatterEval c).setChan c fun x => { x with bins := (0 :: x.bins).take 255 }).chatterEval c) :=
  if_neg (by tauto)

section diagnostic
variable {s : State} {c : Fin 32} {d : Nat}

theorem execDiagSet_of_lacking (again : Bool) (h : hasDiag (s.cellRec c) d = false) :
    execDiagSet c d again s = .next s :=
  if_pos h
theorem execDiagSet_of_not_output (again : Bool) (hdiag : hasDiag (s.cellRec c) d = true)
    (hin : isOutput (u8 (s.cellRec c) 0) = false) :
    execDiagSet c d again s = .next (s.setCell c fun y => y.setDiag d s.time) := by
  simp [execDiagSet, hdiag, hin]
theorem execDiagClear_of_unlatched (hd : d < 5)
    (h : (isOutput (u8 (s.cellRec c) 0) = false ∧ hasSupply (s.cellRec c) = false) ∨ d = 0 ∨ d = 3) :
    execDiagClear c d s = .next (s.setCell c fun y => { y with diag := setBitN y.diag d false }) := by
  refine congrArg Host.Outcome.next (if_neg ?_)
  rcases h with ⟨hin, hsup⟩ | rfl | rfl
  · simp [hin, hsup, hd]
  · simp
  · simp

end diagnostic

section supply
variable {s : State} {c : Fin 32}

theorem execSupplyLimitOff_of_on (hon : (s.cell c).sup = true) (hin : isInput (u8 (s.cellRec c) 0) = true) :
    execSupplyLimitOff c s = .next (s.setCell c fun y => { y.setDiag 1 s.time with sup := false }) :=
  congrArg Host.Outcome.next (if_pos ⟨hon, hin⟩)
theorem execSupplyRetry_of_held (hoff : (s.cell c).sup = false) (hin : isInput (u8 (s.cellRec c) 0) = true) :
    execSupplyRetry c true s = .next (s.setCell c fun y =>
      { y with sup := true, diag := setBitN (setBitN y.diag 1 false) 2 false }) :=
  congrArg Host.Outcome.next (if_pos ⟨hoff, rfl, hin⟩)
theorem execSupplyRetry_of_not_held : execSupplyRetry c false s = .next s :=
  congrArg Host.Outcome.next (if_neg (by simp))

section pulse
variable (raw : Bool) (hfunc : u8 (s.cellRec c) 0 = 1) (hsupply : u8 (s.cellRec c) 0x15 = 2) (hon : (s.cell c).sup = true)
  (hvlow : (s.isl (chIsl c)).vlow = false) (hstp : (s.cell c).stp = 0)
include hfunc hsupply hon hvlow hstp

theorem execSupplyTestPulse_of_free (hfree : ∀ k : Fin 4, (s.isl (chIsl c)).cells[k.val].stp = 0) :
    execSupplyTestPulse c raw s = .next (s.setCell c fun y => { y with stp := 1 + b2n raw, stpWait := false }) := by
  simp [execSupplyTestPulse, hfunc, hsupply, hon, hvlow, hstp, hfree]
theorem execSupplyTestPulse_of_busy (hbusy : ∃ k : Fin 4, (s.isl (chIsl c)).cells[k.val].stp ≠ 0) :
    execSupplyTestPulse c raw s = .next (s.setCell c fun y => { y with stpWait := true }) := by
  have hany : ((List.finRange 4).any fun k => decide ((s.isl (chIsl c)).cells[k.val].stp ≠ 0)) = true := by
    simpa using hbusy
  simp only [execSupplyTestPulse, hfunc, hsupply, hon, hvlow, hstp, hany]
  rfl

end pulse

section pulseEnd
variable (hpulse : 2 ≤ (s.cell c).stp)

theorem execSupplyTestPulseEnd_of_low (fell : Bool) (h : (s.cell c).stp = 1) :
    execSupplyTestPulseEnd c fell s = .next (s.setCell c fun y => { y with stp := 0 }) := by
  simp [execSupplyTestPulseEnd, h]
include hpulse
theorem execSupplyTestPulseEnd_of_fell : execSupplyTestPulseEnd c true s =
    .next (s.setCell c fun y => { y with stp := 0, stpFails := 0, diag := setBitN y.diag 1 false }) :=
  (if_neg (by omega)).trans (if_neg (by omega))
theorem execSupplyTestPulseEnd_of_first_failure (hfails : (s.cell c).stpFails = 0) :
    execSupplyTestPulseEnd c false s = .next (s.setCell c fun y => { y with stp := 0, stpFails := y.stpFails + 1 }) :=
  (if_neg (by omega)).trans ((if_neg (by omega)).trans ((if_neg Bool.false_ne_true).trans (if_pos (by omega))))
theorem execSupplyTestPulseEnd_of_second_failure (hfails : 1 ≤ (s.cell c).stpFails) :
    execSupplyTestPulseEnd c false s =
      .next (s.setCell c fun y => { y.setDiag 1 s.time with stp := 0, stpFails := y.stpFails + 1 }) :=
  (if_neg (by omega)).trans ((if_neg (by omega)).trans ((if_neg Bool.false_ne_true).trans (if_neg (by omega))))

end pulseEnd

theorem execInputSwitchOpen_of_current_input (h : u8 (s.cellRec c) 0 = 0x10) :
    execInputSwitchOpen c s = .next (s.setCell c fun y => { y.setDiag 2 s.time with sw := true }) :=
  congrArg Host.Outcome.next (if_pos h)

end supply

/-- Settles O43: each event by the guard of its row. -/
theorem inputCells : Obligations.InputCells :=
  ⟨fun _ _ _ => execInputFilterChange_of_quad,
    fun _ _ _ hfunc hstp hnew hquad => execInputFilterChange_of_digital hstp (State.not_inQuad hquad) hfunc hnew,
    fun _ _ _ hfunc hstp hnew hquad haxis =>
      execInputFilterChange_of_hall hstp (State.not_inQuad hquad) hfunc hnew haxis,
    fun _ _ _ => execInputFilterChange_of_pulse, fun _ _ => execChatterBin_of_input,
    fun _ _ _ => execDiagSet_of_not_output, fun _ _ _ => execDiagSet_of_lacking,
    fun _ _ _ => execDiagClear_of_unlatched, fun _ _ => execSupplyLimitOff_of_on,
    fun _ _ hoff hin => ⟨execSupplyRetry_of_held hoff hin, execSupplyRetry_of_not_held⟩,
    fun _ _ raw hfunc hsupply hon hvlow hstp => ⟨execSupplyTestPulse_of_free raw hfunc hsupply hon hvlow hstp,
      execSupplyTestPulse_of_busy raw hfunc hsupply hon hvlow hstp⟩,
    fun _ _ => ⟨fun h fell => execSupplyTestPulseEnd_of_low fell h, execSupplyTestPulseEnd_of_fell,
      execSupplyTestPulseEnd_of_first_failure, execSupplyTestPulseEnd_of_second_failure⟩,
    fun _ _ => execInputSwitchOpen_of_current_input, fun _ _ => rfl⟩

end Sys2Proof.Machine
end

section
/-!
The events of an output cell: a fault that latches and its release, the island's overcurrent, and the test pulses of a DO-T
(R355–R358, R361, R362, R371).
-/
namespace Sys2Proof.Machine

section fault
variable {s : State} {c : Fin 32} {d : Nat} (again : Bool)

/-- Detection on an output is off during INRUSH and during a test pulse (R355, R361). -/
theorem execDiagSet_of_paused (hout : isOutput (u8 (s.cellRec c) 0) = true)
    (h : ((s.cell c).inrush && hasInrush (s.cellRec c)) = true ∨ (s.cell c).tp ≠ 0) : execDiagSet c d again s = .next s := by
  have hpaused : (isOutput (u8 (s.cellRec c) 0) &&
      ((s.cell c).inrush && hasInrush (s.cellRec c) || decide ((s.cell c).tp ≠ 0))) = true := by
    simpa [hout] using h
  cases hdiag : hasDiag (s.cellRec c) d with
  | false => exact if_pos hdiag
  | true => exact (if_neg (by simp [hdiag])).trans (if_pos hpaused)

section detecting
variable (hdiag : hasDiag (s.cellRec c) d = true) (hout : isOutput (u8 (s.cellRec c) 0) = true)
  (hinrush : ((s.cell c).inrush && hasInrush (s.cellRec c)) = false) (htp : (s.cell c).tp = 0)
include hdiag hout hinrush htp

theorem execDiagSet_of_fault (hd : d = 1 ∨ d = 2) (hlat : (s.cell c).lat5 = false) : execDiagSet c d again s =
    .next (s.setCell c fun y => { y.setDiag d s.time with
      lat5 := true, lat5At := s.time, tp := 0, runs := if again then y.runs + 1 else 1 }) := by
  rcases hd with rfl | rfl <;> simp [execDiagSet, hdiag, hout, hinrush, htp, hlat, Cell.latch, Cell.setDiag]
theorem execDiagSet_of_latched (hd : d = 1) (hlat : (s.cell c).lat5 = true) :
    execDiagSet c d again s = .next (s.setCell c fun y => { y with hiZ := true }) := by
  subst hd
  simp [execDiagSet, hdiag, hout, hinrush, htp, hlat]
theorem execDiagSet_of_other (h1 : d ≠ 1) (h2 : d ≠ 2) :
    execDiagSet c d again s = .next (s.setCell c fun y => y.setDiag d s.time) := by
  simp [execDiagSet, hdiag, hout, hinrush, htp, h1, h2]

end detecting

theorem execFaultAutoRetry_of_retry (hout : isDigitalOut (u8 (s.cellRec c) 0) = true)
    (hretry : u8 (s.cellRec c) 0x19 = 1) (hruns : (s.cell c).runs < 8) :
    execFaultAutoRetry c s = .next (s.setCell c fun y => y.release false) :=
  congrArg Host.Outcome.next (if_pos ⟨hout, hretry, hruns⟩)
theorem Cell.release_of_latched {y : Cell} (h : y.lat5 = true ∨ y.lat6 = true) (host : Bool) : y.release host = { y with
    lat5 := false, lat6 := false, diag := clearLatched y.diag, inrush := true, hiZ := false
    runs := if host then 0 else y.runs, tpFails := 0 } :=
  if_pos (Bool.or_eq_true_iff.mpr h)

end fault

section overcurrent

theorem State.cell_setCell_same (s : State) (c : Fin 32) (f : Cell → Cell) : (s.setCell c f).cell c = f (s.cell c) := by
  simp [State.cell, State.setCell, State.isl_setIsl_same, Isl.setCell, updV]
theorem eq_of_chIsl_chCell {c e : Fin 32} (hisl : chIsl e = chIsl c) (hcell : chCell e = chCell c) : e = c := by
  have h4 : e.val / 4 = c.val / 4 := congrArg Fin.val hisl
  have hm : e.val % 4 = c.val % 4 := congrArg Fin.val hcell
  omega
theorem State.cell_setCell_other (s : State) {c e : Fin 32} (f : Cell → Cell) (h : e ≠ c) :
    (s.setCell c f).cell e = s.cell e := by
  by_cases hisl : chIsl e = chIsl c
  · have hcell : (chCell c).val ≠ (chCell e).val := fun hc => h (eq_of_chIsl_chCell hisl (Fin.ext hc.symm))
    simp [State.cell, State.setCell, hisl, State.isl_setIsl_same, Isl.setCell, updV, hcell]
  · rw [State.cell, State.setCell, State.isl_setIsl_other s _ hisl]
    rfl
theorem State.cellRec_setCell (s : State) (c e : Fin 32) (f : Cell → Cell) :
    (s.setCell c f).cellRec e = s.cellRec e := by
  by_cases hisl : chIsl e = chIsl c
  · simp only [State.cellRec, State.setCell, hisl, State.isl_setIsl_same, Isl.setCell]
  · simp only [State.cellRec, State.setCell, State.isl_setIsl_other s _ hisl]

/-- An update of a cell counts by what it makes of that cell's present content. -/
theorem State.setCell_congr {s : State} {c : Fin 32} {f g : Cell → Cell} (h : f (s.cell c) = g (s.cell c)) :
    s.setCell c f = s.setCell c g := by
  simp only [State.cell, State.isl] at h
  simp only [State.setCell, State.setIsl, Isl.setCell, updV, h]
theorem Isl.setCell_id (x : Isl) (k : Fin 4) : (x.setCell k fun y => y) = x := by
  simp only [Isl.setCell, updV, Vector.set_getElem_self]
theorem State.setCell_id (s : State) (c : Fin 32) : (s.setCell c fun y => y) = s := by
  simp only [State.setCell, Isl.setCell_id, State.setIsl, updV, Vector.set_getElem_self]

section cell
variable (again : Bool) (now : RingTime) (r : Bytes) (y : Cell)

/-- What the overcurrent of its island leaves of a cell: a DO or DO-T latches, a sensor supply goes off (R358). -/
def Cell.overcurrent : Cell :=
  if u8 r 0 = 8 ∨ u8 r 0 = 0xA then
    { y.setDiag 2 now with lat6 := true, lat6At := now, tp := 0, runs := if again then y.runs + 1 else 1 }
  else if hasSupply r && y.sup then { y.setDiag 2 now with sup := false }
  else y
/-- A cell that its island's overcurrent has switched off. -/
def Cell.off (r : Bytes) (y : Cell) : Prop :=
  ((u8 r 0 = 8 ∨ u8 r 0 = 0xA) → y.lat6 = true) ∧ (hasSupply r = true → y.sup = false)

theorem hasSupply_of_output {r : Bytes} (h : u8 r 0 = 8 ∨ u8 r 0 = 0xA) : hasSupply r = false := by
  rcases h with h | h <;> simp [hasSupply, h]
theorem Cell.off_overcurrent : Cell.off r (y.overcurrent again now r) := by
  unfold Cell.overcurrent
  by_cases hout : u8 r 0 = 8 ∨ u8 r 0 = 0xA
  · rw [if_pos hout]
    exact ⟨fun _ => rfl, fun hsup => by simp [hasSupply_of_output hout] at hsup⟩
  · rw [if_neg hout]
    by_cases hsup : (hasSupply r && y.sup) = true
    · rw [if_pos hsup]
      exact ⟨fun h => absurd h hout, fun _ => rfl⟩
    · rw [if_neg hsup]
      exact ⟨fun h => absurd h hout, fun h => by simpa [h] using hsup⟩

end cell

theorem chIsl_chOf (i : Fin 8) (k : Fin 4) : chIsl (chOf i k) = i :=
  Fin.ext (by have := k.isLt; show (4 * i.val + k.val) / 4 = i.val; omega)
theorem chOf_mem_islChans (i : Fin 8) (k : Fin 4) : chOf i k ∈ islChans i := List.mem_map_of_mem (List.mem_finRange k)

section island
variable (again : Bool) (now : RingTime)

def State.overcurrent (s : State) (c : Fin 32) : State := s.setCell c (Cell.overcurrent again now (s.cellRec c))
/-- The row, with the branch that leaves a channel alone as an update that changes nothing. -/
theorem execIslandOvercurrent_eq (i : Fin 8) (s : State) :
    execIslandOvercurrent i again s = .next ((islChans i).foldl (State.overcurrent again s.time) s) := by
  refine congrArg Host.Outcome.next (congrArg (fun f => (islChans i).foldl f s) ?_)
  funext t c
  by_cases hout : u8 (t.cellRec c) 0 = 8 ∨ u8 (t.cellRec c) 0 = 0xA
  · exact (if_pos hout).trans (State.setCell_congr (if_pos hout).symm)
  · refine (if_neg hout).trans ?_
    by_cases hsup : (hasSupply (t.cellRec c) && (t.cell c).sup) = true
    · exact (if_pos hsup).trans (State.setCell_congr ((if_neg hout).trans (if_pos hsup)).symm)
    · exact (if_neg hsup).trans
        ((t.setCell_id c).symm.trans (State.setCell_congr ((if_neg hout).trans (if_neg hsup)).symm))

variable (s : State) (c e : Fin 32)
theorem State.off_overcurrent (h : e = c ∨ Cell.off (s.cellRec e) (s.cell e)) :
    Cell.off (s.cellRec e) ((s.overcurrent again now c).cell e) := by
  by_cases hc : e = c
  · subst hc
    rw [State.overcurrent, State.cell_setCell_same]
    exact Cell.off_overcurrent again now _ _
  · rw [State.overcurrent, State.cell_setCell_other s _ hc]
    exact h.resolve_left hc
theorem State.off_foldl_overcurrent (l : List (Fin 32)) (h : e ∈ l ∨ Cell.off (s.cellRec e) (s.cell e)) :
    Cell.off (s.cellRec e) ((l.foldl (State.overcurrent again now) s).cell e) := by
  induction l generalizing s with
  | nil => exact h.resolve_left List.not_mem_nil
  | cons c l ih =>
    have hrec : (s.overcurrent again now c).cellRec e = s.cellRec e := State.cellRec_setCell s c e _
    have hnext := ih (s.overcurrent again now c)
    rw [hrec] at hnext
    refine hnext ?_
    rcases h with h | h
    · exact (List.mem_cons.mp h).symm.imp_right fun hc => State.off_overcurrent again now s c e (.inl hc)
    · exact .inr (State.off_overcurrent again now s c e (.inr h))
/-- The overcurrent of an island touches that island alone. -/
theorem State.overcurrent_frame (i : Fin 8) :
    (∀ j, j ≠ i → ((islChans i).foldl (State.overcurrent again now) s).isl j = s.isl j) ∧
    (islChans i).foldl (State.overcurrent again now) s =
      { s with isls := ((islChans i).foldl (State.overcurrent again now) s).isls } := by
  refine List.foldlRecOn (motive := fun t => (∀ j, j ≠ i → t.isl j = s.isl j) ∧ t = { s with isls := t.isls })
    (islChans i) (State.overcurrent again now) ⟨fun _ _ => rfl, rfl⟩ fun t ht c hc => ?_
  obtain ⟨hother, hframe⟩ := ht
  obtain ⟨k, -, rfl⟩ := List.mem_map.mp hc
  refine ⟨fun j hj => ?_, by rw [hframe]; rfl⟩
  rw [State.overcurrent, State.setCell, chIsl_chOf, State.isl_setIsl_other t _ hj]
  exact hother j hj

end island

end overcurrent

section pulse
variable {s : State} {c : Fin 32}

section start
variable (hfunc : u8 (s.cellRec c) 0 = 0xA) (htp : (s.cell c).tp = 0) (hdrive : (s.isl (chIsl c)).drive (chCell c) ≠ none)
  (hown : u8 (s.cellRec c) 2 = 3 → (s.cell c).tpWait = true)
include hfunc htp hdrive hown

/-- A DO-T that may start its pulse: it is driven, and one of the kernels has been asked to wait for it (R361, R362). -/
theorem not_testPulseStart_guard : ¬ (u8 (s.cellRec c) 0 ≠ 0xA ∨ (s.cell c).tp ≠ 0 ∨
    ((s.isl (chIsl c)).drive (chCell c)).isNone ∨ (u8 (s.cellRec c) 2 = 3 ∧ (s.cell c).tpWait = false)) := by
  rintro (h | h | h | ⟨h3, hwait⟩)
  · exact h hfunc
  · exact h htp
  · exact hdrive (Option.isNone_iff_eq_none.mp h)
  · simp [hown h3] at hwait
theorem execTestPulseStart_of_free (hfree : ∀ k : Fin 4, (s.isl (chIsl c)).cells[k.val].tp = 0) :
    execTestPulseStart c s = .next (s.setCell c fun y => { y with
      tp := if u8 (s.cellRec c) 1 = 1 ∧ y.tpLow = true then 2 else 1, tpLow := u8 (s.cellRec c) 1 = 1 && !y.tpLow
      tpWait := false, tpAt := s.time }) :=
  (if_neg (not_testPulseStart_guard hfunc htp hdrive hown)).trans (if_neg (by simp [hfree]))
theorem execTestPulseStart_of_busy (hbusy : ∃ k : Fin 4, (s.isl (chIsl c)).cells[k.val].tp ≠ 0) :
    execTestPulseStart c s = .next (s.setCell c fun y => { y with tpWait := true }) :=
  (if_neg (not_testPulseStart_guard hfunc htp hdrive hown)).trans (if_pos (by simpa using hbusy))

end start

section pulseEnd
variable (again : Bool) (htp : (s.cell c).tp ≠ 0)
include htp

theorem execTestPulseEnd_of_pass :
    execTestPulseEnd c true again s = .next (s.setCell c fun y => { y with tp := 0, tpFails := 0 }) :=
  (if_neg htp).trans (if_pos rfl)
theorem execTestPulseEnd_of_first_failure (hfails : (s.cell c).tpFails = 0) :
    execTestPulseEnd c false again s = .next (s.setCell c fun y => { y with tp := 0, tpFails := y.tpFails + 1 }) :=
  (if_neg htp).trans ((if_neg Bool.false_ne_true).trans (if_pos (by omega)))
theorem execTestPulseEnd_of_second_failure (hfails : 1 ≤ (s.cell c).tpFails) : execTestPulseEnd c false again s =
    .next (s.setCell c fun y => { y.setDiag 4 s.time with
      lat5 := true, lat5At := s.time, tp := 0, runs := if again then y.runs + 1 else 1, tpFails := y.tpFails + 1 }) :=
  (if_neg htp).trans ((if_neg Bool.false_ne_true).trans (if_neg (by omega)))

end pulseEnd

end pulse

/-- Settles O44: each event by the guard of its row, the island's overcurrent channel by channel. -/
theorem outputCells : Obligations.OutputCells := by
  have hoff (s : State) (i : Fin 8) (again : Bool) (k : Fin 4) :=
    State.off_foldl_overcurrent again s.time s (chOf i k) (islChans i) (.inl (chOf_mem_islChans i k))
  refine ⟨fun _ _ _ again hdiag hout hinrush htp => ⟨fun hd hlat =>
      ⟨_, execDiagSet_of_fault again hdiag hout hinrush htp hd hlat, rfl⟩,
      execDiagSet_of_latched again hdiag hout hinrush htp, execDiagSet_of_other again hdiag hout hinrush htp⟩,
    fun _ _ _ => execDiagSet_of_paused, fun _ _ => rfl, fun _ _ => execFaultAutoRetry_of_retry, fun y hlat => ?_,
    fun s i again => ⟨_, execIslandOvercurrent_eq again i s, fun k => (hoff s i again k).1, fun k => (hoff s i again k).2,
      State.overcurrent_frame again s.time s i⟩,
    fun _ _ hfunc htp hdrive hown => ⟨execTestPulseStart_of_free hfunc htp hdrive hown,
      execTestPulseStart_of_busy hfunc htp hdrive hown⟩,
    fun _ _ again htp => ⟨execTestPulseEnd_of_pass again htp, execTestPulseEnd_of_first_failure again htp,
      execTestPulseEnd_of_second_failure again htp⟩⟩
  simp [Cell.release_of_latched hlat]

end Sys2Proof.Machine
end

section
/-!
The mailbox: what a submission and the end of a command leave in it, and its words MBX_STAT and MBX_DONE (R578–R580, R585,
R586).
-/
namespace Sys2Proof.Machine

section words

theorem b2n_lt_two (b : Bool) : b2n b < 2 := by cases b <;> decide
theorem bitsOf_toWord (n hi lo : Nat) : bitsOf (toWord n) hi lo = n % 16777216 / 2 ^ lo % 2 ^ (hi + 1 - lo) := by
  simp [bitsOf, toWord, Nat.shiftRight_eq_div_pow]
theorem bitOf_toWord {n b : Nat} (hb : b < 24) : bitOf (toWord n) b = n.testBit b := by
  rw [bitOf, toWord, BitVec.getLsbD_ofNat, decide_eq_true hb, Bool.true_and]

theorem Mailbox.statWord_status_one {m : Mailbox} (h : m.status = 1) : bitsOf m.statWord 7 0 = 1 := by
  simp only [Mailbox.statWord, bitsOf_toWord, h, Nat.pow_zero, Nat.div_one]
  omega
theorem Mailbox.statWord_fields {m : Mailbox} (hst : m.status < 256) (hwords : m.resWords < 128) (htag : m.tag < 256) :
    bitsOf m.statWord 7 0 = m.status ∧ bitsOf m.statWord 14 8 = m.resWords ∧ bitOf m.statWord 15 = m.overrun ∧
    bitsOf m.statWord 23 16 = m.tag := by
  have hbit := b2n_lt_two m.overrun
  have hover : (m.status + m.resWords * 256 + b2n m.overrun * 32768 + m.tag * 65536) / 2 ^ 15 % 2 = b2n m.overrun := by
    omega
  refine ⟨?_, ?_, ?_, ?_⟩
  · simp only [Mailbox.statWord, bitsOf_toWord]
    omega
  · simp only [Mailbox.statWord, bitsOf_toWord]
    omega
  · rw [Mailbox.statWord, bitOf_toWord (by decide), Nat.testBit_eq_decide_div_mod_eq, hover]
    cases m.overrun <;> rfl
  · simp only [Mailbox.statWord, bitsOf_toWord]
    omega
theorem mbxDoneWord_ring {n tag : Nat} (hn : n < 1024) (htag : tag < 256) : bitsOf (mbxDoneWord (.ring n) tag) 2 0 = 3 ∧
    bitsOf (mbxDoneWord (.ring n) tag) 12 3 = n ∧ bitsOf (mbxDoneWord (.ring n) tag) 20 13 = tag := by
  simp only [mbxDoneWord, sessionNo, holderNode, bitsOf_toWord]
  omega

theorem Sparse.get_resList {ws : List Word} {k : Nat} (hk : k < ws.length) :
    Sparse.get (fun _ => 0) (resList ws) k = ws.getD k 0 := by
  have hstored (n : Nat) : Sparse.get (fun _ => 0)
      ((List.range n).foldl (fun m k => Sparse.set (fun _ => 0) m k (ws.getD k 0)) []) k =
        if k < n then ws.getD k 0 else 0 := by
    induction n with
    | zero => rfl
    | succ n ih =>
      rw [List.range_succ, List.foldl_append, List.foldl_cons, List.foldl_nil, Sparse.get_set, ih]
      by_cases h : k = n
      · simp [h]
      · simp only [h, if_false, show k < n + 1 ↔ k < n by omega]
  rw [resList, hstored, if_pos hk]

end words

section frames
variable (s : State) (p : Port)

theorem State.mbxOf_congr {s t : State} (h : t.mbx = s.mbx) (q : Port) : t.mbxOf q = s.mbxOf q := by
  rw [State.mbxOf, h, State.mbxOf]
theorem State.mbxOf_setMbx_other (m : Mailbox) {q : Port} (h : q ≠ p) : (s.setMbx p m).mbxOf q = s.mbxOf q := by
  have hfilter : (s.mbx.filter fun x => x.1 ≠ p).find? (fun x => x.1 = q) = s.mbx.find? fun x => x.1 = q := by
    rw [List.find?_filter]
    refine congrArg (s.mbx.find? ·) (funext fun x => ?_)
    by_cases hx : x.1 = q <;> simp [hx, h]
  unfold State.mbxOf State.setMbx
  rw [List.find?_append, hfilter]
  simp [Ne.symm h]
theorem State.mbx_answerMail (node tag : Nat) (kind : MailKind) (status detail hint : Nat) (ws : List Word) :
    (s.answerMail node tag kind status detail hint ws).mbx = s.mbx := by
  unfold State.answerMail State.sendMail
  split <;> rfl
theorem State.mbx_ringMbxAnswer (ws : List Word) : (s.ringMbxAnswer p ws).mbx = s.mbx := by
  unfold State.ringMbxAnswer
  split
  · split
    · exact State.mbx_answerMail _ _ _ _ _ _ _ _
    · rfl
  · rfl
theorem State.mbx_setHolder (new : Option Port) : (s.setHolder new).mbx = s.mbx := by
  simp only [State.setHolder, State.logRec_fields, State.fire_fields]
  rfl
theorem State.mbx_claimTake (code st : Nat) : (s.claimTake p code st).mbx = s.mbx := by
  unfold State.claimTake
  split_ifs
  · rfl
  · exact s.mbx_setHolder none
  · exact s.mbx_setHolder (some p)
  · rfl

end frames

section finish
variable (s : State) (p : Port) (st : Nat) (ws : List Word)

/-- A mailbox at the end of its command: POLL keeps what an earlier command answered (R580, R582). -/
def Mailbox.finished (m : Mailbox) (st : Nat) (ws : List Word) : Mailbox :=
  let keep := m.job.all fun j => decide (j.code = 0)
  { m with
    status := st, resWords := ws.length, res := resList ws, job := none
    lastStatus := if keep then m.lastStatus else st
    lastRes := if keep then m.lastRes else ws }

theorem State.mbx_finish : (s.finish p st ws).mbx = (s.setMbx p ((s.mbxOf p).finished st ws)).mbx := by
  unfold State.finish Mailbox.finished
  cases hjob : (s.mbxOf p).job <;> simp only [hjob, State.mbx_ringMbxAnswer, State.fire_fields] <;> rfl
theorem State.mbxOf_finish_same : (s.finish p st ws).mbxOf p = (s.mbxOf p).finished st ws :=
  (State.mbxOf_congr (s.mbx_finish p st ws) p).trans (State.mbxOf_setMbx_same _ _ _)
theorem State.mbxOf_finish_other {q : Port} (h : q ≠ p) : (s.finish p st ws).mbxOf q = s.mbxOf q :=
  (State.mbxOf_congr (s.mbx_finish p st ws) q).trans (State.mbxOf_setMbx_other s p _ h)

end finish

section submit
variable {s : State} {p : Port} (cmd : Word) (role : Nat)

theorem State.submit_of_pending (h : (s.mbxOf p).status = 1) :
    s.submit p cmd role = (s.setMbx p { s.mbxOf p with overrun := true }).deficit 3 :=
  if_pos h

/-- A mailbox that has just taken a command: PENDING, with the command's TAG and its first ARGS argument words (R580). -/
def State.submitted (s : State) (p : Port) (cmd : Word) (role : Nat) : Mailbox :=
  { s.mbxOf p with
    cmd := cmd, status := 1, resWords := 0, overrun := false, tag := bitsOf cmd 23 16
    job := some ⟨bitsOf cmd 7 0, (List.range (bitsOf cmd 14 8)).map fun k => (Sparse.find (s.mbxOf p).args k).getD 0, role,
      false, s.claimStatus p (bitsOf cmd 7 0) (bitsOf cmd 14 8)⟩ }

variable (hfree : (s.mbxOf p).status ≠ 1)
include hfree

theorem State.submit_of_known (hknown : knownCmd (bitsOf cmd 7 0) = true) : s.submit p cmd role =
    (s.setMbx p (s.submitted p cmd role)).claimTake p (bitsOf cmd 7 0)
      (s.claimStatus p (bitsOf cmd 7 0) (bitsOf cmd 14 8)) :=
  (if_neg hfree).trans (if_pos hknown)
theorem State.submit_of_unknown (hknown : knownCmd (bitsOf cmd 7 0) = false) : s.submit p cmd role =
    (s.setMbx p (s.submitted p cmd role)).finish p stUnknown [] :=
  (if_neg hfree).trans (if_neg (by simp [hknown]))

end submit

/-- Settles O53: a submission by what it stores, the end by what it stores, each word by its fields. -/
theorem mailboxSubmits : Obligations.MailboxSubmits := by
  refine ⟨fun s p cmd role t hfree ht hknown => ?known, fun s p cmd role hfree hknown => ?unknown,
    fun s p st ws t ht => ?finish, fun _ => Mailbox.statWord_fields, ⟨rfl, rfl, rfl, fun _ => rfl⟩,
    fun _ _ => mbxDoneWord_ring⟩
  case known =>
    rw [ht, State.submit_of_known cmd role hfree hknown]
    refine ⟨?_, fun q hq => ?_⟩
    · exact (State.mbxOf_congr (State.mbx_claimTake _ _ _ _) p).trans (State.mbxOf_setMbx_same _ _ _)
    · exact (State.mbxOf_congr (State.mbx_claimTake _ _ _ _) q).trans (State.mbxOf_setMbx_other s p _ hq)
  case unknown =>
    rw [State.submit_of_unknown cmd role hfree hknown, State.mbxOf_finish_same]
    exact ⟨rfl, rfl⟩
  case finish =>
    rw [ht, State.mbxOf_finish_same]
    exact ⟨rfl, rfl, rfl, rfl, fun _ => State.mbxOf_finish_other s p st ws, fun _ => Sparse.get_resList⟩

/-- Settles O54: a submission on a pending mailbox changes OVERRUN alone, and the end of its command keeps CMD and TAG. -/
theorem mailboxOverrun : Obligations.MailboxOverrun := by
  have hsame {s : State} {p : Port} (cmd : Word) (role : Nat) (h : (s.mbxOf p).status = 1) :
      (s.submit p cmd role).mbxOf p = { s.mbxOf p with overrun := true } := by
    rw [State.submit_of_pending cmd role h]
    exact State.mbxOf_setMbx_same s p _
  refine ⟨fun s p cmd role t hpending ht => ?submit, fun s p cmd role t st ws hpending ht => ?finish⟩
  case submit =>
    rw [ht, hsame cmd role hpending, State.submit_of_pending cmd role hpending]
    exact ⟨rfl, fun q hq => State.mbxOf_setMbx_other s p _ hq, Mailbox.statWord_status_one hpending, rfl, rfl, rfl⟩
  case finish =>
    simp only [ht, State.mbxOf_finish_same, hsame cmd role hpending]
    exact ⟨rfl, rfl, rfl, rfl, fun _ => Sparse.get_resList⟩

end Sys2Proof.Machine
end

section
/-!
A firmware update and its confirmation, the settings, and the end of a store of a bank (R580, R583, R588, R591–R601).
-/
namespace Sys2Proof.Machine

section update
variable {s : State}

theorem Job.badStaged_of_fits {a n : Word} {code role claim : Nat} {rest : List Word} (ha : a.toNat ≤ 0xFFFFF)
    (hn : 1 ≤ n.toNat) (hend : a.toNat + stagedWords n.toNat ≤ 0x100000) :
    Job.badStaged ⟨code, a :: n :: rest, role, false, claim⟩ 0 = none := by
  simp [Job.badStaged, Job.arg, ha.not_gt, hend.not_gt, show n.toNat ≠ 0 by omega]
theorem execFwStore_of_asks {p : Port} {a n f : Word} (h : s.asks p 0x20 [a, n, f]) (ha : a.toNat ≤ 0xFFFFF)
    (hn : 1 ≤ n.toNat) (hend : a.toNat + stagedWords n.toNat ≤ 0x100000) (hbusy : s.busyOp = false) :
    execFwStore p s = .next (s.startOp p ⟨0x20, [a, n, f], 3, false, 0⟩) :=
  congrArg Host.Outcome.next (State.command_of_asks h h.served (by simp [hbusy])
    (fun _ _ => by simp [Job.count, Job.badStaged_of_fits ha hn hend]) fun _ _ => rfl)

section verify
variable {o : LongOp} {b : Bytes} (hop : s.mss.op = some o) (hcode : o.code = 0x20) (hstage : o.stage = 0)
  (hmss : s.mss.halted = false) (hb : b = s.staged (o.arg 0) (o.arg 1))
include hop hcode hstage hmss hb

theorem execFwVerifyDone_of_invalid {n : Nat} (hcheck : checkPackage s.flash.anchors b = some n) :
    execFwVerifyDone s = .next (s.endOp stVerifyFail [toWord n]) := by
  subst hb
  simp [execFwVerifyDone, hop, hcode, hstage, hmss, hcheck]

variable (hcheck : checkPackage s.flash.anchors b = none)
include hcheck

theorem execFwVerifyDone_of_below_floor (hfloor : u16 b 0xC < s.bootCtl.minSec) : execFwVerifyDone s =
    .next ((s.fwLog 6 (b2n s.fwTargetB) (pkgVersion b) 0).endOp stBadArgs [0]) := by
  subst hb
  simp [execFwVerifyDone, hop, hcode, hstage, hmss, hcheck, hfloor]
/-- A package that may be stored: an identical one needs no programming, and PFW ends the operation (R588, R596, R597). -/
theorem execFwVerifyDone_of_valid (hfloor : s.bootCtl.minSec ≤ u16 b 0xC) : execFwVerifyDone s = .next (
    let t := s.setMss fun m => { m with pkg := b }
    if (if s.fwTargetB then s.flash.fwB else s.flash.fwA) = b then t.fwCtlStore o
    else if s.pfw then t.endOp stAborted [] else t.setMss fun m => { m with op := some { o with stage := 1 } }) := by
  subst hb
  have htarget : (s.setMss fun m => { m with pkg := s.staged (o.arg 0) (o.arg 1) }).fwTargetB = s.fwTargetB := rfl
  have hpfw : (s.setMss fun m => { m with pkg := s.staged (o.arg 0) (o.arg 1) }).pfw = s.pfw := rfl
  have hstart : ¬ (o.code ≠ 0x20 ∨ o.stage ≠ 0 ∨ s.mss.halted = true) := by simp [hcode, hstage, hmss]
  simp only [execFwVerifyDone, hop, if_neg hstart, hcheck, if_neg hfloor.not_gt, htarget, hpfw, State.setMss_fields]
  split_ifs <;> rfl

end verify

section program
variable {o : LongOp} (hop : s.mss.op = some o) (hcode : o.code = 0x20) (hstage : o.stage = 1) (hmss : s.mss.halted = false)
include hop hcode hstage hmss

theorem execFwProgramDone_of_fail (e : Nat) : execFwProgramDone (some e) s =
    .next ((s.setFlash (·.setFw s.fwTargetB [])).endOp stFlashError [toWord e]) := by
  simp [execFwProgramDone, hop, hcode, hstage, hmss]
theorem execFwProgramDone_of_ok :
    execFwProgramDone none s = .next ((s.setFlash (·.setFw s.fwTargetB s.mss.pkg)).fwCtlStore o) := by
  simp [execFwProgramDone, hop, hcode, hstage, hmss]

end program

section idle
variable (h : s.mss.op = none ∨ s.mss.halted = true)
include h

theorem execFwVerifyDone_of_idle : execFwVerifyDone s = .next s := by
  unfold execFwVerifyDone
  split
  next o hop => exact if_pos (.inr (.inr (h.resolve_left (by simp [hop]))))
  next => rfl
theorem execFwProgramDone_of_idle (e : Option Nat) : execFwProgramDone e s = .next s := by
  unfold execFwProgramDone
  split
  next o hop => exact if_pos (.inr (.inr (h.resolve_left (by simp [hop]))))
  next => rfl

end idle

end update

section confirm
variable {s : State}

/-- A confirmation that is allowed: a firmware that is not on trial is confirmed already, and PFW ends it (R588, R601). -/
theorem execFwConfirm_of_asks {p : Port} (h : s.asks p 0x21 []) (hdev : s.dev = .pitched) (hbusy : s.busyOp = false) :
    execFwConfirm p s = .next (
      if s.fwState ≠ 1 then s.finish p stOK []
      else if s.pfw then s.finish p stAborted []
      else (s.startOp p ⟨0x21, [], 3, false, 0⟩).confirmStart) :=
  congrArg Host.Outcome.next (State.command_of_asks h (decide_eq_true hdev) (by simp [hbusy]) (fun _ _ => rfl)
    fun _ _ => rfl)
theorem execFwConfirmTimer_of_not (h : s.mss.conf < 600000000 ∨ s.fwState ≠ 1 ∨ s.mss.reached = false ∨
    s.mssServes = false ∨ s.busyOp = true ∨ s.mss.store ≠ none ∨ s.pfw = true) : execFwConfirmTimer s = .next s :=
  if_pos (by simpa only [← Option.isSome_iff_ne_none] using h)
theorem execFwConfirmTimer_of_due (hconf : 600000000 ≤ s.mss.conf) (htrial : s.fwState = 1) (hreached : s.mss.reached = true)
    (hserves : s.mssServes = true) (hbusy : s.busyOp = false) (hstore : s.mss.store = none) (hpfw : s.pfw = false) :
    execFwConfirmTimer s = .next s.confirmStart :=
  if_neg (by simp [hconf, htrial, hreached, hserves, hbusy, hstore, hpfw])

end confirm

section settings
variable {s : State} {p : Port}

theorem execSettingRead_of_asks {k : Word} (h : s.asks p 0x30 [k]) (hk : k.toNat ∈ settingIds) :
    execSettingRead p s = .next (s.finish p stOK [toWord (s.setting k.toNat)]) :=
  congrArg Host.Outcome.next (State.command_of_asks h h.served rfl
    (fun _ _ => by simp [Job.count, Job.arg, hk]) fun _ _ => rfl)

section write
variable {k v : Word} (h : s.asks p 0x31 [k, v]) (hk : k.toNat ∈ settingIds)
include h hk

theorem execSettingWrite_of_in_range (hrange : settingRange k.toNat v.toNat = true) (hbusy : s.busyOp = false) :
    execSettingWrite p s = .next ((s.startOp p ⟨0x31, [k, v], 3, false, 0⟩).storeSettings
      { s.settings with vals := Sparse.put s.settings.vals k.toNat v.toNat }) :=
  congrArg Host.Outcome.next (State.command_of_asks h h.served (by simp [hbusy])
    (fun _ _ => by simp [Job.count, Job.arg, hk, hrange]) fun _ _ => rfl)
theorem execSettingWrite_of_out_of_range (hrange : settingRange k.toNat v.toNat = false) :
    execSettingWrite p s = .next (s.finish p stBadArgs [1]) :=
  congrArg Host.Outcome.next (State.command_of_bad_args (k := 1) h
    fun _ _ => by simp [Job.count, Job.arg, hk, hrange])

end write

section push
variable {a n : Word} (h : s.asks p 0x32 [a, n]) (ha : a.toNat ≤ 0xFFFFF) (hn : 1 ≤ n.toNat)
  (hend : a.toNat + stagedWords n.toNat ≤ 0x100000) (hdev : s.dev = .unpitched ∨ s.dev = .maintenance)
  (hbusy : s.busyOp = false)
include h ha hn hend hdev hbusy

/-- SETTINGS_PUSH passes the checks of R580 with a staged string, whatever it makes of the bank. -/
theorem State.pushCommand_of_asks {body : Job → State → State} {t : State}
    (hbody : ∀ role claim, body ⟨0x32, [a, n], role, false, claim⟩ s = t) :
    s.command p 0x32 true (fun j => (j.count 2).or (j.badStaged 0))
      (decide (s.dev = .unpitched) || decide (s.dev = .maintenance)) body = t :=
  State.command_of_asks h (by simpa using hdev) (by simp [hbusy])
    (fun _ _ => by simp [Job.count, Job.badStaged_of_fits ha hn hend]) hbody

theorem execSettingsPush_of_bad (hbank : readBank (s.staged a.toNat n.toNat) = none) :
    execSettingsPush p s = .next (s.finish p stVerifyFail [4]) := by
  refine congrArg Host.Outcome.next (State.pushCommand_of_asks h ha hn hend hdev hbusy fun _ _ => ?_)
  simp [Job.arg, hbank]

variable {y : Settings} (hbank : readBank (s.staged a.toNat n.toNat) = some y)
include hbank

theorem execSettingsPush_of_oxbow (hox : s.mss.run = .oxbow) : execSettingsPush p s = .next (
    let t := (s.startOp p ⟨0x32, [a, n], 3, false, 0⟩).storeOp (.settings y)
    if t.mss.op.isSome = true ∧ t.bootCtl.oxReq = true then
      t.setMss fun m => { m with storeNext := some (.bootCtl { t.bootCtl with oxReq := false }) }
    else t) := by
  refine congrArg Host.Outcome.next (State.pushCommand_of_asks h ha hn hend hdev hbusy fun _ _ => ?_)
  simp only [Job.arg, List.getD_cons_zero, List.getD_cons_succ, hbank, if_pos hox]
  rfl

variable (hfirmware : s.mss.run ≠ .oxbow)
include hfirmware

theorem execSettingsPush_of_unreadable (hschema : readsSchema s.fwBytes y ≠ 0) :
    execSettingsPush p s = .next (s.finish p stVerifyFail [4]) := by
  refine congrArg Host.Outcome.next (State.pushCommand_of_asks h ha hn hend hdev hbusy fun _ _ => ?_)
  simp [Job.arg, hbank, hfirmware, hschema]
theorem execSettingsPush_of_readable (hschema : readsSchema s.fwBytes y = 0) :
    execSettingsPush p s = .next ((s.startOp p ⟨0x32, [a, n], 3, false, 0⟩).storeSettings y) := by
  refine congrArg Host.Outcome.next (State.pushCommand_of_asks h ha hn hend hdev hbusy fun _ _ => ?_)
  simp only [Job.arg, List.getD_cons_zero, List.getD_cons_succ, hbank, if_neg hfirmware, hschema]
  rfl

end push

end settings

section bank
variable {s : State}

theorem execBankStoreDone_of_idle (e : Option Nat) (h : s.mss.store = none ∨ s.mss.halted = true) :
    execBankStoreDone e s = .next s := by
  unfold execBankStoreDone
  split
  next => rfl
  next w hstore => exact if_pos (h.resolve_left (by simp [hstore]))

/-- The state in which a bank has become active: its pair is due for erase, and the changed settings are logged (R583,
R594). -/
def State.bankStored (s : State) (w : StoreWhat) : State :=
  ((s.setFlash (·.mark w)).setMss fun m => { m with store := none, erase := m.erase ||| w.pair }).settingsChanged s.setting

section stored
variable {w : StoreWhat} (hstore : s.mss.store = some w) (hmss : s.mss.halted = false)
include hstore hmss

theorem execBankStoreDone_of_fail (e : Nat) : execBankStoreDone (some e) s =
    .next ((s.setMss fun m => { m with store := none, storeNext := none }).endOp stFlashError [toWord e]) := by
  simp [execBankStoreDone, hstore, hmss]
theorem execBankStoreDone_of_next {w2 : StoreWhat} (hnext : (s.bankStored w).mss.storeNext = some w2) :
    execBankStoreDone none s = .next (((s.bankStored w).setMss fun m => { m with storeNext := none }).storeOp w2) := by
  unfold State.bankStored at *
  simp [execBankStoreDone, hstore, hmss, hnext]

variable (hlast : (s.bankStored w).mss.storeNext = none)
include hlast

theorem execBankStoreDone_of_op {o : LongOp} (hop : (s.bankStored w).mss.op = some o) :
    execBankStoreDone none s = .next ((s.bankStored w).opStored o) := by
  unfold State.bankStored at *
  simp [execBankStoreDone, hstore, hmss, hlast, hop]
theorem execBankStoreDone_of_own (hop : (s.bankStored w).mss.op = none) : execBankStoreDone none s = .next (
    if w.pair = 1 then (s.bankStored w).fwLog 3 (s.bankStored w).mss.run.code (s.bankStored w).fwVersion 2
    else s.bankStored w) := by
  unfold State.bankStored at *
  simp only [execBankStoreDone, hstore, hmss, Bool.false_eq_true, if_false, hlast, hop]
  cases w <;> rfl

end stored

theorem execBankEraseDone_of_not (h : s.mss.halted = true ∨ s.mss.store ≠ none) : execBankEraseDone s = .next s :=
  if_pos (h.imp_right Option.isSome_iff_ne_none.mpr)
theorem execBankEraseDone_of_idle (hmss : s.mss.halted = false) (hstore : s.mss.store = none) :
    execBankEraseDone s = .next ((s.setFlash (·.erased s.mss.erase)).setMss fun m => { m with erase := 0 }) :=
  if_neg (by simp [hmss, hstore])

end bank

/-- Settles O58: each command by the checks of R580 and its body, the end of a step by the guards of its row. -/
theorem firmwareStores : Obligations.FirmwareStores := by
  refine ⟨fun _ _ _ _ _ h ha hn hend hbusy => ⟨3, 0, execFwStore_of_asks h ha hn hend hbusy⟩,
    fun _ _ _ hop hcode hstage hmss hb => ⟨fun _ => execFwVerifyDone_of_invalid hop hcode hstage hmss hb,
      execFwVerifyDone_of_below_floor hop hcode hstage hmss hb, execFwVerifyDone_of_valid hop hcode hstage hmss hb⟩,
    fun _ _ hop hcode hstage hmss => ⟨execFwProgramDone_of_fail hop hcode hstage hmss,
      execFwProgramDone_of_ok hop hcode hstage hmss⟩,
    fun _ e h => ⟨execFwVerifyDone_of_idle h, execFwProgramDone_of_idle h e⟩,
    fun s p h hdev hbusy => ?confirm, fun _ => ⟨execFwConfirmTimer_of_not, execFwConfirmTimer_of_due⟩,
    fun _ _ _ => execSettingRead_of_asks,
    fun _ _ _ _ h hk hrange hbusy => ⟨3, 0, execSettingWrite_of_in_range h hk hrange hbusy⟩,
    fun _ _ _ _ => execSettingWrite_of_out_of_range, fun s p a n x h ha hn hend hdev hbusy hx => ?push,
    fun _ => execBankStoreDone_of_idle,
    fun s w hstore hmss => ⟨execBankStoreDone_of_fail hstore hmss, fun t ht => ?stored⟩,
    fun _ => ⟨execBankEraseDone_of_not, execBankEraseDone_of_idle⟩⟩
  case confirm =>
    have hexec : exec (.fwConfirm p) s = _ := execFwConfirm_of_asks h hdev hbusy
    rw [hexec]
    refine ⟨fun htrial => ?_, fun htrial hpfw => ?_, fun htrial hpfw => ⟨3, 0, ?_⟩⟩
    · rw [if_pos htrial]
    · rw [if_neg (not_not.mpr htrial), if_pos hpfw]
    · rw [if_neg (not_not.mpr htrial), if_neg (by simp [hpfw])]
  case push =>
    subst hx
    exact ⟨execSettingsPush_of_bad h ha hn hend hdev hbusy,
      fun _ => execSettingsPush_of_unreadable h ha hn hend hdev hbusy,
      fun _ hbank hfirmware hschema => ⟨3, 0, execSettingsPush_of_readable h ha hn hend hdev hbusy hbank hfirmware hschema⟩,
      fun _ hbank hox => ⟨3, 0, execSettingsPush_of_oxbow h ha hn hend hdev hbusy hbank hox⟩⟩
  case stored =>
    obtain rfl : t = s.bankStored w := ht
    exact ⟨fun _ => execBankStoreDone_of_next hstore hmss, fun _ hlast => execBankStoreDone_of_op hstore hmss hlast,
      execBankStoreDone_of_own hstore hmss⟩

end Sys2Proof.Machine
end

section
/-!
The test access port: an instruction loaded and what Capture-DR then takes, the boundary and island select registers, and the
island scan register bit by bit (R639–R648).
-/
namespace Sys2Proof.Machine

section load
variable (s : State) (ir : Nat)

theorem State.tap_taint (old : List (Nat × Word)) (as : List Nat) : (s.taint old as).tap = s.tap := by
  induction as generalizing s with
  | nil => rfl
  | cons a as ih =>
    unfold State.taint
    split
    · exact ih s
    · exact ih _
/-- The end of a test leaves of the port's own registers all but what it kept of the lands (R643). -/
theorem State.tap_testEnd : s.testEnd.tap = { s.tap with before := none } := by
  unfold State.testEnd
  split
  next hnone => rw [← hnone]
  next => rw [State.tap_taint]; rfl
theorem State.tap_scanOff : s.scanOff.tap = s.tap := by
  unfold State.scanOff
  split <;> rfl
/-- The instruction that is loaded is in force, and Capture-DR takes the device ID with IDCODE, and else 0 (R640, R641). -/
theorem State.tap_loadIr : (s.loadIr ir).tap.ir = ir ∧ (s.loadIr ir).tap.idr = if ir = 2 then 0x1328074B else 0 := by
  dsimp only [State.loadIr]
  generalize (if s.tap.ir = 0x21 ∧ ir ≠ 0x21 then s.scanOff else s) = u
  by_cases htest : testIr ir = true
  · rw [if_pos htest]
    split <;> exact ⟨rfl, rfl⟩
  · rw [if_neg htest]
    split
    · rw [State.tap_testEnd]
      exact ⟨rfl, rfl⟩
    · exact ⟨rfl, rfl⟩
theorem State.capture_idcode : (s.loadIr 2).drLen = 32 ∧ (s.loadIr 2).drCapture = 0x1328074B := by
  obtain ⟨hir, hidr⟩ := s.tap_loadIr 2
  simp [State.drLen, State.drCapture, hir, hidr]
theorem State.capture_bypass : (s.loadIr 0xFF).drLen = 1 ∧ (s.loadIr 0xFF).drCapture = 0 := by
  obtain ⟨hir, hidr⟩ := s.tap_loadIr 0xFF
  simp [State.drLen, State.drCapture, hir, hidr]

section plain
variable {s ir} (hwas : testIr s.tap.ir = false) (hscan : s.tap.ir ≠ 0x21)
include hwas hscan

theorem State.loadIr_of_plain (h : testIr ir = false) :
    s.loadIr ir = { s with tap := { s.tap with ir := ir, idr := if ir = 2 then 0x1328074B else 0 } } := by
  simp only [State.loadIr, hscan, false_and, if_false, hwas, h, Bool.false_eq_true]
  rfl
theorem State.loadIr_of_test (h : testIr ir = true) :
    s.loadIr ir = { s with tap := { s.tap with ir := ir, idr := 0, before := some s.regs } } := by
  have hid : ir ≠ 2 := fun e => by simp [e, testIr] at h
  simp only [State.loadIr, hscan, false_and, if_false, hwas, h, Bool.false_eq_true, if_true, hid]
  rfl

end plain

end load

section instruction
variable {s : State}

theorem State.shiftIr_of_unpowered (ir : Nat) (hoff : s.tapPowered = false) : s.shiftIr ir = s := if_neg (by simp [hoff])

/-- The state after a Capture-IR, which takes TESTEN beside the fixed bits (R640). -/
def State.irCaptured (s : State) : State :=
  { s with tap := { s.tap with irc := 1 + 4 * b2n (s.bit SYS_STRAPS 4) } }

variable (hon : s.tapPowered = true)
include hon

theorem State.shiftIr_of_powered (ir : Nat) : s.shiftIr ir = s.irCaptured.loadIr ir := if_pos hon
theorem State.shiftTest_of_powered (ir : Nat) : s.shiftTest ir =
    if s.bit SYS_STRAPS 4 then s.irCaptured.loadIr ir else s.irCaptured.loadIr 0xFF := by
  rw [State.shiftTest, State.shiftIr_of_powered hon, apply_ite s.irCaptured.loadIr]
  rfl
theorem execTapReset_of_powered : execTapReset s = .next (s.loadIr 2) := congrArg Host.Outcome.next (if_pos hon)

end instruction

section registers
variable {s : State} (n : Nat)

theorem State.boundarySel_of_not (h : s.tapPowered = false ∨ 1 < s.tap.ir) : s.boundarySel = false := by
  rcases h with h | h <;> simp [State.boundarySel, h]

section boundary
variable (hon : s.tapPowered = true) (hir : s.tap.ir ≤ 1)
include hon hir

theorem execBoundaryCapture_of_selected : execBoundaryCapture n s =
    .next { s with tap := { s.tap with bcap := n % 2 ^ 179 } } :=
  congrArg Host.Outcome.next (if_pos (by simp [State.boundarySel, hon, hir]))
theorem execBoundaryUpdate_of_selected : execBoundaryUpdate n s =
    .next { s with tap := { s.tap with bnd := n % 2 ^ 179 } } :=
  congrArg Host.Outcome.next (if_pos (by simp [State.boundarySel, hon, hir]))

end boundary

theorem execBoundaryCapture_of_not (h : s.tapPowered = false ∨ 1 < s.tap.ir) : execBoundaryCapture n s = .next s :=
  congrArg Host.Outcome.next (if_neg (by simp [State.boundarySel_of_not h]))
theorem execBoundaryUpdate_of_not (h : s.tapPowered = false ∨ 1 < s.tap.ir) : execBoundaryUpdate n s = .next s :=
  congrArg Host.Outcome.next (if_neg (by simp [State.boundarySel_of_not h]))

theorem execIslSelUpdate_of_selected (hon : s.tapPowered = true) (hir : s.tap.ir = 0x20) : execIslSelUpdate n s =
    .next ((if n.testBit 3 then s else s.scanOff).setTap fun t => { t with sel := n % 16 }) :=
  if_neg (by simp [hon, hir])
theorem execIslSelUpdate_of_not (h : s.tapPowered = false ∨ s.tap.ir ≠ 0x20) : execIslSelUpdate n s = .next s := if_pos h

section scan
variable {i : Fin 8} (hon : s.tapPowered = true) (hir : s.tap.ir = 0x21) (hisl : s.scanIsl = some i)
include hon hir hisl

theorem execIslandScanCapture_of_seen {w : Word} (hobs : (s.isl i).obs = some w) : execIslandScanCapture s =
    .next (s.setTap fun t => { t with icap := scanWord (s.bit (ISL i 0) 0) w.toNat (s.isl i).drives }) := by
  simp [execIslandScanCapture, hon, hir, hisl, hobs]
theorem execIslandScanCapture_of_unseen (hobs : (s.isl i).obs = none) : execIslandScanCapture s =
    .next (s.freeWord.2.setTap fun t =>
      { t with icap := scanWord (s.bit (ISL i 0) 0) s.freeWord.1.toNat (s.isl i).drives }) := by
  simp only [execIslandScanCapture, hisl, hobs]
  exact if_neg (by simp [hon, hir])
theorem execIslandScanUpdate_of_selected : execIslandScanUpdate n s =
    .next (s.setIsl i fun x => { x with scanDue := true, scanData := scanDrives n }) := by
  simp only [execIslandScanUpdate, hisl, hon, hir, and_self, if_true]
  rfl

end scan

section unselected
variable (h : s.tapPowered = false ∨ s.tap.ir ≠ 0x21 ∨ s.scanIsl = none)
include h

theorem execIslandScanCapture_of_not : execIslandScanCapture s = .next s := by
  unfold execIslandScanCapture
  split
  next => rfl
  next i hisl => exact if_pos (h.imp_right fun h => h.resolve_right (by simp [hisl]))
theorem execIslandScanUpdate_of_not : execIslandScanUpdate n s = .next s := by
  unfold execIslandScanUpdate
  split
  next => rfl
  next i hisl =>
    refine congrArg Host.Outcome.next (if_neg ?_)
    rintro ⟨hon, hir⟩
    simp [hon, hir, hisl] at h

end unselected

end registers

section scanWord
variable (locked : Bool) (item drv : Nat)

/-- The three bits of one island land in the scan register: its observation and its drive field (R645). -/
def scanField (j : Nat) : Nat := b2n (locked && item.testBit j) + drv / 4 ^ j % 4 * 2
/-- The scan register up to the bits of its first n lands. -/
def scanPart (n : Nat) : Nat := b2n locked + 2 * b2n (item.testBit 12) + 4 * b2n (item.testBit 13) +
  (List.range n).foldl (fun n j =>
    n + b2n (locked && item.testBit j) * 2 ^ (4 + 3 * j) + drv / 4 ^ j % 4 * 2 ^ (5 + 3 * j)) 0

theorem testBit_b2n (b : Bool) : (b2n b).testBit 0 = b := by cases b <;> rfl
theorem scanField_lt (j : Nat) : scanField locked item drv j < 8 := by
  have := b2n_lt_two (locked && item.testBit j)
  unfold scanField
  omega
theorem scanPart_zero_lt : scanPart locked item drv 0 < 8 := by
  have := b2n_lt_two locked
  have := b2n_lt_two (item.testBit 12)
  have := b2n_lt_two (item.testBit 13)
  simp only [scanPart, List.range_zero, List.foldl_nil]
  omega
theorem scanPart_succ (n : Nat) : scanPart locked item drv (n + 1) =
    2 ^ (4 + 3 * n) * scanField locked item drv n + scanPart locked item drv n := by
  simp only [scanPart, scanField, List.range_succ, List.foldl_append, List.foldl_cons, List.foldl_nil]
  ring
theorem scanPart_lt (n : Nat) : scanPart locked item drv n < 2 ^ (4 + 3 * n) := by
  induction n with
  | zero => have := scanPart_zero_lt locked item drv; omega
  | succ n ih =>
    have hfield := scanField_lt locked item drv n
    rw [scanPart_succ]
    calc 2 ^ (4 + 3 * n) * scanField locked item drv n + scanPart locked item drv n
        < 2 ^ (4 + 3 * n) * 7 + 2 ^ (4 + 3 * n) := by nlinarith
      _ = 2 ^ (4 + 3 * (n + 1)) := by ring
/-- A land's bits stay where they are when later lands' bits are added above them. -/
theorem testBit_scanPart {n j e : Nat} (hj : j < n) (he : e < 3) :
    (scanPart locked item drv n).testBit (4 + 3 * j + e) = (scanField locked item drv j).testBit e := by
  induction n with
  | zero => omega
  | succ n ih =>
    rw [scanPart_succ, Nat.testBit_two_pow_mul_add _ (scanPart_lt locked item drv n)]
    by_cases h : j < n
    · rw [if_pos (by omega), ih h]
    · obtain rfl : j = n := by omega
      rw [if_neg (by omega), Nat.add_sub_cancel_left]
theorem testBit_zero_scanPart (n : Nat) : (scanPart locked item drv n).testBit 0 = locked := by
  induction n with
  | zero =>
    have hlow : scanPart locked item drv 0 % 2 = b2n locked := by
      have := b2n_lt_two locked
      simp only [scanPart, List.range_zero, List.foldl_nil]
      omega
    rw [Nat.testBit_zero, hlow]
    cases locked <;> rfl
  | succ n ih => rw [scanPart_succ, Nat.testBit_two_pow_mul_add _ (scanPart_lt locked item drv n), if_pos (by omega), ih]

theorem testBit_scanField (j : Nat) : (scanField locked item drv j).testBit 0 = (locked && item.testBit j) ∧
    (scanField locked item drv j).testBit 1 = drv.testBit (2 * j) ∧
    (scanField locked item drv j).testBit 2 = drv.testBit (2 * j + 1) := by
  have hbit := b2n_lt_two (locked && item.testBit j)
  have hfield : scanField locked item drv j = 2 ^ 1 * (drv / 2 ^ (2 * j) % 2 ^ 2) + b2n (locked && item.testBit j) := by
    rw [scanField, Nat.pow_mul, show 2 ^ 2 = 4 from rfl]
    omega
  have hbits (e : Nat) := Nat.testBit_two_pow_mul_add (i := 1) (drv / 2 ^ (2 * j) % 2 ^ 2) hbit e
  simp only [hfield, hbits]
  refine ⟨testBit_b2n _, ?_, ?_⟩
  · rw [if_neg (by decide), Nat.testBit_mod_two_pow, Nat.testBit_div_two_pow]
    simp
  · rw [if_neg (by decide), Nat.testBit_mod_two_pow, Nat.testBit_div_two_pow, Nat.add_comm 1]
    simp

end scanWord

/-- Settles O60: each row by its guard, an instruction by what it leaves of the port, the scan word bit by bit. -/
theorem tapSteps : Obligations.TapSteps := by
  refine ⟨fun s u hon hu => ?load, fun s t hon ht => ?idcode, fun s t hon ht => ?bypass, fun s i hoff hi => ?unpowered,
    fun s ir => (s.tap_loadIr ir).1, fun _ _ h hwas hscan => State.loadIr_of_plain hwas hscan h,
    fun _ _ h hwas hscan => State.loadIr_of_test hwas hscan h,
    fun _ n hon hir => ⟨execBoundaryCapture_of_selected n hon hir, execBoundaryUpdate_of_selected n hon hir⟩,
    fun _ n h => ⟨execBoundaryCapture_of_not n h, execBoundaryUpdate_of_not n h⟩,
    fun _ => execIslSelUpdate_of_selected, fun _ => execIslSelUpdate_of_not,
    fun _ _ _ hon hir hisl => execIslandScanCapture_of_seen hon hir hisl, fun _ _ => execIslandScanCapture_of_unseen,
    fun _ _ n => execIslandScanUpdate_of_selected n,
    fun _ n h => ⟨execIslandScanCapture_of_not h, execIslandScanUpdate_of_not n h⟩, fun locked item drv j => ?scan⟩
  case load =>
    obtain rfl : u = s.irCaptured := hu
    have hshift (ir : Nat) : (.next (s.shiftIr ir) : Res) = .next (s.irCaptured.loadIr ir) :=
      congrArg Host.Outcome.next (State.shiftIr_of_powered hon ir)
    refine ⟨execTapReset_of_powered hon, hshift 2, hshift 1, hshift 0xFF, fun i ir hi => ?_⟩
    have htest : (.next (s.shiftTest ir) : Res) =
        .next (if s.bit SYS_STRAPS 4 then s.irCaptured.loadIr ir else s.irCaptured.loadIr 0xFF) :=
      congrArg Host.Outcome.next (State.shiftTest_of_powered hon ir)
    simp only [List.mem_cons, Prod.mk.injEq, List.not_mem_nil, or_false] at hi
    rcases hi with ⟨rfl, rfl⟩ | ⟨rfl, rfl⟩ | ⟨rfl, rfl⟩ | ⟨rfl, rfl⟩ | ⟨rfl, rfl⟩ <;> exact htest
  case idcode =>
    rcases ht with ht | ht
    · obtain rfl : s.loadIr 2 = t := Host.Outcome.next.inj ((execTapReset_of_powered hon).symm.trans ht)
      exact s.capture_idcode
    · obtain rfl : s.irCaptured.loadIr 2 = t := (State.shiftIr_of_powered hon 2).symm.trans (Host.Outcome.next.inj ht)
      exact s.irCaptured.capture_idcode
  case bypass =>
    obtain rfl : s.irCaptured.loadIr 0xFF = t := (State.shiftIr_of_powered hon 0xFF).symm.trans (Host.Outcome.next.inj ht)
    exact s.irCaptured.capture_bypass
  case unpowered =>
    have hstay (ir : Nat) : (.next (s.shiftIr ir) : Res) = .next s :=
      congrArg Host.Outcome.next (State.shiftIr_of_unpowered ir hoff)
    simp only [List.mem_cons, List.not_mem_nil, or_false] at hi
    rcases hi with rfl | rfl | rfl | rfl | rfl | rfl | rfl | rfl | rfl
    · exact congrArg Host.Outcome.next (if_neg (by simp [hoff]))
    all_goals exact hstay _
  case scan =>
    obtain ⟨hobs, hlow, hhigh⟩ := testBit_scanField locked item drv j.val
    have hbit (e : Nat) (he : e < 3) := testBit_scanPart locked item drv j.isLt he
    refine ⟨testBit_zero_scanPart locked item drv 12, (hbit 0 (by decide)).trans hobs, ?_, ?_⟩
    · rw [← hlow, ← hbit 1 (by decide), show 4 + 3 * j.val + 1 = 5 + 3 * j.val by omega]
      rfl
    · rw [← hhigh, ← hbit 2 (by decide), show 4 + 3 * j.val + 2 = 6 + 3 * j.val by omega]
      rfl

end Sys2Proof.Machine
end

section
/-!
The upkeep of the MSS: the scrub and the repair of configuration SRAM, sensors, the log's flush and the load check
(R570–R572, R576, R588, R589, R625).
-/
namespace Sys2Proof.Machine

section scrub
variable {s : State}

/-- The last word of configuration SRAM ends a pass of the scrub, which SYS_CFG_STAT counts (R570). -/
def State.scrubPass (s : State) (a : Nat) : State :=
  if a = 65535 then s.setFld SYS_CFG_STAT 23 8 (s.fld SYS_CFG_STAT 23 8 + 1) else s
theorem State.cfg_cfgUe (s : State) (a : Nat) : (s.cfgUe a).cfg = { s.cfg with seen := s.cfg.seen ++ [a] } := by
  simp [State.cfgUe, State.cfgEcc]

section word
variable (addr : Nat) {ecc : Nat} (hon : s.scrubOn = true) (hawake : s.asleep = false)
include hon hawake

theorem execCfgScrubWord_of_corrected (hecc : ecc = 1) :
    execCfgScrubWord addr ecc s = .next ((s.scrubPass (addr % 65536)).bump SYS_CFG_CE) :=
  (if_neg (by simp [hon, hawake])).trans (if_pos hecc)
theorem execCfgScrubWord_of_good (h1 : ecc ≠ 1) (h2 : ecc ≠ 2) :
    execCfgScrubWord addr ecc s = .next (s.scrubPass (addr % 65536)) :=
  (if_neg (by simp [hon, hawake])).trans ((if_neg h1).trans (if_pos h2))

variable (hecc : ecc = 2)
include hecc

theorem execCfgScrubWord_of_seen
    (hseen : (s.scrubPass (addr % 65536)).cfg.seen.contains (addr % 65536) = true) :
    execCfgScrubWord addr ecc s = .next (s.scrubPass (addr % 65536)) :=
  (if_neg (by simp [hon, hawake])).trans ((if_neg (by omega)).trans ((if_neg (by omega)).trans (if_pos hseen)))
/-- An uncorrectable word is reported once, and its region is damaged, or is to be repaired (R571). -/
theorem execCfgScrubWord_of_new
    (hseen : (s.scrubPass (addr % 65536)).cfg.seen.contains (addr % 65536) = false) :
    execCfgScrubWord addr ecc s = .next (
      let t := s.scrubPass (addr % 65536)
      let u := t.cfgUe (addr % 65536)
      let r := t.cfgRegion (addr % 65536)
      let damaged := u.setCfg fun c => { c with bad := if c.bad.contains r then c.bad else c.bad ++ [r] }
      if u.cfgPitching then damaged else if r = 0xA0 then damaged.safeCause 1 (u.reg SYS_CFG_LAST)
      else if t.cfg.bad.contains r ∨ t.cfg.repair.contains r then u
      else u.setCfg fun c => { c with repair := c.repair ++ [r] }) := by
  refine (if_neg (by simp [hon, hawake])).trans ((if_neg (by omega)).trans ((if_neg (by omega)).trans ?_))
  refine (if_neg (ne_true_of_eq_false hseen)).trans ?_
  simp only [apply_ite Host.Outcome.next, State.cfg_cfgUe]
  rfl

end word

section repair
variable (ue : Option Nat)

theorem execCfgRepairDone_of_idle (h : s.cfg.repair = [] ∨ s.mss.run = .none ∨ s.mss.halted = true) :
    execCfgRepairDone ue s = .next s := by
  unfold execCfgRepairDone
  split
  next => rfl
  next r rest hrepair => exact if_pos (h.resolve_left (by simp [hrepair]))

/-- The repair of a region has failed: it stays damaged (R571). -/
def State.repairFailed (s : State) (r : Nat) (rest : List Nat) : State :=
  (s.setCfg fun c => { c with repair := rest, bad := c.bad ++ [r], again := false }).cfgEcc r (s.fld SYS_CFG_LAST 15 0) 2

variable {r : Nat} {rest : List Nat} (hrepair : s.cfg.repair = r :: rest) (hrun : s.mss.run ≠ .none)
  (hmss : s.mss.halted = false)
include hrepair hrun hmss

theorem execCfgRepairDone_of_lost (hsource : s.repairable r = false) :
    execCfgRepairDone ue s = .next (s.repairFailed r rest) := by
  simp [execCfgRepairDone, hrepair, hrun, hmss, hsource, State.repairFailed]

variable (hsource : s.repairable r = true)
include hsource

theorem execCfgRepairDone_of_repaired : execCfgRepairDone none s = .next (((s.cfgRewritten r).setCfg fun c =>
    { c with repair := rest, again := false }).cfgEcc r (s.fld SYS_CFG_LAST 15 0) 1) := by
  simp [execCfgRepairDone, hrepair, hrun, hmss, hsource]
theorem execCfgRepairDone_of_error (a : Nat) : execCfgRepairDone (some a) s = .next (
    if (s.cfgUe a).cfg.again then (s.cfgUe a).repairFailed r rest
    else (s.cfgUe a).setCfg fun c => { c with again := true }) := by
  simp [execCfgRepairDone, hrepair, hrun, hmss, hsource, State.repairFailed]

end repair

end scrub

section monitor
variable {s : State}

section sensor
variable {n : Fin 24} (m l h : Nat) (hrun : s.mssRuns = true) (hn : n.val ≠ 7)
include hrun hn

theorem execSensorUpdate_of_lost (hlost : s.sensLost n = true) :
    execSensorUpdate n m l h s = .next (s.setBit (SYS_SENS n) 16 false) :=
  (if_neg (by simp [hrun, hn])).trans (if_pos hlost)
theorem execSensorUpdate_of_present (hlost : s.sensLost n = false) : execSensorUpdate n m l h s =
    .next ((s.setReg (SYS_SENS n) (sensWord m)).setMss fun x => { x with
      sensMin := updV x.sensMin n fun w => sensLow n w (sensWord l)
      sensMax := updV x.sensMax n fun w => sensHigh n w (sensWord h) }) :=
  (if_neg (by simp [hrun, hn])).trans (if_neg (by simp [hlost]))

end sensor

theorem execLogFlush_of_pfw (hpfw : s.pfw = true) : execLogFlush s = .next s := if_pos (.inr hpfw)
theorem execLogFlush_of_running (hrun : s.mssRuns = true) (hpfw : s.pfw = false) :
    execLogFlush s = .next ((s.logStore.logLost false).logLost true) :=
  if_neg (by simp [hrun, hpfw])

end monitor

/-- Settles O52: each row by its guards, a scrubbed word by what its read found. -/
theorem upkeep : Obligations.Upkeep := by
  refine ⟨fun s addr ecc a hon hawake ha => ?scrub, fun _ => execCfgRepairDone_of_idle,
    fun _ _ _ hrepair hrun hmss => ⟨fun hsource ue => execCfgRepairDone_of_lost ue hrepair hrun hmss hsource,
      execCfgRepairDone_of_repaired hrepair hrun hmss, execCfgRepairDone_of_error hrepair hrun hmss⟩,
    fun _ _ m l h hrun hn => ⟨execSensorUpdate_of_lost m l h hrun hn, execSensorUpdate_of_present m l h hrun hn⟩,
    fun _ hrun => ⟨execLogFlush_of_pfw, execLogFlush_of_running hrun⟩, fun _ => ⟨rfl, rfl, rfl⟩,
    fun s hrun => if_neg (by simp [hrun])⟩
  subst ha
  exact ⟨execCfgScrubWord_of_corrected addr hon hawake, execCfgScrubWord_of_good addr hon hawake,
    execCfgScrubWord_of_seen addr hon hawake, execCfgScrubWord_of_new addr hon hawake⟩

end Sys2Proof.Machine
end

section
/-!
The quadrature counter at the island: one edge of A and B, the times of its edges, and their field (R449, R451, R464).
-/
namespace Sys2Proof.Machine

section step
variable {mode : Nat} {inv a b a' b' : Bool}

theorem quadStep_of_both (ha : a ≠ a') (hb : b ≠ b') : quadStep mode inv a b a' b' = none :=
  if_pos (.inl ⟨ha, hb⟩)
theorem quadStep_of_uncounted (h : (mode = 0 ∧ (!(a' && !a)) = true) ∨ (mode = 1 ∧ a = a')) :
    quadStep mode inv a b a' b' = none :=
  ite_eq_left_iff.mpr fun _ => if_pos h
theorem quadStep_rising (h : quadStep 0 inv a b a' b' ≠ none) : a = false ∧ a' = true := by
  have hcount : ¬ (!(a' && !a)) = true := fun hnot => h (quadStep_of_uncounted (.inl ⟨rfl, hnot⟩))
  simpa [and_comm] using hcount
theorem quadStep_changing (h : quadStep 1 inv a b a' b' ≠ none) : a ≠ a' :=
  fun hsame => h (quadStep_of_uncounted (.inr ⟨rfl, hsame⟩))
theorem quadStep_unit (h : quadStep mode inv a b a' b' ≠ none) :
    quadStep mode inv a b a' b' = some 1 ∨ quadStep mode inv a b a' b' = some (-1) := by
  unfold quadStep at h ⊢
  dsimp only at h ⊢
  split at h
  · exact absurd rfl h
  next hone =>
    rw [if_neg hone]
    split at h
    · exact absurd rfl h
    next hcount =>
      rw [if_neg hcount]
      exact (ite_eq_or_eq _ (1 : Int) (-1)).imp (congrArg some) (congrArg some)

theorem quadLevels_add (n d : Int) : quadLevels (n + d) = quadLevels (n % 4 + d) := by
  simp [quadLevels, Int.emod_add_emod]
/-- With every edge counted, a step of the quadrature counts its direction, or against it with INVERT (R449). -/
theorem quadStep_quadLevels (inv : Bool) {n d : Int} (hd : d = 1 ∨ d = -1) : quadStep 2 inv (quadLevels n).1 (quadLevels n).2
    (quadLevels (n + d)).1 (quadLevels (n + d)).2 = some (if inv = true then -d else d) := by
  have hphase : n % 4 = 0 ∨ n % 4 = 1 ∨ n % 4 = 2 ∨ n % 4 = 3 := by omega
  have hn : quadLevels n = quadLevels (n % 4 + 0) := by rw [← quadLevels_add, Int.add_zero]
  rw [hn, quadLevels_add n d]
  rcases hphase with h | h | h | h
  all_goals
    rw [h]
    rcases hd with rfl | rfl
    all_goals cases inv <;> rfl

end step

section pulse
variable {p : Pulse} {x : Isl} {q : QuadUse} (hz : q.z = none)
include hz

theorem Isl.quadPulse_of_step {d : Int} (hstep : quadStep q.mode q.inv (x.cells[q.a.val].filt.testBit 0)
    (x.cells[q.b.val].filt.testBit 0) (p.fa.testBit q.a.val) (p.fa.testBit q.b.val) = some d) :
    (Isl.quadPulse p x q).cells[q.a.val].pul = x.cells[q.a.val].pul.edge d (x.tickPrev + (p.at0 + 2) / 4) := by
  have hone : ¬ (x.cells[q.a.val].filt.testBit 0 ≠ p.fa.testBit q.a.val ∧
      x.cells[q.b.val].filt.testBit 0 ≠ p.fa.testBit q.b.val) := fun ⟨ha, hb⟩ => by
    rw [quadStep_of_both ha hb] at hstep
    cases hstep
  simp only [Isl.quadPulse, hz, hstep, if_neg hone, Isl.setCell, updV, Vector.getElem_set_self]
theorem Isl.quadPulse_of_both (ha : p.fa.testBit q.a.val ≠ x.cells[q.a.val].filt.testBit 0)
    (hb : p.fa.testBit q.b.val ≠ x.cells[q.b.val].filt.testBit 0) :
    (Isl.quadPulse p x q).cells[q.a.val].pul = { x.cells[q.a.val].pul with qerr := true } := by
  simp only [Isl.quadPulse, hz, if_pos (And.intro ha.symm hb.symm), Isl.setCell, updV, Vector.getElem_set_self]
theorem Isl.quadPulse_cnt {n d : Int} (hmode : q.mode = 2) (hd : d = 1 ∨ d = -1)
    (hold : (x.cells[q.a.val].filt.testBit 0, x.cells[q.b.val].filt.testBit 0) = quadLevels n)
    (hnew : (p.fa.testBit q.a.val, p.fa.testBit q.b.val) = quadLevels (n + d)) :
    ((Isl.quadPulse p x q).cells[q.a.val].pul.cnt : Int) =
      ((x.cells[q.a.val].pul.cnt : Int) + (if q.inv = true then -d else d)) % 65536 := by
  have hstep := quadStep_quadLevels q.inv (n := n) hd
  rw [← hold, ← hnew, ← hmode] at hstep
  rw [Isl.quadPulse_of_step hz hstep]
  exact Int.toNat_of_nonneg (Int.emod_nonneg _ (by decide))

end pulse

section times
variable {p : PulseCnt} {d : Int} (t : Nat)

theorem PulseCnt.edge_times_of_reversal (h : p.fwd ≠ decide (0 < d)) : (p.edge d t).times = [t] :=
  if_neg (Ne.symm h)
theorem PulseCnt.interval_of_reversal (h : p.fwd ≠ decide (0 < d)) (n : Nat) : (p.edge d t).interval n = none := by
  simp [PulseCnt.interval, PulseCnt.edge_times_of_reversal t h]

variable (hdir : p.fwd = decide (0 < d))
include hdir

theorem PulseCnt.edge_times : (p.edge d t).times = (t :: p.times).take 65 := if_pos hdir.symm
theorem PulseCnt.interval_edge {n : Nat} (htimes : p.times ≠ []) (h1 : 1 ≤ n) (h64 : n ≤ 64) : (p.edge d t).interval n =
    some (t - p.times.getD (min n p.times.length - 1) 0, min n p.times.length) := by
  obtain ⟨u, us, hus⟩ := List.exists_cons_of_ne_nil htimes
  obtain ⟨k, hk⟩ : ∃ k, min n p.times.length = k + 1 := Nat.exists_eq_add_of_le' (by simp [hus]; omega)
  have hlen : min n (((t :: p.times).take 65).length - 1) = k + 1 := by
    simp only [List.length_take, List.length_cons]
    omega
  have hget : ((t :: p.times).take 65)[k + 1]? = some (p.times.getD k 0) := by
    rw [List.getElem?_take_of_lt (by omega), List.getElem?_cons_succ, List.getD_eq_getElem?_getD,
      List.getElem?_eq_getElem (by omega)]
    rfl
  rw [PulseCnt.interval, PulseCnt.edge_times t hdir, hlen, hget, hk]
  rfl

end times

theorem spanField_of_ticks {t : Nat} (k : Nat) (h : t ≤ 131071) : spanField (some (t, k)) = t + 262144 * (k - 1) := if_pos h
theorem spanField_of_units {t : Nat} (k : Nat) (hlo : 131071 < t) (hhi : t ≤ 131071 * 64) :
    spanField (some (t, k)) = (t + 32) / 64 + 131072 + 262144 * (k - 1) :=
  (if_neg (by omega)).trans (if_pos hhi)
theorem spanField_of_beyond {t : Nat} (k : Nat) (h : 131071 * 64 < t) : spanField (some (t, k)) = 0 :=
  (if_neg (by omega)).trans (if_neg (by omega))

end Sys2Proof.Machine
end

section
/-!
The events of an axis at the hub: home input, homing timeout, limit release, standstill, an SSI word and the snapshots; and
the ledger's escalation (R456, R465, R470, R474, R475, R480, R499).
-/
namespace Sys2Proof.Machine

section axis
variable {s : State} {a : Fin 8}

theorem execHomeDebounce_of_on (b : Bool) (hon : s.axisOn a = true) : execHomeDebounce a b s =
    .next (((s.setAxis a fun x => { x with home := b }).setBit (POS a 0xE) 5 b).homeEval a) :=
  congrArg Host.Outcome.next (if_pos hon)
theorem execHomeDebounce_of_off (b : Bool) (hoff : s.axisOn a = false) : execHomeDebounce a b s = .next s :=
  congrArg Host.Outcome.next (if_neg (by simp [hoff]))
theorem execStandstillTimeout_of_on (hon : s.axisOn a = true) : execStandstillTimeout a s =
    .next ((((s.setReg (POS a 6) 0).setReg (POS a 7) 0xFFFFFF).setReg (POS a 8) 0).setBit (POS a 2) 5 true) :=
  congrArg Host.Outcome.next (if_pos hon)
theorem execStandstillTimeout_of_off (hoff : s.axisOn a = false) : execStandstillTimeout a s = .next s :=
  congrArg Host.Outcome.next (if_neg (by simp [hoff]))
theorem execHomingTimeout_of_idle (h : s.homeState a = 0 ∨ s.homeState a = 9) : execHomingTimeout a s = .next s :=
  congrArg Host.Outcome.next (if_pos h)
theorem execHomingTimeout_of_run (h0 : s.homeState a ≠ 0) (h9 : s.homeState a ≠ 9) : execHomingTimeout a s =
    .next ((s.setFld (POS a 0xF) 3 0 9).setAxis a fun x => { x with stored := 5 }) :=
  congrArg Host.Outcome.next (if_neg (not_or.mpr ⟨h0, h9⟩))

section limit
variable {pos : Bool}

theorem execLimitRelease_of_active (h : s.bit (POS a 0xE) (if pos then 0 else 1) = true) :
    execLimitRelease a pos s = .next s :=
  congrArg Host.Outcome.next (if_pos h)
theorem execLimitRelease_of_released (h : s.bit (POS a 0xE) (if pos then 0 else 1) = false) :
    execLimitRelease a pos s = .next (s.setBit (POS a 0xE) (if pos then 2 else 3) false) :=
  congrArg Host.Outcome.next (if_neg (by rw [h]; decide))

end limit

section ssi
variable {idle after back : Bool} {word : Nat}

theorem execSsiRead_of_word {c : Fin 32} {w code n : Nat} (hkind : s.axCfg a 1 1 = 3) (hch : s.axCh a 4 = some c)
    (hstruct : s.structured c = true) (hw : w = word % 2 ^ s.axCfg a 0x10 1)
    (hcode : code = if idle = false then 1 else if after = true ∨ back = false then 2 else 0)
    (hn : n = ((s.axis a).ssiNo + 1) % 4) : execSsiRead a idle word after back s = .next (s.setAxis a fun x => { x with
      ssiOut := [toWord (w % 1048576 + (if code = 0 then 0 else 2097152) + n * 4194304),
        toWord (w / 1048576 + code * 4096 + 1048576 + (if code = 0 then 0 else 2097152) + n * 4194304)]
      ssiNo := n }) := by
  subst hw hcode hn
  exact if_neg (by simp [hkind, hch, hstruct])
theorem execSsiRead_of_not (h : s.axCfg a 1 1 ≠ 3 ∨ s.axCh a 4 = none) : execSsiRead a idle word after back s = .next s :=
  if_pos (h.imp_right fun hch => by simp [hch])

end ssi

theorem execAxisSnapshot_of_running (h : s.dev = .pitched ∨ s.dev = .doze) : execAxisSnapshot s = .next s.snapAll :=
  congrArg Host.Outcome.next (if_pos h)
theorem execAxisSnapshot_of_not (hpitched : s.dev ≠ .pitched) (hdoze : s.dev ≠ .doze) : execAxisSnapshot s = .next s :=
  congrArg Host.Outcome.next (if_neg (not_or.mpr ⟨hpitched, hdoze⟩))
theorem State.snapOne_of_none (h : s.axisRec a = none) : s.snapOne a = s := by
  simp only [State.snapOne, h]
theorem State.snapOne_of_record {r : Bytes} (h : s.axisRec a = some r) : s.snapOne a = { s with ember := { s.ember with
    snaps := updV s.ember.snaps a fun _ =>
      some ⟨lo24 (s.posExt a), hi24 (s.posExt a), s.posExt2 a, crc32 r % 65536⟩ } } := by
  simp only [State.snapOne, h]

end axis

section escalate
variable {s : State} {c : Fin 32}

/-- A channel of the ledger exceeds a limit: by its current, or by its energy of 1 s or of 100 s (R498). -/
def State.inExcess (s : State) (c : Fin 32) : Prop :=
  exceeds (s.nrgI (chIsl c) (some (chCell c))) (s.nrgLimit (chIsl c) 0 (some (chCell c))) = true ∨
  exceeds (s.scopeLed (chIsl c) (some (chCell c))).e1
    ((s.nrgLimit (chIsl c) 1 (some (chCell c))).map (· * 1000)) = true ∨
  exceeds (s.scopeLed (chIsl c) (some (chCell c))).e100
    ((s.nrgLimit (chIsl c) 2 (some (chCell c))).map (· * 1000)) = true

theorem execNrgEscalate_of_excess (htrip : s.bit (nrgStat (chIsl c) (some (chCell c))) 0 = true)
    (hsafe : u8 (s.chRec c) 8 = 1 ∨ u8 (s.chRec c) 8 = 2)
    (hdue : (s.scopeLed (chIsl c) (some (chCell c))).since + 100000 ≤ s.upUs) (hexcess : s.inExcess c) :
    execNrgEscalate c s = .next (s.setBit (nrgStat (chIsl c) (some (chCell c))) 5 true) := by
  refine congrArg Host.Outcome.next (if_pos ?_)
  unfold State.inExcess at hexcess
  simpa only [htrip, Bool.true_and, Bool.and_eq_true, Bool.or_eq_true, or_assoc, decide_eq_true_eq, hdue, and_true]
    using And.intro hexcess hsafe
theorem execNrgEscalate_of_not (h : s.bit (nrgStat (chIsl c) (some (chCell c))) 0 = false ∨
    (u8 (s.chRec c) 8 ≠ 1 ∧ u8 (s.chRec c) 8 ≠ 2) ∨
    s.upUs < (s.scopeLed (chIsl c) (some (chCell c))).since + 100000) : execNrgEscalate c s = .next s := by
  refine congrArg Host.Outcome.next (if_neg ?_)
  simp only [Bool.and_eq_true, Bool.or_eq_true, decide_eq_true_eq]
  rintro ⟨⟨⟨htrip, -⟩, hsafe⟩, hdue⟩
  rcases h with h | ⟨h1, h2⟩ | h
  · simp [h] at htrip
  · exact hsafe.elim h1 h2
  · omega

end escalate

/-- Settles O50: the count by the quadrature's four levels, an edge's interval by the list of times, a row by its guard. -/
theorem axisSteps : Obligations.AxisSteps := by
  refine ⟨fun _ _ _ _ _ hz hmode hd hold hnew => Isl.quadPulse_cnt hz hmode hd hold hnew,
    fun _ _ _ => Isl.quadPulse_of_both, fun mode inv a b a' b' => ?step,
    fun _ _ t _ hdir htimes => ⟨PulseCnt.edge_times t hdir, PulseCnt.interval_edge t hdir htimes⟩,
    fun _ _ t n hrev => ⟨PulseCnt.edge_times_of_reversal t hrev, PulseCnt.interval_of_reversal t hrev n⟩,
    fun _ k _ _ => ⟨rfl, spanField_of_ticks k, spanField_of_units k, spanField_of_beyond k⟩,
    fun _ _ => execHomeDebounce_of_on,
    fun _ _ b hoff => ⟨execHomeDebounce_of_off b hoff, execStandstillTimeout_of_off hoff⟩,
    fun _ _ => ⟨execHomingTimeout_of_idle, execHomingTimeout_of_run⟩,
    fun _ _ _ => ⟨execLimitRelease_of_active, execLimitRelease_of_released⟩, fun _ _ => execStandstillTimeout_of_on,
    fun _ _ _ _ _ _ _ _ _ _ => execSsiRead_of_word, fun _ _ _ _ _ _ => execSsiRead_of_not,
    fun _ => ⟨execAxisSnapshot_of_running, execAxisSnapshot_of_not⟩,
    fun _ _ => ⟨State.snapOne_of_none, fun _ => State.snapOne_of_record⟩, fun s c k hk => ?escalate,
    fun _ _ => execNrgEscalate_of_not⟩
  case step =>
    refine ⟨?_, ?_, quadStep_unit⟩
    · rintro rfl
      exact quadStep_rising
    · rintro rfl
      exact quadStep_changing
  case escalate =>
    subst hk
    exact execNrgEscalate_of_excess

end Sys2Proof.Machine
end
